-- ==== Sys2Proof/Word.lean ====
section
/-! DEFINITION. The word types of the VX4860 model and the two kinds of sparse store it keeps: a map from
natural-number keys with strictly rising keys, and byte memory in the canonical form of `Host.Cell`. -/

namespace Sys2Proof

/-- One byte (R8, R17). -/
abbrev Byte := BitVec 8
/-- A 16-bit quantity. -/
abbrev Half := BitVec 16
/-- A 32-bit register word (R14). -/
abbrev Word := BitVec 32
/-- A 64-bit quantity: two consecutive words of R15, or a time stamp. -/
abbrev DWord := BitVec 64

/-- Sparse data by key; the keys rise strictly. -/
abbrev SMap (α : Type) := List (Nat × α)

/-- Byte memory: addresses rise strictly, and no listed byte is 0, the value of an unlisted address. -/
abbrev Mem := List Host.Cell

end Sys2Proof
end

