-- ==== Sys2Proof/Syntax.lean ====
section
/-! DEFINITION. The commands and events that the module takes from outside, one constructor of `Instr` per row of
spec/opcode_table.json, and the plain data that they carry. An instruction word of a rung lane (R51) or of a cycle
core (R243) arrives as a whole 32-bit word; its fields are taken apart in `Machine/Operands.lean`. The argument `at_`
of an event is a device time in sixteenths of a ns; a field `at_` of a Hedge message is in ns. -/

namespace Sys2Proof

/-- Where a command comes from: a COMMAND ring (R320) or the service port (R362). -/
inductive Origin where
  | ring (r : Fin 128)
  | svc
  deriving DecidableEq, Repr

/-- A command descriptor of R320 without its opcode, which the command names, together with the bytes of the host
buffer that the command reads. `params` holds bytes 32–63, byte 32 in bits 7:0. -/
structure Desc where
  origin : Origin
  /-- SQ index, or SEQ[15:0] on the service port (R355). -/
  index : Nat
  tag : Word := 0
  /-- Byte 2: IRQ_NOW in bit 0, OPFLAGS in bits 7:4. -/
  flags : Byte := 0
  byte3 : Byte := 0
  ident : DWord := 0
  bufAddr : DWord := 0
  bufLen : Nat := 0
  apply : Nat := 0
  params : BitVec 256 := 0
  buf : List Byte := []
  /-- The service-port session that the datagram carries, and whether its tag is right (R363); unused for rings. -/
  session : Nat := 0
  tagOk : Bool := true
  deriving DecidableEq, Repr

/-- A range descriptor of a task (R35): first bit, number of bits, output or input. -/
structure Range where
  start : Nat
  len : Nat
  out : Bool
  deriving DecidableEq, Repr

/-- A rung network of a task: its lane, the rung store words it occupies (R52) and its two declared byte sets as runs
of view bytes (R59). -/
structure NetDecl where
  lane : Fin 4
  first : Nat
  count : Nat
  reads : List (Nat × Nat)
  writes : List (Nat × Nat)
  deriving DecidableEq, Repr

/-- A data protection region (R225). -/
structure Region where
  base : Nat
  limit : Nat
  r : Bool
  w : Bool
  deriving DecidableEq, Repr

/-- Task kinds in the encoding of TASK_KIND (R33, R62). -/
inductive TaskKind where
  | sync | cyclic | angle | event | background
  deriving DecidableEq, Repr

/-- Release sources of an EVENT task (R66). -/
inductive EventSource where
  | host
  | chain (t : Nat)
  | rise (bit : Nat)
  | fall (bit : Nat)
  deriving DecidableEq, Repr

/-- What a task has on one core of its mask: entry address (R239), data stack slice (R232), declared return depth
(R233) and the code-store pages it may fetch (R231). -/
structure CoreDecl where
  core : Fin 8
  entry : Nat
  dsLo : Nat
  dsHi : Nat
  depth : Nat
  pages : List Nat
  deriving DecidableEq, Repr

/-- A task of the task table (R62) with everything its Graft declares for it. `period`, `phase` and `ofs` are K, PHASE
and OFS of a CYCLIC task (R64); `period` is GAP in µs of a BACKGROUND task (R67). -/
structure TaskDef where
  kind : TaskKind
  prio : Nat
  grace : Nat := 0
  cores : List CoreDecl := []
  lanes : BitVec 4 := 0
  budget : Nat
  budgetSag : Nat
  period : Nat := 0
  phase : Nat := 0
  ofs : Nat := 0
  source : EventSource := .host
  ranges : List Range := []
  nets : List NetDecl := []
  regions : List Region := []
  ftz : Bool := false
  dztrap : Bool := false
  deriving DecidableEq, Repr

/-- What writes a run of I bytes (R30). -/
inductive Source where
  | template (t : Nat)
  | field
  | loop (x : Nat)
  | capture (c : Nat)
  | imageBit
  | host
  deriving DecidableEq, Repr

/-- A run of I bytes and its configured source (R30). -/
structure SourceRun where
  start : Nat
  len : Nat
  src : Source
  deriving DecidableEq, Repr

/-- A field entry of a template (R162); `swap` is the group size in bytes, 0 for none. -/
structure TplField where
  frameOfs : Nat
  length : Nat
  imgAddr : Nat
  swap : Nat := 0
  deriving DecidableEq, Repr

/-- A cyclic frame template (R161). `port` uses the PORT encoding of R161, `kind` that of R168. -/
structure Template where
  tx : Bool
  port : Nat
  kind : Nat
  sender : Nat := 0
  dstMac : BitVec 48 := 0
  vlan : Option Half := none
  fields : List TplField := []
  payloadLen : Nat
  slotSize : Nat := 0
  every : Nat := 1
  everyPhase : Nat := 0
  lostLimit : Nat := 1
  safe : List Byte := []
  /-- A reserved bit of the header or of a field entry is not 0 (R161, R162). -/
  reserved : Bool := false
  deriving DecidableEq, Repr

/-- A timer or counter that a Graft assigns to a task (R55, R56, R57): for a timer, PT and the time base code 0–5; for
a counter, PV in `preset`. -/
structure TcDecl where
  task : Fin 32
  preset : Word
  base : Nat := 0
  retain : Bool := false
  deriving DecidableEq, Repr

/-- The program of one generation: what the sections of a Graft image declare (R93). The inner format of every section
type but CONVERT and RECONVERT is documented only for Ralyaver, so GRAFT_CHECK carries the decoded sections. -/
structure Program where
  tasks : SMap TaskDef := []
  sources : List SourceRun := []
  templates : SMap Template := []
  timers : SMap TcDecl := []
  counters : SMap TcDecl := []
  /-- Rung store words and code store bytes that the Graft loads. -/
  rung : SMap Word := []
  code : Mem := []
  /-- Byte runs of data SRAM and retained SRAM, in the addresses of R226, that the generation allocates, and the runs
  that each task declares. -/
  alloc : List (Nat × Nat) := []
  declares : List (Nat × Nat × Nat) := []
  /-- FIO_MAP_IN, FIO_MAP_OUT and LPT_LTx_MAP words (R282, R308). -/
  fioMapIn : Word := 0
  fioMapOut : Word := 0
  lptMap0 : Word := 0
  lptMap1 : Word := 0
  /-- Tasks whose code, data declarations, timer or counter assignment or table entry differs from the generation
  before (R101). -/
  changed : BitVec 32 := 0
  deriving DecidableEq, Repr, Inhabited

/-- A frame as a port receives it, its FCS already judged; `port` copies carry the R-TAG sequence number (R159);
`at_` is the device time of its last byte. -/
structure RxFrame where
  dst : BitVec 48
  src : BitVec 48
  vlan : Option Half := none
  rtag : Option Half := none
  etherType : Half
  payload : List Byte
  fcsOk : Bool := true
  at_ : Nat
  deriving DecidableEq, Repr

/-- An edge at an encoder interface (R115). -/
inductive EncEdge where
  | forward | reverse
  /-- An A and a B transition in the same tick. -/
  | both
  | z
  deriving DecidableEq, Repr

/-- A plant-domain Announce (R147): the fields the best master clock algorithm compares, as one number, and the
grandmaster identity. -/
structure Announce where
  domain : Nat
  rank : Nat
  gm : DWord
  at_ : Nat
  deriving DecidableEq, Repr

/-- A HELLO message (R197). -/
structure Hello where
  pairId : Nat
  side : Nat
  code : Nat
  ctl : Nat
  epoch : Nat
  versions : List Nat
  fmt : Nat
  winMin : Nat
  winMax : Nat
  at_ : Nat
  deriving DecidableEq, Repr

/-- The path and the lane or port that a heartbeat arrives on (R199). -/
inductive HbPath where
  | laneA (lane : Fin 2)
  | portB (p : Fin 2)
  deriving DecidableEq, Repr

/-- A heartbeat (R199) with the epoch and PAIR_ID of the header that carries it. -/
structure Beat where
  sendTime : Nat
  echoTime : Nat
  echoRx : Nat
  beat : Nat
  code : Nat
  ctl : Nat
  fault : Bool
  side : Nat
  unfit : Nat
  epoch : Nat
  pairId : Nat
  deriving DecidableEq, Repr

/-- A complete SNAPSHOT message (R203): header, input range bytes in descriptor order, S bytes 0x0000–0x03FF. -/
structure SnapMsg where
  task : Fin 32
  kind : Nat := 0
  gen : Nat
  inst : Nat
  cycle : Nat
  inputs : List Byte
  sArea : List Byte
  at_ : Nat
  deriving DecidableEq, Repr

/-- A DIGEST message (R208). -/
structure Digest where
  task : Fin 32
  aborted : Bool
  fromStandby : Bool
  gen : Nat
  inst : Nat
  time : Nat
  digest : DWord
  deriving DecidableEq, Repr

namespace Machine

/-- A move entry of a CONVERT or RECONVERT list (R94). -/
structure Move where
  src : Nat
  dst : Nat
  len : Nat
  fill : Option Byte
  deriving DecidableEq, Repr

/-- The previous generation that is kept for a revert (R92). -/
structure Kept where
  prog : Program
  /-- Identifier of the Graft that a revert undoes (R110). -/
  ident : DWord := 0
  kind : Nat
  reversible : Bool
  reconvert : List Move
  sag2 : Bool
  deriving DecidableEq, Repr

/-- A force table entry (R44); `width` is the code 0–3. -/
structure ForceEntry where
  addr : Nat
  width : Nat
  value : Word
  deriving DecidableEq, Repr

/-- A timer entry (R55): ET and PT in time-base units, LAST and the remainder in ns. PT and the base come from the program
that assigns the entry. -/
structure Timer where
  et : Nat := 0
  q : Bool := false
  input : Bool := false
  last : Option Nat := none
  rem : Nat := 0
  deriving DecidableEq, Repr

/-- A counter entry (R56); PV comes from the program that assigns the entry. -/
structure Counter where
  cv : Word := 0
  input : Bool := false
  deriving DecidableEq, Repr

/-- A Trellis entry (R122): ANGLE, the word of bytes 8–11 and PARAM, with its armed directions, pending target, counts
and the δ of the previous tick. -/
structure Entry where
  angle : Nat
  ctl : Nat
  param : Nat
  armF : Bool := false
  armR : Bool := false
  target : Option Nat := none
  spent : Bool := false
  late : Nat := 0
  fires : Nat := 0
  delta : Option Int := none
  /-- A small step against the motion has carried δ back past the arming bound: no arming in that direction until the
  angle has passed it again (R129). -/
  heldF : Bool := false
  heldR : Bool := false
  deriving DecidableEq, Repr

end Machine

/-- What a state-transfer item carries (R210): bytes of a memory region; tables, for which the manual gives no layout, by their
content: the program and the generation kept beside it (type 3), configuration items (type 4), timers and counters (type 8), the force table (type 9), Trellis
entries and trims (type 10), and generation, kept generation, E, drive clockIdentity and instance numbers by task (type 11). -/
inductive XferBody where
  | bytes (b : List Byte)
  | tables (p : Program)
  | kept (k : Machine.Kept)
  | config (items : List (Nat × List Byte))
  | timers (ts : SMap Machine.Timer) (cs : SMap Machine.Counter)
  | forces (es : List Machine.ForceEntry)
  | trellis (es : SMap Machine.Entry) (trims : List (Nat × Nat))
  | identity (gen : Nat) (kept : Option Nat) (epoch clk : Nat) (nums : List (Nat × Nat))
  deriving DecidableEq, Repr

/-- An item of a STATE message (R210). -/
structure XferItem where
  type : Nat
  region : Nat
  offset : Nat
  body : XferBody
  deriving DecidableEq, Repr

/-- The content of a HANDOVER message (R197, R217). -/
inductive HandoverMsg where
  | request | acceptance | refusal
  deriving DecidableEq, Repr

/-- A Hedge message other than a heartbeat (R197), by content. The manual gives byte layouts only for SNAPSHOT,
DIGEST and the heads of STATE items; the rest is kept as fields. -/
inductive HedgeMsg where
  | hello (h : Hello)
  | snapshot (m : SnapMsg)
  | digest (m : Digest)
  | mirrorCmd (op : Nat) (d : Desc) (cycle : Nat)
  | halt (cause task : Nat)
  | unfit (reason : Nat)
  | state (items : List XferItem)
  | handover (k : HandoverMsg) (h status reason : Nat)
  deriving DecidableEq, Repr

/-- A HART frame as it arrives at the terminal, preambles and all, which the data link judges (R301), and the time of its end. -/
structure HartFrame where
  raw : List Byte
  at_ : Nat
  deriving DecidableEq, Repr

/-- A buffer entry of a ring: address, length, and the reserved bytes 12–15 (R314). -/
structure BufEntry where
  addr : Nat
  len : Nat
  reserved : Word := 0
  deriving DecidableEq, Repr

/-- An ARP or ICMP echo request on SVC (R362). -/
inductive ArpIcmp where
  | arp (targetIp senderIp : Nat) (senderMac : BitVec 48)
  | echo (targetIp senderIp : Nat) (data : List Byte)
  deriving DecidableEq, Repr

/-- The boundary-scan instructions of R410. -/
inductive ScanInstr where
  | sample
  | preload (cells : List Byte)
  | extest
  deriving DecidableEq, Repr

/-- The memory BARs of the function (R311). -/
inductive Bar where
  | bar0 | bar2 | bar4
  deriving DecidableEq, Repr

/-- Where a host read goes: a base address register and an offset in it (R311). -/
structure BarAt where
  bar : Bar
  off : Nat
  deriving DecidableEq, Repr

/-- What a host writes to a doorbell, and how many bytes wide (R312). -/
structure Bell where
  width : Nat
  v : Word
  deriving DecidableEq, Repr

/-- MSI-X Enable and the function mask (R310, R313). -/
structure MsixCtl where
  en : Bool
  mask : Bool
  deriving DecidableEq, Repr

/-- ASPM L1 and the maximum payload and read request sizes, in bytes (R310). -/
structure DevCtl where
  aspmL1 : Bool
  payload : Nat
  readReq : Nat
  deriving DecidableEq, Repr

/-- What a Pdelay_Req carries that its answers return (R146). -/
structure PdelayReq where
  seq : Half
  source : BitVec 80
  deriving DecidableEq, Repr

/-- A UDP payload as it arrives, and whether its frame came without an FCS or PHY error (R186, R362). -/
structure Datagram where
  raw : List Byte
  fcsOk : Bool
  deriving DecidableEq, Repr

/-- An ARP or echo request as it arrives, and whether its frame came without an FCS or PHY error (R186, R362). -/
structure Query where
  q : ArpIcmp
  fcsOk : Bool
  deriving DecidableEq, Repr

/-- Memories that the debug gate names (R405). -/
inductive DbgMem where
  | data | image | retained | code | rung | lpddr | bar0 | service | secret
  deriving DecidableEq, Repr

/-- A JTAG access (R405); cores 0–7 are C0–C7 and 8–11 are S0–S3. -/
inductive JtagAccess where
  | idcode | bypass
  | read (m : DbgMem) (addr : Nat)
  | write (m : DbgMem) (addr : Nat) (v : Byte)
  | halt (core : Fin 12)
  | resume (core : Fin 12)
  | step (core : Fin 12)
  | breakpoint (core : Fin 8) (addr : Nat)
  deriving DecidableEq, Repr

/-- Who met an uncorrectable memory error (R424). -/
inductive Agent where
  /-- The boot's read of the staging window or of the firmware region (R382). -/
  | boot
  | core (c : Fin 8)
  | service (s : Fin 4)
  | lane (l : Fin 4)
  deriving DecidableEq, Repr

/-- One command or event: a row of spec/opcode_table.json. -/
inductive Instr where
  | registerWrite (off width : Nat) (v : Word)
  | readClearField (place : BarAt) (width : Nat)
  | read64bitLowWord (off width : Nat)
  | write64bitHighWord (off width : Nat) (v : Word)
  | syncCycleBoundary
  | syncRelease
  | cyclicRelease (t : Fin 32)
  | backgroundRelease (t : Fin 32)
  | pendingReleaseStart
  | snapshot
  | snapshotComplete (t : Fin 32)
  | commit (t : Fin 32)
  | budgetOverrun (t : Fin 32)
  | hostImageWriteApply
  | forceChangeApply
  | rungNop (l : Fin 4) (w : Word)
  | rungRng (l : Fin 4) (w : Word)
  | rungEnd (l : Fin 4) (w : Word)
  | rungLd (l : Fin 4) (w : Word)
  | rungAnd (l : Fin 4) (w : Word)
  | rungOr (l : Fin 4) (w : Word)
  | rungXor (l : Fin 4) (w : Word)
  | rungAndb (l : Fin 4) (w : Word)
  | rungOrb (l : Fin 4) (w : Word)
  | rungXorb (l : Fin 4) (w : Word)
  | rungNot (l : Fin 4) (w : Word)
  | rungDup (l : Fin 4) (w : Word)
  | rungPop (l : Fin 4) (w : Word)
  | rungOut (l : Fin 4) (w : Word)
  | rungSet (l : Fin 4) (w : Word)
  | rungRst (l : Fin 4) (w : Word)
  | rungRedge (l : Fin 4) (w : Word)
  | rungFedge (l : Fin 4) (w : Word)
  | rungTon (l : Fin 4) (w : Word)
  | rungTof (l : Fin 4) (w : Word)
  | rungTp (l : Fin 4) (w : Word)
  | rungCtu (l : Fin 4) (w : Word)
  | rungCtd (l : Fin 4) (w : Word)
  | rungTcres (l : Fin 4) (w : Word)
  | rungSkz (l : Fin 4) (w : Word)
  | rungSknz (l : Fin 4) (w : Word)
  | ctlStart (d : Desc)
  | runBegin
  | ctlStop (d : Desc)
  | stopBegin
  | ctlHalt (d : Desc)
  | ctlClearHalt (d : Desc)
  | ctlWarmRestart (d : Desc)
  | warmRestartDone
  | ctlTrigger (d : Desc)
  | hostEventRelease
  | pairHalt (cause : Nat) (t : Fin 32)
  | graftOpen (d : Desc)
  | graftLoad (d : Desc)
  | graftCheck (d : Desc) (p : Program)
  | graftCommit (d : Desc)
  | graftAbort (d : Desc)
  | graftConfirm (d : Desc)
  | graftRevert (d : Desc)
  | codeGraftApply
  | graftSwitchStart
  | graftSwitchEnd (fault : Bool)
  | graftNoGap
  | confirmWindowEnd
  | trellisTick
  | edgeIssue
  | pulseEnd (ch : Fin 16)
  | encoderEdge (e : Fin 4) (k : EncEdge)
  | sampleTimeout (k : Fin 16)
  | coastLimit (k : Fin 16)
  | fastInputEdge (ch : Fin 16) (rising : Bool) (at_ : Nat)
  | trimSourceApply
  | trlEntryWrite (d : Desc)
  | entryBatchApply
  | trlEntryRead (d : Desc)
  | trlAxisSet (d : Desc)
  | axisSetApply
  | trlTrimSet (d : Desc)
  | trimSetApply
  | trlAxisRearm (d : Desc)
  | axisRearmApply
  | driveFrameReceive (p : Fin 2) (f : RxFrame)
  | rxCutoff
  | plantFrameReceive (p : Fin 2) (f : RxFrame)
  | txGather
  | txWindowOpen
  | statusGather
  | plantWindowOpen
  | collectHeadSend (t : Nat)
  | driveSyncSend
  | announceSend
  | pdelayReqReceive (p : Fin 4) (req : PdelayReq) (at_ : Nat)
  | driveAnnounceReceive (p : Fin 2)
  | plantSyncReceive (p : Fin 2) (gm : DWord) (plantTime : Int) (at_ : Nat)
  | plantAnnounceReceive (p : Fin 2) (a : Announce)
  | plantSyncTimeout
  | driveCycleStart
  | driveCycleStop
  | driveCycleResume
  | portLinkChange (p : Fin 5) (up verified : Bool)
  | frerRecoveryReset (t : Nat)
  | netMailbox (d : Desc)
  | mailboxRetry (dest : Nat)
  | mbxRspReceive (p : Fin 2) (f : RxFrame)
  | netTplRead (d : Desc)
  | netPtpRead (d : Desc)
  | netMcastRead (d : Desc)
  | nicTxDescriptor (r : Fin 128) (raw : Option (List Byte)) (frame : List Byte)
  | nicRxBufferEntry (r : Fin 128) (raw : List Byte)
  | helloSend
  | helloReceive (h : Hello)
  | pairWaitExpiry
  | heartbeatSend
  | heartbeatReceive (path : HbPath) (b : Beat) (at_ : Nat)
  | pathLossTimeout (pathB : Bool)
  | peerFailureTimeout
  | hedgeLaneChange (lane : Fin 2) (up : Bool)
  | hedgeFrameReceive (raw : List Byte) (at_ : Nat)
  | hedgeRepeat (seq : Nat)
  | hedgeAckTimeout (seq : Nat)
  | snapshotMessageReceive (m : SnapMsg)
  | snapshotTimeout (t : Fin 32) (snapTime : Nat)
  | mirrorCmdReceive (opcode : Nat) (d : Desc) (cycle : Nat)
  | digestReceive (m : Digest)
  | digestTimeout (t : Fin 32) (inst : Nat)
  | unfitReceive (reason : Nat)
  | stateMessageReceive (items : List XferItem)
  | transferQuiescentPoint
  | transferTimeout
  | transferComplete
  | takeoverBoundary
  | epochRecordWrite
  | redHandover (d : Desc)
  | handoverReceive (k : HandoverMsg) (h : Nat) (status reason : Nat)
  | handoverBoundary
  | handoverOutputRelease
  | redResync (d : Desc)
  | redPark (d : Desc)
  | redRead (d : Desc)
  | evAdd (c : Fin 8) (w : Word)
  | evSub (c : Fin 8) (w : Word)
  | evAddv (c : Fin 8) (w : Word)
  | evSubv (c : Fin 8) (w : Word)
  | evNeg (c : Fin 8) (w : Word)
  | evAnd (c : Fin 8) (w : Word)
  | evOr (c : Fin 8) (w : Word)
  | evXor (c : Fin 8) (w : Word)
  | evAndn (c : Fin 8) (w : Word)
  | evNot (c : Fin 8) (w : Word)
  | evShl (c : Fin 8) (w : Word)
  | evShr (c : Fin 8) (w : Word)
  | evSar (c : Fin 8) (w : Word)
  | evRol (c : Fin 8) (w : Word)
  | evRor (c : Fin 8) (w : Word)
  | evClz (c : Fin 8) (w : Word)
  | evCtz (c : Fin 8) (w : Word)
  | evPopc (c : Fin 8) (w : Word)
  | evMin (c : Fin 8) (w : Word)
  | evMax (c : Fin 8) (w : Word)
  | evMinu (c : Fin 8) (w : Word)
  | evMaxu (c : Fin 8) (w : Word)
  | evMul (c : Fin 8) (w : Word)
  | evMulh (c : Fin 8) (w : Word)
  | evMulhu (c : Fin 8) (w : Word)
  | evMulv (c : Fin 8) (w : Word)
  | evDiv (c : Fin 8) (w : Word)
  | evDivu (c : Fin 8) (w : Word)
  | evRem (c : Fin 8) (w : Word)
  | evRemu (c : Fin 8) (w : Word)
  | evMfpr (c : Fin 8) (w : Word)
  | evMtpr (c : Fin 8) (w : Word)
  | evAddi (c : Fin 8) (w : Word)
  | evAndi (c : Fin 8) (w : Word)
  | evOri (c : Fin 8) (w : Word)
  | evXori (c : Fin 8) (w : Word)
  | evShi (c : Fin 8) (w : Word)
  | evLui (c : Fin 8) (w : Word)
  | evMuli (c : Fin 8) (w : Word)
  | evBfx (c : Fin 8) (w : Word)
  | evBfxs (c : Fin 8) (w : Word)
  | evBfi (c : Fin 8) (w : Word)
  | evPerm (c : Fin 8) (w : Word)
  | evCmpeq (c : Fin 8) (w : Word)
  | evCmpne (c : Fin 8) (w : Word)
  | evCmplt (c : Fin 8) (w : Word)
  | evCmpge (c : Fin 8) (w : Word)
  | evCmpltu (c : Fin 8) (w : Word)
  | evCmpgeu (c : Fin 8) (w : Word)
  | evCmptst (c : Fin 8) (w : Word)
  | evCmpieq (c : Fin 8) (w : Word)
  | evCmpine (c : Fin 8) (w : Word)
  | evCmpilt (c : Fin 8) (w : Word)
  | evCmpiltu (c : Fin 8) (w : Word)
  | evPand (c : Fin 8) (w : Word)
  | evPor (c : Fin 8) (w : Word)
  | evPxor (c : Fin 8) (w : Word)
  | evPmov (c : Fin 8) (w : Word)
  | evIbld (c : Fin 8) (w : Word)
  | evIbldn (c : Fin 8) (w : Word)
  | evIband (c : Fin 8) (w : Word)
  | evIbor (c : Fin 8) (w : Word)
  | evIbst (c : Fin 8) (w : Word)
  | evIbstn (c : Fin 8) (w : Word)
  | evIbs1 (c : Fin 8) (w : Word)
  | evIbs0 (c : Fin 8) (w : Word)
  | evLdb (c : Fin 8) (w : Word)
  | evLdbu (c : Fin 8) (w : Word)
  | evLdh (c : Fin 8) (w : Word)
  | evLdhu (c : Fin 8) (w : Word)
  | evLdw (c : Fin 8) (w : Word)
  | evLdd (c : Fin 8) (w : Word)
  | evStb (c : Fin 8) (w : Word)
  | evSth (c : Fin 8) (w : Word)
  | evStw (c : Fin 8) (w : Word)
  | evStd (c : Fin 8) (w : Word)
  | evLdsw (c : Fin 8) (w : Word)
  | evStsw (c : Fin 8) (w : Word)
  | evDsadj (c : Fin 8) (w : Word)
  | evAmoswap (c : Fin 8) (w : Word)
  | evAmoadd (c : Fin 8) (w : Word)
  | evBr (c : Fin 8) (w : Word)
  | evCall (c : Fin 8) (w : Word)
  | evRet (c : Fin 8) (w : Word)
  | evJr (c : Fin 8) (w : Word)
  | evCallr (c : Fin 8) (w : Word)
  | evRep (c : Fin 8) (w : Word)
  | evBreak (c : Fin 8) (w : Word)
  | evMfsr (c : Fin 8) (w : Word)
  | evMtsr (c : Fin 8) (w : Word)
  | evEret (c : Fin 8) (w : Word)
  | evEretn (c : Fin 8) (w : Word)
  | evNop (c : Fin 8) (w : Word)
  | evMfence (c : Fin 8) (w : Word)
  | evFp32Fadd (c : Fin 8) (w : Word)
  | evFp32Fsub (c : Fin 8) (w : Word)
  | evFp32Fmul (c : Fin 8) (w : Word)
  | evFp32Fdiv (c : Fin 8) (w : Word)
  | evFp32Fsqrt (c : Fin 8) (w : Word)
  | evFp32Fmin (c : Fin 8) (w : Word)
  | evFp32Fmax (c : Fin 8) (w : Word)
  | evFp32Fabs (c : Fin 8) (w : Word)
  | evFp32Fneg (c : Fin 8) (w : Word)
  | evFp64Fadd (c : Fin 8) (w : Word)
  | evFp64Fsub (c : Fin 8) (w : Word)
  | evFp64Fmul (c : Fin 8) (w : Word)
  | evFp64Fdiv (c : Fin 8) (w : Word)
  | evFp64Fsqrt (c : Fin 8) (w : Word)
  | evFp64Fmin (c : Fin 8) (w : Word)
  | evFp64Fmax (c : Fin 8) (w : Word)
  | evFp64Fabs (c : Fin 8) (w : Word)
  | evFp64Fneg (c : Fin 8) (w : Word)
  | evFeqs (c : Fin 8) (w : Word)
  | evFlts (c : Fin 8) (w : Word)
  | evFles (c : Fin 8) (w : Word)
  | evFuns (c : Fin 8) (w : Word)
  | evFeqd (c : Fin 8) (w : Word)
  | evFltd (c : Fin 8) (w : Word)
  | evFled (c : Fin 8) (w : Word)
  | evFund (c : Fin 8) (w : Word)
  | evSfw (c : Fin 8) (w : Word)
  | evSfwu (c : Fin 8) (w : Word)
  | evWfs (c : Fin 8) (w : Word)
  | evWufs (c : Fin 8) (w : Word)
  | evWfsr (c : Fin 8) (w : Word)
  | evDfw (c : Fin 8) (w : Word)
  | evDfwu (c : Fin 8) (w : Word)
  | evWfd (c : Fin 8) (w : Word)
  | evWufd (c : Fin 8) (w : Word)
  | evWfdr (c : Fin 8) (w : Word)
  | evDfs (c : Fin 8) (w : Word)
  | evSfd (c : Fin 8) (w : Word)
  | evEscapeServiceInstruction (c : Fin 8) (w : Word)
  | evReservedEncoding (c : Fin 8) (w : Word)
  | interruptTaken (c : Fin 8)
  | sysLaneWait (c : Fin 8) (w : Word)
  | sysTimerCounterRead (c : Fin 8) (w : Word)
  | rollCallCheckIn (c : Fin 8) (w : Word)
  | sysApplicationEvent (c : Fin 8) (w : Word)
  | sysApplicationMetric (c : Fin 8) (w : Word)
  | fieldSample
  | fieldInputRecordWrite (crcOk : Bool)
  | inputLevelChange (ch : Fin 32) (level : Bool) (at_ : Nat)
  | debounceAccept (ch : Fin 32)
  | openWireDetect (ch : Fin 32)
  | openWireClear (ch : Fin 32)
  | overloadDetect (ch : Fin 32)
  | thermalShutdown (ch : Fin 32)
  | overloadRetry (ch : Fin 32)
  | shortDetect (ch : Fin 32)
  | openLoadDetect (ch : Fin 32)
  | extHighDetect (ch : Fin 32)
  | fieldOutputRefresh
  | islandOutputFrameReceive (crcOk : Bool)
  | fieldLinkSilence
  | fieldSafeTimeout (g : Fin 4)
  | groupSupplyMeasure (mv0 mv1 mv2 mv3 : Nat)
  | fioClearLatch (d : Desc)
  | clearLatchApply
  | fioRelease (d : Desc)
  | groupReleaseApply
  | fioRead (d : Desc)
  | loopOutputRefresh (x : Fin 2)
  | loopFrameReceive (x : Fin 2) (crcOk : Bool)
  | complianceDetect (x : Fin 2)
  | complianceClear (x : Fin 2)
  | readbackDevDetect (x : Fin 2)
  | readbackDevClear (x : Fin 2)
  | miswireDetect (x : Fin 2)
  | miswireClear (x : Fin 2)
  | loopReadbackConversion (x : Fin 2) (currentNa termMv : Nat) (crcOk : Bool)
  | loopLinkSilence (x : Fin 2)
  | loopSafeTimeout (x : Fin 2)
  | loopReadbackSilence (x : Fin 2)
  | loopPowerAppear (x : Fin 2)
  | hartRequestReceive (x : Fin 2) (f : HartFrame)
  | hartReplyTimeout (x : Fin 2)
  | lptHartFetch (d : Desc)
  | lptHartReply (d : Desc)
  | trimBegin (d : Desc)
  | trimPoint (d : Desc)
  | trimApply (d : Desc)
  | trimCancel (d : Desc)
  | trimIdleTimeout (x : Fin 2)
  | lptRead (d : Desc)
  | ringEnable (r : Fin 128) (cfg : Word)
  | ringZeroingDone (r : Fin 128)
  | ringDisable (r : Fin 128) (cfg : Word)
  | ringReset (r : Fin 128) (cfg : Word)
  | sqTailDoorbell (r : Fin 128) (b : Bell)
  | cqHeadDoorbell (r : Fin 128) (b : Bell)
  | descriptorFetch (r : Fin 128) (raw : Option (List Byte)) (buf : List Byte)
  | interruptCoalesceExpiry (r : Fin 128)
  | pcieHotReset
  | perstNAssert
  | functionLevelReset
  | pcieLinkDown
  | d3hotEntry
  | ringNop (d : Desc)
  | fence (d : Desc)
  | fenceTimeout
  | publishCopy (r : Fin 128) (e : BufEntry)
  | mirrorSend (e : BufEntry)
  | retainRestore (d : Desc)
  | jrnlRead (d : Desc)
  | imgRead (d : Desc)
  | imgWrite (d : Desc)
  | forceWrite (d : Desc)
  | forceClear (d : Desc)
  | forceRead (d : Desc)
  | cfgBegin (d : Desc)
  | cfgPut (d : Desc)
  | cfgCommit (d : Desc)
  | cfgApply
  | txnNoGap
  | cfgAbort (d : Desc)
  | cfgConfirm (d : Desc)
  | cfgConfirmWindowEnd (ident : DWord)
  | txnIdle (ident : DWord)
  | cfgRead (d : Desc)
  | svcDatagram (srcIp srcPort : Nat) (d : Datagram)
  | svcArpIcmp (q : Query)
  | svcSessionTimeout
  | powerUp
  | resetNAssert
  | romInitDone (selfTest training : Bool) (flips : Nat) (checkOk : Bool) (ms : Nat)
  | bootStart (w : Word)
  | bootRetry (w : Word)
  | stagingWindowWrite (off : Nat) (data : List Byte)
  | verifyComplete (memOk : Bool) (ms : Nat)
  | componentStarted (c : Fin 4) (ms : Nat)
  | componentStartTimeout (islandLoad : Bool)
  | fwReset (d : Desc)
  | fwRead (d : Desc)
  | secChallenge (d : Desc)
  | challengeExpiry (o : Origin)
  | secResponse (d : Desc)
  | grantExpiry (o : Origin)
  | crLockoutEnd
  | secKeyLoad (d : Desc)
  | secKeyWrap (d : Desc)
  | secKeyUnload (d : Desc)
  | secAttest (d : Desc)
  | lcProvision (d : Desc)
  | lcTakeOwnership (d : Desc)
  | lcReturn (d : Desc)
  | lcScrap (d : Desc)
  | lcLock (d : Desc)
  | lcUnlock (d : Desc)
  | lcRaiseSvn (d : Desc)
  | lcRevokeVkey (d : Desc)
  | secDebug (d : Desc)
  | rbgReseed
  | rbgHealthFail
  | jtagBoundaryScan (i : ScanInstr)
  | jtagDebugAccess (a : JtagAccess)
  | traceRecordWrite (e : BufEntry)
  | rollCallEvaluation (k : Fin 4)
  | watchdogServe (at_ : Nat)
  | watchdogCloseExpiry
  | uncorrectableError (mem off : Nat) (who : Option Agent)
  | referenceClockLoss
  | referenceClockValid
  | pwrState (d : Desc)
  | wakePerstN
  | wakeSequenceDone (flips : Nat) (checkOk : Bool)
  | pwrRead (d : Desc)
  | vinThresholdCross (mv : Nat)
  | sagStageLeave (mv : Nat)
  | vinPowerOnReset
  | nvsRead (d : Desc)
  | nvsWrite (d : Desc)
  | nvPageWriteStart
  | nvPageWriteDone (us : Nat)
  | nvsLock (d : Desc)
  | unlockRead (d : Desc)
  | unlockWrite (d : Desc)
  | setReadPw (d : Desc)
  | setWritePw (d : Desc)
  | rtcSecondTick
  | rtcTimeRegisterRead (off : Nat)
  | rtcFreezeExpiry (fw : Bool)
  | rtcStagingWrite (off : Nat) (v : Word)
  | rtcSecWrite (v : Word)
  | rtcCommit
  | rtcBackupLoss
  | rtcRead (d : Desc)
  | rtcSet (d : Desc)
  | rtcAlarm (d : Desc)
  | consolidationInterval
  | consolidationStart
  | consolidationDone
  | recRead (d : Desc)
  | recClear (d : Desc)
  | recConsolidate (d : Desc)
  | rungIllegalWord (l : Fin 4) (w : Word)
  | correctableError
  | holdupSenseCrossing (mv : Nat)
  | pcieLinkUp (speed width : Nat)
  | pcieConfigWrite (bme : Bool) (msix : MsixCtl) (dev : DevCtl)
  | gateControlTransition (p : Fin 4) (at_ : Nat)
  deriving DecidableEq, Repr

end Sys2Proof
end

