-- ==== Sys2Proof/Decode.lean ====
section
/-! DEFINITION. Words of the table. No row of spec/opcode_table.json has bits: a command reaches the module as an
event or a descriptor, and an instruction word of a core or a lane is an operand of its row. -/

namespace Sys2Proof

/-- The command that a word spells by the table's bits: none, because no row gives bits. -/
def decodeTableWord (_nbits _w : Nat) : Option Instr := none

end Sys2Proof
end

