-- ==== Sys2Proof/Config.lean ====
section
/-! DEFINITION. What an implementation fixes and what the spec leaves open: the free values, with no body, and the
constants of the build. -/

namespace Sys2Proof.Config

/-- Free bits: the values the spec leaves open (random words, registers that are undefined at a task entry, contents
of buffers nothing wrote). The argument is a fresh number taken from `State.free`. Nothing is known of the value. -/
opaque freeBits (w : Nat) : Nat → BitVec w

/-- Free naturals: measured quantities that the spec gives no rule for (a duration, a measured delay). -/
opaque freeNat : Nat → Nat

/-- SHA-384 over an octet string (R93, R369, R392, R402), by byte of the 48: the standard defines it, the spec does not. -/
opaque sha384Byte : List Byte → Nat → Byte
def sha384 (b : List Byte) : List Byte := (List.range 48).map (sha384Byte b)

/-- HMAC-SHA-384 under a key, over an octet string (R363, R394, R400, R470), by byte of the 48. -/
opaque hmac384Byte : List Byte → List Byte → Nat → Byte
def hmac384 (key b : List Byte) : List Byte := (List.range 48).map (hmac384Byte key b)

/-- ECDSA verification on brainpoolP384r1: public key, digest, signature (R373, R402). -/
opaque ecdsaVerify : List Byte → List Byte → List Byte → Bool

/-- ECDSA signature with a private key over a digest (R403), by byte of the 96. -/
opaque ecdsaSignByte : List Byte → List Byte → Nat → Byte
def ecdsaSign (key digest : List Byte) : List Byte := (List.range 96).map (ecdsaSignByte key digest)

/-- The public key of a private key, as an uncompressed point (R403), by byte of the 97. -/
opaque ecdsaPublicByte : List Byte → Nat → Byte
def ecdsaPublic (key : List Byte) : List Byte := (List.range 97).map (ecdsaPublicByte key)

/-- AES-256-GCM sealing: key, IV, additional data, plaintext; ciphertext followed by the 16-byte tag (R398, R409), by byte. -/
opaque gcmSealByte : List Byte → List Byte → List Byte → List Byte → Nat → Byte
def gcmSeal (key iv aad plain : List Byte) : List Byte := (List.range (plain.length + 16)).map (gcmSealByte key iv aad plain)

/-- AES-256-GCM opening: key, IV, additional data, ciphertext followed by the tag; none when the tag does not verify
(R376, R397). -/
opaque gcmOpen : List Byte → List Byte → List Byte → List Byte → Option (List Byte)

/-- What an emulation starts from (R247): the word, the core, the saved registers that it reads, and the iteration index
of a repeat. -/
structure EmuIn where
  word : BitVec 32
  core : Nat
  g : SMap (BitVec 32)
  p : BitVec 8
  stat : BitVec 32
  ds : BitVec 32
  epc : BitVec 32
  iteration : Nat
  deriving DecidableEq, Repr

/-- An access of 2^`size` bytes to task memory by an emulation; `value` is what it stores. -/
structure EmuAccess where
  addr : BitVec 32
  size : Fin 4
  value : Option Nat
  deriving DecidableEq, Repr

/-- What the runtime of the bundle emulates (R247); the bundle decides, not the manual. How many accesses the emulation of
a word makes at most, or none where the bundle carries no emulation for it; the access that follows the values loaded so
far; and the general registers, predicates and STAT that it leaves. It reads nothing else (DESIGN CHOICE, log entry 94). -/
opaque emulates : BitVec 32 → Option Nat
opaque emuAccess : EmuIn → List Nat → Option EmuAccess
opaque emuResult : EmuIn → List Nat → SMap (BitVec 32) × BitVec 8 × BitVec 32

/-- The task and the view byte that lie at a byte of the view pool, for a task table (R36): the manual does not give the
places of the views in the pool (R226; DESIGN CHOICE, log entry 94). -/
opaque poolHome : SMap TaskDef → Nat → Option (Nat × Nat)

/-- UNIT and E of module metrics 0–127 and the names of the catalogue: the bundle's catalogue gives them (R459). -/
opaque catalogueUnit : Nat → Nat
opaque catalogueE : Nat → Nat
opaque catalogueName : Nat → List Byte

/-- What the sections of a Graft image declare: their inner formats are documented only for Ralyaver (R93). A standby reads
its own copy of the image by it (R107). -/
opaque sections : List Byte → Program

/-- The code, 3 to 0x1FF, that the bundle's catalogue gives to an event the service firmware logs (R461). -/
opaque eventCode : Nat → Fin 0x1FD

/-- The input path delay of a fast channel in ticks, measured in the factory and held by the field island (R135, R277). -/
opaque inputDelay : Nat → Nat

/-- The unicast MAC address of an endpoint by its station address (R175): the machine gives it. -/
opaque endpointMac : Nat → BitVec 48

/-- The bytes of the Hedge messages and of the state-transfer items whose layouts belong to the firmware (R197, R210). -/
opaque hedgeByte : HedgeMsg → Nat → Byte
opaque xferBytes : XferBody → List Byte

/-- Contents as octet strings, of which the manual gives no serialisation: the code and rung stores of a generation and its task
table, which an attestation measures (R403), and the program with the configuration registers that DORMANT entry copies (R432). -/
opaque codeBytes : Mem → SMap (BitVec 32) → List Byte
opaque taskTable : Program → List Byte
opaque configBytes : Program → SMap Nat → List Byte

/-- A byte of a gPTP message, by message type and offset, that IEEE 802.1AS-2020 defines and the spec gives no value (R146). -/
opaque ptpField : Nat → Nat → Byte

/-- Ordering code that SYS_ID has in State.reset: 0x01, VX4860-IA (R2). A state of a VX4860-XA has 0x02 there (DESIGN CHOICE, log
entry 71). -/
def variant : Nat := 1

/-- The side strapped on PAIR_SEL that State.reset has (R188): low, side 0. A state of the other unit has 1 in RED_STATUS.SIDE
(DESIGN CHOICE, log entry 71). -/
def pairSel : Nat := 0

/-- The PCIe function (R310): device, revision and class. -/
def pciDevice : Nat := 0x4860
def pciRevision : Nat := 0x02
def pciClass : Nat := 0x0B4000

/-- Where the factory area holds the subsystem vendor ID and the subsystem ID, which the manual does not say (R310). -/
opaque subsystemAt : Nat

/-- Size of a BAR in bytes (R311). -/
def barSize : Bar → Nat
  | .bar0 => 0x10000
  | .bar2 => 0x80000
  | .bar4 => 0x4000000

/-- Identifiers of the factory area, which the manual gives no value for: unit identifier, base MAC address. -/
opaque unitId : BitVec 64
opaque baseMac : BitVec 48

/-- The FACTORY area of the NV store by address, and the identifiers of the twin records (R440, R448). -/
opaque factoryByte : Nat → BitVec 8
opaque recordId : Nat → Nat

/-- Subsystem vendor ID and subsystem ID of the PCIe function, from the factory area (R310). -/
def pciSubsystemVendor : Nat := (factoryByte subsystemAt).toNat + 256 * (factoryByte (subsystemAt + 1)).toNat
def pciSubsystem : Nat := (factoryByte (subsystemAt + 2)).toNat + 256 * (factoryByte (subsystemAt + 3)).toNat

/-- Where the firmware places the twin records of the SYSTEM area, which the manual does not give: the record (0 to 4), the copy
and the byte of it that stand at an NV address; and what NV bytes hold that nothing has written (R440, R448). -/
opaque nvCell : Nat → Option (Nat × Bool × Nat)
opaque nvByte : Nat → BitVec 8

/-- Which bytes of LPDDR5X belong to the firmware region, whose place the manual does not give (R376, R405). -/
opaque firmwareRegion : Nat → Bool

/-- The module metric, 0 to 127, that takes the execution time of a task: the bundle's catalogue names the metrics (R459). -/
opaque execMetric : Nat → Fin 128

/-- The salt fuses and the seed that the Seedbed yields (R388, R392). -/
opaque salt : List Byte
opaque seed : List Byte

/-- The vendor key hashes in fuses (R388). -/
opaque vendorKeyHash : Nat → List Byte

end Sys2Proof.Config
end

