-- ==== Sys2Proof/Machine/State.lean ====
section
/-! DEFINITION. The state of the module as plain data: the register bank of BAR0, the memories, and the running state
of every subsystem. Device time is counted in sixteenths of a nanosecond, so that a tick of 2.5 ns is 40 units, a core
clock of 0.625 ns is 10 and an edge step of 312.5 ps is 5 (R10, R113, R130). -/

namespace Sys2Proof.Machine

/-- No meaning ends in a fault: an access that the spec forbids takes the trap, the discard or the refusal that the
spec names. -/
inductive Fault
  deriving DecidableEq, Repr

/-- Why a command has no meaning. -/
inductive Refusal where
  /-- Raised by `exec` for a command whose meaning is not written; safe, because nothing happens. -/
  | notModelled (mnemonic : String)
  deriving DecidableEq, Repr

/-- Access types of R11. -/
inductive Access where
  | ro | rw | w1c | w1s | wo | rc
  deriving DecidableEq, Repr

/-- A register field: byte offset of the register in BAR0, lowest bit, width, access type, reset value. A field of a
64-bit register (R15) has the offset of the low word. -/
structure Field where
  off : Nat
  lsb : Nat
  width : Nat
  acc : Access
  reset : Nat
  deriving DecidableEq, Repr

/-- A register or an array of registers; `wide` for a 64-bit register of R15, `cfg` when configuration transactions
set it (R350). -/
structure RegDef where
  name : String
  off : Nat
  stride : Nat
  count : Nat
  wide : Bool
  cfg : Bool
  fields : Nat → List Field

/-- The field values that differ from reset or have been set, keyed by the bit address of the field. -/
abbrev Bank := SMap Nat

/-- A command that has been accepted: opcode, descriptor, JSEQ of its acceptance entry, and whether it was mirrored from
the active unit (R323, R361). -/
structure Job where
  op : Nat
  d : Desc
  j : Nat := 0
  mirrored : Bool := false
  deriving DecidableEq, Repr

/-! ### Image, sequencer, program (chapters 02, 03, 04) -/

/-- When an input was delivered last: the event number of its write unit, and the time (R31, R496). -/
structure Mark where
  no : Nat
  at_ : Nat
  deriving DecidableEq, Repr

/-- What the image unit is asked to do (R40, R335). -/
inductive ImgKind where
  | snapshot (t : Nat)
  | commit (t : Nat) (inst : Nat)
  | publish (ring : Nat) (t : Nat) (inst : Nat) (cycle : Nat)
  deriving DecidableEq, Repr

/-- A request that waits for the image unit, with the time of the request and its rank among requests of one clock: commits
first, then snapshots by priority, then publish copies (R40). -/
structure ImgReq where
  at_ : Nat
  rank : Nat
  kind : ImgKind
  deriving DecidableEq, Repr

/-- Image unit state: live image (R28), force table (R44), timer and counter tables (R55–R57), rung store (R51), the request queue, and for each input the mark of its last write unit (R31, R496). -/
structure Img where
  live : Mem := []
  forces : List ForceEntry := []
  timers : SMap Timer := []
  counters : SMap Counter := []
  rung : SMap Word := []
  queue : List ImgReq := []
  /-- Until when the unit serves a request (R40, R41). -/
  busy : Nat := 0
  evNo : Nat := 0
  tplAt : SMap Mark := []
  groupAt : SMap Mark := []
  loopAt : SMap Mark := []
  axisAt : SMap Mark := []
  deriving DecidableEq, Repr

/-- Where a task's instance stands (R70, R72, R38). -/
inductive Phase where
  | idle | pending | snapReq | copying | snapped | running | suspended
  deriving DecidableEq, Repr

/-- The running state of one task: instance numbers, times of the current instance, what its cores and lanes still
owe, its view (R36) and its first-instance flags (R33). -/
structure TaskRun where
  phase : Phase := .idle
  inst : Nat := 0
  nextInst : Nat := 0
  releaseAt : Nat := 0
  snapAt : Nat := 0
  codeAt : Nat := 0
  stopAt : Nat := 0
  stopped : Nat := 0
  cycle : Nat := 0
  coresLeft : BitVec 8 := 0
  lanesLeft : BitVec 4 := 0
  gen : Nat := 0
  sagBudget : Bool := false
  warmFirst : Bool := false
  takeoverFirst : Bool := false
  graftFirst : Bool := false
  /-- Event number at the previous snapshot of this task in this unit (R496). -/
  prevSnap : Nat := 0
  /-- SNAP_TIME of a mirrored previous snapshot, or the takeover boundary, in sixteenths of a ns, where the freshness
  interval starts at a time (R496). -/
  prevAt : Option Nat := none
  /-- Inputs and S bytes of a mirrored snapshot that the instance is to run on (R34, R69). -/
  mirror : Option SnapMsg := none
  /-- Instance whose commit is requested and not yet served, and its execution time in ns (R82, R74). -/
  committing : Option (Nat × Nat) := none
  /-- Generation of that instance: a release may come before its commit is served (R82, R208). -/
  commitGen : Nat := 0
  /-- End of the snapshot that has been served (R41). -/
  snapDone : Nat := 0
  reqAt : Nat := 0
  view : Mem := []
  deriving DecidableEq, Repr

/-- Task sequencer (R62–R89). -/
structure Sequencer where
  runs : SMap TaskRun := []
  /-- BACKGROUND tasks and the time of their next release (R67). -/
  bgDue : SMap Nat := []
  /-- A warm restart is in progress (R499); its command. -/
  warm : Option Job := none
  /-- Tasks whose next first instance carries WARM_FIRST (R82). -/
  warmNext : Bool := false
  /-- SYNC cycle from which the instance numbers of the tasks count: that at which RUN began, or at which a state transfer gave
  them (R82, R210, R211). -/
  numFrom : Nat := 0
  /-- Boundary at which RUN began (R82, R496), and event number there. -/
  runAt : Nat := 0
  runEv : Nat := 0
  /-- SYNC cycle whose boundary the sequencer handled last, plus 1; 0 before the first (R145). -/
  cycles : Nat := 0
  /-- SYNC cycle, plus 1, of the last release of each task (R63, R64). -/
  relCycle : SMap Nat := []
  deriving DecidableEq, Repr

/-- A GRAFT_COMMIT or GRAFT_REVERT in COMMITTING (R99, R106), with what it switches to. -/
structure GraftCommit where
  job : Job
  revert : Bool
  /-- The revert that the end of a confirm window issues (R105). -/
  auto : Bool
  sel : Nat
  cycle : Nat
  gapUntil : Nat
  gapMs : Nat
  confirmS : Nat
  sag2 : Bool
  /-- STATE that the Graft returns to when the commit ends without a switch (R95, R103). -/
  back : Nat
  deriving DecidableEq, Repr

/-- The program in force and the one Graft (R91–R109). -/
structure ProgState where
  cur : Program := {}
  kept : Option Kept := none
  image : Mem := []
  /-- Byte runs of the image that GRAFT_LOAD has filled. -/
  loaded : List (Nat × Nat) := []
  length : Nat := 0
  baseGen : Nat := 0
  origin : Option Origin := none
  /-- The checked program, its CONVERT and RECONVERT lists, and T_sw in ns (R98, R101). -/
  next : Option Program := none
  convert : List Move := []
  reconvert : List Move := []
  tsw : Nat := 0
  commit : Option GraftCommit := none
  /-- Instant I of a switch in progress (R101). -/
  switchAt : Option Nat := none
  confirmUntil : Option Nat := none
  /-- Selector and GAP_TIMEOUT of the commit that is being confirmed (R105). -/
  confirmSel : Nat := 0
  confirmGap : Nat := 0
  /-- HALT (cause and task) that takes effect when the switch completes (R109). -/
  haltNext : Option (Nat × Nat) := none
  /-- Tasks that switch to new code at their next release, and tasks that owe GRAFT_FIRST (R100, R101). -/
  codePending : BitVec 32 := 0
  pendTasks : SMap TaskDef := []
  first : BitVec 32 := 0
  /-- The standby holds the Graft in CHECKED, or after its switch the generation kept for a revert (R107). -/
  peerHas : Bool := false
  /-- In a standby: N_s of the active's switch, and the command that made it (R108). -/
  told : Option (Nat × Desc) := none
  deriving DecidableEq, Repr

/-! ### Trellis (chapter 05) -/

/-- An axis: its anchor (R113), with the angle in 2^−32 counts, velocity in 2^−32 counts per µs and acceleration in 2^−32
counts per µs², valid at `ta`, and what its source needs. The angle is kept unwrapped, so that a gear ratio scales it
without a break. Configuration, state, trim and event flags are registers. -/
structure Axis where
  theta : Int := 0
  v : Int := 0
  a : Int := 0
  ta : Nat := 0
  /-- Time of the last accepted source sample or edge (R33). -/
  sampleAt : Option Nat := none
  /-- Accepted sample that waits for its partner in LOST (R119). -/
  lostAt : Option Nat := none
  coastAt : Nat := 0
  /-- ENCODER: times of the last edges in the present direction, newest first, and that direction (R115). -/
  edges : List Nat := []
  reverse : Bool := false
  /-- VIRTUAL: V_SET (R116). -/
  vSet : Int := 0
  /-- GEAR: OFFSET in 2^−32 counts (R117). -/
  offset : Int := 0
  /-- Preset that the axis takes when it starts to track (R119). -/
  preset : Option Nat := none
  deriving DecidableEq, Repr

/-- A capture unit (R133, R134). -/
structure Capture where
  seq : Nat := 0
  missed : Nat := 0
  last : Option Nat := none
  deriving DecidableEq, Repr

/-- An edge that the edge placer is to start (R130, R131): to a level, or the other level for `toggle`; `pulse` gives the
end time of a pulse that it begins. -/
structure Edge where
  time : Nat
  ch : Nat
  level : Bool
  toggle : Bool := false
  pulse : Option Nat := none
  entry : Nat
  deriving DecidableEq, Repr

/-- A trim word that a commit has set for a later boundary (R118). -/
structure TrimDue where
  axis : Nat
  value : Word
  cycle : Nat
  /-- The commit completed after its boundary. -/
  late : Bool := false
  deriving DecidableEq, Repr

/-- What an encoder interface has taken of its channels: the accepted levels of A and B, and the crossing of the last rise of Z
(R115, R277). -/
structure EncLevels where
  a : Bool := false
  b : Bool := false
  zAt : Option Nat := none
  deriving DecidableEq, Repr

structure Trellis where
  axes : SMap Axis := []
  entries : SMap Entry := []
  caps : SMap Capture := []
  edges : List Edge := []
  /-- Fires that wait for later ticks (R127): entry and whether it is late. -/
  waiting : List (Nat × Bool) := []
  /-- The tick in which entries fired last, and the number that fired in it (R127). -/
  firedAt : Nat := 0
  firedIn : Nat := 0
  /-- Running pulses: channel and end time (R127). -/
  pulses : SMap Nat := []
  trimDue : List TrimDue := []
  lastTick : Nat := 0
  /-- The encoder interfaces E0–E3 (R278). -/
  enc : SMap EncLevels := []
  /-- Measured rise and fall delays of each channel, newest first (R132). -/
  rise : SMap (List Nat) := []
  fall : SMap (List Nat) := []
  deriving DecidableEq, Repr

/-! ### What leaves the module -/

/-- What the module sends or drives, recorded in the order of sending. -/
inductive Output where
  /-- A frame on Ethernet port 0–4, from its first payload byte after the EtherType or R-TAG. -/
  | frame (port : Nat) (dst : BitVec 48) (vlan rtag : Option Half) (bytes : List Byte)
  /-- A gPTP message: message type of IEEE 802.1AS, domain, the device time in ns that it carries or leaves at, priority1 and
  clockIdentity of an Announce, for a Pdelay answer the request's sequence number with its source above it (R146, R151), and
  the bytes after the EtherType as the message leaves (R17). -/
  | gptp (port kind domain time prio clk : Nat) (raw : List Byte)
  | nic (port : Nat) (cls : Nat) (frame : List Byte)
  /-- A Hedge frame (R196): its bytes, and the message that it carries or is a fragment of. -/
  | hedge (m : HedgeMsg) (raw : List Byte)
  /-- A heartbeat on path A, sent on both lanes (R199): its content and the bytes of the Hedge frame. -/
  | heartbeat (b : Beat) (raw : List Byte)
  /-- A completion queue entry of 32 bytes: ring, slot, host address (R315, R319). -/
  | cq (ring : Nat) (slot : Nat) (addr : Nat) (bytes : List Byte)
  | hostWrite (addr : Nat) (bytes : List Byte)
  /-- The zeroing of a completion queue (R316): ring, host address, entries of 32 bytes. -/
  | cqZero (ring : Nat) (addr : Nat) (entries : Nat)
  /-- An MSI-X message: vector, address and data of its table entry (R312, R329). -/
  | msix (v : Nat) (addr : Nat) (data : Word)
  | read (off : Nat) (v : Word)
  /-- What a read of BAR2 or BAR4 returns (R312, R367): offset and bytes. -/
  | window (off : Nat) (bytes : List Byte)
  /-- A fast output edge at a time in sixteenths of a ns (R130). -/
  | edge (ch : Nat) (level : Bool) (time : Nat)
  | fieldFrame (w : Word)
  | fieldSafe
  | loopFrame (x : Nat) (w : Word)
  | loopSafe (x : Nat)
  /-- The converter setpoint of a transmitter, in steps of 24 mA / 2^18 (R293, R305). -/
  | loopCode (x code : Nat)
  | hart (x : Nat) (bytes : List Byte)
  | svc (ip port : Nat) (bytes : List Byte)
  /-- An ICMP echo reply on the service port (R362). -/
  | echo (ip : Nat) (bytes : List Byte)
  | forceN (low : Bool)
  | wakeN (low : Bool)
  | jtag (bytes : List Byte)
  /-- EXTEST drives the boundary-scan register to the lands (R410). -/
  | scan (cells : List Byte)
  /-- The image of component 3 or 4 goes to its island: 2 the field island, 3 and 4 the loop islands LT0 and LT1 (R379, R380). -/
  | islandImage (island : Nat) (bytes : List Byte)
  deriving DecidableEq, Repr

/-- A frame that waits for its gate (R156, R158): class, wire bytes, and for a NIC_TX frame what its completion needs: ring,
index, host tag and whether a time stamp is asked for. -/
structure TxWait where
  cls : Nat
  bytes : Nat
  what : Output
  done : Option (Nat × Nat × Word × Bool) := none
  deriving DecidableEq, Repr

/-- Gate control of a port (R156, R158): open classes, classes held by preemption, and the frames that wait. -/
structure Gate where
  open_ : BitVec 8 := 0x7F
  held : BitVec 8 := 0
  waiting : List TxWait := []
  deriving DecidableEq, Repr

/-! ### Network (chapter 06) -/

/-- What a receive or transmit template has seen (R172, R173, R185). -/
structure TplRun where
  /-- Cycle plus 1 of the last on-time frame. -/
  seen : Nat := 0
  /-- A PLANT_DATA frame arrived since its last due boundary (R179). -/
  since : Bool := false
  /-- Cycle plus 1 that the cut-off judged last. -/
  judged : Nat := 0
  misses : Nat := 0
  missTotal : Nat := 0
  onTime : Nat := 0
  late : Nat := 0
  slotFaults : Nat := 0
  lost : Bool := false
  /-- Recovery history of R159: sequence numbers taken, and the time of the last frame. -/
  history : List Half := []
  frerAt : Nat := 0
  /-- Port of the copy taken last (R159). -/
  frerPort : Nat := 0
  txSeq : Half := 0
  /-- Payload gathered for a cycle, and whether it is the safe payload (R164, R165). -/
  gathered : Option (Nat × Bool × List Byte) := none
  deriving DecidableEq, Repr

/-- A mailbox transaction (R175, R177). -/
structure Mailbox where
  dest : Nat
  port : Nat
  service : Nat
  txn : Half
  request : List Byte
  job : Job
  sent : Option Nat := none
  tries : Nat := 0
  /-- Response bytes received in order. -/
  response : List Byte := []
  deriving DecidableEq, Repr

/-- The two gPTP domains (R146–R150). -/
structure Ptp where
  /-- Best announced rank and grandmaster of the plant domain. -/
  rank : Option Nat := none
  gm : Option DWord := none
  /-- The port in the slave role, as NET_STATUS.PLANT_PORT shows it, lives in that register. -/
  good : Nat := 0
  lastSync : Option Nat := none
  lastAnnounce : Option Nat := none
  /-- Sync received since the module became slave (R149), and the step has happened (once per cold reset). -/
  synced : Bool := false
  aligned : Bool := false
  offsets : List Int := []
  driveOffsets : List Int := []
  lastDriveSync : Option Nat := none
  lastDriveAnnounce : Option Nat := none
  /-- Device time less the time of the module's own clock, in sixteenths of a ns: the steps of R149 and R202. -/
  step : Int := 0
  /-- When the last Sync and the last Pdelay_Resp left each port, in device ns with TX_DLY (R151). -/
  syncSent : SMap Nat := []
  /-- Messages sent of each type on each port, which number them: 16 × port + type (PRESUMED, log entry 37). -/
  numbers : SMap Nat := []
  respSent : SMap Nat := []
  deriving DecidableEq, Repr

/-- Flow meter of a port (R160): tokens in bits × 16,000 and the time of the last update. -/
structure Meter where
  tokens : Nat := 0
  at_ : Nat := 0
  deriving DecidableEq, Repr


structure Net where
  tpl : SMap TplRun := []
  mailbox : List Mailbox := []
  nextTxn : Half := 0
  mcast : SMap (List (BitVec 48)) := []
  meters : SMap Meter := []
  gates : SMap Gate := []
  /-- NIC_RX buffer entries fetched and not yet used, per ring (R181). -/
  nicBuf : SMap (List BufEntry) := []
  /-- A malformed NIC_RX buffer entry, per ring, that waits for the completions of the entries before it (R326): index, reason. -/
  nicBad : SMap (Nat × Nat) := []
  ptp : Ptp := {}
  /-- Highest coordinator epoch seen since reset (R178), and the last sample number per stream. -/
  coordEpoch : Nat := 0
  sampleNo : SMap Nat := []
  /-- Instants from which the drive cycle may start, must stop, or may resume (R153, R154). -/
  startFrom : Option Nat := none
  stopFrom : Option Nat := none
  resumeFrom : Option Nat := none
  /-- Cycle plus 1 that each point of the cycle has handled last. -/
  sentCycle : Nat := 0
  sentPlant : Nat := 0
  gatherCycle : Nat := 0
  statusCycle : Nat := 0
  cutCycle : Nat := 0
  /-- Ends of the last gatherings, of SETPOINT and of STATUS templates (R164). -/
  gatherEnd : Nat := 0
  statusEnd : Nat := 0
  /-- Time of the last link-up of each port (R154). -/
  linkAt : SMap Nat := []
  deriving DecidableEq, Repr

/-! ### Pair (chapter 07) -/

/-- A reliable Hedge frame sent and not acknowledged (R198): SEQ, FRAG and MSG_ID of R196, the number of fragments, and
the times of the first and the last sending. -/
structure HedgeTx where
  seq : Nat
  frag : Nat
  count : Nat
  msgId : Nat
  msg : HedgeMsg
  first : Nat
  last : Nat
  deriving DecidableEq, Repr

/-- A planned handover in progress (R217). -/
structure Handover where
  h : Nat
  source : Bool
  accepted : Bool
  job : Option Job
  outputsAt : Option Nat
  deriving DecidableEq, Repr

/-- What a standby keeps until it can run it, in the order of arrival (R108, R210). -/
inductive Queued where
  | snap (m : SnapMsg)
  | cmd (op : Nat) (d : Desc) (cycle : Nat)
  deriving DecidableEq, Repr

/-- State transfer (R210). -/
structure Xfer where
  started : Nat
  round : Nat
  /-- Round 0 has been sent. -/
  zero : Bool := false
  qualified : Option Nat := none
  /-- What the rounds have sent so far: data SRAM and retained SRAM, and the image (types 5, 6 and 7). -/
  sent : Option (Mem × Mem) := none
  instant : Option Nat := none
  complete : Bool := false
  deriving DecidableEq, Repr

structure Red where
  pairEnAt : Nat := 0
  peer : Option Hello := none
  helloAt : Option Nat := none
  /-- A HELLO has left on a lane that is up, so that the peer has received it (R192). -/
  helloOut : Bool := false
  /-- The HELLO of the peer that passed its checks and found this unit seeking, until they agree (R192). -/
  helloIn : Option Hello := none
  /-- The reason of the UNFIT message that started the present transfer (R209). -/
  unfitSent : Option Nat := none
  lastA : Option Nat := none
  lastB : Option Nat := none
  /-- SEND_TIME and arrival of the last heartbeat per path, for ECHO_TIME and ECHO_RX (R199). -/
  echoA : Nat × Nat := (0, 0)
  echoB : Nat × Nat := (0, 0)
  beatAt : Option Nat := none
  /-- The last heartbeat of the peer, and the last SETPOINT frame of another unit (R193). -/
  peerBeat : Option Beat := none
  setpointAt : Option Nat := none
  /-- The unit has agreed to pair, or has yielded, since PAIR_EN was set: PAIR_WAIT no longer takes it to SOLO (R191). -/
  paired : Bool := false
  /-- RED_RESYNC that waits for its transfer to start. -/
  resyncJob : Option Job := none
  /-- The joiner has set its device time in one step (R202). -/
  stepped : Bool := false
  txSeq : Nat := 0
  rxSeq : Nat := 0
  unacked : List HedgeTx := []
  /-- Frames received ahead of their turn (R198). -/
  held : List (Nat × List Byte) := []
  msgId : Nat := 0
  peerFailed : Bool := false
  /-- Time of the declaration of R211, while its boundary is to come. -/
  takeover : Option Nat := none
  xfer : Option Xfer := none
  xferStarts : List Nat := []
  ownDigests : List Digest := []
  peerDigests : List Digest := []
  /-- Last mirrored snapshot of each task: instance, SNAP_TIME (R211, R496). -/
  mirrored : SMap (Nat × Nat) := []
  /-- Instances and commands that wait for the transfer to end (R210). -/
  queued : List Queued := []
  handover : Option Handover := none
  /-- Takeovers, yields and handovers with their times (R219): 0, 1, 2. -/
  history : List (Nat × Nat) := []
  /-- Lags of the last SYNC instances, newest first (R206, R217). -/
  lags : List Nat := []
  /-- An epoch record is to be written by this time (R194). -/
  epochDue : Option Nat := none
  /-- An explicit fault was sent: the unit yields at the takeover boundary (R201). -/
  faultSent : Bool := false
  deriving DecidableEq, Repr

/-! ### Cores and lanes (chapters 02, 08) -/

/-- Privilege modes of R224. -/
inductive Mode where
  | task | runtime
  deriving DecidableEq, Repr

/-- The context of a cycle core (R220, R222): what preemption saves and restores. The return stack stays in place. -/
structure Ctx where
  g : SMap Word := []
  p : Byte := 1
  pc : Word := 0
  ds : Word := 0
  dsLo : Word := 0
  dsHi : Word := 0
  rs : Nat := 0
  rsLo : Nat := 0
  rsHi : Nat := 0
  rc : Word := 0
  stat : Word := 0
  cause : Word := 0
  causeWord : Word := 0
  epc : Word := 0
  mode : Mode := .runtime
  masked : Bool := true
  /-- A repeat is in progress, and the count it latched (R240–R242). -/
  rep : Bool := false
  repCount : Nat := 0
  deriving DecidableEq, Repr

/-- A cycle core: its present context, saved contexts by task (R73), return stack (R233), VBASE, local data memory
(R226), raised interrupt lines (R238), and whether it is halted by the debugger (R405) or stopped at an uncorrectable
error (R424). -/
structure Core where
  ctx : Ctx := {}
  saved : SMap Ctx := []
  vbase : Word := 0
  rstack : SMap Word := []
  mem : Mem := []
  lines : BitVec 4 := 0
  /-- Code-store pages that local pages 0–7 hold, the runtime's part of the core's page table (R231); pages 8–63 follow the
  task table. The manual does not place the runtime in the code store (DESIGN CHOICE at reset, log entry 15). -/
  runtimePages : List Nat := List.range 8
  /-- The runtime holds the task in SYS service 0x0001 until its lanes are done (R239). -/
  laneWait : Bool := false
  /-- Return entries in use below the first task that the core entered: the runtime's (R233). -/
  rsBase : Nat := 0
  task : Option (Fin 32) := none
  halted : Bool := false
  stopped : Bool := false
  breakpoints : List Nat := []
  /-- The debugger has resumed the core at a breakpoint: its next instruction does not raise BREAK (the model's own). -/
  passBreak : Bool := false
  /-- The debugger has let the core run one instruction (R405). -/
  stepping : Bool := false
  deriving DecidableEq, Repr

/-- What a lane saves at suspension (R73): stack, top first, word index, which a taken skip has moved on, and the networks
still to run; its bit cache is emptied. -/
structure LaneCtx where
  stack : List Bool := []
  index : Nat := 0
  /-- Lines of the view in the bit cache, by number and with the 64 bytes that it holds, the last read first (R61). -/
  lines : List (Nat × List Byte) := []
  net : Option NetDecl := none
  rest : List NetDecl := []
  deriving DecidableEq, Repr

/-- A rung lane (R51–R58). -/
structure Lane where
  ctx : LaneCtx := {}
  task : Option (Fin 32) := none
  running : Bool := false
  stopped : Bool := false
  saved : SMap LaneCtx := []
  deriving DecidableEq, Repr

/-- The stores that the cores share (R226, R231) and the state of the retain mirror (R337–R339). Data SRAM and
retained SRAM are keyed by the data address of R226. -/
structure Stores where
  data : Mem := []
  code : Mem := []
  /-- Service-core memory that a debugger has written (R21); the manual does not give the rest, which reads free. -/
  service : SMap Byte := []
  /-- LPDDR5X beyond the staging window, as far as a debugger has written it (R405). -/
  lpddr : SMap Byte := []
  /-- Dirty retained lines with the tags of their writers since their captures (task number, 32 for a switch, 33 for
  RETAIN_RESTORE). -/
  dirty : SMap (List Nat) := []
  /-- Lines pending for the mirror; the value says whether an abort captured the line. -/
  pend : SMap Bool := []
  /-- Lines that an abort captured and that were pending when the host interface was reset: the resend of every line carries their
  flag (R12, R338, R339). -/
  owedAborts : List Nat := []
  shadow : Mem := []
  /-- Device time of the last capture of each line (R338). -/
  capturedAt : SMap Nat := []
  deriving DecidableEq, Repr

/-! ### Field and loop islands (chapters 10, 11) -/

/-- A field channel: comparator level and the crossing that began it, accepted level, whether it was 1 since the last
sample (R271, R272), active conditions (R273, R274) and the time of an opening (R274). -/
structure Channel where
  comp : Bool := false
  compAt : Nat := 0
  /-- Start of the debounce interval in progress: the crossing, or a later change of configuration (R271). -/
  filterAt : Nat := 0
  level : Bool := false
  levelAt : Nat := 0
  seen : Bool := false
  /-- Switch opened by overload or thermal shutdown. -/
  opened : Bool := false
  openedAt : Nat := 0
  /-- Active conditions, bit for bit as FIO_CHn_STAT[6:1]. -/
  active : BitVec 7 := 0
  /-- The level that Trellis last commanded by an edge (R287). -/
  edge : Bool := false
  /-- The level that the island last took for a Trellis-owned channel; an edge that it suppresses is not stored (R287). -/
  taken : Bool := false
  /-- The level of the terminal while the stage drives it, where it is not the stage's (R274). -/
  term : Option Bool := none
  /-- The channel carries its safe value, and has taken no command since (R284). -/
  atSafe : Bool := false
  deriving DecidableEq, Repr

/-- An input frame on the field link (R281): sample time, number, the STATE and FAULT words, and the groups that are OK and
at their safe values at the sample. -/
structure InFrame where
  time : Nat
  seq : Nat
  st : Word
  fl : Word
  ok : Nat
  safe : Nat
  deriving DecidableEq, Repr

structure Fio where
  ch : SMap Channel := []
  /-- The island is powered and its firmware runs (R287, R500). -/
  powerUp : Bool := true
  inFrame : Option InFrame := none
  lastState : Word := 0
  lastFault : Word := 0
  seq : Nat := 0
  missed : Nat := 0
  sampled : Nat := 0
  /-- Output frame on the link, and a further one that starts when it ends (R283). -/
  outFrame : Option Word := none
  outNext : Bool := false
  outEnd : Nat := 0
  /-- Commands last applied, end of the last valid frame, silence (R285). -/
  word : Word := 0
  validAt : Nat := 0
  silent : Bool := false
  explicitSafe : Bool := false
  /-- Groups held safe on timeout (R286), and groups in FAIL or OV (R288). -/
  safeLatched : BitVec 4 := 0
  fail : BitVec 4 := 0xF
  ov : BitVec 4 := 0
  /-- Time since when a failed group has been above 17.0 V (R288). -/
  okSince : SMap Nat := []
  /-- SAFE_TIMEOUT of the groups as the island holds it during a silence (R285). -/
  timeouts : SMap Nat := []
  /-- Time of the last measurement of the group supplies, whose phase runs free (R288). -/
  measAt : Option Nat := none
  deriving DecidableEq, Repr

/-- A trim in progress (R306): stage 1 at 4 mA, 2 at 20 mA, 3 both points recorded. -/
structure Trim where
  stage : Nat
  a1 : Nat := 0
  a2 : Nat := 0
  stepAt : Nat
  deriving DecidableEq, Repr

/-- A HART request that waits for its reply (R302, R303). -/
structure HartReq where
  token : Half
  long : Bool
  /-- From the primary master. -/
  primary : Bool
  addr : Nat
  cmd : Byte
  data : List Byte
  at_ : Nat
  deriving DecidableEq, Repr

/-- A loop transmitter (R292–R306). -/
structure Loop where
  powered : Bool := false
  powerUp : Bool := true
  deferred : Bool := false
  /-- Output word last applied by the island, in nA, and the frame on its way. -/
  word : Nat := 0
  frame : Option Nat := none
  frameAt : Nat := 0
  validAt : Nat := 0
  silent : Bool := false
  safeOnTimeout : Bool := false
  /-- Target and priority that the island holds while its link is silent (R300). -/
  hold : Option (Nat × Nat) := none
  /-- Frames of the link that failed their CRC (R299). -/
  crcErrors : Nat := 0
  compliance : Bool := false
  miswire : Bool := false
  dev : Bool := false
  targetAt : Nat := 0
  /-- Since when the readback has stood more than 80 µA from the target with the conditions of R296, and within 40 µA. -/
  devSince : Option Nat := none
  nearSince : Option Nat := none
  rxAt : Nat := 0
  /-- End of the last readback conversion (R298). -/
  convAt : Option Nat := none
  trim : Option Trim := none
  req : Option HartReq := none
  nextToken : Half := 0
  replaced : List Half := []
  readbacks : List (List Byte) := []
  deriving DecidableEq, Repr

/-! ### Host interface, commands, journal (chapters 12, 13) -/

/-- A completion queue slot promised to a fetched entry; filled when the entry completes (R324). `err` marks the error
completion of a malformed entry, with its reason (R326). -/
structure Slot where
  index : Nat
  irqNow : Bool
  /-- JSEQ of the acceptance, 0 before it. -/
  key : Nat := 0
  done : Option (List Byte) := none
  err : Option Nat := none
  deriving DecidableEq, Repr

/-- A posted CQ entry that the host has not consumed (R318, R330): when it was posted, its IRQ_NOW, and whether it has been
signalled. -/
structure Posted where
  at_ : Nat
  irqNow : Bool
  told : Bool := false
  deriving DecidableEq, Repr

/-- Indices of a ring pair (R317–R319) and its interrupt state (R330). Set-up and STATE are registers. -/
structure Ring where
  sqTail : Nat := 0
  cqTail : Nat := 0
  cqHead : Nat := 0
  slots : List Slot := []
  /-- Unconsumed entries, oldest first. -/
  posted : List Posted := []
  signalled : Bool := false
  lost : Bool := false
  /-- Publication or trace record count of the ring (R336). -/
  records : Nat := 0
  /-- Until when the record of the last publication is being written (R335, R342). -/
  busyUntil : Nat := 0
  deriving DecidableEq, Repr

/-- A publish set (R334). -/
structure PubSet where
  task : Nat
  every : Nat
  ranges : List (Nat × Nat)
  deriving DecidableEq, Repr

/-- A publication that waits for Bus Master Enable (R313): its ring, the buffer entry that the ring will fetch for it, the record with
its number, and the time that its copy took. -/
structure HeldPub where
  ring : Nat
  entry : BufEntry
  number : Nat
  copy : Nat
  bytes : List Byte
  deriving DecidableEq, Repr

/-- A FENCE that waits (R325): named rings, the completions each still owes, and the deadline. -/
structure Fence where
  job : Job
  owed : SMap Nat
  until_ : Nat
  deriving DecidableEq, Repr

structure Hif where
  rings : SMap Ring := []
  /-- MSI-X table words (R312) and pending bits. -/
  msixTable : SMap Word := []
  msixPend : SMap Bool := []
  funcMask : Bool := false
  evtSeq : Nat := 0
  pubs : SMap PubSet := []
  mirrorSeq : Nat := 0
  resync : Bool := false
  fences : List Fence := []
  linkUp : Bool := false
  /-- Writes to host memory that wait for Bus Master Enable, oldest first (R313). -/
  held : List Output := []
  heldPubs : List HeldPub := []
  /-- What the host has configured (R310): maximum payload and read request sizes in bytes, and ASPM L1. -/
  maxPayload : Nat := 128
  maxReadReq : Nat := 512
  aspmL1 : Bool := false
  deriving DecidableEq, Repr

/-- A journal entry (R355). -/
structure JEntry where
  jseq : Nat
  time : Nat
  type : Nat
  opcode : Nat
  origin : Nat
  ring : Nat
  index : Nat
  tag : Word
  status : Nat
  reason : Nat
  ident : DWord
  cycle : Nat
  detailA : Nat
  detailB : Nat
  deriving DecidableEq, Repr

/-- States of a configuration transaction (R349). -/
inductive TxnState where
  | open_ | committing | confirming
  deriving DecidableEq, Repr

/-- A configuration transaction (R348–R353). -/
structure Txn where
  ident : DWord
  structural : Bool
  origin : Origin
  session : Nat := 0
  state : TxnState := .open_
  items : List (Nat × List Byte) := []
  lastAt : Nat := 0
  job : Option Job := none
  sel : Nat := 0
  /-- SYNC cycle in which the commit or the abort was accepted; the standby journals it (R361). -/
  accepted : Nat := 0
  cycle : Nat := 0
  /-- The apply point of a commit or rollback that waits, or the boundary from which it waits for quiescence. -/
  due : Nat := 0
  gapUntil : Nat := 0
  gapMs : Nat := 0
  confirmS : Nat := 0
  confirmUntil : Option Nat := none
  /-- Values of the targets just before the apply point (R353). -/
  undo : List (Nat × List Byte) := []
  /-- A rollback waits for its apply point, and whether the window ended. -/
  rollback : Option Bool := none
  deriving DecidableEq, Repr

/-- What a deferred command does at its boundary (R204, R497). -/
inductive DefAct where
  | imgWrite | force | forceClear
  | start (zeroRetain : Bool)
  | stop
  | trigger (t : Nat)
  | entryBatch | axisSet | trimSet | rearm
  | clearLatch | release
  deriving DecidableEq, Repr

/-- A command accepted for a later boundary. -/
structure Deferred where
  act : DefAct
  cycle : Nat
  job : Job
  deriving DecidableEq, Repr

/-- The service-port session (R363). -/
structure Session where
  num : Nat
  key : List Byte
  /-- The last SEQ accepted in the session, and the response that answered it (R363). -/
  lastSeq : Option Nat := none
  cached : List Byte := []
  lastAt : Nat
  deriving DecidableEq, Repr

/-- A service-port request that is being served (R364): where its response goes. -/
structure SvcReq where
  ip : Nat
  port : Nat
  session : Nat
  seq : Nat
  /-- The request is valid in the open session, whose cached response it renews (R363). -/
  valid : Bool := false
  deriving DecidableEq, Repr

structure Cmd where
  /-- Journal, newest entry first (R355), start count and the next number within the start (R356). -/
  jrnl : List JEntry := []
  startCount : Nat := 1
  nextJ : Nat := 1
  deferred : List Deferred := []
  /-- CTL_HALT commands that wait for the end of a Graft switch (R109). -/
  haltJobs : List Job := []
  txns : List Txn := []
  session : Option Session := none
  nextSession : Nat := 1
  svc : Option SvcReq := none
  svcWait : List (Nat × Nat × List Byte) := []
  ip : BitVec 32 := 0xA9FE303C
  mask : BitVec 32 := 0xFFFF0000
  deriving DecidableEq, Repr

/-! ### Boot, security, debug (chapters 14, 15) -/

structure Boot where
  staging : Mem := []
  /-- Header and manifest of the bundle in the firmware region, and its verified components in their order (R376). -/
  header : List Byte := []
  manifest : List Byte := []
  region : List (List Byte) := []
  /-- Vendor key slot whose key signed the bundle (R389). -/
  signer : Nat := 4
  poweredAt : Nat := 0
  startAt : Nat := 0
  stepAt : Nat := 0
  /-- Components started or deferred so far (R379). -/
  started : Nat := 0
  selfTestFailed : Bool := false
  /-- LOADING after WAKING runs from the firmware region (R383). -/
  waking : Bool := false
  /-- The sealed region is retained through DORMANT (R432). -/
  sealed : Bool := false
  sealTag : List Byte := []
  /-- What LOADING has copied to its target, by component: the local memories of S0–S3 and of C0–C7, the field island, the
  loop islands (R379). -/
  targets : SMap (List Byte) := []
  deriving DecidableEq, Repr

/-- A key slot (R396, R399). -/
structure KeySlot where
  usage : Nat
  partners : Nat
  states : Nat
  key : List Byte
  deriving DecidableEq, Repr

structure Sec where
  /-- Life-cycle code (R387), owner key hash, revoked vendor keys, minimum security version: fuses of R388. -/
  life : Nat := 1
  ownerKey : List Byte := []
  revoked : BitVec 4 := 0
  minSvn : Nat := 0
  ownerLock : Bool := false
  slots : SMap KeySlot := []
  /-- Live challenge per origin with its time of issue (R400). -/
  challenges : List (Origin × List Byte × Nat) := []
  /-- Owner challenge-response grants per ring with their end (R401). -/
  grants : SMap Nat := []
  lockUntil : Option Nat := none
  slotsLost : Bool := false
  /-- Entropy source is healthy; the generator reseeds while it is (R393). -/
  reseeds : Nat := 0
  /-- Trace entries gathered and lost (R408): core, kind, argument, address, time. -/
  trace : List (Nat × Nat × Nat × Nat × Nat) := []
  traceLost : Nat := 0
  /-- The boundary-scan register as PRELOAD left it, and whether EXTEST drives it to the lands (R410). -/
  boundary : List Byte := []
  extest : Bool := false
  deriving DecidableEq, Repr

/-! ### Supervision and power (chapter 16) -/

/-- Watchdog, Roll Call, error counters and the power supervisor's times (R415–R438). -/
structure Supervision where
  /-- Reference of the system watchdog (R419), time not counted, and when a suspension began. -/
  ref : Nat := 0
  notCounted : Nat := 0
  suspAt : Option Nat := none
  /-- Window in force, in units of 100 µs (R418). -/
  tOpen : Nat := 50
  tClose : Nat := 200
  /-- Check-ins: task and SYNC cycle (R416). -/
  checkIns : List (Nat × Nat) := []
  /-- Next window to evaluate per set, and WIN and MASK in force for it (R415). -/
  nextWin : SMap Nat := []
  inForce : SMap (Nat × Nat × Bool) := []
  /-- Changes of a set that are to take effect (R415): set, first cycle, WIN, MASK and EN. -/
  rcChanged : List (Nat × Nat × Nat × Nat × Bool) := []
  /-- Count of watchdog resets, held with its check word in bank 0 (R423). -/
  resets : Nat := 0
  clockLost : Bool := false
  /-- HOLDUP_SENSE has been measured since the reset (R437). -/
  measured : Bool := false
  /-- VIN has been above the leaving threshold since (R435). -/
  sagClearAt : Option Nat := none
  /-- Wake held during DORMANT entry; device time at entry (R433). -/
  wakeHeld : Option Nat := none
  dormantAt : Nat := 0
  wakeAt : Option Nat := none
  wakeN : Bool := false
  /-- A PWR_STATE in progress: its command, the target, and the state that it started from (R430–R432). -/
  powerJob : Option (Job × Nat × Nat) := none
  /-- An accepted FW_RESET waits for the consolidation and the page write in progress (R384). -/
  fwReset : Bool := false
  deriving DecidableEq, Repr

/-! ### NV store, RTC, recorder (chapters 17, 18) -/

/-- Twin records that the manual names (R440, R442). -/
inductive RecId where
  | pairEpoch | jrnlStart | lptTrim0 | lptTrim1 | pwrHoldup | secLock
  | readPw (u : Fin 4)
  | writePw (u : Fin 4)
  deriving DecidableEq, Repr

/-- The two copies of a twin record (R448): the bytes that stand in the pages of each, none before its first write. -/
structure Twin where
  a : List Byte := []
  b : List Byte := []
  deriving DecidableEq, Repr

/-- What a page write programs (R444, R449, R465). -/
inductive PageData where
  | bytes (addr : Nat) (data : List Byte)
  | record (id : RecId) (toB : Bool) (seq : Nat) (data : List Byte)
  /-- A page of a consolidation copy, or of an emergency record: NV address and bytes. -/
  | consol (addr : Nat) (data : List Byte)
  | emergency (addr : Nat) (data : List Byte)
  deriving DecidableEq, Repr

/-- A queued page write (R445): a firmware write or the command that asked for it. -/
structure PageWrite where
  fw : Bool
  what : PageData
  job : Option Job := none
  deriving DecidableEq, Repr

structure Nv where
  mem : Mem := []
  twins : List (RecId × Twin) := []
  writing : Option (PageWrite × Nat) := none
  queue : List PageWrite := []
  /-- Unlocks held: origin, user area, write (R441). -/
  unlocks : List (Origin × Fin 4 × Bool) := []
  /-- NVS_READ commands that wait for the page write to end (R445). -/
  readWaits : List Job := []
  deriving DecidableEq, Repr

/-- The seven time fields (R452), in the order of RTC_READ: SEC, MIN, HOUR, DAY, MONTH, YEAR, WEEKDAY. -/
structure RtcTime where
  sec : Nat := 0
  min : Nat := 0
  hour : Nat := 0
  day : Nat := 1
  month : Nat := 1
  year : Nat := 0
  weekday : Nat := 0
  deriving DecidableEq, Repr

/-- One port of the RTC (R453, R454): frozen shadows with the time of the freeze, staging set, requested commit. -/
structure RtcPort where
  /-- The frozen time and the moment of the freeze, which may lie before a reset of the clock of `now` (R451, R453). -/
  shadow : Option (RtcTime × Int) := none
  staging : Option RtcTime := none
  commit : Bool := false
  jobs : List Job := []
  deriving DecidableEq, Repr

structure Rtc where
  time : RtcTime := {}
  latch : RtcTime := {}
  counting : Bool := false
  lost : Bool := true
  onVbat : Bool := false
  /-- The moment at which the prescaler last stood at 0 (R452, R454), which may lie before a reset of the clock of `now` (R451);
  `none` while its phase is not known (log entry 95). -/
  prescaler : Option Int := none
  bar0 : RtcPort := {}
  fw : RtcPort := {}
  deriving DecidableEq, Repr

/-- A metric record (R460). -/
structure Metric where
  count : DWord := 0
  sum : Int := 0
  min : Int := 0x7FFFFFFF
  max : Int := -0x80000000
  minTime : Nat := 0
  maxTime : Nat := 0
  bins : SMap Nat := []
  deriving DecidableEq, Repr

/-- A code record (R461) and its token bucket (R462): tokens in units of 1/16 ns × RATE and the time of the last
update; `none` for a full bucket. -/
structure CodeRec where
  count : Nat := 0
  suppressed : Nat := 0
  first : Nat := 0
  last : Nat := 0
  bucket : Option (Nat × Nat) := none
  /-- COUNT at the last snapshot, for the increase of R467. -/
  atSnap : Nat := 0
  deriving DecidableEq, Repr

/-- A consolidation that writes (R465): copy A or B, its SEQ, the device time of the snapshot in ns, the bytes of the copy,
the code records of the snapshot, and the pages written. -/
structure Consol where
  toB : Bool
  seq : Nat
  time : Nat
  image : List Byte
  codes : SMap CodeRec
  page : Nat := 0
  deriving DecidableEq, Repr

structure Rec where
  metrics : SMap Metric := []
  codes : SMap CodeRec := []
  running : Option Consol := none
  /-- A due consolidation and its reason (R466). -/
  due : Option Nat := none
  lastAt : Nat := 0
  /-- The emergency record applied at start, 256 bytes (R468, R469). -/
  applied : Option (List Byte) := none
  /-- REC_CONSOLIDATE and REC_CLEAR commands that wait for the end of a consolidation (R470, R471). -/
  waiters : List Job := []
  /-- REC_CLEARs that wait for the running consolidation (R470). -/
  clearWait : List Job := []
  /-- ESEQ of the next emergency record (R467). -/
  eseqNext : Nat := 1
  deriving DecidableEq, Repr

/-! ### The whole module -/

structure State where
  /-- Device time in sixteenths of a ns (R144). -/
  now : Nat := 0
  /-- Register fields of BAR0. -/
  regs : Bank := []
  /-- High words latched by reads of low words, and low words staged for a write of the high word (R15). -/
  hiLatch : SMap Word := []
  loStage : SMap Word := []
  img : Img := {}
  seq : Sequencer := {}
  prog : ProgState := {}
  trl : Trellis := {}
  net : Net := {}
  red : Red := {}
  cores : SMap Core := []
  lanes : SMap Lane := []
  mem : Stores := {}
  fio : Fio := {}
  lpt : SMap Loop := []
  hif : Hif := {}
  cmd : Cmd := {}
  boot : Boot := {}
  sec : Sec := {}
  sup : Supervision := {}
  nv : Nv := {}
  rtc : Rtc := {}
  recd : Rec := {}
  /-- What has been sent, newest first. -/
  out : List Output := []
  /-- Number of the next free value (the model's own counter, not the spec's). -/
  free : Nat := 0
  /-- Commands that wait, first in, first out. -/
  pending : List Instr := []
  deriving DecidableEq, Repr

/-- The module right after power-up: boot ROM in ROM_INIT, controller OFFLINE, power state RUN, every register at its
reset value with power-up as the cause of the reset, every memory empty, no command waiting (R12, R92, R144, R365, R425,
R428). The RTC has lost time (R451; log entry 9). The first start has begun: its START entry stands in the journal and its summary in bank 0, and the start count is
on its way to the NV store (R356–R358). `Machine/Reset.lean` computes the same state. -/
def State.reset : State :=
  { regs := [(8 * 0x7C24 + 5, 1)]
    mem := { data := [(0x300000F0, 1), (0x300000F5, 1), (0x300000F8, 1), (0x300000FA, 1), (0x300000FC, 0x6A), (0x300000FD, 0x7F),
                      (0x300000FE, 0xF5), (0x300000FF, 0xBC), (0x30000100, 0x40), (0x30000101, 2), (0x30000102, 0xFF), (0x30000105, 1), (0x3000010E, 1)] }
    cmd :=
      { jrnl := [{ jseq := 2 ^ 40 + 1, time := 0, type := 0x40, opcode := 0, origin := 2, ring := 0xFF, index := 0, tag := 0
                   status := 0, reason := 0, ident := 0, cycle := 0, detailA := 0, detailB := 0 }]
        nextJ := 2 }
    nv := { queue := [{ fw := true, what := .record .jrnlStart false 0 [1, 0, 0, 0] }] } }

end Sys2Proof.Machine
end

