-- ==== Sys2Proof/Machine/RegMap.lean ====
section
/-! DEFINITION. The register map of BAR0, field by field: offset, lowest bit, width, access type and reset value, as
the register tables of spec/00_scope.md and of chapters 02 to 07 and 10 to 18 give them (R11, R12, R13). A field of a
register array takes the index. A reset value that a table draws from fuses, from a record of the NV store or from the
backup domain is held by the part of the state that owns it (`Derived.lean`), and stands here as 0. -/

namespace Sys2Proof.Machine.Reg

-- SYS_ID at 0x0000
def SYS_ID_FAMILY : Field := ⟨0x0000, 16, 16, .ro, 0x4860⟩
def SYS_ID_STEPPING : Field := ⟨0x0000, 8, 8, .ro, 0x02⟩
def SYS_ID_VARIANT : Field := ⟨0x0000, 0, 8, .ro, Config.variant⟩
-- IMG_FORCE_STATUS at 0x1800
def IMG_FORCE_STATUS_FORCED : Field := ⟨0x1800, 31, 1, .ro, 0⟩
def IMG_FORCE_STATUS_COUNT : Field := ⟨0x1800, 0, 13, .ro, 0⟩
-- IMG_FAULT at 0x1804
def IMG_FAULT_CORE_RANGE : Field := ⟨0x1804, 8, 1, .w1c, 0⟩
def IMG_FAULT_LANE : Field := ⟨0x1804, 0, 4, .w1c, 0⟩
-- IMG_LANE_INFO at 0x1810 + 0x4 × n, 4 of them
def IMG_LANE_INFO_CAUSE (n : Nat) : Field := ⟨0x1810 + 0x4 * n, 28, 4, .ro, 0⟩
def IMG_LANE_INFO_TASK (n : Nat) : Field := ⟨0x1810 + 0x4 * n, 20, 5, .ro, 0⟩
def IMG_LANE_INFO_INDEX (n : Nat) : Field := ⟨0x1810 + 0x4 * n, 0, 20, .ro, 0⟩
-- IMG_SNAP_COUNT at 0x1820
def IMG_SNAP_COUNT_COUNT : Field := ⟨0x1820, 0, 32, .ro, 0⟩
-- IMG_COMMIT_COUNT at 0x1824
def IMG_COMMIT_COUNT_COUNT : Field := ⟨0x1824, 0, 32, .ro, 0⟩
-- IMG_SNAP_MAX at 0x1828
def IMG_SNAP_MAX_NS : Field := ⟨0x1828, 0, 16, .rc, 0⟩
-- IMG_COMMIT_MAX at 0x182C
def IMG_COMMIT_MAX_NS : Field := ⟨0x182C, 0, 16, .rc, 0⟩
-- IMG_VIEW_USE at 0x1830
def IMG_VIEW_USE_BYTES : Field := ⟨0x1830, 0, 23, .ro, 0⟩
-- CTL_STATE at 0x1000
def CTL_STATE_TASKS : Field := ⟨0x1000, 16, 6, .ro, 0⟩
def CTL_STATE_SYNC_DEFINED : Field := ⟨0x1000, 10, 1, .ro, 0⟩
def CTL_STATE_RETAIN_DONE : Field := ⟨0x1000, 9, 1, .ro, 0⟩
def CTL_STATE_SAG2_RT : Field := ⟨0x1000, 8, 1, .ro, 0⟩
def CTL_STATE_PREV_STATE : Field := ⟨0x1000, 4, 3, .ro, 0⟩
def CTL_STATE_STATE : Field := ⟨0x1000, 0, 3, .ro, 0⟩
-- CTL_HALT_CAUSE at 0x1004
def CTL_HALT_CAUSE_VALID : Field := ⟨0x1004, 31, 1, .ro, 0⟩
def CTL_HALT_CAUSE_TASK : Field := ⟨0x1004, 8, 5, .ro, 0⟩
def CTL_HALT_CAUSE_CAUSE : Field := ⟨0x1004, 0, 4, .ro, 0⟩
-- CTL_SYNC_CYCLE at 0x1008, 64 bits
def CTL_SYNC_CYCLE_CYCLE : Field := ⟨0x1008, 0, 64, .ro, 0⟩
-- CTL_OVERRUN at 0x1010
def CTL_OVERRUN_TASK : Field := ⟨0x1010, 0, 32, .w1c, 0⟩
-- CTL_HALT_TIME at 0x1018, 64 bits
def CTL_HALT_TIME_TIME : Field := ⟨0x1018, 0, 64, .ro, 0⟩
-- CTL_TASK_CTRL at 0x1100 + 0x20 × t, 32 of them
def CTL_TASK_CTRL_DEFINED (t : Nat) : Field := ⟨0x1100 + 0x20 * t, 31, 1, .ro, 0⟩
def CTL_TASK_CTRL_KIND (t : Nat) : Field := ⟨0x1100 + 0x20 * t, 28, 3, .ro, 0⟩
def CTL_TASK_CTRL_GRACE (t : Nat) : Field := ⟨0x1100 + 0x20 * t, 26, 2, .ro, 0⟩
def CTL_TASK_CTRL_PRIORITY (t : Nat) : Field := ⟨0x1100 + 0x20 * t, 20, 5, .ro, 0⟩
def CTL_TASK_CTRL_LANES (t : Nat) : Field := ⟨0x1100 + 0x20 * t, 16, 4, .ro, 0⟩
def CTL_TASK_CTRL_CORES (t : Nat) : Field := ⟨0x1100 + 0x20 * t, 8, 8, .ro, 0⟩
-- CTL_TASK_RELEASE at 0x1104 + 0x20 × t, 32 of them
def CTL_TASK_RELEASE_A (t : Nat) : Field := ⟨0x1104 + 0x20 * t, 16, 16, .ro, 0⟩
def CTL_TASK_RELEASE_B (t : Nat) : Field := ⟨0x1104 + 0x20 * t, 0, 16, .ro, 0⟩
-- CTL_TASK_OFFSET at 0x1108 + 0x20 × t, 32 of them
def CTL_TASK_OFFSET_ADDR_HI (t : Nat) : Field := ⟨0x1108 + 0x20 * t, 23, 7, .ro, 0⟩
def CTL_TASK_OFFSET_OFS (t : Nat) : Field := ⟨0x1108 + 0x20 * t, 0, 23, .ro, 0⟩
-- CTL_TASK_BUDGET at 0x110C + 0x20 × t, 32 of them
def CTL_TASK_BUDGET_NS (t : Nat) : Field := ⟨0x110C + 0x20 * t, 0, 32, .ro, 0⟩
-- CTL_TASK_BUDGET_SAG at 0x1110 + 0x20 × t, 32 of them
def CTL_TASK_BUDGET_SAG_NS (t : Nat) : Field := ⟨0x1110 + 0x20 * t, 0, 32, .ro, 0⟩
-- CTL_TASK_STAT at 0x1114 + 0x20 × t, 32 of them
def CTL_TASK_STAT_RUNSTATE (t : Nat) : Field := ⟨0x1114 + 0x20 * t, 30, 2, .ro, 0⟩
def CTL_TASK_STAT_OVERRUNS (t : Nat) : Field := ⟨0x1114 + 0x20 * t, 26, 3, .ro, 0⟩
def CTL_TASK_STAT_OVERRUN_TOTAL (t : Nat) : Field := ⟨0x1114 + 0x20 * t, 0, 16, .ro, 0⟩
-- CTL_TASK_EXEC_MAX at 0x1118 + 0x20 × t, 32 of them
def CTL_TASK_EXEC_MAX_NS (t : Nat) : Field := ⟨0x1118 + 0x20 * t, 0, 32, .rc, 0⟩
-- CTL_TASK_EXEC_LAST at 0x111C + 0x20 × t, 32 of them
def CTL_TASK_EXEC_LAST_NS (t : Nat) : Field := ⟨0x111C + 0x20 * t, 0, 32, .ro, 0⟩
-- CTL_GRAFT_STATUS at 0x1020
def CTL_GRAFT_STATUS_RING : Field := ⟨0x1020, 24, 8, .ro, 0⟩
def CTL_GRAFT_STATUS_KIND : Field := ⟨0x1020, 16, 2, .ro, 0⟩
def CTL_GRAFT_STATUS_REVERT_KEPT : Field := ⟨0x1020, 15, 1, .ro, 0⟩
def CTL_GRAFT_STATUS_REVERSIBLE : Field := ⟨0x1020, 14, 1, .ro, 0⟩
def CTL_GRAFT_STATUS_STATE : Field := ⟨0x1020, 0, 3, .ro, 0⟩
-- CTL_GRAFT_GEN at 0x1024
def CTL_GRAFT_GEN_GEN : Field := ⟨0x1024, 0, 32, .ro, 0⟩
-- CTL_GRAFT_ID at 0x1028, 64 bits
def CTL_GRAFT_ID_ID : Field := ⟨0x1028, 0, 64, .ro, 0⟩
-- CTL_GRAFT_AFFECTED at 0x1030
def CTL_GRAFT_AFFECTED_TASK : Field := ⟨0x1030, 0, 32, .ro, 0⟩
-- CTL_GRAFT_SWITCH at 0x1034
def CTL_GRAFT_SWITCH_NS : Field := ⟨0x1034, 0, 20, .ro, 0⟩
-- TRL_STATUS at 0x2000
def TRL_STATUS_LOST : Field := ⟨0x2000, 16, 16, .ro, 0⟩
def TRL_STATUS_COAST : Field := ⟨0x2000, 0, 16, .ro, 0⟩
-- TRL_EVENTS at 0x2004
def TRL_EVENTS_QUEUED : Field := ⟨0x2004, 2, 1, .w1c, 0⟩
def TRL_EVENTS_LATE : Field := ⟨0x2004, 1, 1, .w1c, 0⟩
def TRL_EVENTS_LARGE_STEP : Field := ⟨0x2004, 0, 1, .w1c, 0⟩
-- TRL_MOVE_THRESHOLD at 0x2008
def TRL_MOVE_THRESHOLD_COUNTS : Field := ⟨0x2008, 0, 32, .ro, 429⟩
-- TRL_OUT at 0x200C
def TRL_OUT_LEVEL : Field := ⟨0x200C, 16, 16, .ro, 0⟩
def TRL_OUT_OWNED : Field := ⟨0x200C, 0, 16, .ro, 0⟩
-- TRL_CAL at 0x2010
def TRL_CAL_RISE_DONE : Field := ⟨0x2010, 16, 16, .ro, 0⟩
def TRL_CAL_FALL_DONE : Field := ⟨0x2010, 0, 16, .ro, 0⟩
-- TRL_AXIS_CFG at 0x2100 + 0x40 × k, 16 of them
def TRL_AXIS_CFG_ENABLE (k : Nat) : Field := ⟨0x2100 + 0x40 * k, 31, 1, .ro, 0⟩
def TRL_AXIS_CFG_LINE (k : Nat) : Field := ⟨0x2100 + 0x40 * k, 30, 1, .ro, 0⟩
def TRL_AXIS_CFG_JUMP_ACCEPT (k : Nat) : Field := ⟨0x2100 + 0x40 * k, 29, 1, .ro, 0⟩
def TRL_AXIS_CFG_LOST_OUT (k : Nat) : Field := ⟨0x2100 + 0x40 * k, 28, 1, .ro, 0⟩
def TRL_AXIS_CFG_MASTER (k : Nat) : Field := ⟨0x2100 + 0x40 * k, 24, 4, .ro, 0⟩
def TRL_AXIS_CFG_ENC (k : Nat) : Field := ⟨0x2100 + 0x40 * k, 22, 2, .ro, 0⟩
def TRL_AXIS_CFG_Z_HOME (k : Nat) : Field := ⟨0x2100 + 0x40 * k, 21, 1, .ro, 0⟩
def TRL_AXIS_CFG_HSCALE (k : Nat) : Field := ⟨0x2100 + 0x40 * k, 16, 5, .ro, 0⟩
def TRL_AXIS_CFG_STREAM (k : Nat) : Field := ⟨0x2100 + 0x40 * k, 8, 8, .ro, 0⟩
def TRL_AXIS_CFG_SOURCE (k : Nat) : Field := ⟨0x2100 + 0x40 * k, 0, 3, .ro, 0⟩
-- TRL_AXIS_STATUS at 0x2104 + 0x40 × k, 16 of them
def TRL_AXIS_STATUS_STATE (k : Nat) : Field := ⟨0x2104 + 0x40 * k, 30, 2, .ro, 0⟩
def TRL_AXIS_STATUS_REVERSE (k : Nat) : Field := ⟨0x2104 + 0x40 * k, 29, 1, .ro, 0⟩
def TRL_AXIS_STATUS_ACCEPTED (k : Nat) : Field := ⟨0x2104 + 0x40 * k, 0, 16, .ro, 0⟩
-- TRL_AXIS_TIMING at 0x2108 + 0x40 × k, 16 of them
def TRL_AXIS_TIMING_COAST_LIMIT (k : Nat) : Field := ⟨0x2108 + 0x40 * k, 16, 16, .ro, 20⟩
def TRL_AXIS_TIMING_SAMPLE_TIMEOUT (k : Nat) : Field := ⟨0x2108 + 0x40 * k, 0, 16, .ro, 3000⟩
-- TRL_AXIS_STEP_LIMIT at 0x210C + 0x40 × k, 16 of them
def TRL_AXIS_STEP_LIMIT_COUNTS (k : Nat) : Field := ⟨0x210C + 0x40 * k, 0, 32, .ro, 0x00100000⟩
-- TRL_AXIS_ANGLE at 0x2110 + 0x40 × k, 16 of them, 64 bits
def TRL_AXIS_ANGLE_ANGLE (k : Nat) : Field := ⟨0x2110 + 0x40 * k, 0, 64, .ro, 0⟩
-- TRL_AXIS_VEL at 0x2118 + 0x40 × k, 16 of them, 64 bits
def TRL_AXIS_VEL_VELOCITY (k : Nat) : Field := ⟨0x2118 + 0x40 * k, 0, 64, .ro, 0⟩
-- TRL_AXIS_TRIM at 0x2120 + 0x40 × k, 16 of them
def TRL_AXIS_TRIM_TRIM (k : Nat) : Field := ⟨0x2120 + 0x40 * k, 0, 32, .ro, 0⟩
-- TRL_AXIS_TRIM_SRC at 0x2124 + 0x40 × k, 16 of them
def TRL_AXIS_TRIM_SRC_EN (k : Nat) : Field := ⟨0x2124 + 0x40 * k, 31, 1, .ro, 0⟩
def TRL_AXIS_TRIM_SRC_ADDR (k : Nat) : Field := ⟨0x2124 + 0x40 * k, 0, 18, .ro, 0⟩
-- TRL_AXIS_RATIO_NUM at 0x2128 + 0x40 × k, 16 of them
def TRL_AXIS_RATIO_NUM_NUM (k : Nat) : Field := ⟨0x2128 + 0x40 * k, 0, 32, .ro, 0⟩
-- TRL_AXIS_RATIO_DEN at 0x212C + 0x40 × k, 16 of them
def TRL_AXIS_RATIO_DEN_DEN (k : Nat) : Field := ⟨0x212C + 0x40 * k, 0, 32, .ro, 0⟩
-- TRL_AXIS_EVENTS at 0x2130 + 0x40 × k, 16 of them
def TRL_AXIS_EVENTS_TRIM_LATE (k : Nat) : Field := ⟨0x2130 + 0x40 * k, 9, 1, .w1c, 0⟩
def TRL_AXIS_EVENTS_RANGE (k : Nat) : Field := ⟨0x2130 + 0x40 * k, 8, 1, .w1c, 0⟩
def TRL_AXIS_EVENTS_QUAD_ERR (k : Nat) : Field := ⟨0x2130 + 0x40 * k, 7, 1, .w1c, 0⟩
def TRL_AXIS_EVENTS_JUMP_REJ (k : Nat) : Field := ⟨0x2130 + 0x40 * k, 6, 1, .w1c, 0⟩
def TRL_AXIS_EVENTS_STALE (k : Nat) : Field := ⟨0x2130 + 0x40 * k, 5, 1, .w1c, 0⟩
def TRL_AXIS_EVENTS_ORDER (k : Nat) : Field := ⟨0x2130 + 0x40 * k, 4, 1, .w1c, 0⟩
def TRL_AXIS_EVENTS_SMALL_STEP (k : Nat) : Field := ⟨0x2130 + 0x40 * k, 3, 1, .w1c, 0⟩
def TRL_AXIS_EVENTS_LARGE_STEP (k : Nat) : Field := ⟨0x2130 + 0x40 * k, 2, 1, .w1c, 0⟩
def TRL_AXIS_EVENTS_LOST_ENTERED (k : Nat) : Field := ⟨0x2130 + 0x40 * k, 1, 1, .w1c, 0⟩
def TRL_AXIS_EVENTS_COAST_ENTERED (k : Nat) : Field := ⟨0x2130 + 0x40 * k, 0, 1, .w1c, 0⟩
-- TRL_CAP_CFG at 0x2600 + 0x10 × c, 16 of them
def TRL_CAP_CFG_ENABLE (c : Nat) : Field := ⟨0x2600 + 0x10 * c, 31, 1, .ro, 0⟩
def TRL_CAP_CFG_WINDOW (c : Nat) : Field := ⟨0x2600 + 0x10 * c, 30, 1, .ro, 0⟩
def TRL_CAP_CFG_EDGE (c : Nat) : Field := ⟨0x2600 + 0x10 * c, 28, 2, .ro, 0⟩
def TRL_CAP_CFG_AXIS (c : Nat) : Field := ⟨0x2600 + 0x10 * c, 24, 4, .ro, 0⟩
def TRL_CAP_CFG_CHANNEL (c : Nat) : Field := ⟨0x2600 + 0x10 * c, 20, 4, .ro, 0⟩
def TRL_CAP_CFG_DEPTH (c : Nat) : Field := ⟨0x2600 + 0x10 * c, 18, 2, .ro, 0⟩
def TRL_CAP_CFG_ADDR (c : Nat) : Field := ⟨0x2600 + 0x10 * c, 0, 17, .ro, 0⟩
-- TRL_CAP_WIN at 0x2604 + 0x10 × c, 16 of them
def TRL_CAP_WIN_START (c : Nat) : Field := ⟨0x2604 + 0x10 * c, 16, 16, .ro, 0⟩
def TRL_CAP_WIN_END (c : Nat) : Field := ⟨0x2604 + 0x10 * c, 0, 16, .ro, 0⟩
-- TRL_CAP_STAT at 0x2608 + 0x10 × c, 16 of them
def TRL_CAP_STAT_SEQ (c : Nat) : Field := ⟨0x2608 + 0x10 * c, 16, 16, .ro, 0⟩
def TRL_CAP_STAT_MISSED (c : Nat) : Field := ⟨0x2608 + 0x10 * c, 8, 8, .rc, 0⟩
def TRL_CAP_STAT_TOO_CLOSE (c : Nat) : Field := ⟨0x2608 + 0x10 * c, 0, 8, .rc, 0⟩
-- TRL_OUT_DELAY at 0x2700 + 0x4 × n, 16 of them
def TRL_OUT_DELAY_RISE (n : Nat) : Field := ⟨0x2700 + 0x4 * n, 16, 16, .ro, 352⟩
def TRL_OUT_DELAY_FALL (n : Nat) : Field := ⟨0x2700 + 0x4 * n, 0, 16, .ro, 352⟩
-- NET_STATUS at 0x3000
def NET_STATUS_CYCLE_RUN : Field := ⟨0x3000, 31, 1, .ro, 0⟩
def NET_STATUS_PLANT_SYNC : Field := ⟨0x3000, 30, 1, .ro, 0⟩
def NET_STATUS_PLANT_PORT : Field := ⟨0x3000, 28, 2, .ro, 0⟩
def NET_STATUS_SVC_LINK : Field := ⟨0x3000, 20, 1, .ro, 0⟩
def NET_STATUS_PREEMPT : Field := ⟨0x3000, 16, 4, .ro, 0⟩
def NET_STATUS_LINK : Field := ⟨0x3000, 0, 4, .ro, 0⟩
-- NET_EVENTS at 0x3004
def NET_EVENTS_LINK_CHANGE : Field := ⟨0x3004, 11, 1, .w1c, 0⟩
def NET_EVENTS_ALIGN_STEP : Field := ⟨0x3004, 10, 1, .w1c, 0⟩
def NET_EVENTS_NIC_DROP : Field := ⟨0x3004, 9, 1, .w1c, 0⟩
def NET_EVENTS_PREEMPT_FAIL : Field := ⟨0x3004, 8, 1, .w1c, 0⟩
def NET_EVENTS_TX_LATE : Field := ⟨0x3004, 7, 1, .w1c, 0⟩
def NET_EVENTS_GM_CHANGE : Field := ⟨0x3004, 6, 1, .w1c, 0⟩
def NET_EVENTS_PLANT_LOST : Field := ⟨0x3004, 5, 1, .w1c, 0⟩
def NET_EVENTS_FOREIGN_GM : Field := ⟨0x3004, 4, 1, .w1c, 0⟩
def NET_EVENTS_EPOCH_HIGHER : Field := ⟨0x3004, 3, 1, .w1c, 0⟩
def NET_EVENTS_HDR_ERR : Field := ⟨0x3004, 2, 1, .w1c, 0⟩
def NET_EVENTS_LOST : Field := ⟨0x3004, 1, 1, .w1c, 0⟩
def NET_EVENTS_LATE : Field := ⟨0x3004, 0, 1, .w1c, 0⟩
-- NET_CYCLE_CFG at 0x3008
def NET_CYCLE_CFG_RUN : Field := ⟨0x3008, 31, 1, .ro, 0⟩
def NET_CYCLE_CFG_TSYNC : Field := ⟨0x3008, 0, 3, .ro, 1⟩
-- NET_CYCLE_PHASE at 0x300C
def NET_CYCLE_PHASE_NS : Field := ⟨0x300C, 0, 20, .ro, 0⟩
-- NET_RX_CUTOFF at 0x3010
def NET_RX_CUTOFF_NS : Field := ⟨0x3010, 0, 20, .ro, 2000⟩
-- NET_TX_OPEN at 0x3014
def NET_TX_OPEN_NS : Field := ⟨0x3014, 0, 20, .ro, 58500⟩
-- NET_DRV_TIMING at 0x3018 + 0x4 × p, 2 of them
def NET_DRV_TIMING_PATH_MAX (p : Nat) : Field := ⟨0x3018 + 0x4 * p, 16, 16, .ro, 0⟩
def NET_DRV_TIMING_FB_OFS (p : Nat) : Field := ⟨0x3018 + 0x4 * p, 0, 16, .ro, 0⟩
-- NET_PLANT_WIN at 0x3020
def NET_PLANT_WIN_PLANT_OPEN : Field := ⟨0x3020, 16, 16, .ro, 0⟩
def NET_PLANT_WIN_PLANT_LEN : Field := ⟨0x3020, 0, 16, .ro, 0⟩
-- NET_FLANY_CFG at 0x3024
def NET_FLANY_CFG_ETHERTYPE : Field := ⟨0x3024, 16, 16, .ro, 0x88B5⟩
def NET_FLANY_CFG_CTRL_ADDR : Field := ⟨0x3024, 0, 16, .ro, 0x0001⟩
-- NET_PAIR_ID at 0x3028
def NET_PAIR_ID_COORD_ADDR : Field := ⟨0x3028, 16, 16, .ro, 0⟩
def NET_PAIR_ID_PAIR_ID : Field := ⟨0x3028, 0, 16, .ro, 0⟩
-- NET_PLANT_GAPS at 0x302C
def NET_PLANT_GAPS_COUNT : Field := ⟨0x302C, 0, 32, .rc, 0⟩
-- NET_TIME at 0x3030, 64 bits
def NET_TIME_TIME : Field := ⟨0x3030, 0, 64, .ro, 0⟩
-- NET_PLANT_OFFSET at 0x3038, 64 bits
def NET_PLANT_OFFSET_OFFSET : Field := ⟨0x3038, 0, 64, .ro, 0⟩
-- NET_PTP_CFG at 0x3040
def NET_PTP_CFG_ALIGN : Field := ⟨0x3040, 31, 1, .ro, 1⟩
def NET_PTP_CFG_DRV_DOMAIN : Field := ⟨0x3040, 24, 7, .ro, 0⟩
def NET_PTP_CFG_PLT_DOMAIN : Field := ⟨0x3040, 16, 7, .ro, 0⟩
def NET_PTP_CFG_PRIO1 : Field := ⟨0x3040, 8, 8, .ro, 8⟩
def NET_PTP_CFG_SYNC_INTERVAL : Field := ⟨0x3040, 5, 3, .ro, 3⟩
def NET_PTP_CFG_PLANT_EN : Field := ⟨0x3040, 4, 1, .ro, 0⟩
-- NET_PTP_SYNC_LIMIT at 0x3044
def NET_PTP_SYNC_LIMIT_NS : Field := ⟨0x3044, 0, 32, .ro, 1000⟩
-- NET_PTP_FREQ at 0x3048
def NET_PTP_FREQ_PPB : Field := ⟨0x3048, 0, 32, .ro, 0⟩
-- NET_GM_CHANGES at 0x304C
def NET_GM_CHANGES_COUNT : Field := ⟨0x304C, 0, 32, .ro, 0⟩
-- NET_PTP_CLKID at 0x3050, 64 bits
def NET_PTP_CLKID_CLKID : Field := ⟨0x3050, 0, 64, .ro, (Config.baseMac.toNat * 65536)⟩
-- NET_PORT_CFG at 0x3100 + 0x40 × p, 5 of them
def NET_PORT_CFG_ENABLE (p : Nat) : Field := ⟨0x3100 + 0x40 * p, 31, 1, .ro, 0⟩
def NET_PORT_CFG_PREEMPT_EN (p : Nat) : Field := ⟨0x3100 + 0x40 * p, 30, 1, .ro, 0⟩
def NET_PORT_CFG_MODE (p : Nat) : Field := ⟨0x3100 + 0x40 * p, 24, 4, .ro, (if p < 2 then 0 else if p < 4 then 1 else 3)⟩
def NET_PORT_CFG_RX_DLY (p : Nat) : Field := ⟨0x3100 + 0x40 * p, 8, 8, .ro, 0⟩
def NET_PORT_CFG_TX_DLY (p : Nat) : Field := ⟨0x3100 + 0x40 * p, 0, 8, .ro, 0⟩
-- NET_PORT_RX_FRAMES at 0x3104 + 0x40 × p, 5 of them
def NET_PORT_RX_FRAMES_COUNT (p : Nat) : Field := ⟨0x3104 + 0x40 * p, 0, 32, .ro, 0⟩
-- NET_PORT_TX_FRAMES at 0x3108 + 0x40 × p, 5 of them
def NET_PORT_TX_FRAMES_COUNT (p : Nat) : Field := ⟨0x3108 + 0x40 * p, 0, 32, .ro, 0⟩
-- NET_PORT_RX_ERR at 0x310C + 0x40 × p, 5 of them
def NET_PORT_RX_ERR_COUNT (p : Nat) : Field := ⟨0x310C + 0x40 * p, 0, 32, .rc, 0⟩
-- NET_PORT_LATE at 0x3110 + 0x40 × p, 5 of them
def NET_PORT_LATE_COUNT (p : Nat) : Field := ⟨0x3110 + 0x40 * p, 0, 32, .rc, 0⟩
-- NET_PORT_SEQ_ERR at 0x3114 + 0x40 × p, 5 of them
def NET_PORT_SEQ_ERR_STALE (p : Nat) : Field := ⟨0x3114 + 0x40 * p, 16, 16, .rc, 0⟩
def NET_PORT_SEQ_ERR_DUP (p : Nat) : Field := ⟨0x3114 + 0x40 * p, 0, 16, .rc, 0⟩
-- NET_PORT_FORM_ERR at 0x3118 + 0x40 × p, 5 of them
def NET_PORT_FORM_ERR_HDR_ERR (p : Nat) : Field := ⟨0x3118 + 0x40 * p, 16, 16, .rc, 0⟩
def NET_PORT_FORM_ERR_UNMATCHED (p : Nat) : Field := ⟨0x3118 + 0x40 * p, 0, 16, .rc, 0⟩
-- NET_PORT_MISC_ERR at 0x311C + 0x40 × p, 5 of them
def NET_PORT_MISC_ERR_EPOCH_HIGH (p : Nat) : Field := ⟨0x311C + 0x40 * p, 24, 8, .rc, 0⟩
def NET_PORT_MISC_ERR_FUTURE (p : Nat) : Field := ⟨0x311C + 0x40 * p, 16, 8, .rc, 0⟩
def NET_PORT_MISC_ERR_SIZE_ERR (p : Nat) : Field := ⟨0x311C + 0x40 * p, 0, 16, .rc, 0⟩
-- NET_PORT_FRER_ELIM at 0x3120 + 0x40 × p, 5 of them
def NET_PORT_FRER_ELIM_COUNT (p : Nat) : Field := ⟨0x3120 + 0x40 * p, 0, 32, .ro, 0⟩
-- NET_PORT_NIC_DROP at 0x3124 + 0x40 × p, 5 of them
def NET_PORT_NIC_DROP_COUNT (p : Nat) : Field := ⟨0x3124 + 0x40 * p, 0, 32, .rc, 0⟩
-- NET_PORT_QCI_DROP at 0x3128 + 0x40 × p, 5 of them
def NET_PORT_QCI_DROP_COUNT (p : Nat) : Field := ⟨0x3128 + 0x40 * p, 0, 32, .rc, 0⟩
-- NET_PORT_METER at 0x312C + 0x40 × p, 4 of them: SVC has none (R186)
def NET_PORT_METER_CIR (p : Nat) : Field := ⟨0x312C + 0x40 * p, 16, 16, .ro, 100⟩
def NET_PORT_METER_CBS (p : Nat) : Field := ⟨0x312C + 0x40 * p, 0, 16, .ro, 64⟩
-- NET_TPL_MISS at 0x3280 + 0x4 × w, 8 of them
def NET_TPL_MISS_MISS (w : Nat) : Field := ⟨0x3280 + 0x4 * w, 0, 32, .ro, 0⟩
-- NET_TPL_COUNT at 0x32A0
def NET_TPL_COUNT_TX : Field := ⟨0x32A0, 16, 9, .ro, 0⟩
def NET_TPL_COUNT_RX : Field := ⟨0x32A0, 0, 9, .ro, 0⟩
-- RED_STATUS at 0x4000
def RED_STATUS_PEER_SEEN : Field := ⟨0x4000, 31, 1, .ro, 0⟩
def RED_STATUS_PATH_A : Field := ⟨0x4000, 30, 1, .ro, 0⟩
def RED_STATUS_PATH_B : Field := ⟨0x4000, 29, 1, .ro, 0⟩
def RED_STATUS_LANE1 : Field := ⟨0x4000, 28, 1, .ro, 0⟩
def RED_STATUS_LANE0 : Field := ⟨0x4000, 27, 1, .ro, 0⟩
def RED_STATUS_FIT : Field := ⟨0x4000, 26, 1, .ro, 0⟩
def RED_STATUS_INCOMPAT : Field := ⟨0x4000, 25, 1, .ro, 0⟩
def RED_STATUS_PARKED : Field := ⟨0x4000, 24, 1, .ro, 0⟩
def RED_STATUS_UNFIT_REASON : Field := ⟨0x4000, 16, 8, .ro, 0⟩
def RED_STATUS_SIDE : Field := ⟨0x4000, 3, 1, .ro, Config.pairSel⟩
def RED_STATUS_PAIR_STATE : Field := ⟨0x4000, 0, 3, .ro, 0⟩
-- RED_EVENTS at 0x4004
def RED_EVENTS_LAG : Field := ⟨0x4004, 11, 1, .w1c, 0⟩
def RED_EVENTS_XFER_FAIL : Field := ⟨0x4004, 10, 1, .w1c, 0⟩
def RED_EVENTS_PEER_LOST : Field := ⟨0x4004, 9, 1, .w1c, 0⟩
def RED_EVENTS_HANDOVER : Field := ⟨0x4004, 8, 1, .w1c, 0⟩
def RED_EVENTS_EPOCH_ADOPT : Field := ⟨0x4004, 7, 1, .w1c, 0⟩
def RED_EVENTS_LANE_DOWN : Field := ⟨0x4004, 6, 1, .w1c, 0⟩
def RED_EVENTS_PATH_B_LOST : Field := ⟨0x4004, 5, 1, .w1c, 0⟩
def RED_EVENTS_PATH_A_LOST : Field := ⟨0x4004, 4, 1, .w1c, 0⟩
def RED_EVENTS_DIGEST_MISMATCH : Field := ⟨0x4004, 3, 1, .w1c, 0⟩
def RED_EVENTS_UNFIT : Field := ⟨0x4004, 2, 1, .w1c, 0⟩
def RED_EVENTS_YIELD : Field := ⟨0x4004, 1, 1, .w1c, 0⟩
def RED_EVENTS_TAKEOVER : Field := ⟨0x4004, 0, 1, .w1c, 0⟩
-- RED_CFG at 0x4008
def RED_CFG_PAIR_EN : Field := ⟨0x4008, 31, 1, .ro, 0⟩
def RED_CFG_AUTO_RESYNC : Field := ⟨0x4008, 30, 1, .ro, 1⟩
def RED_CFG_PATHB_P1 : Field := ⟨0x4008, 29, 1, .ro, 1⟩
def RED_CFG_PATHB_P0 : Field := ⟨0x4008, 28, 1, .ro, 1⟩
def RED_CFG_PAIR_WAIT : Field := ⟨0x4008, 0, 16, .ro, 5000⟩
-- RED_PEER_MAC at 0x400C, 64 bits
def RED_PEER_MAC_MAC : Field := ⟨0x400C, 0, 48, .ro, 0⟩
-- RED_EPOCH at 0x4014
def RED_EPOCH_EPOCH : Field := ⟨0x4014, 0, 32, .ro, 0⟩
-- RED_EPOCH_SEEN at 0x4018
def RED_EPOCH_SEEN_EPOCH : Field := ⟨0x4018, 0, 32, .ro, 0⟩
-- RED_COUNTS at 0x401C
def RED_COUNTS_TAKEOVERS : Field := ⟨0x401C, 16, 16, .ro, 0⟩
def RED_COUNTS_YIELDS : Field := ⟨0x401C, 0, 16, .ro, 0⟩
-- RED_LAG at 0x4020
def RED_LAG_NS : Field := ⟨0x4020, 0, 32, .rc, 0⟩
-- RED_MISMATCH at 0x4024
def RED_MISMATCH_VALID : Field := ⟨0x4024, 31, 1, .w1c, 0⟩
def RED_MISMATCH_TASK : Field := ⟨0x4024, 24, 5, .ro, 0⟩
def RED_MISMATCH_INSTANCE : Field := ⟨0x4024, 0, 24, .ro, 0⟩
-- RED_HB_MISS at 0x4028
def RED_HB_MISS_PATH_B : Field := ⟨0x4028, 16, 16, .rc, 0⟩
def RED_HB_MISS_PATH_A : Field := ⟨0x4028, 0, 16, .rc, 0⟩
-- RED_XFER at 0x402C
def RED_XFER_ROUND : Field := ⟨0x402C, 28, 4, .ro, 0⟩
def RED_XFER_RESULT : Field := ⟨0x402C, 26, 2, .ro, 0⟩
def RED_XFER_KIB : Field := ⟨0x402C, 0, 24, .ro, 0⟩
-- RED_COMPAT at 0x4030
def RED_COMPAT_PEER_FMT : Field := ⟨0x4030, 24, 8, .ro, 0⟩
def RED_COMPAT_WIN_MAX : Field := ⟨0x4030, 16, 8, .ro, 0⟩
def RED_COMPAT_WIN_MIN : Field := ⟨0x4030, 8, 8, .ro, 0⟩
def RED_COMPAT_OWN_FMT : Field := ⟨0x4030, 0, 8, .ro, 0⟩
-- RED_HEDGE_ERR at 0x4034
def RED_HEDGE_ERR_DISCARDED : Field := ⟨0x4034, 16, 16, .rc, 0⟩
def RED_HEDGE_ERR_REPEATS : Field := ⟨0x4034, 0, 16, .rc, 0⟩
-- RED_TAKEOVER_TIME at 0x4038, 64 bits
def RED_TAKEOVER_TIME_TIME : Field := ⟨0x4038, 0, 64, .ro, 0⟩
-- FIO_STATUS at 0x5000
def FIO_STATUS_LINK_UP : Field := ⟨0x5000, 31, 1, .ro, 0⟩
def FIO_STATUS_CONFIGURED : Field := ⟨0x5000, 30, 1, .ro, 0⟩
def FIO_STATUS_HOLDING : Field := ⟨0x5000, 29, 1, .ro, 0⟩
def FIO_STATUS_SAFE_LATCHED : Field := ⟨0x5000, 28, 1, .ro, 0⟩
def FIO_STATUS_GROUP_OK : Field := ⟨0x5000, 0, 4, .ro, 0⟩
-- FIO_EVENTS at 0x5004
def FIO_EVENTS_CRC_ERR : Field := ⟨0x5004, 6, 1, .w1c, 0⟩
def FIO_EVENTS_GRP_OV : Field := ⟨0x5004, 5, 1, .w1c, 0⟩
def FIO_EVENTS_GRP_WARN : Field := ⟨0x5004, 4, 1, .w1c, 0⟩
def FIO_EVENTS_GRP_FAIL : Field := ⟨0x5004, 3, 1, .w1c, 0⟩
def FIO_EVENTS_CH_FAULT : Field := ⟨0x5004, 2, 1, .w1c, 0⟩
def FIO_EVENTS_TIMEOUT_SAFE : Field := ⟨0x5004, 1, 1, .w1c, 0⟩
def FIO_EVENTS_LINK_DOWN : Field := ⟨0x5004, 0, 1, .w1c, 0⟩
-- FIO_LINK_CFG at 0x5008
def FIO_LINK_CFG_IN_OFS : Field := ⟨0x5008, 0, 16, .ro, 200⟩
-- FIO_MAP_IN at 0x500C
def FIO_MAP_IN_EN : Field := ⟨0x500C, 31, 1, .ro, 0⟩
def FIO_MAP_IN_ADDR : Field := ⟨0x500C, 0, 17, .ro, 0⟩
-- FIO_MAP_OUT at 0x5010
def FIO_MAP_OUT_EN : Field := ⟨0x5010, 31, 1, .ro, 0⟩
def FIO_MAP_OUT_ADDR : Field := ⟨0x5010, 0, 18, .ro, 0⟩
-- FIO_LINK_ERR at 0x5014
def FIO_LINK_ERR_CRC : Field := ⟨0x5014, 16, 16, .rc, 0⟩
def FIO_LINK_ERR_MISSED : Field := ⟨0x5014, 0, 16, .rc, 0⟩
-- FIO_INPUT at 0x5018
def FIO_INPUT_STATE : Field := ⟨0x5018, 0, 32, .ro, 0⟩
-- FIO_OUTPUT at 0x501C
def FIO_OUTPUT_LEVEL : Field := ⟨0x501C, 0, 32, .ro, 0⟩
-- FIO_GRP_CFG at 0x5040 + 0x8 × g, 4 of them
def FIO_GRP_CFG_SAFE_TIMEOUT (g : Nat) : Field := ⟨0x5040 + 0x8 * g, 0, 16, .ro, 50⟩
-- FIO_GRP_STAT at 0x5044 + 0x8 × g, 4 of them
def FIO_GRP_STAT_OK (g : Nat) : Field := ⟨0x5044 + 0x8 * g, 31, 1, .ro, 0⟩
def FIO_GRP_STAT_WARN (g : Nat) : Field := ⟨0x5044 + 0x8 * g, 30, 1, .ro, 0⟩
def FIO_GRP_STAT_OV (g : Nat) : Field := ⟨0x5044 + 0x8 * g, 29, 1, .ro, 0⟩
def FIO_GRP_STAT_SAFE (g : Nat) : Field := ⟨0x5044 + 0x8 * g, 28, 1, .ro, 0⟩
def FIO_GRP_STAT_LP_MV (g : Nat) : Field := ⟨0x5044 + 0x8 * g, 0, 16, .ro, 0⟩
-- FIO_CH_CFG at 0x5100 + 0x10 × n, 32 of them
def FIO_CH_CFG_MODE (n : Nat) : Field := ⟨0x5100 + 0x10 * n, 29, 3, .ro, 0⟩
def FIO_CH_CFG_TYPE (n : Nat) : Field := ⟨0x5100 + 0x10 * n, 28, 1, .ro, 0⟩
def FIO_CH_CFG_OWNER (n : Nat) : Field := ⟨0x5100 + 0x10 * n, 27, 1, .ro, 0⟩
def FIO_CH_CFG_GANG (n : Nat) : Field := ⟨0x5100 + 0x10 * n, 25, 2, .ro, 0⟩
def FIO_CH_CFG_SAFE (n : Nat) : Field := ⟨0x5100 + 0x10 * n, 24, 1, .ro, 0⟩
def FIO_CH_CFG_OR_MODE (n : Nat) : Field := ⟨0x5100 + 0x10 * n, 23, 1, .ro, 0⟩
def FIO_CH_CFG_STRETCH (n : Nat) : Field := ⟨0x5100 + 0x10 * n, 22, 1, .ro, 0⟩
def FIO_CH_CFG_OPEN_DET (n : Nat) : Field := ⟨0x5100 + 0x10 * n, 21, 1, .ro, 0⟩
def FIO_CH_CFG_OVL_LATCH (n : Nat) : Field := ⟨0x5100 + 0x10 * n, 20, 1, .ro, 0⟩
def FIO_CH_CFG_DEBOUNCE (n : Nat) : Field := ⟨0x5100 + 0x10 * n, 0, 16, .ro, 0⟩
-- FIO_CH_STAT at 0x5104 + 0x10 × n, 32 of them
def FIO_CH_STAT_STATE (n : Nat) : Field := ⟨0x5104 + 0x10 * n, 31, 1, .ro, 0⟩
def FIO_CH_STAT_CMD (n : Nat) : Field := ⟨0x5104 + 0x10 * n, 30, 1, .ro, 0⟩
def FIO_CH_STAT_LATCHED (n : Nat) : Field := ⟨0x5104 + 0x10 * n, 29, 1, .ro, 0⟩
def FIO_CH_STAT_SHORT (n : Nat) : Field := ⟨0x5104 + 0x10 * n, 6, 1, .w1c, 0⟩
def FIO_CH_STAT_EXT_HIGH (n : Nat) : Field := ⟨0x5104 + 0x10 * n, 5, 1, .w1c, 0⟩
def FIO_CH_STAT_THERMAL (n : Nat) : Field := ⟨0x5104 + 0x10 * n, 4, 1, .w1c, 0⟩
def FIO_CH_STAT_OVERLOAD (n : Nat) : Field := ⟨0x5104 + 0x10 * n, 3, 1, .w1c, 0⟩
def FIO_CH_STAT_OPEN_LOAD (n : Nat) : Field := ⟨0x5104 + 0x10 * n, 2, 1, .w1c, 0⟩
def FIO_CH_STAT_OPEN_WIRE (n : Nat) : Field := ⟨0x5104 + 0x10 * n, 1, 1, .w1c, 0⟩
-- FIO_CH_FAULTS at 0x5108 + 0x10 × n, 32 of them
def FIO_CH_FAULTS_COUNT (n : Nat) : Field := ⟨0x5108 + 0x10 * n, 0, 16, .rc, 0⟩
-- FIO_ENC_CFG at 0x5300 + 0x4 × e, 4 of them
def FIO_ENC_CFG_ENABLE (e : Nat) : Field := ⟨0x5300 + 0x4 * e, 31, 1, .ro, 0⟩
def FIO_ENC_CFG_Z_EN (e : Nat) : Field := ⟨0x5300 + 0x4 * e, 30, 1, .ro, 0⟩
def FIO_ENC_CFG_Z_CH (e : Nat) : Field := ⟨0x5300 + 0x4 * e, 8, 4, .ro, 0⟩
def FIO_ENC_CFG_B_CH (e : Nat) : Field := ⟨0x5300 + 0x4 * e, 4, 4, .ro, 0⟩
def FIO_ENC_CFG_A_CH (e : Nat) : Field := ⟨0x5300 + 0x4 * e, 0, 4, .ro, 0⟩
-- LPT_LT_CFG at 0x5800 + 0x40 × x, 2 of them
def LPT_LT_CFG_EN (x : Nat) : Field := ⟨0x5800 + 0x40 * x, 31, 1, .ro, 0⟩
def LPT_LT_CFG_HART_EN (x : Nat) : Field := ⟨0x5800 + 0x40 * x, 30, 1, .ro, 0⟩
def LPT_LT_CFG_LCM (x : Nat) : Field := ⟨0x5800 + 0x40 * x, 29, 1, .ro, 1⟩
def LPT_LT_CFG_PREAMBLES (x : Nat) : Field := ⟨0x5800 + 0x40 * x, 24, 5, .ro, 5⟩
def LPT_LT_CFG_POLL_ADDR (x : Nat) : Field := ⟨0x5800 + 0x40 * x, 18, 6, .ro, 0⟩
def LPT_LT_CFG_SAFE_TIMEOUT (x : Nat) : Field := ⟨0x5800 + 0x40 * x, 0, 16, .ro, 50⟩
-- LPT_LT_MAP at 0x5804 + 0x40 × x, 2 of them
def LPT_LT_MAP_IN_EN (x : Nat) : Field := ⟨0x5804 + 0x40 * x, 31, 1, .ro, 0⟩
def LPT_LT_MAP_OUT_EN (x : Nat) : Field := ⟨0x5804 + 0x40 * x, 30, 1, .ro, 0⟩
def LPT_LT_MAP_IN_ADDR (x : Nat) : Field := ⟨0x5804 + 0x40 * x, 16, 13, .ro, 0⟩
def LPT_LT_MAP_OUT_OFS (x : Nat) : Field := ⟨0x5804 + 0x40 * x, 0, 15, .ro, 0⟩
-- LPT_LT_SAFE at 0x5808 + 0x40 × x, 2 of them
def LPT_LT_SAFE_SAFE_UA (x : Nat) : Field := ⟨0x5808 + 0x40 * x, 0, 16, .ro, 4000⟩
-- LPT_LT_TRIM_GAIN at 0x580C + 0x40 × x, 2 of them
def LPT_LT_TRIM_GAIN_GAIN (x : Nat) : Field := ⟨0x580C + 0x40 * x, 0, 32, .ro, 0x40000000⟩
-- LPT_LT_TRIM_OFFSET at 0x5810 + 0x40 × x, 2 of them
def LPT_LT_TRIM_OFFSET_OFFSET (x : Nat) : Field := ⟨0x5810 + 0x40 * x, 0, 32, .ro, 0⟩
-- LPT_LT_STAT at 0x5814 + 0x40 × x, 2 of them
def LPT_LT_STAT_LINK_UP (x : Nat) : Field := ⟨0x5814 + 0x40 * x, 31, 1, .ro, 0⟩
def LPT_LT_STAT_CONFIGURED (x : Nat) : Field := ⟨0x5814 + 0x40 * x, 30, 1, .ro, 0⟩
def LPT_LT_STAT_SAFE (x : Nat) : Field := ⟨0x5814 + 0x40 * x, 29, 1, .ro, 0⟩
def LPT_LT_STAT_HOLDING (x : Nat) : Field := ⟨0x5814 + 0x40 * x, 28, 1, .ro, 0⟩
def LPT_LT_STAT_TRIM (x : Nat) : Field := ⟨0x5814 + 0x40 * x, 27, 1, .ro, 0⟩
def LPT_LT_STAT_HART_ON (x : Nat) : Field := ⟨0x5814 + 0x40 * x, 26, 1, .ro, 0⟩
def LPT_LT_STAT_FIXED (x : Nat) : Field := ⟨0x5814 + 0x40 * x, 25, 1, .ro, 0⟩
def LPT_LT_STAT_TRIM_DEFAULT (x : Nat) : Field := ⟨0x5814 + 0x40 * x, 24, 1, .ro, 0⟩
def LPT_LT_STAT_TERM_MV (x : Nat) : Field := ⟨0x5814 + 0x40 * x, 0, 16, .ro, 0⟩
-- LPT_LT_FLAGS at 0x5818 + 0x40 × x, 2 of them
def LPT_LT_FLAGS_CRC_ERR (x : Nat) : Field := ⟨0x5818 + 0x40 * x, 6, 1, .w1c, 0⟩
def LPT_LT_FLAGS_LINK_RETURN (x : Nat) : Field := ⟨0x5818 + 0x40 * x, 5, 1, .w1c, 0⟩
def LPT_LT_FLAGS_READBACK_DEV (x : Nat) : Field := ⟨0x5818 + 0x40 * x, 4, 1, .w1c, 0⟩
def LPT_LT_FLAGS_CLAMP (x : Nat) : Field := ⟨0x5818 + 0x40 * x, 3, 1, .w1c, 0⟩
def LPT_LT_FLAGS_MISWIRE (x : Nat) : Field := ⟨0x5818 + 0x40 * x, 2, 1, .w1c, 0⟩
def LPT_LT_FLAGS_COMPLIANCE (x : Nat) : Field := ⟨0x5818 + 0x40 * x, 1, 1, .w1c, 0⟩
def LPT_LT_FLAGS_TIMEOUT_SAFE (x : Nat) : Field := ⟨0x5818 + 0x40 * x, 0, 1, .w1c, 0⟩
-- LPT_LT_CURRENT at 0x581C + 0x40 × x, 2 of them
def LPT_LT_CURRENT_NA (x : Nat) : Field := ⟨0x581C + 0x40 * x, 0, 32, .ro, 0⟩
-- LPT_LT_HART_ID at 0x5820 + 0x40 × x, 2 of them, 64 bits
def LPT_LT_HART_ID_UNIQUE (x : Nat) : Field := ⟨0x5820 + 0x40 * x, 0, 38, .ro, 0⟩
-- LPT_LT_HART_COUNT at 0x5828 + 0x40 × x, 2 of them
def LPT_LT_HART_COUNT_REQUESTS (x : Nat) : Field := ⟨0x5828 + 0x40 * x, 16, 16, .rc, 0⟩
def LPT_LT_HART_COUNT_BUSY (x : Nat) : Field := ⟨0x5828 + 0x40 * x, 0, 16, .rc, 0⟩
-- HIF_STATUS at 0x0400
def HIF_STATUS_FW_UP : Field := ⟨0x0400, 31, 1, .ro, 0⟩
def HIF_STATUS_BME : Field := ⟨0x0400, 30, 1, .ro, 0⟩
def HIF_STATUS_MSIX_EN : Field := ⟨0x0400, 29, 1, .ro, 0⟩
def HIF_STATUS_SPEED : Field := ⟨0x0400, 20, 4, .ro, 0⟩
def HIF_STATUS_WIDTH : Field := ⟨0x0400, 16, 4, .ro, 0⟩
-- HIF_EVENTS at 0x0404
def HIF_EVENTS_HOST_DMA_ERR : Field := ⟨0x0404, 7, 1, .w1c, 0⟩
def HIF_EVENTS_PUBLISH_SKIP : Field := ⟨0x0404, 6, 1, .w1c, 0⟩
def HIF_EVENTS_EVT_LOST : Field := ⟨0x0404, 5, 1, .w1c, 0⟩
def HIF_EVENTS_DOORBELL_BAD : Field := ⟨0x0404, 4, 1, .w1c, 0⟩
def HIF_EVENTS_CFG_IGNORED : Field := ⟨0x0404, 3, 1, .w1c, 0⟩
def HIF_EVENTS_SETUP_REFUSED : Field := ⟨0x0404, 2, 1, .w1c, 0⟩
def HIF_EVENTS_MIRROR_RESYNC : Field := ⟨0x0404, 1, 1, .w1c, 0⟩
def HIF_EVENTS_RING_ERROR : Field := ⟨0x0404, 0, 1, .w1c, 0⟩
-- HIF_SETUP_ERR at 0x0408
def HIF_SETUP_ERR_VALID : Field := ⟨0x0408, 31, 1, .w1c, 0⟩
def HIF_SETUP_ERR_RING : Field := ⟨0x0408, 16, 7, .ro, 0⟩
def HIF_SETUP_ERR_CAUSE : Field := ⟨0x0408, 0, 4, .ro, 0⟩
-- HIF_RING_ERR at 0x040C
def HIF_RING_ERR_VALID : Field := ⟨0x040C, 31, 1, .w1c, 0⟩
def HIF_RING_ERR_RING : Field := ⟨0x040C, 24, 7, .ro, 0⟩
def HIF_RING_ERR_REASON : Field := ⟨0x040C, 0, 16, .ro, 0⟩
-- HIF_RING_ERR_IDX at 0x0410
def HIF_RING_ERR_IDX_INDEX : Field := ⟨0x0410, 0, 16, .ro, 0⟩
-- HIF_EVT_LOST at 0x0414
def HIF_EVT_LOST_COUNT : Field := ⟨0x0414, 0, 32, .rc, 0⟩
-- HIF_PUBLISH_SKIP at 0x0418
def HIF_PUBLISH_SKIP_COUNT : Field := ⟨0x0418, 0, 32, .rc, 0⟩
-- HIF_DOORBELL_BAD at 0x041C
def HIF_DOORBELL_BAD_COUNT : Field := ⟨0x041C, 0, 32, .rc, 0⟩
-- HIF_RING_ERROR at 0x0420 + 0x4 × w, 4 of them
def HIF_RING_ERROR_RING (w : Nat) : Field := ⟨0x0420 + 0x4 * w, 0, 32, .ro, 0⟩
-- HIF_EVT_ROUTE at 0x0430 + 0x4 × k, 4 of them
def HIF_EVT_ROUTE_EN3 (k : Nat) : Field := ⟨0x0430 + 0x4 * k, 31, 1, .rw, 0⟩
def HIF_EVT_ROUTE_RING3 (k : Nat) : Field := ⟨0x0430 + 0x4 * k, 24, 7, .rw, 0⟩
def HIF_EVT_ROUTE_EN2 (k : Nat) : Field := ⟨0x0430 + 0x4 * k, 23, 1, .rw, 0⟩
def HIF_EVT_ROUTE_RING2 (k : Nat) : Field := ⟨0x0430 + 0x4 * k, 16, 7, .rw, 0⟩
def HIF_EVT_ROUTE_EN1 (k : Nat) : Field := ⟨0x0430 + 0x4 * k, 15, 1, .rw, 0⟩
def HIF_EVT_ROUTE_RING1 (k : Nat) : Field := ⟨0x0430 + 0x4 * k, 8, 7, .rw, 0⟩
def HIF_EVT_ROUTE_EN0 (k : Nat) : Field := ⟨0x0430 + 0x4 * k, 7, 1, .rw, 0⟩
def HIF_EVT_ROUTE_RING0 (k : Nat) : Field := ⟨0x0430 + 0x4 * k, 0, 7, .rw, 0⟩
-- HIF_MIRROR_STAT at 0x0440
def HIF_MIRROR_STAT_SYNCED : Field := ⟨0x0440, 31, 1, .ro, 0⟩
def HIF_MIRROR_STAT_RESYNC : Field := ⟨0x0440, 30, 1, .ro, 0⟩
def HIF_MIRROR_STAT_PENDING : Field := ⟨0x0440, 0, 14, .ro, 0⟩
-- HIF_MIRROR_SEQ at 0x0444, 64 bits
def HIF_MIRROR_SEQ_SEQ : Field := ⟨0x0444, 0, 64, .ro, 0⟩
-- HIF_RING_BASE at 0x0500 + 0x10 × r, 128 of them, 64 bits
def HIF_RING_BASE_BASE (r : Nat) : Field := ⟨0x0500 + 0x10 * r, 12, 52, .rw, 0⟩
-- HIF_RING_CFG at 0x0508 + 0x10 × r, 128 of them
def HIF_RING_CFG_ENABLE (r : Nat) : Field := ⟨0x0508 + 0x10 * r, 31, 1, .rw, 0⟩
def HIF_RING_CFG_RESET (r : Nat) : Field := ⟨0x0508 + 0x10 * r, 30, 1, .w1s, 0⟩
def HIF_RING_CFG_KIND (r : Nat) : Field := ⟨0x0508 + 0x10 * r, 27, 3, .rw, 0⟩
def HIF_RING_CFG_LOG2SIZE (r : Nat) : Field := ⟨0x0508 + 0x10 * r, 22, 5, .rw, 4⟩
def HIF_RING_CFG_PORT (r : Nat) : Field := ⟨0x0508 + 0x10 * r, 20, 2, .rw, 0⟩
def HIF_RING_CFG_IRQ_EN (r : Nat) : Field := ⟨0x0508 + 0x10 * r, 19, 1, .rw, 0⟩
def HIF_RING_CFG_VECTOR (r : Nat) : Field := ⟨0x0508 + 0x10 * r, 12, 7, .rw, 0⟩
def HIF_RING_CFG_COALESCE_US (r : Nat) : Field := ⟨0x0508 + 0x10 * r, 0, 10, .rw, 0⟩
-- HIF_RING_STATUS at 0x050C + 0x10 × r, 128 of them
def HIF_RING_STATUS_STATE (r : Nat) : Field := ⟨0x050C + 0x10 * r, 30, 2, .ro, 0⟩
def HIF_RING_STATUS_CQ_FULL (r : Nat) : Field := ⟨0x050C + 0x10 * r, 29, 1, .ro, 0⟩
def HIF_RING_STATUS_PHASE (r : Nat) : Field := ⟨0x050C + 0x10 * r, 28, 1, .ro, 0⟩
def HIF_RING_STATUS_SQ_HEAD (r : Nat) : Field := ⟨0x050C + 0x10 * r, 0, 16, .ro, 0⟩
-- BOOT_STATUS at 0xA000
def BOOT_STATUS_ATTEMPTS : Field := ⟨0xA000, 20, 8, .ro, 0⟩
def BOOT_STATUS_COMPONENT : Field := ⟨0xA000, 16, 4, .ro, 0⟩
def BOOT_STATUS_CAUSE : Field := ⟨0xA000, 8, 8, .ro, 0⟩
def BOOT_STATUS_STATE : Field := ⟨0xA000, 0, 3, .ro, 0⟩
-- BOOT_CTRL at 0xA004
def BOOT_CTRL_RETRY : Field := ⟨0xA004, 1, 1, .wo, 0⟩
def BOOT_CTRL_START : Field := ⟨0xA004, 0, 1, .wo, 0⟩
-- BOOT_LEN at 0xA008
def BOOT_LEN_BYTES : Field := ⟨0xA008, 0, 32, .rw, 0⟩
-- BOOT_EVENTS at 0xA00C
def BOOT_EVENTS_CTRL_IGNORED : Field := ⟨0xA00C, 2, 1, .w1c, 0⟩
def BOOT_EVENTS_WINDOW_WRITE : Field := ⟨0xA00C, 1, 1, .w1c, 0⟩
def BOOT_EVENTS_STATE_CHANGE : Field := ⟨0xA00C, 0, 1, .w1c, 0⟩
-- BOOT_BUNDLE_VER at 0xA010
def BOOT_BUNDLE_VER_VERSION : Field := ⟨0xA010, 0, 32, .ro, 0⟩
-- BOOT_SEC_VER at 0xA014
def BOOT_SEC_VER_VERSION : Field := ⟨0xA014, 0, 32, .ro, 0⟩
-- BOOT_TIME at 0xA018
def BOOT_TIME_INIT_MS : Field := ⟨0xA018, 22, 10, .ro, 0⟩
def BOOT_TIME_VERIFY_MS : Field := ⟨0xA018, 11, 11, .ro, 0⟩
def BOOT_TIME_LOAD_MS : Field := ⟨0xA018, 0, 11, .ro, 0⟩
-- BOOT_COMP_VER at 0xA020 + 0x4 × c, 4 of them
def BOOT_COMP_VER_VERSION (c : Nat) : Field := ⟨0xA020 + 0x4 * c, 0, 32, .ro, 0⟩
-- BOOT_COMP_STAT at 0xA030 + 0x4 × c, 4 of them
def BOOT_COMP_STAT_STATE (c : Nat) : Field := ⟨0xA030 + 0x4 * c, 30, 2, .ro, 0⟩
def BOOT_COMP_STAT_START_MS (c : Nat) : Field := ⟨0xA030 + 0x4 * c, 0, 16, .ro, 0⟩
-- BOOT_UNIT_ID at 0xA048, 64 bits
def BOOT_UNIT_ID_UNIT_ID : Field := ⟨0xA048, 0, 64, .ro, Config.unitId.toNat⟩
-- SEC_STATUS at 0x6000
def SEC_STATUS_LC_STATE : Field := ⟨0x6000, 29, 3, .ro, 0⟩
def SEC_STATUS_OWNER_KEY : Field := ⟨0x6000, 28, 1, .ro, 0⟩
def SEC_STATUS_OWNER_LOCK : Field := ⟨0x6000, 27, 1, .ro, 0⟩
def SEC_STATUS_ROOT_DEBUG : Field := ⟨0x6000, 26, 1, .ro, 0⟩
def SEC_STATUS_SEED_OK : Field := ⟨0x6000, 25, 1, .ro, 0⟩
def SEC_STATUS_RBG_OK : Field := ⟨0x6000, 24, 1, .ro, 0⟩
def SEC_STATUS_SESSION : Field := ⟨0x6000, 23, 1, .ro, 0⟩
def SEC_STATUS_MIN_SVN : Field := ⟨0x6000, 16, 7, .ro, 0⟩
def SEC_STATUS_VKEY_VALID : Field := ⟨0x6000, 12, 4, .ro, 0⟩
def SEC_STATUS_VKEY_REVOKED : Field := ⟨0x6000, 8, 4, .ro, 0⟩
-- SEC_EVENTS at 0x6004
def SEC_EVENTS_ROOT_DEBUG : Field := ⟨0x6004, 7, 1, .w1c, 0⟩
def SEC_EVENTS_FUSE_ERR : Field := ⟨0x6004, 6, 1, .w1c, 0⟩
def SEC_EVENTS_RBG_FAIL : Field := ⟨0x6004, 5, 1, .w1c, 0⟩
def SEC_EVENTS_SLOTS_LOST : Field := ⟨0x6004, 4, 1, .w1c, 0⟩
def SEC_EVENTS_BLOB_REJECT : Field := ⟨0x6004, 3, 1, .w1c, 0⟩
def SEC_EVENTS_CR_LOCKOUT : Field := ⟨0x6004, 2, 1, .w1c, 0⟩
def SEC_EVENTS_CR_FAIL : Field := ⟨0x6004, 1, 1, .w1c, 0⟩
def SEC_EVENTS_LC_CHANGE : Field := ⟨0x6004, 0, 1, .w1c, 0⟩
-- SEC_SLOTS at 0x6008
def SEC_SLOTS_LOADED : Field := ⟨0x6008, 0, 32, .ro, 0⟩
-- SEC_SEEDBED at 0x600C
def SEC_SEEDBED_VALID : Field := ⟨0x600C, 31, 1, .ro, 0⟩
def SEC_SEEDBED_FLIPS : Field := ⟨0x600C, 0, 16, .ro, 0⟩
-- SEC_CR at 0x6010
def SEC_CR_CONSEC : Field := ⟨0x6010, 16, 8, .ro, 0⟩
def SEC_CR_FAILS : Field := ⟨0x6010, 0, 16, .rc, 0⟩
-- DBG_STATUS at 0x9000
def DBG_STATUS_LEVEL : Field := ⟨0x9000, 30, 2, .ro, 0⟩
def DBG_STATUS_JTAG_ATTACHED : Field := ⟨0x9000, 29, 1, .ro, 0⟩
def DBG_STATUS_TRACE_ON : Field := ⟨0x9000, 28, 1, .ro, 0⟩
def DBG_STATUS_S_HALTED : Field := ⟨0x9000, 8, 4, .ro, 0⟩
def DBG_STATUS_C_HALTED : Field := ⟨0x9000, 0, 8, .ro, 0⟩
-- DBG_EVENTS at 0x9004
def DBG_EVENTS_JTAG_REFUSED : Field := ⟨0x9004, 3, 1, .w1c, 0⟩
def DBG_EVENTS_TRACE_GAP : Field := ⟨0x9004, 2, 1, .w1c, 0⟩
def DBG_EVENTS_HALT : Field := ⟨0x9004, 1, 1, .w1c, 0⟩
def DBG_EVENTS_LEVEL_CHANGE : Field := ⟨0x9004, 0, 1, .w1c, 0⟩
-- DBG_TRACE_CFG at 0x9008
def DBG_TRACE_CFG_EN : Field := ⟨0x9008, 31, 1, .rw, 0⟩
def DBG_TRACE_CFG_KINDS : Field := ⟨0x9008, 16, 5, .rw, 0⟩
def DBG_TRACE_CFG_CORES : Field := ⟨0x9008, 0, 12, .rw, 0⟩
-- SYS_STAT at 0x0004
def SYS_STAT_FORCED : Field := ⟨0x0004, 31, 1, .ro, 0⟩
def SYS_STAT_UE_SEEN : Field := ⟨0x0004, 30, 1, .ro, 0⟩
-- SYS_EVENTS at 0x0008
def SYS_EVENTS_CE : Field := ⟨0x0008, 1, 1, .w1c, 0⟩
def SYS_EVENTS_UE : Field := ⟨0x0008, 0, 1, .w1c, 0⟩
-- SYS_RESET_CAUSE at 0x000C
def SYS_RESET_CAUSE_WARM : Field := ⟨0x000C, 16, 16, .ro, 0⟩
def SYS_RESET_CAUSE_KIND : Field := ⟨0x000C, 0, 4, .ro, 1⟩
-- SYS_ECC at 0x0010
def SYS_ECC_UE : Field := ⟨0x0010, 16, 16, .rc, 0⟩
def SYS_ECC_CE : Field := ⟨0x0010, 0, 16, .rc, 0⟩
-- SYS_UE_ADDR at 0x0014
def SYS_UE_ADDR_MEM : Field := ⟨0x0014, 28, 4, .ro, 0⟩
def SYS_UE_ADDR_OFFSET : Field := ⟨0x0014, 0, 28, .ro, 0⟩
-- WDG_CFG at 0x7000
def WDG_CFG_EVIDENCE : Field := ⟨0x7000, 0, 2, .ro, 2⟩
-- WDG_WINDOW at 0x7004
def WDG_WINDOW_T_CLOSE : Field := ⟨0x7004, 16, 16, .ro, 200⟩
def WDG_WINDOW_T_OPEN : Field := ⟨0x7004, 0, 16, .ro, 50⟩
-- WDG_STATUS at 0x7008
def WDG_STATUS_WARNING : Field := ⟨0x7008, 31, 1, .ro, 0⟩
def WDG_STATUS_SUSPENDED : Field := ⟨0x7008, 30, 1, .ro, 0⟩
def WDG_STATUS_FORCED : Field := ⟨0x7008, 29, 1, .ro, 0⟩
def WDG_STATUS_ELAPSED : Field := ⟨0x7008, 0, 24, .ro, 0⟩
-- WDG_EVENTS at 0x700C
def WDG_EVENTS_DOUBLE : Field := ⟨0x700C, 5, 1, .w1c, 0⟩
def WDG_EVENTS_ROLLCALL : Field := ⟨0x700C, 4, 1, .w1c, 0⟩
def WDG_EVENTS_STALL_LONG : Field := ⟨0x700C, 3, 1, .w1c, 0⟩
def WDG_EVENTS_FORCED : Field := ⟨0x700C, 2, 1, .w1c, 0⟩
def WDG_EVENTS_EARLY : Field := ⟨0x700C, 1, 1, .w1c, 0⟩
def WDG_EVENTS_WARNING : Field := ⟨0x700C, 0, 1, .w1c, 0⟩
-- WDG_RESETS at 0x7010
def WDG_RESETS_VALID : Field := ⟨0x7010, 31, 1, .ro, 0⟩
def WDG_RESETS_COUNT : Field := ⟨0x7010, 0, 16, .ro, 0⟩
-- WDG_SERVE_TIME at 0x7018, 64 bits
def WDG_SERVE_TIME_TIME : Field := ⟨0x7018, 0, 64, .ro, 0⟩
-- WDG_CAP_TIME at 0x7020, 64 bits
def WDG_CAP_TIME_TIME : Field := ⟨0x7020, 0, 64, .ro, 0⟩
-- WDG_CAP_INFO at 0x7028
def WDG_CAP_INFO_VALID : Field := ⟨0x7028, 31, 1, .ro, 0⟩
def WDG_CAP_INFO_CAUSE : Field := ⟨0x7028, 0, 4, .ro, 0⟩
-- WDG_CAP_PC at 0x7040 + 0x4 × n, 12 of them
def WDG_CAP_PC_PC (n : Nat) : Field := ⟨0x7040 + 0x4 * n, 0, 32, .ro, 0⟩
-- WDG_RC_CFG at 0x7080 + 0x8 × k, 4 of them
def WDG_RC_CFG_EN (k : Nat) : Field := ⟨0x7080 + 0x8 * k, 31, 1, .ro, 0⟩
def WDG_RC_CFG_WIN (k : Nat) : Field := ⟨0x7080 + 0x8 * k, 0, 16, .ro, 1⟩
-- WDG_RC_MASK at 0x7084 + 0x8 × k, 4 of them
def WDG_RC_MASK_TASK (k : Nat) : Field := ⟨0x7084 + 0x8 * k, 0, 32, .ro, 0⟩
-- WDG_RC_STAT at 0x70A0 + 0x4 × k, 4 of them
def WDG_RC_STAT_MISS_TASK (k : Nat) : Field := ⟨0x70A0 + 0x4 * k, 27, 5, .ro, 0⟩
def WDG_RC_STAT_DOUBLE_TASK (k : Nat) : Field := ⟨0x70A0 + 0x4 * k, 22, 5, .ro, 0⟩
def WDG_RC_STAT_WINDOWS (k : Nat) : Field := ⟨0x70A0 + 0x4 * k, 0, 16, .ro, 0⟩
-- PWR_STATUS at 0x7400
def PWR_STATUS_STATE : Field := ⟨0x7400, 29, 3, .ro, 0⟩
def PWR_STATUS_ENTERING : Field := ⟨0x7400, 28, 1, .ro, 0⟩
def PWR_STATUS_SAG : Field := ⟨0x7400, 24, 2, .ro, 0⟩
def PWR_STATUS_HOLDUP_LOW : Field := ⟨0x7400, 23, 1, .ro, 0⟩
def PWR_STATUS_LAST : Field := ⟨0x7400, 16, 4, .ro, 15⟩
def PWR_STATUS_LAST_ABORTED : Field := ⟨0x7400, 15, 1, .ro, 0⟩
-- PWR_EVENTS at 0x7404
def PWR_EVENTS_WAKE : Field := ⟨0x7404, 7, 1, .w1c, 0⟩
def PWR_EVENTS_ABORTED : Field := ⟨0x7404, 6, 1, .w1c, 0⟩
def PWR_EVENTS_REFUSED : Field := ⟨0x7404, 5, 1, .w1c, 0⟩
def PWR_EVENTS_STATE_CHANGE : Field := ⟨0x7404, 4, 1, .w1c, 0⟩
def PWR_EVENTS_SAG_LEAVE : Field := ⟨0x7404, 3, 1, .w1c, 0⟩
def PWR_EVENTS_POWERFAIL : Field := ⟨0x7404, 2, 1, .w1c, 0⟩
def PWR_EVENTS_SAG2 : Field := ⟨0x7404, 1, 1, .w1c, 0⟩
def PWR_EVENTS_SAG1 : Field := ⟨0x7404, 0, 1, .w1c, 0⟩
-- PWR_VIN at 0x7408
def PWR_VIN_MIN_MV : Field := ⟨0x7408, 16, 16, .rc, 0xFFFF⟩
def PWR_VIN_MV : Field := ⟨0x7408, 0, 16, .ro, 0⟩
-- PWR_HOLDUP at 0x740C
def PWR_HOLDUP_MIN_MV : Field := ⟨0x740C, 16, 16, .ro, 2000⟩
def PWR_HOLDUP_SENSE_MV : Field := ⟨0x740C, 0, 16, .ro, 0⟩
-- PWR_RETAIN at 0x7410
def PWR_RETAIN_LPDDR_SR : Field := ⟨0x7410, 31, 1, .ro, 0⟩
def PWR_RETAIN_BANKS : Field := ⟨0x7410, 1, 15, .ro, 0⟩
def PWR_RETAIN_BANK0 : Field := ⟨0x7410, 0, 1, .ro, 1⟩
-- PWR_WAKE at 0x7414
def PWR_WAKE_SOURCE : Field := ⟨0x7414, 30, 2, .ro, 0⟩
def PWR_WAKE_COUNT : Field := ⟨0x7414, 0, 16, .ro, 0⟩
-- PWR_SAG_COUNT at 0x7418
def PWR_SAG_COUNT_POWERFAIL : Field := ⟨0x7418, 24, 8, .ro, 0⟩
def PWR_SAG_COUNT_SAG2 : Field := ⟨0x7418, 12, 12, .ro, 0⟩
def PWR_SAG_COUNT_SAG1 : Field := ⟨0x7418, 0, 12, .ro, 0⟩
-- PWR_REFUSE at 0x7420 + 0x4 × k, 8 of them
def PWR_REFUSE_ABORTED (k : Nat) : Field := ⟨0x7420 + 0x4 * k, 16, 16, .ro, 0⟩
def PWR_REFUSE_REFUSED (k : Nat) : Field := ⟨0x7420 + 0x4 * k, 0, 16, .ro, 0⟩
-- NVS_STATUS at 0x7800
def NVS_STATUS_BUSY : Field := ⟨0x7800, 31, 1, .ro, 0⟩
def NVS_STATUS_HOLD_BLOCK : Field := ⟨0x7800, 30, 1, .ro, 0⟩
def NVS_STATUS_LOCKOUT : Field := ⟨0x7800, 12, 4, .ro, 0⟩
def NVS_STATUS_QUEUED : Field := ⟨0x7800, 0, 8, .ro, 0⟩
-- NVS_EVENTS at 0x7804
def NVS_EVENTS_TWIN_CONFLICT : Field := ⟨0x7804, 3, 1, .w1c, 0⟩
def NVS_EVENTS_LOCKOUT : Field := ⟨0x7804, 2, 1, .w1c, 0⟩
def NVS_EVENTS_PW_FAIL : Field := ⟨0x7804, 1, 1, .w1c, 0⟩
def NVS_EVENTS_WRITE_REFUSED : Field := ⟨0x7804, 0, 1, .w1c, 0⟩
-- NVS_AREA at 0x7808
def NVS_AREA_WPW : Field := ⟨0x7808, 4, 4, .ro, 0⟩
def NVS_AREA_RPW : Field := ⟨0x7808, 0, 4, .ro, 0⟩
-- NVS_PW_FAILS at 0x780C
def NVS_PW_FAILS_FAILS : Field := ⟨0x780C, 0, 16, .ro, 0⟩
-- NVS_WRITES at 0x7810
def NVS_WRITES_COUNT : Field := ⟨0x7810, 0, 32, .ro, 0⟩
-- NVS_TWR at 0x7814
def NVS_TWR_MAX_US : Field := ⟨0x7814, 16, 16, .rc, 0⟩
def NVS_TWR_LAST_US : Field := ⟨0x7814, 0, 16, .ro, 0⟩
-- NVS_CONFLICT at 0x7818
def NVS_CONFLICT_VALID : Field := ⟨0x7818, 31, 1, .w1c, 0⟩
def NVS_CONFLICT_ID : Field := ⟨0x7818, 0, 16, .ro, 0⟩
-- RTC_SEC at 0x7C00
def RTC_SEC_VALUE : Field := ⟨0x7C00, 0, 8, .rw, 0⟩
-- RTC_MIN at 0x7C04
def RTC_MIN_VALUE : Field := ⟨0x7C04, 0, 8, .rw, 0⟩
-- RTC_HOUR at 0x7C08
def RTC_HOUR_VALUE : Field := ⟨0x7C08, 0, 8, .rw, 0⟩
-- RTC_DAY at 0x7C0C
def RTC_DAY_VALUE : Field := ⟨0x7C0C, 0, 8, .rw, 0⟩
-- RTC_MONTH at 0x7C10
def RTC_MONTH_VALUE : Field := ⟨0x7C10, 0, 8, .rw, 0⟩
-- RTC_WEEKDAY at 0x7C14
def RTC_WEEKDAY_VALUE : Field := ⟨0x7C14, 0, 8, .rw, 0⟩
-- RTC_YEAR at 0x7C18
def RTC_YEAR_VALUE : Field := ⟨0x7C18, 0, 8, .rw, 0⟩
-- RTC_STATUS at 0x7C20
def RTC_STATUS_LOST : Field := ⟨0x7C20, 31, 1, .ro, 0⟩
def RTC_STATUS_ON_VBAT : Field := ⟨0x7C20, 30, 1, .ro, 0⟩
def RTC_STATUS_FROZEN : Field := ⟨0x7C20, 29, 1, .ro, 0⟩
def RTC_STATUS_STAGED : Field := ⟨0x7C20, 28, 1, .ro, 0⟩
-- RTC_EVENTS at 0x7C24
def RTC_EVENTS_TIME_LOST : Field := ⟨0x7C24, 5, 1, .w1c, 0⟩
def RTC_EVENTS_YEAR_WRAP : Field := ⟨0x7C24, 4, 1, .w1c, 0⟩
def RTC_EVENTS_STALE_READ : Field := ⟨0x7C24, 3, 1, .w1c, 0⟩
def RTC_EVENTS_DATE_REJ : Field := ⟨0x7C24, 2, 1, .w1c, 0⟩
def RTC_EVENTS_ALM1 : Field := ⟨0x7C24, 1, 1, .w1c, 0⟩
def RTC_EVENTS_ALM0 : Field := ⟨0x7C24, 0, 1, .w1c, 0⟩
-- RTC_ALM_LO at 0x7C30 + 0x8 × n, 2 of them
def RTC_ALM_LO_DAY (n : Nat) : Field := ⟨0x7C30 + 0x8 * n, 24, 8, .ro, 0⟩
def RTC_ALM_LO_HOUR (n : Nat) : Field := ⟨0x7C30 + 0x8 * n, 16, 8, .ro, 0⟩
def RTC_ALM_LO_MIN (n : Nat) : Field := ⟨0x7C30 + 0x8 * n, 8, 8, .ro, 0⟩
def RTC_ALM_LO_SEC (n : Nat) : Field := ⟨0x7C30 + 0x8 * n, 0, 8, .ro, 0⟩
-- RTC_ALM_HI at 0x7C34 + 0x8 × n, 2 of them
def RTC_ALM_HI_EN (n : Nat) : Field := ⟨0x7C34 + 0x8 * n, 31, 1, .ro, 0⟩
def RTC_ALM_HI_WAKE (n : Nat) : Field := ⟨0x7C34 + 0x8 * n, 30, 1, .ro, 0⟩
def RTC_ALM_HI_MASK (n : Nat) : Field := ⟨0x7C34 + 0x8 * n, 23, 7, .ro, 0⟩
def RTC_ALM_HI_WEEKDAY (n : Nat) : Field := ⟨0x7C34 + 0x8 * n, 20, 3, .ro, 0⟩
def RTC_ALM_HI_MONTH (n : Nat) : Field := ⟨0x7C34 + 0x8 * n, 16, 4, .ro, 0⟩
def RTC_ALM_HI_YEAR (n : Nat) : Field := ⟨0x7C34 + 0x8 * n, 0, 8, .ro, 0⟩
-- REC_STATUS at 0x8000
def REC_STATUS_CONSOLIDATING : Field := ⟨0x8000, 31, 1, .ro, 0⟩
def REC_STATUS_WAITING : Field := ⟨0x8000, 30, 1, .ro, 0⟩
def REC_STATUS_LOADED : Field := ⟨0x8000, 29, 1, .ro, 0⟩
def REC_STATUS_EMERG_APPLIED : Field := ⟨0x8000, 28, 1, .ro, 0⟩
-- REC_EVENTS at 0x8004
def REC_EVENTS_NV_FAIL : Field := ⟨0x8004, 3, 1, .w1c, 0⟩
def REC_EVENTS_APP_REJ : Field := ⟨0x8004, 2, 1, .w1c, 0⟩
def REC_EVENTS_CLEARED : Field := ⟨0x8004, 1, 1, .w1c, 0⟩
def REC_EVENTS_CONS_DONE : Field := ⟨0x8004, 0, 1, .w1c, 0⟩
-- REC_CFG at 0x8008
def REC_CFG_INTERVAL_MIN : Field := ⟨0x8008, 0, 11, .ro, 60⟩
-- REC_CONS_SEQ at 0x800C
def REC_CONS_SEQ_SEQ : Field := ⟨0x800C, 0, 32, .ro, 0⟩
-- REC_CONS_TIME at 0x8010, 64 bits
def REC_CONS_TIME_TIME : Field := ⟨0x8010, 0, 64, .ro, 0⟩
-- REC_CLEAR_LAST at 0x8018
def REC_CLEAR_LAST_ORIGIN : Field := ⟨0x8018, 24, 8, .ro, 0⟩
def REC_CLEAR_LAST_KIND : Field := ⟨0x8018, 22, 2, .ro, 0⟩
def REC_CLEAR_LAST_VALID : Field := ⟨0x8018, 0, 1, .ro, 0⟩
-- REC_CLEAR_RANGE at 0x801C
def REC_CLEAR_RANGE_COUNT : Field := ⟨0x801C, 16, 16, .ro, 0⟩
def REC_CLEAR_RANGE_FIRST : Field := ⟨0x801C, 0, 16, .ro, 0⟩
-- REC_CLEAR_TIME at 0x8020, 64 bits
def REC_CLEAR_TIME_TIME : Field := ⟨0x8020, 0, 64, .ro, 0⟩
-- REC_SUPPRESSED at 0x8028
def REC_SUPPRESSED_COUNT : Field := ⟨0x8028, 0, 32, .rc, 0⟩
-- REC_METRIC_CFG at 0x8100 + 0x4 × m, 256 of them
def REC_METRIC_CFG_EN (m : Nat) : Field := ⟨0x8100 + 0x4 * m, 31, 1, .ro, (if m < 128 then 1 else 0)⟩
def REC_METRIC_CFG_UNIT (m : Nat) : Field := ⟨0x8100 + 0x4 * m, 28, 3, .ro, (if m < 128 then Config.catalogueUnit m else 0)⟩
def REC_METRIC_CFG_E (m : Nat) : Field := ⟨0x8100 + 0x4 * m, 16, 5, .ro, (if m < 128 then Config.catalogueE m else 10)⟩
-- REC_SIEVE at 0x8800 + 0x4 × j, 512 of them
def REC_SIEVE_BURST1 (j : Nat) : Field := ⟨0x8800 + 0x4 * j, 24, 8, .ro, 20⟩
def REC_SIEVE_RATE1 (j : Nat) : Field := ⟨0x8800 + 0x4 * j, 16, 8, .ro, 10⟩
def REC_SIEVE_BURST0 (j : Nat) : Field := ⟨0x8800 + 0x4 * j, 8, 8, .ro, 20⟩
def REC_SIEVE_RATE0 (j : Nat) : Field := ⟨0x8800 + 0x4 * j, 0, 8, .ro, 10⟩

/-- The registers of spec/00_scope.md. -/
def table00 : List RegDef := [
  ⟨"SYS_ID", 0x0000, 0x0, 1, false, false, fun _ => [SYS_ID_FAMILY, SYS_ID_STEPPING, SYS_ID_VARIANT]⟩]

/-- The registers of spec/02_process_image.md. -/
def table02 : List RegDef := [
  ⟨"IMG_FORCE_STATUS", 0x1800, 0x0, 1, false, false, fun _ => [IMG_FORCE_STATUS_FORCED, IMG_FORCE_STATUS_COUNT]⟩,
  ⟨"IMG_FAULT", 0x1804, 0x0, 1, false, false, fun _ => [IMG_FAULT_CORE_RANGE, IMG_FAULT_LANE]⟩,
  ⟨"IMG_LANE_INFO", 0x1810, 0x4, 4, false, false, fun n => [IMG_LANE_INFO_CAUSE n, IMG_LANE_INFO_TASK n, IMG_LANE_INFO_INDEX n]⟩,
  ⟨"IMG_SNAP_COUNT", 0x1820, 0x0, 1, false, false, fun _ => [IMG_SNAP_COUNT_COUNT]⟩,
  ⟨"IMG_COMMIT_COUNT", 0x1824, 0x0, 1, false, false, fun _ => [IMG_COMMIT_COUNT_COUNT]⟩,
  ⟨"IMG_SNAP_MAX", 0x1828, 0x0, 1, false, false, fun _ => [IMG_SNAP_MAX_NS]⟩,
  ⟨"IMG_COMMIT_MAX", 0x182C, 0x0, 1, false, false, fun _ => [IMG_COMMIT_MAX_NS]⟩,
  ⟨"IMG_VIEW_USE", 0x1830, 0x0, 1, false, false, fun _ => [IMG_VIEW_USE_BYTES]⟩]

/-- The registers of spec/03_tasks_and_cycle.md. -/
def table03 : List RegDef := [
  ⟨"CTL_STATE", 0x1000, 0x0, 1, false, false, fun _ => [CTL_STATE_TASKS, CTL_STATE_SYNC_DEFINED, CTL_STATE_RETAIN_DONE, CTL_STATE_SAG2_RT, CTL_STATE_PREV_STATE, CTL_STATE_STATE]⟩,
  ⟨"CTL_HALT_CAUSE", 0x1004, 0x0, 1, false, false, fun _ => [CTL_HALT_CAUSE_VALID, CTL_HALT_CAUSE_TASK, CTL_HALT_CAUSE_CAUSE]⟩,
  ⟨"CTL_SYNC_CYCLE", 0x1008, 0x0, 1, true, false, fun _ => [CTL_SYNC_CYCLE_CYCLE]⟩,
  ⟨"CTL_OVERRUN", 0x1010, 0x0, 1, false, false, fun _ => [CTL_OVERRUN_TASK]⟩,
  ⟨"CTL_HALT_TIME", 0x1018, 0x0, 1, true, false, fun _ => [CTL_HALT_TIME_TIME]⟩,
  ⟨"CTL_TASK_CTRL", 0x1100, 0x20, 32, false, false, fun t => [CTL_TASK_CTRL_DEFINED t, CTL_TASK_CTRL_KIND t, CTL_TASK_CTRL_GRACE t, CTL_TASK_CTRL_PRIORITY t, CTL_TASK_CTRL_LANES t, CTL_TASK_CTRL_CORES t]⟩,
  ⟨"CTL_TASK_RELEASE", 0x1104, 0x20, 32, false, false, fun t => [CTL_TASK_RELEASE_A t, CTL_TASK_RELEASE_B t]⟩,
  ⟨"CTL_TASK_OFFSET", 0x1108, 0x20, 32, false, false, fun t => [CTL_TASK_OFFSET_ADDR_HI t, CTL_TASK_OFFSET_OFS t]⟩,
  ⟨"CTL_TASK_BUDGET", 0x110C, 0x20, 32, false, false, fun t => [CTL_TASK_BUDGET_NS t]⟩,
  ⟨"CTL_TASK_BUDGET_SAG", 0x1110, 0x20, 32, false, false, fun t => [CTL_TASK_BUDGET_SAG_NS t]⟩,
  ⟨"CTL_TASK_STAT", 0x1114, 0x20, 32, false, false, fun t => [CTL_TASK_STAT_RUNSTATE t, CTL_TASK_STAT_OVERRUNS t, CTL_TASK_STAT_OVERRUN_TOTAL t]⟩,
  ⟨"CTL_TASK_EXEC_MAX", 0x1118, 0x20, 32, false, false, fun t => [CTL_TASK_EXEC_MAX_NS t]⟩,
  ⟨"CTL_TASK_EXEC_LAST", 0x111C, 0x20, 32, false, false, fun t => [CTL_TASK_EXEC_LAST_NS t]⟩]

/-- The registers of spec/04_grafts.md. -/
def table04 : List RegDef := [
  ⟨"CTL_GRAFT_STATUS", 0x1020, 0x0, 1, false, false, fun _ => [CTL_GRAFT_STATUS_RING, CTL_GRAFT_STATUS_KIND, CTL_GRAFT_STATUS_REVERT_KEPT, CTL_GRAFT_STATUS_REVERSIBLE, CTL_GRAFT_STATUS_STATE]⟩,
  ⟨"CTL_GRAFT_GEN", 0x1024, 0x0, 1, false, false, fun _ => [CTL_GRAFT_GEN_GEN]⟩,
  ⟨"CTL_GRAFT_ID", 0x1028, 0x0, 1, true, false, fun _ => [CTL_GRAFT_ID_ID]⟩,
  ⟨"CTL_GRAFT_AFFECTED", 0x1030, 0x0, 1, false, false, fun _ => [CTL_GRAFT_AFFECTED_TASK]⟩,
  ⟨"CTL_GRAFT_SWITCH", 0x1034, 0x0, 1, false, false, fun _ => [CTL_GRAFT_SWITCH_NS]⟩]

/-- The registers of spec/05_trellis.md. -/
def table05 : List RegDef := [
  ⟨"TRL_STATUS", 0x2000, 0x0, 1, false, false, fun _ => [TRL_STATUS_LOST, TRL_STATUS_COAST]⟩,
  ⟨"TRL_EVENTS", 0x2004, 0x0, 1, false, false, fun _ => [TRL_EVENTS_QUEUED, TRL_EVENTS_LATE, TRL_EVENTS_LARGE_STEP]⟩,
  ⟨"TRL_MOVE_THRESHOLD", 0x2008, 0x0, 1, false, true, fun _ => [TRL_MOVE_THRESHOLD_COUNTS]⟩,
  ⟨"TRL_OUT", 0x200C, 0x0, 1, false, false, fun _ => [TRL_OUT_LEVEL, TRL_OUT_OWNED]⟩,
  ⟨"TRL_CAL", 0x2010, 0x0, 1, false, false, fun _ => [TRL_CAL_RISE_DONE, TRL_CAL_FALL_DONE]⟩,
  ⟨"TRL_AXIS_CFG", 0x2100, 0x40, 16, false, true, fun k => [TRL_AXIS_CFG_ENABLE k, TRL_AXIS_CFG_LINE k, TRL_AXIS_CFG_JUMP_ACCEPT k, TRL_AXIS_CFG_LOST_OUT k, TRL_AXIS_CFG_MASTER k, TRL_AXIS_CFG_ENC k, TRL_AXIS_CFG_Z_HOME k, TRL_AXIS_CFG_HSCALE k, TRL_AXIS_CFG_STREAM k, TRL_AXIS_CFG_SOURCE k]⟩,
  ⟨"TRL_AXIS_STATUS", 0x2104, 0x40, 16, false, false, fun k => [TRL_AXIS_STATUS_STATE k, TRL_AXIS_STATUS_REVERSE k, TRL_AXIS_STATUS_ACCEPTED k]⟩,
  ⟨"TRL_AXIS_TIMING", 0x2108, 0x40, 16, false, true, fun k => [TRL_AXIS_TIMING_COAST_LIMIT k, TRL_AXIS_TIMING_SAMPLE_TIMEOUT k]⟩,
  ⟨"TRL_AXIS_STEP_LIMIT", 0x210C, 0x40, 16, false, true, fun k => [TRL_AXIS_STEP_LIMIT_COUNTS k]⟩,
  ⟨"TRL_AXIS_ANGLE", 0x2110, 0x40, 16, true, false, fun k => [TRL_AXIS_ANGLE_ANGLE k]⟩,
  ⟨"TRL_AXIS_VEL", 0x2118, 0x40, 16, true, false, fun k => [TRL_AXIS_VEL_VELOCITY k]⟩,
  ⟨"TRL_AXIS_TRIM", 0x2120, 0x40, 16, false, false, fun k => [TRL_AXIS_TRIM_TRIM k]⟩,
  ⟨"TRL_AXIS_TRIM_SRC", 0x2124, 0x40, 16, false, true, fun k => [TRL_AXIS_TRIM_SRC_EN k, TRL_AXIS_TRIM_SRC_ADDR k]⟩,
  ⟨"TRL_AXIS_RATIO_NUM", 0x2128, 0x40, 16, false, true, fun k => [TRL_AXIS_RATIO_NUM_NUM k]⟩,
  ⟨"TRL_AXIS_RATIO_DEN", 0x212C, 0x40, 16, false, true, fun k => [TRL_AXIS_RATIO_DEN_DEN k]⟩,
  ⟨"TRL_AXIS_EVENTS", 0x2130, 0x40, 16, false, false, fun k => [TRL_AXIS_EVENTS_TRIM_LATE k, TRL_AXIS_EVENTS_RANGE k, TRL_AXIS_EVENTS_QUAD_ERR k, TRL_AXIS_EVENTS_JUMP_REJ k, TRL_AXIS_EVENTS_STALE k, TRL_AXIS_EVENTS_ORDER k, TRL_AXIS_EVENTS_SMALL_STEP k, TRL_AXIS_EVENTS_LARGE_STEP k, TRL_AXIS_EVENTS_LOST_ENTERED k, TRL_AXIS_EVENTS_COAST_ENTERED k]⟩,
  ⟨"TRL_CAP_CFG", 0x2600, 0x10, 16, false, true, fun c => [TRL_CAP_CFG_ENABLE c, TRL_CAP_CFG_WINDOW c, TRL_CAP_CFG_EDGE c, TRL_CAP_CFG_AXIS c, TRL_CAP_CFG_CHANNEL c, TRL_CAP_CFG_DEPTH c, TRL_CAP_CFG_ADDR c]⟩,
  ⟨"TRL_CAP_WIN", 0x2604, 0x10, 16, false, true, fun c => [TRL_CAP_WIN_START c, TRL_CAP_WIN_END c]⟩,
  ⟨"TRL_CAP_STAT", 0x2608, 0x10, 16, false, false, fun c => [TRL_CAP_STAT_SEQ c, TRL_CAP_STAT_MISSED c, TRL_CAP_STAT_TOO_CLOSE c]⟩,
  ⟨"TRL_OUT_DELAY", 0x2700, 0x4, 16, false, false, fun n => [TRL_OUT_DELAY_RISE n, TRL_OUT_DELAY_FALL n]⟩]

/-- The registers of spec/06_line_network.md. -/
def table06 : List RegDef := [
  ⟨"NET_STATUS", 0x3000, 0x0, 1, false, false, fun _ => [NET_STATUS_CYCLE_RUN, NET_STATUS_PLANT_SYNC, NET_STATUS_PLANT_PORT, NET_STATUS_SVC_LINK, NET_STATUS_PREEMPT, NET_STATUS_LINK]⟩,
  ⟨"NET_EVENTS", 0x3004, 0x0, 1, false, false, fun _ => [NET_EVENTS_LINK_CHANGE, NET_EVENTS_ALIGN_STEP, NET_EVENTS_NIC_DROP, NET_EVENTS_PREEMPT_FAIL, NET_EVENTS_TX_LATE, NET_EVENTS_GM_CHANGE, NET_EVENTS_PLANT_LOST, NET_EVENTS_FOREIGN_GM, NET_EVENTS_EPOCH_HIGHER, NET_EVENTS_HDR_ERR, NET_EVENTS_LOST, NET_EVENTS_LATE]⟩,
  ⟨"NET_CYCLE_CFG", 0x3008, 0x0, 1, false, true, fun _ => [NET_CYCLE_CFG_RUN, NET_CYCLE_CFG_TSYNC]⟩,
  ⟨"NET_CYCLE_PHASE", 0x300C, 0x0, 1, false, true, fun _ => [NET_CYCLE_PHASE_NS]⟩,
  ⟨"NET_RX_CUTOFF", 0x3010, 0x0, 1, false, true, fun _ => [NET_RX_CUTOFF_NS]⟩,
  ⟨"NET_TX_OPEN", 0x3014, 0x0, 1, false, true, fun _ => [NET_TX_OPEN_NS]⟩,
  ⟨"NET_DRV_TIMING", 0x3018, 0x4, 2, false, true, fun p => [NET_DRV_TIMING_PATH_MAX p, NET_DRV_TIMING_FB_OFS p]⟩,
  ⟨"NET_PLANT_WIN", 0x3020, 0x0, 1, false, true, fun _ => [NET_PLANT_WIN_PLANT_OPEN, NET_PLANT_WIN_PLANT_LEN]⟩,
  ⟨"NET_FLANY_CFG", 0x3024, 0x0, 1, false, true, fun _ => [NET_FLANY_CFG_ETHERTYPE, NET_FLANY_CFG_CTRL_ADDR]⟩,
  ⟨"NET_PAIR_ID", 0x3028, 0x0, 1, false, true, fun _ => [NET_PAIR_ID_COORD_ADDR, NET_PAIR_ID_PAIR_ID]⟩,
  ⟨"NET_PLANT_GAPS", 0x302C, 0x0, 1, false, false, fun _ => [NET_PLANT_GAPS_COUNT]⟩,
  ⟨"NET_TIME", 0x3030, 0x0, 1, true, false, fun _ => [NET_TIME_TIME]⟩,
  ⟨"NET_PLANT_OFFSET", 0x3038, 0x0, 1, true, false, fun _ => [NET_PLANT_OFFSET_OFFSET]⟩,
  ⟨"NET_PTP_CFG", 0x3040, 0x0, 1, false, true, fun _ => [NET_PTP_CFG_ALIGN, NET_PTP_CFG_DRV_DOMAIN, NET_PTP_CFG_PLT_DOMAIN, NET_PTP_CFG_PRIO1, NET_PTP_CFG_SYNC_INTERVAL, NET_PTP_CFG_PLANT_EN]⟩,
  ⟨"NET_PTP_SYNC_LIMIT", 0x3044, 0x0, 1, false, true, fun _ => [NET_PTP_SYNC_LIMIT_NS]⟩,
  ⟨"NET_PTP_FREQ", 0x3048, 0x0, 1, false, false, fun _ => [NET_PTP_FREQ_PPB]⟩,
  ⟨"NET_GM_CHANGES", 0x304C, 0x0, 1, false, false, fun _ => [NET_GM_CHANGES_COUNT]⟩,
  ⟨"NET_PTP_CLKID", 0x3050, 0x0, 1, true, false, fun _ => [NET_PTP_CLKID_CLKID]⟩,
  ⟨"NET_PORT_CFG", 0x3100, 0x40, 5, false, true, fun p => [NET_PORT_CFG_ENABLE p, NET_PORT_CFG_PREEMPT_EN p, NET_PORT_CFG_MODE p, NET_PORT_CFG_RX_DLY p, NET_PORT_CFG_TX_DLY p]⟩,
  ⟨"NET_PORT_RX_FRAMES", 0x3104, 0x40, 5, false, false, fun p => [NET_PORT_RX_FRAMES_COUNT p]⟩,
  ⟨"NET_PORT_TX_FRAMES", 0x3108, 0x40, 5, false, false, fun p => [NET_PORT_TX_FRAMES_COUNT p]⟩,
  ⟨"NET_PORT_RX_ERR", 0x310C, 0x40, 5, false, false, fun p => [NET_PORT_RX_ERR_COUNT p]⟩,
  ⟨"NET_PORT_LATE", 0x3110, 0x40, 5, false, false, fun p => [NET_PORT_LATE_COUNT p]⟩,
  ⟨"NET_PORT_SEQ_ERR", 0x3114, 0x40, 5, false, false, fun p => [NET_PORT_SEQ_ERR_STALE p, NET_PORT_SEQ_ERR_DUP p]⟩,
  ⟨"NET_PORT_FORM_ERR", 0x3118, 0x40, 5, false, false, fun p => [NET_PORT_FORM_ERR_HDR_ERR p, NET_PORT_FORM_ERR_UNMATCHED p]⟩,
  ⟨"NET_PORT_MISC_ERR", 0x311C, 0x40, 5, false, false, fun p => [NET_PORT_MISC_ERR_EPOCH_HIGH p, NET_PORT_MISC_ERR_FUTURE p, NET_PORT_MISC_ERR_SIZE_ERR p]⟩,
  ⟨"NET_PORT_FRER_ELIM", 0x3120, 0x40, 5, false, false, fun p => [NET_PORT_FRER_ELIM_COUNT p]⟩,
  ⟨"NET_PORT_NIC_DROP", 0x3124, 0x40, 5, false, false, fun p => [NET_PORT_NIC_DROP_COUNT p]⟩,
  ⟨"NET_PORT_QCI_DROP", 0x3128, 0x40, 5, false, false, fun p => [NET_PORT_QCI_DROP_COUNT p]⟩,
  ⟨"NET_PORT_METER", 0x312C, 0x40, 4, false, true, fun p => [NET_PORT_METER_CIR p, NET_PORT_METER_CBS p]⟩,
  ⟨"NET_TPL_MISS", 0x3280, 0x4, 8, false, false, fun w => [NET_TPL_MISS_MISS w]⟩,
  ⟨"NET_TPL_COUNT", 0x32A0, 0x0, 1, false, false, fun _ => [NET_TPL_COUNT_TX, NET_TPL_COUNT_RX]⟩]

/-- The registers of spec/07_hot_standby.md. -/
def table07 : List RegDef := [
  ⟨"RED_STATUS", 0x4000, 0x0, 1, false, false, fun _ => [RED_STATUS_PEER_SEEN, RED_STATUS_PATH_A, RED_STATUS_PATH_B, RED_STATUS_LANE1, RED_STATUS_LANE0, RED_STATUS_FIT, RED_STATUS_INCOMPAT, RED_STATUS_PARKED, RED_STATUS_UNFIT_REASON, RED_STATUS_SIDE, RED_STATUS_PAIR_STATE]⟩,
  ⟨"RED_EVENTS", 0x4004, 0x0, 1, false, false, fun _ => [RED_EVENTS_LAG, RED_EVENTS_XFER_FAIL, RED_EVENTS_PEER_LOST, RED_EVENTS_HANDOVER, RED_EVENTS_EPOCH_ADOPT, RED_EVENTS_LANE_DOWN, RED_EVENTS_PATH_B_LOST, RED_EVENTS_PATH_A_LOST, RED_EVENTS_DIGEST_MISMATCH, RED_EVENTS_UNFIT, RED_EVENTS_YIELD, RED_EVENTS_TAKEOVER]⟩,
  ⟨"RED_CFG", 0x4008, 0x0, 1, false, true, fun _ => [RED_CFG_PAIR_EN, RED_CFG_AUTO_RESYNC, RED_CFG_PATHB_P1, RED_CFG_PATHB_P0, RED_CFG_PAIR_WAIT]⟩,
  ⟨"RED_PEER_MAC", 0x400C, 0x0, 1, true, true, fun _ => [RED_PEER_MAC_MAC]⟩,
  ⟨"RED_EPOCH", 0x4014, 0x0, 1, false, false, fun _ => [RED_EPOCH_EPOCH]⟩,
  ⟨"RED_EPOCH_SEEN", 0x4018, 0x0, 1, false, false, fun _ => [RED_EPOCH_SEEN_EPOCH]⟩,
  ⟨"RED_COUNTS", 0x401C, 0x0, 1, false, false, fun _ => [RED_COUNTS_TAKEOVERS, RED_COUNTS_YIELDS]⟩,
  ⟨"RED_LAG", 0x4020, 0x0, 1, false, false, fun _ => [RED_LAG_NS]⟩,
  ⟨"RED_MISMATCH", 0x4024, 0x0, 1, false, false, fun _ => [RED_MISMATCH_VALID, RED_MISMATCH_TASK, RED_MISMATCH_INSTANCE]⟩,
  ⟨"RED_HB_MISS", 0x4028, 0x0, 1, false, false, fun _ => [RED_HB_MISS_PATH_B, RED_HB_MISS_PATH_A]⟩,
  ⟨"RED_XFER", 0x402C, 0x0, 1, false, false, fun _ => [RED_XFER_ROUND, RED_XFER_RESULT, RED_XFER_KIB]⟩,
  ⟨"RED_COMPAT", 0x4030, 0x0, 1, false, false, fun _ => [RED_COMPAT_PEER_FMT, RED_COMPAT_WIN_MAX, RED_COMPAT_WIN_MIN, RED_COMPAT_OWN_FMT]⟩,
  ⟨"RED_HEDGE_ERR", 0x4034, 0x0, 1, false, false, fun _ => [RED_HEDGE_ERR_DISCARDED, RED_HEDGE_ERR_REPEATS]⟩,
  ⟨"RED_TAKEOVER_TIME", 0x4038, 0x0, 1, true, false, fun _ => [RED_TAKEOVER_TIME_TIME]⟩]

/-- The registers of spec/10_field_channels.md. -/
def table10 : List RegDef := [
  ⟨"FIO_STATUS", 0x5000, 0x0, 1, false, false, fun _ => [FIO_STATUS_LINK_UP, FIO_STATUS_CONFIGURED, FIO_STATUS_HOLDING, FIO_STATUS_SAFE_LATCHED, FIO_STATUS_GROUP_OK]⟩,
  ⟨"FIO_EVENTS", 0x5004, 0x0, 1, false, false, fun _ => [FIO_EVENTS_CRC_ERR, FIO_EVENTS_GRP_OV, FIO_EVENTS_GRP_WARN, FIO_EVENTS_GRP_FAIL, FIO_EVENTS_CH_FAULT, FIO_EVENTS_TIMEOUT_SAFE, FIO_EVENTS_LINK_DOWN]⟩,
  ⟨"FIO_LINK_CFG", 0x5008, 0x0, 1, false, true, fun _ => [FIO_LINK_CFG_IN_OFS]⟩,
  ⟨"FIO_MAP_IN", 0x500C, 0x0, 1, false, false, fun _ => [FIO_MAP_IN_EN, FIO_MAP_IN_ADDR]⟩,
  ⟨"FIO_MAP_OUT", 0x5010, 0x0, 1, false, false, fun _ => [FIO_MAP_OUT_EN, FIO_MAP_OUT_ADDR]⟩,
  ⟨"FIO_LINK_ERR", 0x5014, 0x0, 1, false, false, fun _ => [FIO_LINK_ERR_CRC, FIO_LINK_ERR_MISSED]⟩,
  ⟨"FIO_INPUT", 0x5018, 0x0, 1, false, false, fun _ => [FIO_INPUT_STATE]⟩,
  ⟨"FIO_OUTPUT", 0x501C, 0x0, 1, false, false, fun _ => [FIO_OUTPUT_LEVEL]⟩,
  ⟨"FIO_GRP_CFG", 0x5040, 0x8, 4, false, true, fun g => [FIO_GRP_CFG_SAFE_TIMEOUT g]⟩,
  ⟨"FIO_GRP_STAT", 0x5044, 0x8, 4, false, false, fun g => [FIO_GRP_STAT_OK g, FIO_GRP_STAT_WARN g, FIO_GRP_STAT_OV g, FIO_GRP_STAT_SAFE g, FIO_GRP_STAT_LP_MV g]⟩,
  ⟨"FIO_CH_CFG", 0x5100, 0x10, 32, false, true, fun n => [FIO_CH_CFG_MODE n, FIO_CH_CFG_TYPE n, FIO_CH_CFG_OWNER n, FIO_CH_CFG_GANG n, FIO_CH_CFG_SAFE n, FIO_CH_CFG_OR_MODE n, FIO_CH_CFG_STRETCH n, FIO_CH_CFG_OPEN_DET n, FIO_CH_CFG_OVL_LATCH n, FIO_CH_CFG_DEBOUNCE n]⟩,
  ⟨"FIO_CH_STAT", 0x5104, 0x10, 32, false, false, fun n => [FIO_CH_STAT_STATE n, FIO_CH_STAT_CMD n, FIO_CH_STAT_LATCHED n, FIO_CH_STAT_SHORT n, FIO_CH_STAT_EXT_HIGH n, FIO_CH_STAT_THERMAL n, FIO_CH_STAT_OVERLOAD n, FIO_CH_STAT_OPEN_LOAD n, FIO_CH_STAT_OPEN_WIRE n]⟩,
  ⟨"FIO_CH_FAULTS", 0x5108, 0x10, 32, false, false, fun n => [FIO_CH_FAULTS_COUNT n]⟩,
  ⟨"FIO_ENC_CFG", 0x5300, 0x4, 4, false, true, fun e => [FIO_ENC_CFG_ENABLE e, FIO_ENC_CFG_Z_EN e, FIO_ENC_CFG_Z_CH e, FIO_ENC_CFG_B_CH e, FIO_ENC_CFG_A_CH e]⟩]

/-- The registers of spec/11_loop_transmitters.md. -/
def table11 : List RegDef := [
  ⟨"LPT_LT_CFG", 0x5800, 0x40, 2, false, true, fun x => [LPT_LT_CFG_EN x, LPT_LT_CFG_HART_EN x, LPT_LT_CFG_LCM x, LPT_LT_CFG_PREAMBLES x, LPT_LT_CFG_POLL_ADDR x, LPT_LT_CFG_SAFE_TIMEOUT x]⟩,
  ⟨"LPT_LT_MAP", 0x5804, 0x40, 2, false, false, fun x => [LPT_LT_MAP_IN_EN x, LPT_LT_MAP_OUT_EN x, LPT_LT_MAP_IN_ADDR x, LPT_LT_MAP_OUT_OFS x]⟩,
  ⟨"LPT_LT_SAFE", 0x5808, 0x40, 2, false, true, fun x => [LPT_LT_SAFE_SAFE_UA x]⟩,
  ⟨"LPT_LT_TRIM_GAIN", 0x580C, 0x40, 2, false, false, fun x => [LPT_LT_TRIM_GAIN_GAIN x]⟩,
  ⟨"LPT_LT_TRIM_OFFSET", 0x5810, 0x40, 2, false, false, fun x => [LPT_LT_TRIM_OFFSET_OFFSET x]⟩,
  ⟨"LPT_LT_STAT", 0x5814, 0x40, 2, false, false, fun x => [LPT_LT_STAT_LINK_UP x, LPT_LT_STAT_CONFIGURED x, LPT_LT_STAT_SAFE x, LPT_LT_STAT_HOLDING x, LPT_LT_STAT_TRIM x, LPT_LT_STAT_HART_ON x, LPT_LT_STAT_FIXED x, LPT_LT_STAT_TRIM_DEFAULT x, LPT_LT_STAT_TERM_MV x]⟩,
  ⟨"LPT_LT_FLAGS", 0x5818, 0x40, 2, false, false, fun x => [LPT_LT_FLAGS_CRC_ERR x, LPT_LT_FLAGS_LINK_RETURN x, LPT_LT_FLAGS_READBACK_DEV x, LPT_LT_FLAGS_CLAMP x, LPT_LT_FLAGS_MISWIRE x, LPT_LT_FLAGS_COMPLIANCE x, LPT_LT_FLAGS_TIMEOUT_SAFE x]⟩,
  ⟨"LPT_LT_CURRENT", 0x581C, 0x40, 2, false, false, fun x => [LPT_LT_CURRENT_NA x]⟩,
  ⟨"LPT_LT_HART_ID", 0x5820, 0x40, 2, true, true, fun x => [LPT_LT_HART_ID_UNIQUE x]⟩,
  ⟨"LPT_LT_HART_COUNT", 0x5828, 0x40, 2, false, false, fun x => [LPT_LT_HART_COUNT_REQUESTS x, LPT_LT_HART_COUNT_BUSY x]⟩]

/-- The registers of spec/12_host_rings.md. -/
def table12 : List RegDef := [
  ⟨"HIF_STATUS", 0x0400, 0x0, 1, false, false, fun _ => [HIF_STATUS_FW_UP, HIF_STATUS_BME, HIF_STATUS_MSIX_EN, HIF_STATUS_SPEED, HIF_STATUS_WIDTH]⟩,
  ⟨"HIF_EVENTS", 0x0404, 0x0, 1, false, false, fun _ => [HIF_EVENTS_HOST_DMA_ERR, HIF_EVENTS_PUBLISH_SKIP, HIF_EVENTS_EVT_LOST, HIF_EVENTS_DOORBELL_BAD, HIF_EVENTS_CFG_IGNORED, HIF_EVENTS_SETUP_REFUSED, HIF_EVENTS_MIRROR_RESYNC, HIF_EVENTS_RING_ERROR]⟩,
  ⟨"HIF_SETUP_ERR", 0x0408, 0x0, 1, false, false, fun _ => [HIF_SETUP_ERR_VALID, HIF_SETUP_ERR_RING, HIF_SETUP_ERR_CAUSE]⟩,
  ⟨"HIF_RING_ERR", 0x040C, 0x0, 1, false, false, fun _ => [HIF_RING_ERR_VALID, HIF_RING_ERR_RING, HIF_RING_ERR_REASON]⟩,
  ⟨"HIF_RING_ERR_IDX", 0x0410, 0x0, 1, false, false, fun _ => [HIF_RING_ERR_IDX_INDEX]⟩,
  ⟨"HIF_EVT_LOST", 0x0414, 0x0, 1, false, false, fun _ => [HIF_EVT_LOST_COUNT]⟩,
  ⟨"HIF_PUBLISH_SKIP", 0x0418, 0x0, 1, false, false, fun _ => [HIF_PUBLISH_SKIP_COUNT]⟩,
  ⟨"HIF_DOORBELL_BAD", 0x041C, 0x0, 1, false, false, fun _ => [HIF_DOORBELL_BAD_COUNT]⟩,
  ⟨"HIF_RING_ERROR", 0x0420, 0x4, 4, false, false, fun w => [HIF_RING_ERROR_RING w]⟩,
  ⟨"HIF_EVT_ROUTE", 0x0430, 0x4, 4, false, false, fun k => [HIF_EVT_ROUTE_EN3 k, HIF_EVT_ROUTE_RING3 k, HIF_EVT_ROUTE_EN2 k, HIF_EVT_ROUTE_RING2 k, HIF_EVT_ROUTE_EN1 k, HIF_EVT_ROUTE_RING1 k, HIF_EVT_ROUTE_EN0 k, HIF_EVT_ROUTE_RING0 k]⟩,
  ⟨"HIF_MIRROR_STAT", 0x0440, 0x0, 1, false, false, fun _ => [HIF_MIRROR_STAT_SYNCED, HIF_MIRROR_STAT_RESYNC, HIF_MIRROR_STAT_PENDING]⟩,
  ⟨"HIF_MIRROR_SEQ", 0x0444, 0x0, 1, true, false, fun _ => [HIF_MIRROR_SEQ_SEQ]⟩,
  ⟨"HIF_RING_BASE", 0x0500, 0x10, 128, true, false, fun r => [HIF_RING_BASE_BASE r]⟩,
  ⟨"HIF_RING_CFG", 0x0508, 0x10, 128, false, false, fun r => [HIF_RING_CFG_ENABLE r, HIF_RING_CFG_RESET r, HIF_RING_CFG_KIND r, HIF_RING_CFG_LOG2SIZE r, HIF_RING_CFG_PORT r, HIF_RING_CFG_IRQ_EN r, HIF_RING_CFG_VECTOR r, HIF_RING_CFG_COALESCE_US r]⟩,
  ⟨"HIF_RING_STATUS", 0x050C, 0x10, 128, false, false, fun r => [HIF_RING_STATUS_STATE r, HIF_RING_STATUS_CQ_FULL r, HIF_RING_STATUS_PHASE r, HIF_RING_STATUS_SQ_HEAD r]⟩]

/-- The registers of spec/14_boot_and_firmware.md. -/
def table14 : List RegDef := [
  ⟨"BOOT_STATUS", 0xA000, 0x0, 1, false, false, fun _ => [BOOT_STATUS_ATTEMPTS, BOOT_STATUS_COMPONENT, BOOT_STATUS_CAUSE, BOOT_STATUS_STATE]⟩,
  ⟨"BOOT_CTRL", 0xA004, 0x0, 1, false, false, fun _ => [BOOT_CTRL_RETRY, BOOT_CTRL_START]⟩,
  ⟨"BOOT_LEN", 0xA008, 0x0, 1, false, false, fun _ => [BOOT_LEN_BYTES]⟩,
  ⟨"BOOT_EVENTS", 0xA00C, 0x0, 1, false, false, fun _ => [BOOT_EVENTS_CTRL_IGNORED, BOOT_EVENTS_WINDOW_WRITE, BOOT_EVENTS_STATE_CHANGE]⟩,
  ⟨"BOOT_BUNDLE_VER", 0xA010, 0x0, 1, false, false, fun _ => [BOOT_BUNDLE_VER_VERSION]⟩,
  ⟨"BOOT_SEC_VER", 0xA014, 0x0, 1, false, false, fun _ => [BOOT_SEC_VER_VERSION]⟩,
  ⟨"BOOT_TIME", 0xA018, 0x0, 1, false, false, fun _ => [BOOT_TIME_INIT_MS, BOOT_TIME_VERIFY_MS, BOOT_TIME_LOAD_MS]⟩,
  ⟨"BOOT_COMP_VER", 0xA020, 0x4, 4, false, false, fun c => [BOOT_COMP_VER_VERSION c]⟩,
  ⟨"BOOT_COMP_STAT", 0xA030, 0x4, 4, false, false, fun c => [BOOT_COMP_STAT_STATE c, BOOT_COMP_STAT_START_MS c]⟩,
  ⟨"BOOT_UNIT_ID", 0xA048, 0x0, 1, true, false, fun _ => [BOOT_UNIT_ID_UNIT_ID]⟩]

/-- The registers of spec/15_security.md. -/
def table15 : List RegDef := [
  ⟨"SEC_STATUS", 0x6000, 0x0, 1, false, false, fun _ => [SEC_STATUS_LC_STATE, SEC_STATUS_OWNER_KEY, SEC_STATUS_OWNER_LOCK, SEC_STATUS_ROOT_DEBUG, SEC_STATUS_SEED_OK, SEC_STATUS_RBG_OK, SEC_STATUS_SESSION, SEC_STATUS_MIN_SVN, SEC_STATUS_VKEY_VALID, SEC_STATUS_VKEY_REVOKED]⟩,
  ⟨"SEC_EVENTS", 0x6004, 0x0, 1, false, false, fun _ => [SEC_EVENTS_ROOT_DEBUG, SEC_EVENTS_FUSE_ERR, SEC_EVENTS_RBG_FAIL, SEC_EVENTS_SLOTS_LOST, SEC_EVENTS_BLOB_REJECT, SEC_EVENTS_CR_LOCKOUT, SEC_EVENTS_CR_FAIL, SEC_EVENTS_LC_CHANGE]⟩,
  ⟨"SEC_SLOTS", 0x6008, 0x0, 1, false, false, fun _ => [SEC_SLOTS_LOADED]⟩,
  ⟨"SEC_SEEDBED", 0x600C, 0x0, 1, false, false, fun _ => [SEC_SEEDBED_VALID, SEC_SEEDBED_FLIPS]⟩,
  ⟨"SEC_CR", 0x6010, 0x0, 1, false, false, fun _ => [SEC_CR_CONSEC, SEC_CR_FAILS]⟩,
  ⟨"DBG_STATUS", 0x9000, 0x0, 1, false, false, fun _ => [DBG_STATUS_LEVEL, DBG_STATUS_JTAG_ATTACHED, DBG_STATUS_TRACE_ON, DBG_STATUS_S_HALTED, DBG_STATUS_C_HALTED]⟩,
  ⟨"DBG_EVENTS", 0x9004, 0x0, 1, false, false, fun _ => [DBG_EVENTS_JTAG_REFUSED, DBG_EVENTS_TRACE_GAP, DBG_EVENTS_HALT, DBG_EVENTS_LEVEL_CHANGE]⟩,
  ⟨"DBG_TRACE_CFG", 0x9008, 0x0, 1, false, false, fun _ => [DBG_TRACE_CFG_EN, DBG_TRACE_CFG_KINDS, DBG_TRACE_CFG_CORES]⟩]

/-- The registers of spec/16_supervision_and_power.md. -/
def table16 : List RegDef := [
  ⟨"SYS_STAT", 0x0004, 0x0, 1, false, false, fun _ => [SYS_STAT_FORCED, SYS_STAT_UE_SEEN]⟩,
  ⟨"SYS_EVENTS", 0x0008, 0x0, 1, false, false, fun _ => [SYS_EVENTS_CE, SYS_EVENTS_UE]⟩,
  ⟨"SYS_RESET_CAUSE", 0x000C, 0x0, 1, false, false, fun _ => [SYS_RESET_CAUSE_WARM, SYS_RESET_CAUSE_KIND]⟩,
  ⟨"SYS_ECC", 0x0010, 0x0, 1, false, false, fun _ => [SYS_ECC_UE, SYS_ECC_CE]⟩,
  ⟨"SYS_UE_ADDR", 0x0014, 0x0, 1, false, false, fun _ => [SYS_UE_ADDR_MEM, SYS_UE_ADDR_OFFSET]⟩,
  ⟨"WDG_CFG", 0x7000, 0x0, 1, false, true, fun _ => [WDG_CFG_EVIDENCE]⟩,
  ⟨"WDG_WINDOW", 0x7004, 0x0, 1, false, true, fun _ => [WDG_WINDOW_T_CLOSE, WDG_WINDOW_T_OPEN]⟩,
  ⟨"WDG_STATUS", 0x7008, 0x0, 1, false, false, fun _ => [WDG_STATUS_WARNING, WDG_STATUS_SUSPENDED, WDG_STATUS_FORCED, WDG_STATUS_ELAPSED]⟩,
  ⟨"WDG_EVENTS", 0x700C, 0x0, 1, false, false, fun _ => [WDG_EVENTS_DOUBLE, WDG_EVENTS_ROLLCALL, WDG_EVENTS_STALL_LONG, WDG_EVENTS_FORCED, WDG_EVENTS_EARLY, WDG_EVENTS_WARNING]⟩,
  ⟨"WDG_RESETS", 0x7010, 0x0, 1, false, false, fun _ => [WDG_RESETS_VALID, WDG_RESETS_COUNT]⟩,
  ⟨"WDG_SERVE_TIME", 0x7018, 0x0, 1, true, false, fun _ => [WDG_SERVE_TIME_TIME]⟩,
  ⟨"WDG_CAP_TIME", 0x7020, 0x0, 1, true, false, fun _ => [WDG_CAP_TIME_TIME]⟩,
  ⟨"WDG_CAP_INFO", 0x7028, 0x0, 1, false, false, fun _ => [WDG_CAP_INFO_VALID, WDG_CAP_INFO_CAUSE]⟩,
  ⟨"WDG_CAP_PC", 0x7040, 0x4, 12, false, false, fun n => [WDG_CAP_PC_PC n]⟩,
  ⟨"WDG_RC_CFG", 0x7080, 0x8, 4, false, true, fun k => [WDG_RC_CFG_EN k, WDG_RC_CFG_WIN k]⟩,
  ⟨"WDG_RC_MASK", 0x7084, 0x8, 4, false, true, fun k => [WDG_RC_MASK_TASK k]⟩,
  ⟨"WDG_RC_STAT", 0x70A0, 0x4, 4, false, false, fun k => [WDG_RC_STAT_MISS_TASK k, WDG_RC_STAT_DOUBLE_TASK k, WDG_RC_STAT_WINDOWS k]⟩,
  ⟨"PWR_STATUS", 0x7400, 0x0, 1, false, false, fun _ => [PWR_STATUS_STATE, PWR_STATUS_ENTERING, PWR_STATUS_SAG, PWR_STATUS_HOLDUP_LOW, PWR_STATUS_LAST, PWR_STATUS_LAST_ABORTED]⟩,
  ⟨"PWR_EVENTS", 0x7404, 0x0, 1, false, false, fun _ => [PWR_EVENTS_WAKE, PWR_EVENTS_ABORTED, PWR_EVENTS_REFUSED, PWR_EVENTS_STATE_CHANGE, PWR_EVENTS_SAG_LEAVE, PWR_EVENTS_POWERFAIL, PWR_EVENTS_SAG2, PWR_EVENTS_SAG1]⟩,
  ⟨"PWR_VIN", 0x7408, 0x0, 1, false, false, fun _ => [PWR_VIN_MIN_MV, PWR_VIN_MV]⟩,
  ⟨"PWR_HOLDUP", 0x740C, 0x0, 1, false, true, fun _ => [PWR_HOLDUP_MIN_MV, PWR_HOLDUP_SENSE_MV]⟩,
  ⟨"PWR_RETAIN", 0x7410, 0x0, 1, false, true, fun _ => [PWR_RETAIN_LPDDR_SR, PWR_RETAIN_BANKS, PWR_RETAIN_BANK0]⟩,
  ⟨"PWR_WAKE", 0x7414, 0x0, 1, false, false, fun _ => [PWR_WAKE_SOURCE, PWR_WAKE_COUNT]⟩,
  ⟨"PWR_SAG_COUNT", 0x7418, 0x0, 1, false, false, fun _ => [PWR_SAG_COUNT_POWERFAIL, PWR_SAG_COUNT_SAG2, PWR_SAG_COUNT_SAG1]⟩,
  ⟨"PWR_REFUSE", 0x7420, 0x4, 8, false, false, fun k => [PWR_REFUSE_ABORTED k, PWR_REFUSE_REFUSED k]⟩]

/-- The registers of spec/17_nv_store_and_clock.md. -/
def table17 : List RegDef := [
  ⟨"NVS_STATUS", 0x7800, 0x0, 1, false, false, fun _ => [NVS_STATUS_BUSY, NVS_STATUS_HOLD_BLOCK, NVS_STATUS_LOCKOUT, NVS_STATUS_QUEUED]⟩,
  ⟨"NVS_EVENTS", 0x7804, 0x0, 1, false, false, fun _ => [NVS_EVENTS_TWIN_CONFLICT, NVS_EVENTS_LOCKOUT, NVS_EVENTS_PW_FAIL, NVS_EVENTS_WRITE_REFUSED]⟩,
  ⟨"NVS_AREA", 0x7808, 0x0, 1, false, false, fun _ => [NVS_AREA_WPW, NVS_AREA_RPW]⟩,
  ⟨"NVS_PW_FAILS", 0x780C, 0x0, 1, false, false, fun _ => [NVS_PW_FAILS_FAILS]⟩,
  ⟨"NVS_WRITES", 0x7810, 0x0, 1, false, false, fun _ => [NVS_WRITES_COUNT]⟩,
  ⟨"NVS_TWR", 0x7814, 0x0, 1, false, false, fun _ => [NVS_TWR_MAX_US, NVS_TWR_LAST_US]⟩,
  ⟨"NVS_CONFLICT", 0x7818, 0x0, 1, false, false, fun _ => [NVS_CONFLICT_VALID, NVS_CONFLICT_ID]⟩,
  ⟨"RTC_SEC", 0x7C00, 0x0, 1, false, false, fun _ => [RTC_SEC_VALUE]⟩,
  ⟨"RTC_MIN", 0x7C04, 0x0, 1, false, false, fun _ => [RTC_MIN_VALUE]⟩,
  ⟨"RTC_HOUR", 0x7C08, 0x0, 1, false, false, fun _ => [RTC_HOUR_VALUE]⟩,
  ⟨"RTC_DAY", 0x7C0C, 0x0, 1, false, false, fun _ => [RTC_DAY_VALUE]⟩,
  ⟨"RTC_MONTH", 0x7C10, 0x0, 1, false, false, fun _ => [RTC_MONTH_VALUE]⟩,
  ⟨"RTC_WEEKDAY", 0x7C14, 0x0, 1, false, false, fun _ => [RTC_WEEKDAY_VALUE]⟩,
  ⟨"RTC_YEAR", 0x7C18, 0x0, 1, false, false, fun _ => [RTC_YEAR_VALUE]⟩,
  ⟨"RTC_STATUS", 0x7C20, 0x0, 1, false, false, fun _ => [RTC_STATUS_LOST, RTC_STATUS_ON_VBAT, RTC_STATUS_FROZEN, RTC_STATUS_STAGED]⟩,
  ⟨"RTC_EVENTS", 0x7C24, 0x0, 1, false, false, fun _ => [RTC_EVENTS_TIME_LOST, RTC_EVENTS_YEAR_WRAP, RTC_EVENTS_STALE_READ, RTC_EVENTS_DATE_REJ, RTC_EVENTS_ALM1, RTC_EVENTS_ALM0]⟩,
  ⟨"RTC_ALM_LO", 0x7C30, 0x8, 2, false, false, fun n => [RTC_ALM_LO_DAY n, RTC_ALM_LO_HOUR n, RTC_ALM_LO_MIN n, RTC_ALM_LO_SEC n]⟩,
  ⟨"RTC_ALM_HI", 0x7C34, 0x8, 2, false, false, fun n => [RTC_ALM_HI_EN n, RTC_ALM_HI_WAKE n, RTC_ALM_HI_MASK n, RTC_ALM_HI_WEEKDAY n, RTC_ALM_HI_MONTH n, RTC_ALM_HI_YEAR n]⟩]

/-- The registers of spec/18_event_recorder.md. -/
def table18 : List RegDef := [
  ⟨"REC_STATUS", 0x8000, 0x0, 1, false, false, fun _ => [REC_STATUS_CONSOLIDATING, REC_STATUS_WAITING, REC_STATUS_LOADED, REC_STATUS_EMERG_APPLIED]⟩,
  ⟨"REC_EVENTS", 0x8004, 0x0, 1, false, false, fun _ => [REC_EVENTS_NV_FAIL, REC_EVENTS_APP_REJ, REC_EVENTS_CLEARED, REC_EVENTS_CONS_DONE]⟩,
  ⟨"REC_CFG", 0x8008, 0x0, 1, false, true, fun _ => [REC_CFG_INTERVAL_MIN]⟩,
  ⟨"REC_CONS_SEQ", 0x800C, 0x0, 1, false, false, fun _ => [REC_CONS_SEQ_SEQ]⟩,
  ⟨"REC_CONS_TIME", 0x8010, 0x0, 1, true, false, fun _ => [REC_CONS_TIME_TIME]⟩,
  ⟨"REC_CLEAR_LAST", 0x8018, 0x0, 1, false, false, fun _ => [REC_CLEAR_LAST_ORIGIN, REC_CLEAR_LAST_KIND, REC_CLEAR_LAST_VALID]⟩,
  ⟨"REC_CLEAR_RANGE", 0x801C, 0x0, 1, false, false, fun _ => [REC_CLEAR_RANGE_COUNT, REC_CLEAR_RANGE_FIRST]⟩,
  ⟨"REC_CLEAR_TIME", 0x8020, 0x0, 1, true, false, fun _ => [REC_CLEAR_TIME_TIME]⟩,
  ⟨"REC_SUPPRESSED", 0x8028, 0x0, 1, false, false, fun _ => [REC_SUPPRESSED_COUNT]⟩,
  ⟨"REC_METRIC_CFG", 0x8100, 0x4, 256, false, true, fun m => [REC_METRIC_CFG_EN m, REC_METRIC_CFG_UNIT m, REC_METRIC_CFG_E m]⟩,
  ⟨"REC_SIEVE", 0x8800, 0x4, 512, false, true, fun j => [REC_SIEVE_BURST1 j, REC_SIEVE_RATE1 j, REC_SIEVE_BURST0 j, REC_SIEVE_RATE0 j]⟩]

/-- Every register of BAR0 that a chapter documents. -/
def table : List RegDef := table00 ++ table02 ++ table03 ++ table04 ++ table05 ++ table06 ++ table07 ++ table10 ++ table11 ++ table12 ++ table14 ++ table15 ++ table16 ++ table17 ++ table18

end Sys2Proof.Machine.Reg
end

