-- ==== Sys2Proof/Machine/Store.lean ====
section
/-! DEFINITION. The sparse stores of the state and the byte codings of R17: maps with rising keys, byte memory in
canonical form, little- and big-endian numbers, bit fields, and the check values of R101, R196, R198, R207 and R281. -/

namespace Sys2Proof.Machine

/-! ### Maps -/

/-- The value at a key. -/
def look {α : Type} : SMap α → Nat → Option α
  | [], _ => none
  | (k, v) :: m, a => if a = k then some v else if a < k then none else look m a

/-- The value at a key, or a default. -/
def lookD {α : Type} (m : SMap α) (k : Nat) (d : α) : α := (look m k).getD d

/-- Writes a key, keeping the keys rising. -/
def put {α : Type} (a : Nat) (v : α) : SMap α → SMap α
  | [] => [(a, v)]
  | (k, w) :: m =>
    if a < k then (a, v) :: (k, w) :: m
    else if a = k then (a, v) :: m
    else (k, w) :: put a v m

/-- Removes a key. -/
def del {α : Type} (a : Nat) (m : SMap α) : SMap α := m.filter (fun p => p.1 ≠ a)

/-- Changes the value at a key, from a default when the key is absent. -/
def upd {α : Type} (a : Nat) (d : α) (f : α → α) (m : SMap α) : SMap α := put a (f (lookD m a d)) m

/-- The canonical form of a map: keys rise strictly. -/
def SMap.wf {α : Type} : SMap α → Bool
  | [] => true
  | [_] => true
  | (a, _) :: (b, v) :: m => decide (a < b) && SMap.wf ((b, v) :: m)

/-! ### Byte memory -/

/-- One byte; an unlisted byte reads 0. -/
def rd (m : Mem) (a : Nat) : Byte := (look m a).getD 0

/-- Writes one byte; a 0 is not listed. -/
def wr (m : Mem) (a : Nat) (b : Byte) : Mem := if b = 0 then del a m else put a b m

/-- `n` bytes from an address. -/
def rdN (m : Mem) (a n : Nat) : List Byte := (List.range n).map (fun i => rd m (a + i))

/-- Writes bytes from an address. -/
def wrN : Mem → Nat → List Byte → Mem
  | m, _, [] => m
  | m, a, b :: bs => wrN (wr m a b) (a + 1) bs

/-- The listed cells of `[a, a + n)` of one memory replace those of another: a block copy. -/
def copyN (dst src : Mem) (a n : Nat) : Mem :=
  (src.filter (fun c => a ≤ c.1 ∧ c.1 < a + n)).foldl (fun m c => wr m c.1 c.2)
    (dst.filter (fun c => ¬(a ≤ c.1 ∧ c.1 < a + n)))

/-- Zeroes `n` bytes. -/
def zeroN (m : Mem) (a n : Nat) : Mem := m.filter (fun c => ¬(a ≤ c.1 ∧ c.1 < a + n))

/-- The canonical form of a memory: addresses rise strictly and no listed byte is 0. -/
def Mem.wf (m : Mem) : Bool := SMap.wf m && m.all (fun c => c.2 ≠ 0)

/-- The bit at a bit address (R29). -/
def rdBit (m : Mem) (b : Nat) : Bool := (rd m (b / 8)).getLsbD (b % 8)

/-- Writes the bit at a bit address (R29). -/
def wrBit (m : Mem) (b : Nat) (v : Bool) : Mem :=
  let old := rd m (b / 8)
  let one := BitVec.ofNat 8 (2 ^ (b % 8))
  wr m (b / 8) (if v then old ||| one else old &&& ~~~one)

/-- Writes `n` bits from a bit address with the low bits of a number. -/
def wrBits (m : Mem) (b : Nat) : Nat → Nat → Mem
  | 0, _ => m
  | n + 1, v => wrBit (wrBits m b n v) (b + n) (v.testBit n)

/-! ### Numbers and bytes -/

/-- The bits `[lo + w - 1 : lo]` of a number (R8). -/
def bits (v lo w : Nat) : Nat := v / 2 ^ lo % 2 ^ w

/-- Two's complement of `w` bits to an integer (R9). -/
def toInt (w v : Nat) : Int := if v % 2 ^ w < 2 ^ (w - 1) then (v % 2 ^ w : Int) else (v % 2 ^ w : Int) - 2 ^ w

/-- An integer to two's complement of `w` bits. -/
def ofInt (w : Nat) (i : Int) : Nat := (i % (2 ^ w : Int)).toNat

/-- Little-endian bytes (R17). -/
def le : Nat → Nat → List Byte
  | 0, _ => []
  | n + 1, v => BitVec.ofNat 8 v :: le n (v / 256)

/-- The number of little-endian bytes. -/
def ofLe : List Byte → Nat
  | [] => 0
  | b :: bs => b.toNat + 256 * ofLe bs

/-- Network byte order (R17). -/
def be (n v : Nat) : List Byte := (le n v).reverse

def ofBe (bs : List Byte) : Nat := ofLe bs.reverse

/-- `n` bytes of a list from an offset, as a little-endian number; absent bytes count 0. -/
def leAt (bs : List Byte) (o n : Nat) : Nat := ofLe ((bs.drop o).take n)

def beAt (bs : List Byte) (o n : Nat) : Nat := ofBe ((bs.drop o).take n)

/-- A list cut or padded with 0 to a length. -/
def fit (n : Nat) (bs : List Byte) : List Byte := bs.take n ++ List.replicate (n - bs.length) 0

/-- The ASCII bytes of a text. -/
def ascii (t : String) : List Byte := t.toList.map (fun c => BitVec.ofNat 8 c.toNat)

/-- The numbers below `n` whose bit is set in a mask, in rising order. -/
def setBits (n mask : Nat) : List Nat := (List.range n).filter mask.testBit

/-- Runs a state change for every element of a list, in order. -/
def forEach {σ α : Type} (l : List α) (s : σ) (f : α → σ → σ) : σ := l.foldl (fun s a => f a s) s

/-! ### Check values -/

/-- One bit of a cyclic redundancy check of width `w`, most significant bit first. -/
def crcBit (w poly reg : Nat) (b : Bool) : Nat :=
  let shifted := reg * 2 % 2 ^ w
  if reg.testBit (w - 1) != b then shifted ^^^ poly else shifted

/-- The bits of a byte, most significant first. -/
def msbBits (b : Byte) : List Bool := (List.range 8).reverse.map b.getLsbD

/-- A check value over bytes, most significant bit first, without reflection. -/
def crcMsb (w poly init : Nat) (bs : List Byte) : Nat :=
  (bs.flatMap msbBits).foldl (crcBit w poly) init

/-- The bits of a `w`-bit number in the opposite order. -/
def reflect (w v : Nat) : Nat := (List.range w).foldl (fun a i => if v.testBit i then a + 2 ^ (w - 1 - i) else a) 0

/-- A check value over bytes, least significant bit first, with reflected output and a final exclusive or. -/
def crcLsb (w poly init : Nat) (bs : List Byte) : Nat :=
  reflect w ((bs.flatMap (fun b => (List.range 8).map b.getLsbD)).foldl (crcBit w poly) init) ^^^ (2 ^ w - 1)

/-- HCHECK of R170: CRC-16. -/
def crc16 (bs : List Byte) : Nat := crcMsb 16 0x1021 0xFFFF bs

/-- The CRC-32 of IEEE 802.3, which R182 appends as the FCS (PRESUMED, log entry 88: the manual gives no polynomial). -/
def crc32 (bs : List Byte) : Nat := crcLsb 32 0x04C11DB7 0xFFFFFFFF bs

/-- CRC-32C: polynomial 0x1EDC_6F41, reflected, initial value and final inversion all ones (PRESUMED, log entry 5: the
manual names the check and gives no polynomial). -/
def crc32c (bs : List Byte) : Nat := crcLsb 32 0x1EDC6F41 0xFFFFFFFF bs

/-- CRC-64 of R207. -/
def crc64 (bs : List Byte) : Nat := crcLsb 64 0x42F0E1EBA9EA3693 0xFFFFFFFFFFFFFFFF bs

end Sys2Proof.Machine
end

