-- ==== Sys2Proof/Machine/Ops.lean ====
section
/-! DEFINITION. The operations that every chapter uses: register fields (R11, R16), device time and SYNC cycles (R144,
R145), free values, what leaves the module, interrupts (R329), completion queues (R318, R319, R330), events (R331–R333),
the journal (R355–R358) and the completion of commands (R322–R326, R361). -/

namespace Sys2Proof.Machine

open Reg

/-! ### Register fields -/

/-- The value of a field. -/
def fget (s : State) (f : Field) : Nat := (look s.regs (8 * f.off + f.lsb)).getD f.reset

/-- The value of a one-bit field. -/
def fbit (s : State) (f : Field) : Bool := fget s f ≠ 0

/-- The bank with a field set to a value, cut to its width; a field at its reset value is not listed. -/
def bput (f : Field) (v : Nat) (b : Bank) : Bank :=
  let w := v % 2 ^ f.width
  if w = f.reset then del (8 * f.off + f.lsb) b else put (8 * f.off + f.lsb) w b

/-- Hardware sets a field. -/
def fput (f : Field) (v : Nat) (s : State) : State := { s with regs := bput f v s.regs }

/-- Hardware sets all bits of a flag: the event that the flag latches (R16). -/
def raise (f : Field) (s : State) : State := fput f (2 ^ f.width - 1) s

/-- Hardware sets or clears one bit of a mask field. -/
def fputBit (f : Field) (i : Nat) (v : Bool) (s : State) : State :=
  let old := fget s f
  fput f (if v = old.testBit i then old else old ^^^ 2 ^ i) s

/-- A counter that saturates. -/
def bump (f : Field) (n : Nat) (s : State) : State := fput f (min (2 ^ f.width - 1) (fget s f + n)) s

/-- A counter that wraps. -/
def bumpWrap (f : Field) (n : Nat) (s : State) : State := fput f (fget s f + n) s

/-- A field that holds the largest value seen, saturating. -/
def bumpMax (f : Field) (v : Nat) (s : State) : State := fput f (max (fget s f) (min v (2 ^ f.width - 1))) s

/-- Returns the fields of a block of registers to their reset values (R12). -/
def resetBlock (lo hi : Nat) (s : State) : State :=
  { s with regs := s.regs.filter (fun p => ¬(8 * lo ≤ p.1 ∧ p.1 < 8 * hi)) }

/-! ### Time -/

/-- Device time, in sixteenths of a ns, at a moment of the module's own clock (R144): the clock runs on through the steps of
R149 and R202, which move device time against it. -/
def devTime (s : State) (t : Nat) : Nat := ((t : Int) + s.net.ptp.step).toNat

/-- The moment of the module's own clock at a device time. -/
def localTime (s : State) (d : Nat) : Nat := ((d : Int) - s.net.ptp.step).toNat

/-- Device time in ns at a moment. -/
def devNs (s : State) (t : Nat) : Nat := devTime s t / 16

/-- Device time in ns (R144). -/
def nsNow (s : State) : Nat := devNs s s.now

/-- Time does not run back: an event that is due at `t` happens then or now. -/
def advance (t : Nat) (s : State) : State := { s with now := max s.now t }

def usec (n : Nat) : Nat := n * 16000
def msec (n : Nat) : Nat := n * 16000000
def secs (n : Nat) : Nat := n * 16000000000

/-- T_sync in ns (R153). -/
def tSync (s : State) : Nat := 31250 * 2 ^ fget s NET_CYCLE_CFG_TSYNC

/-- PHASE in ns (R145). -/
def phaseNs (s : State) : Nat := fget s NET_CYCLE_PHASE_NS

/-- The SYNC cycle at a moment (R145). -/
def cycleAt (s : State) (t : Nat) : Nat := (devTime s t - phaseNs s * 16) / (tSync s * 16)

/-- No boundary has occurred at a moment (R145). -/
def beforeGrid (s : State) (t : Nat) : Bool := devTime s t < phaseNs s * 16

/-- The current SYNC cycle. -/
def cycleNow (s : State) : Nat := cycleAt s s.now

/-- The boundary of SYNC cycle `n` (R145). -/
def boundary (s : State) (n : Nat) : Nat := localTime s ((n * tSync s + phaseNs s) * 16)

/-- Moves on to the boundary of SYNC cycle `n`. -/
def toBoundary (n : Nat) (s : State) : State := advance (boundary s n) s

/-- Cycle numbers follow a new grid (R145): the points of a cycle that has begun count as handled. -/
def newGrid (n : State) : State :=
  let c := cycleNow n + (if boundary n (cycleNow n) < n.now then 1 else 0)
  { n with
    seq.cycles := c
    seq.relCycle := []
    net.cutCycle := c
    net.gatherCycle := c
    net.sentCycle := c
    net.statusCycle := c
    net.sentPlant := c
    fio.sampled := c }

/-- Device time becomes `d` at the moment `t`, in one step (R149, R202; DEDUCED, log entry 92). -/
def stepTime (d : Nat) (t : Nat) (s : State) : State := newGrid { s with net.ptp.step := (d : Int) - t }

/-! ### States that many rules ask for -/

/-- Controller state (R79): 0 OFFLINE, 1 READY, 2 STOP, 3 RUN, 4 HALT. -/
def ctl (s : State) : Nat := fget s CTL_STATE_STATE

/-- Pair code (R190). -/
def pair (s : State) : Nat := fget s RED_STATUS_PAIR_STATE

/-- A standby code: 1, 3 or 5 (R190). -/
def standby (s : State) : Bool := pair s = 1 ∨ pair s = 3 ∨ pair s = 5

/-- Power state (R428): 0 RUN, 1 TRIM, 2 HOLD, 3 DORMANT, 4 WAKE sequence. -/
def power (s : State) : Nat := fget s PWR_STATUS_STATE

/-- Sag stage (R435): 0 none, 1 SAG1, 2 SAG2, 3 POWERFAIL. -/
def sag (s : State) : Nat := fget s PWR_STATUS_SAG

/-- Boot state (R365). -/
def boot (s : State) : Nat := fget s BOOT_STATUS_STATE

/-- The state guard HOLDUP_LOW (R437). Until the first measurement after a reset it is 0, as the Reset column of
PWR_STATUS.HOLDUP_LOW and NVS_STATUS.HOLD_BLOCK says (DEDUCED, log entry 65). -/
def holdupLow (s : State) : Bool :=
  (s.sup.measured ∧ fget s PWR_HOLDUP_SENSE_MV < fget s PWR_HOLDUP_MIN_MV) ∨ sag s = 3

/-- Outputs carry committed values (R84, R190); those of the old active do so until the release of its handover, at
H + 10 µs, and those of a unit that has sent an explicit fault no more (R215). -/
def outputsLive (s : State) : Bool :=
  ctl s = 3 ∧ !s.red.faultSent ∧ (!standby s ∨ (pair s = 5 ∧ s.red.handover.any (fun x => x.source ∧ x.outputsAt.isSome)))

/-- The logic side stands still, and the islands act on the silence of their links (R427, R428). -/
def logicOff (s : State) : Bool := s.sup.clockLost || decide (power s ≥ 3)

/-- The controller state holds the outputs at their safe values (R84, R287). -/
def stateSafe (s : State) : Bool := !logicOff s && !outputsLive s

/-! ### Free values -/

/-- A fresh number for `Config.freeBits` and `Config.freeNat`. -/
def fresh (s : State) : State × Nat := ({ s with free := s.free + 1 }, s.free)

/-! ### What leaves the module -/

def emit (o : Output) (s : State) : State := { s with out := o :: s.out }

/-- A write to host memory, made at once or held while Bus Master Enable is 0 (R313). -/
def dma (o : Output) (s : State) : State :=
  if fbit s HIF_STATUS_BME then emit o s else { s with hif.held := s.hif.held ++ [o] }

/-! ### Interrupts (R312, R329) -/

/-- Word `j` of MSI-X table entry `v`; the vector control word is 1, masked, until the host writes it. -/
def msixWord (s : State) (v j : Nat) : Word := lookD s.hif.msixTable (4 * v + j) (if j = 3 then 1 else 0)

/-- A message of the vector may leave now. -/
def msixOpen (s : State) (v : Nat) : Bool :=
  fbit s HIF_STATUS_MSIX_EN && fbit s HIF_STATUS_BME && !s.hif.funcMask && !(msixWord s v 3).getLsbD 0

def msixOut (s : State) (v : Nat) : Output :=
  .msix v ((msixWord s v 0).toNat + 2 ^ 32 * (msixWord s v 1).toNat) (msixWord s v 2)

/-- Signals a vector: a message, or its pending bit while it is masked. -/
def interrupt (v : Nat) (s : State) : State :=
  if msixOpen s v then emit (msixOut s v) s
  else if fbit s HIF_STATUS_MSIX_EN then { s with hif.msixPend := put v true s.hif.msixPend }
  else s

/-- Sends the pending messages whose vectors are unmasked. -/
def sendPending (s : State) : State :=
  forEach (s.hif.msixPend.map (·.1)) s fun v s =>
    if msixOpen s v then emit (msixOut s v) { s with hif.msixPend := del v s.hif.msixPend } else s

/-! ### Rings -/

def ring (s : State) (r : Nat) : Ring := lookD s.hif.rings r {}
def setRing (r : Nat) (f : Ring → Ring) (s : State) : State :=
  { s with hif.rings := upd r {} f s.hif.rings }

/-- STATE of a ring: 0 DISABLED, 1 RUNNING, 2 ERROR, 3 RESETTING. -/
def ringState (s : State) (r : Nat) : Nat := fget s (HIF_RING_STATUS_STATE r)

/-- Kind of a ring (R314); ring 0 is always COMMAND. -/
def ringKind (s : State) (r : Nat) : Nat := if r = 0 then 0 else fget s (HIF_RING_CFG_KIND r)

/-- N of R315. -/
def ringN (s : State) (r : Nat) : Nat := 2 ^ fget s (HIF_RING_CFG_LOG2SIZE r)

/-- SQ entry size by kind (R314). -/
def sqSize (kind : Nat) : Nat := if kind = 0 then 64 else if kind = 1 then 0 else if kind = 5 then 32 else 16

def ringBase (s : State) (r : Nat) : Nat := fget s (HIF_RING_BASE_BASE r) * 4096

/-- The host address of the completion queue (R315). -/
def cqBase (s : State) (r : Nat) : Nat :=
  ringBase s r + (ringN s r * sqSize (ringKind s r) + 4095) / 4096 * 4096

/-- The completion queue is full (R318). -/
def cqFull (s : State) (r : Nat) : Bool := ((ring s r).cqTail + 1) % ringN s r = (ring s r).cqHead

/-- CQ_FULL follows the indices. -/
def showFull (r : Nat) (s : State) : State := fput (HIF_RING_STATUS_CQ_FULL r) (if cqFull s r then 1 else 0) s

/-- When the first unconsumed entry that has not been signalled was posted (R330). -/
def unsignalled (g : Ring) : Option Nat := (g.posted.find? (fun x => !x.told)).map (·.at_)

/-- Signals the vector of a ring: every posted entry is signalled. -/
def signalRing (r : Nat) (s : State) : State :=
  interrupt (fget s (HIF_RING_CFG_VECTOR r))
    (setRing r (fun g => { g with signalled := true, posted := g.posted.map (fun x => { x with told := true }) }) s)

/-- Signals the vector of a ring when R330 lets it do so at once. -/
def trySignal (r : Nat) (s : State) : State :=
  let g := ring s r
  if fbit s (HIF_RING_CFG_IRQ_EN r) ∧ !g.signalled
      ∧ g.posted.any (fun x => !x.told && (decide (fget s (HIF_RING_CFG_COALESCE_US r) = 0) || x.irqNow)) then signalRing r s
  else s

/-- Posts one completion queue entry: 31 bytes and the phase (R318, R319, R330). The caller has seen that the queue is
not full. -/
def postCq (r : Nat) (body : List Byte) (irqNow : Bool) (s : State) : State :=
  let g := ring s r
  let phase := fget s (HIF_RING_STATUS_PHASE r)
  let tail := (g.cqTail + 1) % ringN s r
  s |> dma (.cq r g.cqTail (cqBase s r + 32 * g.cqTail) (fit 31 body ++ [BitVec.ofNat 8 phase]))
    |> setRing r (fun g => { g with cqTail := tail, posted := g.posted ++ [{ at_ := s.now, irqNow }] })
    |> fput (HIF_RING_STATUS_PHASE r) (if tail = 0 then 1 - phase else phase)
    |> showFull r
    |> trySignal r

/-! ### Events (R331–R333) -/

/-- The EVENT ring that the events of a source go to (R332). -/
def route (s : State) (src : Nat) : Option Nat :=
  let w := fget s (HIF_EVT_ROUTE_RING0 (src / 4)) + 2 ^ 7 * fget s (HIF_EVT_ROUTE_EN0 (src / 4))
    + 2 ^ 8 * fget s (HIF_EVT_ROUTE_RING1 (src / 4)) + 2 ^ 15 * fget s (HIF_EVT_ROUTE_EN1 (src / 4))
    + 2 ^ 16 * fget s (HIF_EVT_ROUTE_RING2 (src / 4)) + 2 ^ 23 * fget s (HIF_EVT_ROUTE_EN2 (src / 4))
    + 2 ^ 24 * fget s (HIF_EVT_ROUTE_RING3 (src / 4)) + 2 ^ 31 * fget s (HIF_EVT_ROUTE_EN3 (src / 4))
  let b := bits w (8 * (src % 4)) 8
  if b ≥ 128 ∧ ringKind s (b % 128) = 1 then some (b % 128) else none

/-- The event would be delivered: its source is routed to a running EVENT ring with room (R333). -/
def eventFits (s : State) (src : Nat) : Bool :=
  match route s src with
  | some r => ringState s r = 1 && !cqFull s r
  | none => false

/-- Delivers or drops one event (R331, R333). Sources: 0 HIF, 1 CTL, 2 IMG, 3 TRL, 4 NET, 5 RED, 6 FIO, 7 LPT, 8 SEC,
9 WDG, 10 PWR, 11 NVS, 12 RTC, 13 REC, 14 BOOT, 15 DBG. -/
def event (src code a b : Nat) (s : State) : State :=
  match route s src with
  | none => s
  | some r =>
    let n := s.hif.evtSeq
    let s1 : State := { s with hif.evtSeq := (n + 1) % 2 ^ 32 }
    if eventFits s src then
      s1 |> setRing r (fun g => { g with lost := false })
         |> postCq r (le 2 code ++ le 1 src ++ le 1 (if (ring s r).lost then 1 else 0) ++ le 4 a ++ le 8 (nsNow s)
              ++ le 8 b ++ le 4 n ++ le 3 0) false
    else
      s1 |> setRing r (fun g => { g with lost := true }) |> bump HIF_EVT_LOST_COUNT 1 |> raise HIF_EVENTS_EVT_LOST

/-! ### The journal -/

/-- The JSEQ of the next entry (R355). -/
def nextJseq (s : State) : Nat := s.cmd.startCount * 2 ^ 40 + s.cmd.nextJ

/-- The JSEQ of the last entry written. -/
def lastJseq (s : State) : Nat := nextJseq s - 1

/-- An entry of the module itself, at the present instant. -/
def jentry (s : State) (type : Nat) : JEntry :=
  { jseq := nextJseq s, time := nsNow s, type, opcode := 0, origin := 2, ring := 0xFF, index := 0, tag := 0,
    status := 0, reason := 0, ident := 0, cycle := cycleNow s, detailA := 0, detailB := 0 }

/-- RING of R355. -/
def originRing : Origin → Nat
  | .ring r => r.val
  | .svc => 0xFF

def originCode : Origin → Nat
  | .ring _ => 0
  | .svc => 1

/-- An entry that belongs to a command. -/
def jcommand (s : State) (type op : Nat) (d : Desc) : JEntry :=
  { jentry s type with
    opcode := op, origin := originCode d.origin, ring := originRing d.origin, index := d.index % 65536,
    tag := d.tag, ident := d.ident }

/-- Data address of retained bank 0 (R226). -/
def bank0 : Nat := 0x30000000

/-- The summary of an entry in retained bank 0 (R357); for START the kind and the start count. -/
def summary (e : JEntry) : List Byte :=
  let start := e.type = 0x0040
  le 1 e.type ++ le 1 (e.origin % 4) ++ le 1 e.ring ++ le 2 (if start then e.detailA % 16 else e.index)
    ++ le 4 (if start then e.jseq / 2 ^ 40 else e.tag.toNat) ++ le 2 e.opcode ++ le 1 e.status ++ le 2 e.reason
    ++ le 1 e.jseq

/-- The JSEQ of the summary after the one with JSEQ `j`, whose bytes are given (R357). -/
def jseqAfter (j : Nat) (next : List Byte) : Nat :=
  if leAt next 0 1 = 0x40 ∧ leAt next 3 2 % 16 ≤ 1 then leAt next 5 3 * 2 ^ 40 + 1 else j + 1

def summaryAt (s : State) (slot : Nat) : List Byte := rdN s.mem.data (bank0 + 0x100 + 15 * (slot % 4096)) 15

/-- Where the journal tail header stands in the system header of bank 0, which R357 leaves open (DESIGN CHOICE, log entry 104). -/
def tailHeadAt : Nat := bank0 + 0xF0

/-- The journal tail header (R357): OLDEST_JSEQ, the JSEQ of the oldest summary held, how many are held, and the slot that the next
one takes. -/
structure TailHead where
  oldest : Nat := 0
  count : Nat := 0
  next : Nat := 0
  deriving DecidableEq, Repr

/-- The 16 bytes of a tail header: its fields, and their CRC-32C. -/
def TailHead.bytes (h : TailHead) : List Byte :=
  let b := le 8 h.oldest ++ le 2 h.count ++ le 2 h.next
  b ++ le 4 (crc32c b)

/-- The tail header in bank 0; where its CRC fails, the whole tail is treated as absent (R357). -/
def tailHead (s : State) : TailHead :=
  let b := rdN s.mem.data tailHeadAt 16
  if leAt b 12 4 = crc32c (b.take 12) then
    { oldest := leAt b 0 8, count := min 4096 (leAt b 8 2), next := leAt b 10 2 % 4096 }
  else {}

/-- Writes an entry to the journal, and its summary and the tail header to bank 0 (R355, R357). -/
def jadd (e : JEntry) (s : State) : State :=
  let h := tailHead s
  let h1 : TailHead :=
    { oldest := if h.count = 0 then e.jseq
        else if h.count = 4096 then jseqAfter h.oldest (summaryAt s (h.next + 1))
        else h.oldest
      count := min 4096 (h.count + 1)
      next := (h.next + 1) % 4096 }
  { s with
    cmd.jrnl := (e :: s.cmd.jrnl).take 1048576
    cmd.nextJ := s.cmd.nextJ + 1
    mem.data := wrN (wrN s.mem.data (bank0 + 0x100 + 15 * h.next) (summary e)) tailHeadAt h1.bytes }

/-- Writes an entry of a type with its details. -/
def jnote (type a b : Nat) (s : State) : State := jadd { jentry s type with detailA := a, detailB := b } s

/-! ### Completions -/

/-- A command completion without its phase byte (R322). -/
def completion (d : Desc) (status reason jseq result len : Nat) : List Byte :=
  le 4 d.tag.toNat ++ le 2 status ++ le 2 reason ++ le 8 jseq ++ le 8 result ++ le 4 len ++ le 3 0

/-- A command completion in network byte order, for the service port (R362). -/
def completionBe (d : Desc) (status reason jseq result len : Nat) : List Byte :=
  be 4 d.tag.toNat ++ be 2 status ++ be 2 reason ++ be 8 jseq ++ be 8 result ++ be 4 len ++ be 4 0

/-- Header of a service-port response with TAG16 of 0 (R362). -/
def svcHead (session seq bodyLen : Nat) : List Byte :=
  be 2 0x5653 ++ be 1 1 ++ be 1 1 ++ be 4 session ++ be 4 seq ++ be 2 bodyLen ++ be 2 0

/-- TAG16 of a datagram (R363). -/
def svcTag (key head body : List Byte) : List Byte :=
  (Config.hmac384 key (head ++ List.replicate 16 0 ++ body)).take 16

/-- A frame leaves on the service port, and its TX_FRAMES counts it (R186). -/
def svcOut (o : Output) (s : State) : State := bumpWrap (NET_PORT_TX_FRAMES_COUNT 4) 1 (emit o s)

/-- Answers the request that the service port is serving, and caches the answer of a session (R362, R363). -/
def svcAnswer (body : List Byte) (s : State) : State :=
  match s.cmd.svc with
  | none => s
  | some q =>
    let head := svcHead q.session q.seq body.length
    let inSession : Bool := match s.cmd.session with
      | some x => decide (q.session = x.num ∧ q.session ≠ 0)
      | none => false
    let tag := match s.cmd.session with
      | some x => if inSession then svcTag x.key head body else List.replicate 16 0
      | none => List.replicate 16 0
    let raw := head ++ tag ++ body
    { s with
      cmd.svc := none
      cmd.session := if inSession ∧ q.valid then s.cmd.session.map (fun x => { x with cached := raw }) else s.cmd.session }
      |> svcOut (.svc q.ip q.port raw)

/-- Enters ERROR at a malformed entry whose error completion has been posted (R326). -/
def enterError (r index reason : Nat) (s : State) : State :=
  s |> fput (HIF_RING_STATUS_STATE r) 2
    |> fput HIF_RING_ERR_VALID 1 |> fput HIF_RING_ERR_RING r |> fput HIF_RING_ERR_REASON reason
    |> fput HIF_RING_ERR_IDX_INDEX index
    |> fputBit (HIF_RING_ERROR_RING (r / 32)) (r % 32) true
    |> raise HIF_EVENTS_RING_ERROR
    |> event 0 0x400 (r + 2 ^ 16 * reason) index

/-- A fence owes one completion less on a ring (R325). -/
def oweLess (r : Nat) (x : Fence) : Fence :=
  { x with owed := x.owed.map (fun p => if p.1 = r then (p.1, p.2 - 1) else p) }

/-- Posts the completions at the head of a ring's slots, in index order, while the queue has room (R324). -/
def flush (r : Nat) : Nat → State → State
  | 0, s => s
  | n + 1, s =>
    match (ring s r).slots with
    | [] => s
    | g :: rest =>
      match g.done with
      | none => s
      | some body =>
        if ringState s r ≠ 1 ∨ cqFull s r then s
        else
          let s1 := s |> setRing r (fun x => { x with slots := rest }) |> postCq r body g.irqNow
          let s2 : State := { s1 with hif.fences := s1.hif.fences.map (oweLess r) }
          match g.err with
          | some reason => enterError r g.index reason s2
          | none => flush r n s2

/-- Writes the entry that records the outcome of a command with a later effect (R361, R358). -/
def jcompleted (jb : Job) (status reason result : Nat) (s : State) : State :=
  jadd { jcommand s 0x0003 jb.op jb.d with
    status, reason, detailA := result, origin := if jb.mirrored then 3 else originCode jb.d.origin } s

/-- Fills the slot of a command; `key` is the JSEQ of its acceptance, 0 for a refusal. -/
def fillSlot (r index key : Nat) (body : List Byte) (s : State) : State :=
  setRing r (fun g => { g with
    slots := g.slots.map
      (fun x => if x.index = index ∧ x.key = key ∧ x.done = none then { x with done := some body } else x) }) s

/-- Posts the completion of a command, with the data that it writes to its buffer first (R319, R322). A mirrored command
has no completion (R361). -/
def deliver (jb : Job) (status reason jseq result : Nat) (data : List Byte) (s : State) : State :=
  if jb.mirrored then s
  else match jb.d.origin with
    | .svc => svcAnswer (completionBe jb.d status reason jseq result (data.take 1024).length ++ data.take 1024) s
    | .ring r =>
      let s1 := if data.isEmpty then s else dma (.hostWrite jb.d.bufAddr.toNat data) s
      s1 |> fillSlot r.val jb.d.index jb.j (completion jb.d status reason jseq result data.length)
         |> flush r.val ((ring s r.val).slots.length + 1)

/-- Completes with the JSEQ of the last journal entry written, which is the command's own. -/
def finish (jb : Job) (status reason result : Nat) (data : List Byte) (s : State) : State :=
  deliver jb status reason (lastJseq s) result data s

/-- The outcome of a command with a later effect: its COMPLETED entry, then its completion (R361). -/
def conclude (jb : Job) (status reason result : Nat) (data : List Byte) (s : State) : State :=
  finish jb status reason result data (jcompleted jb status reason result s)

/-- Ends the fences that are satisfied, and those that name a ring that has left RUNNING (R325). A fence's own completion
may satisfy another. -/
def settleFences : Nat → State → State
  | 0, s => s
  | n + 1, s =>
    match s.hif.fences.find? (fun x => x.owed.all (fun p => p.2 = 0)) with
    | some x => settleFences n (conclude x.job 0 0 0 [] { s with hif.fences := s.hif.fences.erase x })
    | none =>
      match s.hif.fences.find? (fun x => x.owed.any (fun p => ringState s p.1 ≠ 1)) with
      | some x => settleFences n (conclude x.job 0x0A 0x0502 0 [] { s with hif.fences := s.hif.fences.erase x })
      | none => s

def settle (s : State) : State := settleFences s.hif.fences.length s

/-- Completes a command at once, after its acceptance, whose entry is the last one written for it (R323, R361). -/
def done (jb : Job) (result : Nat) (data : List Byte) (s : State) : State := settle (deliver jb 0 0 jb.j result data s)

/-- Completes a command at its later effect. -/
def ended (jb : Job) (status reason result : Nat) (s : State) : State :=
  settle (conclude jb status reason result [] s)

/-- Accepts a command: its ACCEPTED entry with the effect cycle or 0 (R323, R358). -/
def accept (op : Nat) (d : Desc) (effect : Nat) (s : State) : State × Job :=
  let j := nextJseq s
  let s1 := jadd { jcommand s 0x0001 op d with detailA := effect } s
  let s2 := match d.origin with
    | .ring r => setRing r.val (fun g => { g with
        slots := g.slots.map (fun x => if x.index = d.index ∧ x.key = 0 ∧ x.done = none then { x with key := j } else x) }) s1
    | .svc => s1
  (s2, { op, d, j })

/-- The life-cycle states in which service cores may be traced, halted and written (R405) and in which the controller does
not leave READY (R21, R391). -/
def serviceOpen (s : State) : Bool := s.sec.life = 0 ∨ s.sec.life = 3

/-- A descriptor that R321 calls malformed. -/
def malformed (status reason : Nat) : Bool := status = 2 ∧ 0x0101 ≤ reason ∧ reason ≤ 0x0107

/-- Refuses a command: its REFUSED entry and its completion; a malformed descriptor of a ring takes the ring to ERROR
once the completions before it are posted (R323, R326). -/
def refuse (op : Nat) (d : Desc) (status reason : Nat) (s : State) : State :=
  let s1 := jadd { jcommand s 0x0002 op d with status, reason } s
  let s2 := match d.origin with
    | .ring r => if malformed status reason then
        setRing r.val (fun g => { g with
          slots := g.slots.map (fun x => if x.index = d.index ∧ x.key = 0 ∧ x.done = none
            then { x with err := some reason } else x) }) s1
      else s1
    | .svc => s1
  settle (finish { op, d } status reason 0 [] s2)

/-! ### The target of a loop transmitter (R292, R293, R305) -/

def loop (s : State) (x : Nat) : Loop := lookD s.lpt x {}
def setLoop (x : Nat) (f : Loop → Loop) (s : State) : State := { s with lpt := upd x {} f s.lpt }

/-- A command within 3,800,000 to 20,500,000 nA. -/
def clampLoop (w : Nat) : Nat := min 20500000 (max 3800000 w)

/-- A transmitter is in the power-up state (R293). -/
def loopPowerUp (s : State) (x : Nat) : Bool := (loop s x).powerUp || (decide (ctl s = 0) && !logicOff s)

/-- The target in nA and the priority of R293 that gives it; 0 for the power-up state. An island whose link is silent holds its
target (R300). In the pair codes 1 and 3 the unit runs no program, and the loop carries its safe current, as it does once an explicit
fault is sent (R215). -/
def loopTarget (s : State) (x : Nat) : Nat × Nat :=
  let l := loop s x
  let safe := fget s (LPT_LT_SAFE_SAFE_UA x) * 1000
  if loopPowerUp s x then (4000000, 0)
  else if l.miswire then (3900000, 1)
  else if l.safeOnTimeout then (safe, 2)
  else match l.hold, l.trim with
    | some t, _ => t
    | none, some t => (if t.stage = 1 then 4000000 else 20000000, 3)
    | none, none =>
      if fget s (LPT_LT_CFG_POLL_ADDR x) ≠ 0 ∧ !fbit s (LPT_LT_CFG_LCM x) then (4000000, 4)
      else if !logicOff s ∧ (ctl s ≠ 3 ∨ pair s = 1 ∨ pair s = 3 ∨ s.red.faultSent) then (safe, 5)
      else (clampLoop l.word, 6)

/-- A quotient rounded to the nearest integer. -/
def nearest (n d : Int) : Int := (2 * n + d) / (2 * d)

/-- The converter setpoint in steps of 24 mA / 2^18: GAIN × target + OFFSET for the priorities that go through the trim, and
the target itself for the others (R293, R305). -/
def loopCode (s : State) (x : Nat) : Nat :=
  let (target, p) := loopTarget s x
  let d : Int := if p = 2 ∨ p ≥ 4 then
      target * fget s (LPT_LT_TRIM_GAIN_GAIN x) + toInt 32 (fget s (LPT_LT_TRIM_OFFSET_OFFSET x)) * 2 ^ 30
    else target * 2 ^ 30
  (nearest (d * 2 ^ 18) (24000000 * 2 ^ 30)).toNat

/-- HART answers (R303). -/
def hartOn (s : State) (x : Nat) : Bool := fbit s (LPT_LT_CFG_HART_EN x) && !(loop s x).miswire && !loopPowerUp s x

/-- What a change of state does to the loops: the time of a change of target is kept (R296), and the stage takes its new
setpoint. -/
def noteLoops (old s : State) : State :=
  forEach [0, 1] s fun x s =>
    let s1 := if loopTarget old x = loopTarget s x then s else setLoop x (fun l => { l with targetAt := s.now }) s
    if loopCode old x = loopCode s x then s1 else emit (.loopCode x (loopCode s x)) s1

/-- A change of a transmitter. -/
def changeLoop (x : Nat) (f : Loop → Loop) (s : State) : State := noteLoops s (setLoop x f s)

/-- A trim in progress is cancelled; one whose record is being written ends with the write (R306). -/
def cancelTrim (x : Nat) (s : State) : State := changeLoop x (fun l => { l with trim := none }) s

/-! ### Changes of controller state -/

/-- Image byte of CTL_STATE in the live S area (R33, R79). -/
def liveCtl : Nat := 0xF0022

/-- A change of controller state: PREV_STATE, the live S area, vector 130 and the CTL_STATE event (R79, R80, R329, R332). -/
def setCtl (new : Nat) (s : State) : State :=
  let old := ctl s
  noteLoops s <|
  { s with img.live := wr s.img.live liveCtl (BitVec.ofNat 8 new) }
    |> fput CTL_STATE_PREV_STATE old |> fput CTL_STATE_STATE new
    |> fput CTL_HALT_CAUSE_VALID (if new = 4 then 1 else 0)
    |> interrupt 130
    |> event 1 0x402 (new + 16 * old) (fget s CTL_HALT_CAUSE_CAUSE)

/-- A planned handover that has not reached H ends as the pair leaves REDUNDANT, and its command with it (R217; log entry 42). -/
def dropHandover (old : Nat) (s : State) : State :=
  match s.red.handover with
  | none => s
  | some x =>
    if (x.source ∧ old = 4) ∨ (!x.source ∧ old = 5) then
      let s1 : State := { s with red.handover := none }
      match x.job with
      | some jb => ended jb 0x0A 0x0004 0 s1
      | none => s1
    else s

/-- A change of pair code: vector 131 and the PAIR_STATE event (R329, R332). What the peer held of a Graft counts no more
(R107). -/
def setPair (new : Nat) (s : State) : State :=
  let old := pair s
  if new = old then s
  else
    noteLoops s <|
    let held := decide (old = 5 ∧ new = 4) && (decide (fget s CTL_GRAFT_STATUS_STATE = 2) || s.prog.kept.isSome)
    { (if new = 4 ∨ new = 5 then s else dropHandover old s) with prog.peerHas := held } |> fput RED_STATUS_PAIR_STATE new |> interrupt 131
         |> event 5 0x403 (new + 16 * old) (fget s RED_EPOCH_EPOCH)

/-! ### Trace (R408) -/

/-- A traced event of core `c` (R408): gathered while the debug level is 1 or 2, DBG_TRACE_CFG selects the core and the
kind, and the core may be traced; without a RUNNING TRACE ring it is lost (log entry 14). -/
def traceNote (c kind arg addr : Nat) (s : State) : State :=
  let level := fget s DBG_STATUS_LEVEL
  let mayTrace := c < 8 ∨ s.sec.life = 0 ∨ s.sec.life = 3
  if (level = 1 ∨ level = 2) ∧ fbit s DBG_TRACE_CFG_EN ∧ (fget s DBG_TRACE_CFG_CORES).testBit c
      ∧ (fget s DBG_TRACE_CFG_KINDS).testBit (kind / 2) ∧ mayTrace then
    if (List.range 128).any (fun r => ringKind s r = 4 ∧ ringState s r = 1) then
      { s with sec.trace := s.sec.trace ++ [(c, kind, arg, addr, nsNow s)] }
    else raise DBG_EVENTS_TRACE_GAP { s with sec.traceLost := s.sec.traceLost + 1 }
  else s

end Sys2Proof.Machine
end

