-- ==== Sys2Proof/Machine/Record.lean ====
section
/-! DEFINITION. Counting events and measuring values in the event recorder: metric records (R460), code records and the
Sieve (R461–R463). -/

namespace Sys2Proof.Machine

open Reg

/-! ### Metrics -/

/-- The bin of a value for exponent E (R460). -/
def metricBin (e : Nat) (v : Int) : Nat :=
  if v < 2 ^ e then 0
  else ((List.range 14).find? (fun k => v < 2 ^ (e + k + 1))).elim 15 (· + 1)

/-- A signed sum that saturates at the 64-bit limits. -/
def satSum (a b : Int) : Int := max (-(2 : Int) ^ 63) (min (2 ^ 63 - 1) (a + b))

/-- One value counts in a metric record (R460). -/
def metricAdd (e : Nat) (v : Int) (t : Nat) (r : Metric) : Metric :=
  let k := metricBin e v
  { count := r.count + 1
    sum := satSum r.sum v
    min := if v < r.min then v else r.min
    max := if v > r.max then v else r.max
    minTime := if v < r.min then t else r.minTime
    maxTime := if v > r.max then t else r.maxTime
    bins := upd k 0 (fun c => Min.min 0xFFFFFFFF (c + 1)) r.bins }

/-- Feeds a value to metric `m`; it counts only while EN is 1 (R460). -/
def measure (m : Nat) (v : Int) (s : State) : State :=
  if fbit s (REC_METRIC_CFG_EN m) then
    { s with recd.metrics := upd m {} (metricAdd (fget s (REC_METRIC_CFG_E m)) v (nsNow s)) s.recd.metrics }
  else s

/-! ### Events -/

/-- RATE of a code's bucket (R462). -/
def sieveRate (s : State) (c : Nat) : Nat :=
  if c % 2 = 0 then fget s (REC_SIEVE_RATE0 (c / 2)) else fget s (REC_SIEVE_RATE1 (c / 2))

/-- BURST of a code's bucket (R462). -/
def sieveBurst (s : State) (c : Nat) : Nat :=
  if c % 2 = 0 then fget s (REC_SIEVE_BURST0 (c / 2)) else fget s (REC_SIEVE_BURST1 (c / 2))

/-- One token, in the unit of the bucket level: sixteenths of a ns times RATE. -/
def tokenUnit : Nat := 16000000000

/-- The level of a bucket at a time (R462). -/
def bucketLevel (rate burst t : Nat) : Option (Nat × Nat) → Nat
  | none => burst * tokenUnit
  | some (l, t0) => min (burst * tokenUnit) (l + rate * (t - t0))

/-- An occurrence of code `c` passes the Sieve now (R462). -/
def sievePass (s : State) (c : Nat) : Bool :=
  c = 1 ∨ sieveRate s c = 255
    ∨ bucketLevel (sieveRate s c) (sieveBurst s c) s.now (lookD s.recd.codes c {}).bucket ≥ tokenUnit

/-- Counts one occurrence in a code record: COUNT, FIRST and LAST always, SUPPRESSED when it is held back, and the token
that a passed occurrence takes (R461, R462). -/
def codeAdd (rate burst now t : Nat) (pass : Bool) (r : CodeRec) : CodeRec :=
  let level := bucketLevel rate burst now r.bucket
  { r with
    count := min 0xFFFFFFFF (r.count + 1)
    suppressed := if pass then r.suppressed else min 0xFFFFFFFF (r.suppressed + 1)
    first := if r.count = 0 then t else r.first
    last := t
    bucket := if rate = 255 then r.bucket else some (if pass then level - tokenUnit else level, now) }

/-- An occurrence of a recorder code (R461, R462): counted, and delivered as an event entry of its source when the
Sieve lets it through. -/
def occur (src c a b : Nat) (s : State) : State :=
  let pass := sievePass s c
  let s1 : State := { s with
    recd.codes := upd c {} (codeAdd (sieveRate s c) (sieveBurst s c) s.now (nsNow s) pass) s.recd.codes }
  if pass then event src c a b s1 else bump REC_SUPPRESSED_COUNT 1 s1

/-- What the service firmware logs in the event recorder; the catalogue of the bundle gives the codes (R461). -/
inductive Logged where
  | overrun | laneFault | switchDelay | largeStep | templateLost | late | pairUnfit | trap | loopFault | doubleCheckIn
  | watchdogWarning | twinConflict
  deriving DecidableEq, Repr

def Logged.index : Logged → Nat
  | .overrun => 0 | .laneFault => 1 | .switchDelay => 2 | .largeStep => 3 | .templateLost => 4 | .late => 5
  | .pairUnfit => 6 | .trap => 7 | .loopFault => 8 | .doubleCheckIn => 9 | .watchdogWarning => 10 | .twinConflict => 11

/-- Logs a module event under the catalogue's code (R461). -/
def log (src : Nat) (e : Logged) (a b : Nat) (s : State) : State :=
  occur src ((Config.eventCode e.index).val + 3) a b s

/-- Occurrences of one clock are counted in code order (R463): whether `e` comes before a PAIR_UNFIT that it brings. -/
def beforeUnfit (e : Logged) : Bool :=
  (Config.eventCode e.index).val ≤ (Config.eventCode Logged.pairUnfit.index).val

/-- Logs an event whose code lies before PAIR_UNFIT's; `logLate`, after what else happens in its clock, logs the others. -/
def logEarly (src : Nat) (e : Logged) (a b : Nat) (s : State) : State := if beforeUnfit e then log src e a b s else s

def logLate (src : Nat) (e : Logged) (a b : Nat) (s : State) : State := if beforeUnfit e then s else log src e a b s

end Sys2Proof.Machine
end

