-- ==== Sys2Proof/Machine/Motion.lean ====
section
/-! DEFINITION. Where the axes of Trellis stand: the prediction of R113 with its limits, the encoder's interval (R115),
the ramp of a virtual master (R116), gears (R117) and trims (R118). Angles are in 2^−32 counts, velocities in 2^−32
counts per µs, accelerations in 2^−32 counts per µs²; times in sixteenths of a ns, 16,000 to the µs. -/

namespace Sys2Proof.Machine

open Reg

/-- Angle, velocity and acceleration at an instant. -/
structure Motion where
  pos : Int
  vel : Int
  acc : Int
  deriving DecidableEq, Repr

def axis (s : State) (k : Nat) : Axis := lookD s.trl.axes k {}
def setAxis (k : Nat) (f : Axis → Axis) (s : State) : State := { s with trl.axes := upd k {} f s.trl.axes }

/-- State of an axis (R119): 0 IDLE, 1 TRACKING, 2 COAST, 3 LOST. -/
def axState (s : State) (k : Nat) : Nat := fget s (TRL_AXIS_STATUS_STATE k)

/-- Source of an axis (R112): 0 NONE, 1 PLANT, 2 VIRTUAL, 3 ENCODER, 4 GEAR. -/
def axSource (s : State) (k : Nat) : Nat := fget s (TRL_AXIS_CFG_SOURCE k)

def axEnabled (s : State) (k : Nat) : Bool := fbit s (TRL_AXIS_CFG_ENABLE k)

/-- 2^24 counts per µs, the limit of the prediction (R113). -/
def velLimit : Int := 2 ^ 56

def clampVel (v : Int) : Int := max (-velLimit) (min velLimit v)

/-- The formula of R113 at Δ = `dt` from the anchor, with the velocity saturating at the limit and the angle then advancing
linearly. A stamp before the anchor has a negative Δ (DEDUCED, log entry 85). -/
def predict (th v a dt : Int) : Motion :=
  let raw := v + a * dt / 16000
  if -velLimit ≤ raw ∧ raw ≤ velLimit then
    { pos := th + v * dt / 16000 + a * dt * dt / 512000000, vel := raw, acc := a }
  else
    let lim := if raw > 0 then velLimit else -velLimit
    let ds := if a = 0 then 0 else (lim - v) * 16000 / a
    { pos := th + v * ds / 16000 + a * ds * ds / 512000000 + lim * (dt - ds) / 16000, vel := lim, acc := 0 }

/-- One quantum of an encoder in 2^−32 counts (R115). -/
def quantum (s : State) (k : Nat) : Int := 2 ^ 64 / max 1 (fget s (TRL_AXIS_RATIO_DEN_DEN k))

/-- The last four edges in the present direction, with two edges or more, as their span and the number of its intervals;
the mean interval is the quotient (R115). -/
def edgeMean (es : List Nat) : Option (Nat × Nat) :=
  match es.take 4 with
  | [] => none
  | [_] => none
  | t :: ts => some (max 1 (t - ts.getLastD t), ts.length)

/-- An ENCODER axis: the velocity of its anchor, falling once the time since the last edge exceeds twice the mean
interval, and an angle that never passes the boundary of the present count interval (R115); at the limit of the prediction the
velocity saturates and the angle advances with it (R113). -/
def encoderAt (s : State) (k t : Nat) : Motion :=
  let x := axis s k
  let q := quantum s k
  match edgeMean x.edges with
  | none => { pos := x.theta, vel := 0, acc := 0 }
  | some (span, n) =>
    let dt : Int := t - x.ta
    let speed := if dt * n > 2 * span then q * 16000 / dt else q * 16000 * n / span
    let run := min q (min (q * dt * n / span) (velLimit * dt / 16000))
    if x.reverse then { pos := x.theta - run, vel := -clampVel speed, acc := 0 }
    else { pos := x.theta + run, vel := clampVel speed, acc := 0 }

/-- A VIRTUAL axis: its velocity ramps toward V_SET at A_MAX, and A_MAX = 0 makes the change a step (R116). -/
def virtualAt (s : State) (k t : Nat) : Motion :=
  let x := axis s k
  let amax : Int := fget s (TRL_AXIS_RATIO_NUM_NUM k) * 65536
  let dt : Int := t - x.ta
  if dt < 0 then predict x.theta x.v 0 dt
  else if amax = 0 then predict x.theta x.vSet 0 dt
  else
    let a := if x.vSet ≥ x.v then amax else -amax
    let ramp := (x.vSet - x.v) * 16000 / a
    if dt < ramp then predict x.theta x.v a dt
    else
      let top := predict x.theta x.v a ramp
      { predict top.pos x.vSet 0 (dt - ramp) with acc := 0 }

/-- The trim in force, in 2^−32 counts (R118). -/
def trimOf (s : State) (k : Nat) : Int := toInt 32 (fget s (TRL_AXIS_TRIM_TRIM k)) * 2 ^ 32

/-- NUM / DEN of a GEAR axis applied to a quantity (R117). -/
def geared (s : State) (k : Nat) (x : Int) : Int :=
  x * toInt 32 (fget s (TRL_AXIS_RATIO_NUM_NUM k)) / max 1 (fget s (TRL_AXIS_RATIO_DEN_DEN k) : Int)

/-- The motion of axis `k` at a time, trim included; a GEAR axis through its master, which has a lower number (R117). A LOST
axis stands still from the tick in which it froze (R120). -/
def motionAt (s : State) : Nat → Nat → Nat → Motion
  | 0, _, _ => { pos := 0, vel := 0, acc := 0 }
  | n + 1, k, t =>
    let x := axis s k
    if axState s k = 0 then { pos := 0, vel := 0, acc := 0 }
    else if axSource s k = 4 then
      let m := motionAt s n (fget s (TRL_AXIS_CFG_MASTER k)) t
      { pos := geared s k m.pos + x.offset + trimOf s k, vel := geared s k m.vel, acc := geared s k m.acc }
    else
      let m := if axState s k = 3 then (if x.ta ≤ t then { pos := x.theta, vel := 0, acc := 0 } else predict x.theta x.v 0 (t - x.ta))
        else if axSource s k = 3 then encoderAt s k t
        else if axSource s k = 2 then virtualAt s k t
        else predict x.theta x.v x.a (t - x.ta)
      { m with pos := m.pos + trimOf s k }

/-- The motion of an axis at a time. -/
def motion (s : State) (k t : Nat) : Motion := motionAt s 17 k t

/-- A 64-bit angle (R111). -/
def angle64 (p : Int) : Nat := ofInt 64 (p / 2 ^ 32)

/-- A velocity or acceleration as Q32.16, sign-extended to 64 bits (R111). -/
def q3216 (v : Int) : Nat := ofInt 64 (v / 65536)

/-- The time of the latest tick at or before a time: ticks stand at multiples of 2.5 ns of device time (R113). -/
def tickAt (s : State) (t : Nat) : Nat := t - devTime s t % 40

/-- The tick at or after a time. -/
def tickUp (s : State) (t : Nat) : Nat := tickAt s (t + 39)

/-- The state guard MOVING (R121). -/
def moving (s : State) : Bool :=
  (List.range 16).any fun k =>
    axEnabled s k && fbit s (TRL_AXIS_CFG_LINE k)
      && decide ((motion s k (tickAt s s.now)).vel.natAbs > fget s TRL_MOVE_THRESHOLD_COUNTS * 2 ^ 32)

/-- Sample age of R33 in µs, saturating. -/
def sampleAge (s : State) : Nat → Nat → Nat
  | 0, _ => 0xFFFFFFFF
  | n + 1, k =>
    match axSource s k with
    | 2 => 0
    | 4 => sampleAge s n (fget s (TRL_AXIS_CFG_MASTER k))
    | 0 => 0xFFFFFFFF
    | _ =>
      match (axis s k).sampleAt with
      | some t => min 0xFFFFFFFF ((s.now - t) / 16000)
      | none => 0xFFFFFFFF

/-- The 32 bytes of an axis in the S area (R33). -/
def axisBytes (s : State) (k : Nat) : List Byte :=
  let m := motion s k (localTime s (nsNow s * 16))
  le 8 (angle64 m.pos) ++ le 8 (q3216 m.vel) ++ le 8 (q3216 m.acc) ++ le 1 (axState s k) ++ le 1 (axSource s k)
    ++ le 2 0 ++ le 4 (sampleAge s 17 k)

end Sys2Proof.Machine
end

