-- ==== Sys2Proof/Machine/Outward.lean ====
section
/-! DEFINITION. What a unit sends at once when its role or its outputs change: the explicit safe command (R284), safe
currents (R293), Hedge messages (R196–R198), heartbeats and the explicit fault (R199, R201), digests (R208) and the
unfit standby (R209). -/

namespace Sys2Proof.Machine

open Reg

/-! ### Safe outputs -/

def chan (s : State) (n : Nat) : Channel := lookD s.fio.ch n {}
def setChan (n : Nat) (f : Channel → Channel) (s : State) : State := { s with fio.ch := upd n {} f s.fio.ch }

/-- Mode of a field channel (R269): 0 OFF, 1 INPUT, 2 OUTPUT, 3 FAST_IN, 4 PUSH_PULL, under FIO_CHn_CFG.MODE. -/
def chMode (s : State) (n : Nat) : Nat := fget s (FIO_CH_CFG_MODE n)

/-- Channel `n` has an output stage in use: OUTPUT, PUSH_PULL, or a member of a gang. -/
def isOutput (s : State) (n : Nat) : Bool := chMode s n = 2 ∨ chMode s n = 4 ∨ chMode s n = 5

/-- Channel `n` is a fast output of Trellis (R124). -/
def trellisOwned (s : State) (n : Nat) : Bool := n < 16 ∧ chMode s n = 4 ∧ fbit s (FIO_CH_CFG_OWNER n)

/-- Stages of the gang that a channel leads (R275). -/
def gangSize (s : State) (n : Nat) : Nat := match fget s (FIO_CH_CFG_GANG n) with
  | 1 => 2 | 3 => 4 | _ => 1

/-- The lead of the gang of a member (R275); any other channel leads itself. -/
def leadOf (s : State) (n : Nat) : Nat :=
  if chMode s n = 5 then
    (([n - 1, n - 2, n - 3].filter (· < n)).find? (fun l => chMode s l = 2 ∧ n < l + gangSize s l)).getD n
  else n

/-- The stages that switch with a lead (R276). -/
def gangOf (s : State) (l : Nat) : List Nat := (List.range (gangSize s l)).map (l + ·)

/-- The supply of a group is not OK (R288). -/
def groupBad (s : State) (g : Nat) : Bool := s.fio.fail.getLsbD g || s.fio.ov.getLsbD g

/-- The group is at its safe values (R284). -/
def groupSafe (s : State) (g : Nat) : Bool := s.fio.explicitSafe || s.fio.safeLatched.getLsbD g

/-- A stage of the channel's gang is open by overload or thermal shutdown (R276). -/
def gangOpen (s : State) (n : Nat) : Bool := (gangOf s (leadOf s n)).any (fun m => (chan s m).opened)

/-- The stage is open whatever is commanded: power-up state, supply not OK, or an open gang that no safe value of R284
overrides (R276, R287). -/
def stageOff (s : State) (n : Nat) : Bool :=
  s.fio.powerUp || groupBad s (n / 8) || (gangOpen s n && !groupSafe s (n / 8))

/-- The level that the island drives on a channel, and its command after R287; with another level the terminal follows the stage
again. -/
def setLevel (n : Nat) (v : Bool) (s : State) : State :=
  let on := v && !stageOff s n
  let s1 := if (fget s FIO_OUTPUT_LEVEL).testBit n = on then s else setChan n (fun c => { c with term := none }) s
  s1 |> fputBit FIO_OUTPUT_LEVEL n on |> fput (FIO_CH_STAT_CMD n) (if on then 1 else 0)

/-- The safe value of a channel, or of its lead (R276, R284). -/
def safeOf (s : State) (n : Nat) : Bool := fbit s (FIO_CH_CFG_SAFE (leadOf s n))

/-- Channel `n` carries its safe value, or has taken a command (R284). -/
def setAtSafe (n : Nat) (v : Bool) (s : State) : State := setChan n (fun c => { c with atSafe := v }) s

/-- Channel `n` goes to its safe value (R284). -/
def chanSafe (n : Nat) (s : State) : State := if isOutput s n then setAtSafe n true (setLevel n (safeOf s n) s) else s

/-- The level that Trellis commands on its channel becomes the safe value, and the island has taken no other. -/
def edgeSafe (n : Nat) (s : State) : State :=
  if trellisOwned s n then setChan n (fun c => { c with edge := safeOf s n, taken := safeOf s n }) s else s

/-- The explicit safe command reaches the island (R284): it aborts a frame on the field link, and every output channel takes
its safe value. -/
def islandSafe (s : State) : State :=
  forEach (List.range 32) (emit .fieldSafe { s with fio.explicitSafe := true, fio.outFrame := none, fio.outNext := false }) chanSafe

/-- The explicit safe command of R83: it covers the Trellis-owned channels too, and running pulses end. -/
def explicitSafe (s : State) : State :=
  forEach (List.range 16) (islandSafe { s with trl.pulses := [], trl.edges := [] }) edgeSafe

/-- Stages that R287 opens once no safe value overrides their open gang. -/
def openStages (s : State) : State :=
  forEach (List.range 32) s fun n s => if isOutput s n ∧ stageOff s n then setLevel n false s else s

/-- The loop transmitters take their safe current, and a trim in progress is cancelled (R83, R293). -/
def loopsSafe (s : State) : State :=
  forEach [0, 1] s fun x s => emit (.loopSafe x) (cancelTrim x s)

def allSafe (s : State) : State := loopsSafe (explicitSafe s)

/-! ### Flany headers (R167–R169) -/

/-- FLAGS in frames from the module. -/
def flanyFlags (s : State) (safe more : Bool) : Nat :=
  (if s.img.forces.isEmpty then 0 else 1) + 2 * ctl s + 16 * pair s + (if safe then 128 else 0) + (if more then 256 else 0)
    + (if fbit s NET_STATUS_PLANT_SYNC then 512 else 0)

/-- The 24-byte header of a frame from the module. -/
def flanyHeader (s : State) (kind cycle len : Nat) (safe more : Bool) : List Byte :=
  let h := be 1 1 ++ be 1 kind ++ be 2 (fget s NET_PAIR_ID_PAIR_ID) ++ be 4 (fget s RED_EPOCH_EPOCH) ++ be 8 cycle
    ++ be 2 (fget s NET_FLANY_CFG_CTRL_ADDR) ++ be 2 (flanyFlags s safe more) ++ be 2 len
  h ++ be 2 (crc16 h)

/-! ### Hedge (R195–R198) -/

/-- The TYPE of a message (R197). -/
def hedgeType : HedgeMsg → Nat
  | .hello _ => 2
  | .snapshot _ => 3
  | .digest _ => 4
  | .mirrorCmd _ _ _ => 5
  | .halt _ _ => 6
  | .unfit _ => 7
  | .state _ => 8
  | .handover _ _ _ _ => 9

/-- The first `n` bytes of a message whose layout belongs to the firmware. -/
def openBytes (n : Nat) (m : HedgeMsg) : List Byte := (List.range n).map (Config.hedgeByte m)

/-- The data of a state-transfer item. -/
def itemData (x : XferItem) : List Byte := match x.body with
  | .bytes b => b
  | b => Config.xferBytes b

/-- An item of a STATE message with its 12-byte head (R210). -/
def itemWire (x : XferItem) : List Byte :=
  be 2 x.type ++ be 2 x.region ++ be 4 x.offset ++ be 4 (itemData x).length ++ itemData x

/-- The payload of a message: SNAPSHOT under R203, DIGEST under R208, STATE under R210. The sizes of the others are the model's
(DESIGN CHOICE, log entry 89): one frame each, but for a mirrored command with its host buffer. -/
def hedgePayload (m : HedgeMsg) : List Byte :=
  match m with
  | .snapshot x => be 1 x.task.val ++ be 1 x.kind ++ be 2 0 ++ be 4 x.gen ++ be 8 x.inst ++ be 8 x.cycle ++ be 8 0
      ++ x.inputs ++ fit 1024 x.sArea
  | .digest x => be 1 x.task.val ++ be 1 ((if x.aborted then 1 else 0) + (if x.fromStandby then 2 else 0)) ++ be 2 0 ++ be 4 x.gen
      ++ be 8 x.inst ++ be 8 x.time ++ be 8 x.digest.toNat
  | .state items => items.flatMap itemWire
  | .mirrorCmd _ d _ => openBytes (72 + d.buf.length) m
  | .hello _ => openBytes 64 m
  | .halt _ _ => openBytes 8 m
  | .unfit _ => openBytes 8 m
  | .handover _ _ _ _ => openBytes 16 m

/-- A Hedge frame (R196): header, payload and CRC-32C, in network byte order. -/
def hedgeFrame (type : Nat) (more : Bool) (seq ack epoch frag msgId : Nat) (payload : List Byte) : List Byte :=
  let b := be 1 1 ++ be 1 type ++ be 1 (if more then 1 else 0) ++ be 1 0 ++ be 4 seq ++ be 4 ack ++ be 4 epoch
    ++ be 2 payload.length ++ be 2 frag ++ be 4 msgId ++ payload
  b ++ be 4 (crc32c b)

/-- Path A carries frames while a lane is up (R195). -/
def hedgeUp (s : State) : Bool := fbit s RED_STATUS_LANE0 || fbit s RED_STATUS_LANE1

/-- The unit mirrors its instances and commands: ACTIVE, or a source after instant I (R203, R204, R210). -/
def mirrors (s : State) : Bool := pair s = 4 ∨ (pair s = 2 ∧ s.red.xfer.any (fun x => x.instant.isSome))

/-- Puts one reliable frame on a lane (R196). -/
def hedgeOut (x : HedgeTx) (s : State) : State :=
  if hedgeUp s then
    emit (.hedge x.msg (hedgeFrame (hedgeType x.msg) (decide (x.frag + 1 < x.count)) x.seq s.red.rxSeq
      (fget s RED_EPOCH_EPOCH) x.frag x.msgId (((hedgePayload x.msg).drop (2048 * x.frag)).take 2048))) s
  else s

/-- Sends a reliable message in F = ceil(L / 2,048) frames, at least one (R198). -/
def hedgeSend (m : HedgeMsg) (s : State) : State :=
  let count := max 1 (((hedgePayload m).length + 2047) / 2048)
  let id := s.red.msgId
  forEach (List.range count) { s with red.msgId := id + 1 } fun i s =>
    let x : HedgeTx := { seq := s.red.txSeq + 1, frag := i, count, msgId := id, msg := m, first := s.now, last := s.now }
    hedgeOut x { s with red.txSeq := x.seq, red.unacked := s.red.unacked ++ [x] }

/-- The heartbeat of this unit (R199); `echo` is SEND_TIME and arrival of the last one received on the path. -/
def beatNow (s : State) (fault : Bool) (echo : Nat × Nat) : Beat :=
  { sendTime := nsNow s, echoTime := echo.1, echoRx := echo.2, beat := nsNow s / 15625 % 2 ^ 32, code := pair s,
    ctl := ctl s, fault, side := fget s RED_STATUS_SIDE, unfit := fget s RED_STATUS_UNFIT_REASON,
    epoch := fget s RED_EPOCH_EPOCH, pairId := fget s NET_PAIR_ID_PAIR_ID }

/-- The 32-byte payload of a heartbeat (R199). -/
def beatBytes (b : Beat) : List Byte :=
  be 8 b.sendTime ++ be 8 b.echoTime ++ be 8 b.echoRx ++ be 4 b.beat ++ be 1 b.code ++ be 1 b.ctl
    ++ be 1 ((if b.fault then 1 else 0) + 2 * b.side) ++ be 1 b.unfit

/-- Sends a heartbeat on a P port that has link, as a Flany frame of kind HEARTBEAT to the peer's base MAC address + p
(R199). -/
def beatOn (p : Nat) (fault : Bool) (s : State) : State :=
  if (fget s NET_STATUS_LINK).testBit p then
    s |> emit (.frame p (BitVec.ofNat 48 (fget s RED_PEER_MAC_MAC + p)) none none
          (flanyHeader s 8 0 32 false false ++ beatBytes (beatNow s fault s.red.echoB)))
      |> bumpWrap (NET_PORT_TX_FRAMES_COUNT p) 1
  else s

/-- Sends a heartbeat on path A and on the P ports that RED_CFG.PATHB selects (R199). -/
def sendBeats (fault : Bool) (s : State) : State :=
  s |> (fun s =>
      if hedgeUp s then
        let b := beatNow s fault s.red.echoA
        emit (.heartbeat b (hedgeFrame 1 false 0 s.red.rxSeq (fget s RED_EPOCH_EPOCH) 0 0 (beatBytes b))) s
      else s)
    |> (fun s => if fbit s RED_CFG_PATHB_P0 then beatOn 2 fault s else s)
    |> (fun s => if fbit s RED_CFG_PATHB_P1 then beatOn 3 fault s else s)

/-- The explicit fault: heartbeats with FAULT = 1 on both paths, in pair code 4 only (R201); the outputs go safe (R215). -/
def explicitFault (s : State) : State :=
  if pair s = 4 then
    let s1 := sendBeats true { s with red.faultSent := true }
    noteLoops s (if ctl s = 3 then allSafe s1 else s1)
  else s

/-! ### Digests and the unfit standby -/

/-- A state transfer starts (R210); digests and lags count from it. -/
def startTransfer (s : State) : State :=
  { s with
    red.xfer := some { started := s.now, round := 0 }
    red.stepped := false
    red.queued := []
    red.ownDigests := []
    red.peerDigests := []
    red.lags := []
    red.unfitSent := none
    red.handover := s.red.handover.filter (·.job.isSome)
    red.xferStarts := s.now :: s.red.xferStarts.filter (fun t => s.now < t + secs 600) }
    |> fput RED_XFER_ROUND 0 |> fput RED_XFER_RESULT 1 |> fput RED_XFER_KIB 0

/-- A state transfer ends without success (R191, R210): the source goes to DEGRADED, the joiner to PAIRING. -/
def dropTransfer (s : State) : State :=
  let s1 := if s.red.xfer.isSome then { s with red.xfer := none, red.queued := [] }
      |> fput RED_XFER_RESULT 3 |> raise RED_EVENTS_XFER_FAIL else s
  setPair (if pair s1 = 2 then 6 else if pair s1 = 3 then 1 else pair s1) s1

/-- The pair resynchronises automatically after a reason (R209). -/
def resyncs (reason : Nat) (s : State) : Bool :=
  fbit s RED_CFG_AUTO_RESYNC ∧ reason ≠ 10 ∧ reason ≠ 11
    ∧ (s.red.xferStarts.filter (fun t => s.now < t + secs 600)).length < 3

/-- What R209 does to both units when the standby becomes unfit; shadow execution has been stopped by the caller. From
REDUNDANT the pair goes to SYNCING at once. A transfer that fails takes the units to DEGRADED and PAIRING, where HELLO
messages bring the next one (R191, R192). A standby that does not resynchronise is parked. -/
def markUnfit (reason : Nat) (s : State) : State :=
  let again := resyncs reason s
  let s1 := s
    |> fput RED_STATUS_FIT 0 |> fput RED_STATUS_UNFIT_REASON reason |> raise RED_EVENTS_UNFIT
    |> log 5 .pairUnfit reason 0
    |> jnote 0x0030 reason 0
  if pair s1 = 2 ∨ pair s1 = 3 then
    let s2 := dropTransfer s1
    if again then s2 else fput RED_STATUS_PARKED 1 s2
  else if again then startTransfer (setPair (if pair s1 = 4 then 2 else 3) s1)
  else s1 |> setPair (if pair s1 = 4 then 6 else 1) |> fput RED_STATUS_PARKED 1

/-- A reason that this unit found. Where a new transfer starts from it, the peer's UNFIT message for the same cause may still be on
its way (R209). -/
def ownUnfit (reason : Nat) (s : State) : State :=
  let s1 := markUnfit reason s
  if (pair s = 4 ∨ pair s = 5) ∧ s1.red.xfer.isSome then { s1 with red.unfitSent := some reason } else s1

end Sys2Proof.Machine
end

