-- ==== Sys2Proof/Machine/Tasks.lean ====
section
/-! DEFINITION. The task sequencer's shared operations (R62–R89): releases and overruns, resources and preemption,
starting, ending and aborting instances, entry into HALT, quiescence; with the retain capture that a commit or an abort
triggers (R337) and the entry of a task on its cores and lanes (R239, R233). -/

namespace Sys2Proof.Machine

open Reg

/-! ### The task table -/

def taskDef (s : State) (t : Nat) : Option TaskDef := look s.prog.cur.tasks t

def taskIds (s : State) : List Nat := s.prog.cur.tasks.map (·.1)

def coreMask (d : TaskDef) : Nat := d.cores.foldl (fun m c => m ||| 2 ^ c.core.val) 0

/-- Two tasks share a core or a lane (R71, R72). -/
def shares (a b : TaskDef) : Bool := (coreMask a &&& coreMask b) ≠ 0 ∨ (a.lanes &&& b.lanes) ≠ 0

def kindCode : TaskKind → Nat
  | .sync => 0 | .cyclic => 1 | .angle => 2 | .event => 3 | .background => 4

def prioOf (s : State) (t : Nat) : Nat := match taskDef s t with
  | some d => d.prio
  | none => 0

def run (s : State) (t : Nat) : TaskRun := lookD s.seq.runs t {}
def setRun (t : Nat) (f : TaskRun → TaskRun) (s : State) : State := { s with seq.runs := upd t {} f s.seq.runs }

/-- RUNSTATE of CTL_TASKt_STAT: 0 idle, 1 running, 2 suspended, 3 pending. -/
def runCode : Phase → Nat
  | .idle => 0 | .pending => 3 | .snapReq => 1 | .copying => 1 | .snapped => 1 | .running => 1 | .suspended => 2

def setPhase (t : Nat) (p : Phase) (s : State) : State :=
  s |> setRun t (fun r => { r with phase := p }) |> fput (CTL_TASK_STAT_RUNSTATE t) (runCode p)

/-- An instance that has started its snapshot holds its cores and lanes until it ends (R70, R72). -/
def holds (p : Phase) : Bool := p ≠ .idle ∧ p ≠ .pending

/-- A core or lane of `t` is held by an instance of higher priority (R72). -/
def blocked (s : State) (t : Nat) : Bool :=
  match taskDef s t with
  | none => true
  | some d => s.prog.cur.tasks.any fun (u, e) => u ≠ t && holds (run s u).phase && shares d e && e.prio > d.prio

/-- Generation in force (R92). -/
def generation (s : State) : Nat := fget s CTL_GRAFT_GEN_GEN

/-! ### The image unit's queue -/

/-- Puts a request into the queue in the order of R40. -/
def enqueue (r : ImgReq) : List ImgReq → List ImgReq
  | [] => [r]
  | q :: qs => if q.at_ < r.at_ ∨ (q.at_ = r.at_ ∧ q.rank ≤ r.rank) then q :: enqueue r qs else r :: q :: qs

def request (rank : Nat) (k : ImgKind) (s : State) : State :=
  { s with img.queue := enqueue { at_ := s.now, rank, kind := k } s.img.queue }

/-- The snapshot of an instance is requested; equal times go by priority (R40). -/
def requestSnapshot (t : Nat) (s : State) : State :=
  s |> setPhase t .snapReq |> setRun t (fun r => { r with reqAt := s.now })
    |> request (32 - prioOf s t) (.snapshot t)

/-! ### Retain capture -/

/-- Tags of a dirty line that are not tasks: a Graft switch, and RETAIN_RESTORE (R337, R340). -/
def tagSwitch : Nat := 32
def tagRestore : Nat := 33

/-- Data addresses of banks 1–15 (R226). -/
def inBanks (a : Nat) : Bool := 0x30010000 ≤ a ∧ a < 0x30100000

/-- A write into banks 1–15 makes its 64-byte line dirty and tags it; a line of two writers has both tags (R337). -/
def touch (a tag : Nat) (s : State) : State :=
  if inBanks a then { s with mem.dirty := upd (a / 64 * 64) [] (fun ts => if ts.contains tag then ts else tag :: ts) s.mem.dirty }
  else s

/-- A line loses a tag, and is clean without one. -/
def untag (a tag : Nat) (m : SMap (List Nat)) : SMap (List Nat) :=
  let ts := (lookD m a []).filter (· ≠ tag)
  if ts.isEmpty then del a m else put a ts m

/-- Captures every line with a tag into the shadow and makes it pending for the mirror (R337, R338). -/
def capture (tag : Nat) (abort : Bool) (s : State) : State :=
  let lines := (s.mem.dirty.filter (fun p => p.2.contains tag)).map (·.1)
  forEach lines s fun a s =>
    { s with
      mem.capturedAt := put a (nsNow s) s.mem.capturedAt
      mem.shadow := copyN s.mem.shadow s.mem.data a 64
      mem.dirty := untag a tag s.mem.dirty
      mem.pend := put a (abort || lookD s.mem.pend a false) s.mem.pend }

/-! ### Cores and lanes -/

def core (s : State) (c : Nat) : Core := lookD s.cores c {}
def setCore (c : Nat) (f : Core → Core) (s : State) : State := { s with cores := upd c {} f s.cores }
def lane (s : State) (l : Nat) : Lane := lookD s.lanes l {}
def setLane (l : Nat) (f : Lane → Lane) (s : State) : State := { s with lanes := upd l {} f s.lanes }

/-- Raises an interrupt line of a core (R238). -/
def raiseLine (c k : Nat) (s : State) : State :=
  setCore c (fun x => { x with lines := x.lines ||| BitVec.ofNat 4 (2 ^ k) }) s

def ownsCore (s : State) (t c : Nat) : Bool := (core s c).task.elim false (fun u => u.val = t)
def ownsLane (s : State) (t l : Nat) : Bool := (lane s l).task.elim false (fun u => u.val = t)

/-- Cores of a task. -/
def taskCores (d : TaskDef) : List CoreDecl := d.cores

/-- The networks that a task runs on a lane. -/
def laneNets (d : TaskDef) (l : Nat) : List NetDecl := d.nets.filter (fun n => n.lane.val = l)

/-- Free general registers at a task entry (R220): g0 reads 0 and is not stored. -/
def freeRegs (n : Nat) : SMap Word := (List.range 31).map (fun i => (i + 1, Config.freeBits 32 (n + i)))

/-- Return entries in use on a core that runs no task: those of the suspended tasks, or of the runtime (R233). -/
def entriesLeft (k : Core) : Nat := if k.saved.isEmpty then k.rsBase else k.saved.foldl (fun m x => max m x.2.rs) 0

/-- RS as a task leaves its core: its own frames go, and those of tasks below it that were aborted meanwhile. -/
def leaveRs (k : Core) : Nat := min k.ctx.rsLo (entriesLeft k)

/-- The runtime enters a task on one core (R239, R233, R223): `idx` is the core's index within the mask. Registers other
than the entry arguments, and the runtime's return address, are free. -/
def enterCore (t : Fin 32) (d : TaskDef) (c : CoreDecl) (idx : Nat) (s : State) : State :=
  let n := s.free
  let rs := (core s c.core.val).ctx.rs
  { s with free := n + 33 }
    |> traceNote c.core.val 0 t.val c.entry
    |> setCore c.core.val (fun x => { x with
        task := some t
        laneWait := false
        rsBase := if x.saved.isEmpty then rs else x.rsBase
        rstack := put rs (Config.freeBits 32 (n + 32)) x.rstack
        ctx := { x.ctx with
          g := put 1 (BitVec.ofNat 32 idx) (put 2 (BitVec.ofNat 32 t.val) (freeRegs n))
          p := Config.freeBits 8 (n + 31) ||| 1
          pc := BitVec.ofNat 32 c.entry
          ds := BitVec.ofNat 32 c.dsHi
          dsLo := BitVec.ofNat 32 c.dsLo
          dsHi := BitVec.ofNat 32 c.dsHi
          rs := rs + 1
          rsLo := rs
          rsHi := rs + 1 + c.depth
          rc := 0
          stat := BitVec.ofNat 32 ((if d.ftz then 512 else 0) + (if d.dztrap then 256 else 0))
          mode := .task
          masked := false
          rep := false
          repCount := 0 } })

/-- A lane starts the networks of a task, in the order of their declaration (R52, R60, R61). -/
def enterLane (t : Fin 32) (d : TaskDef) (l : Nat) (s : State) : State :=
  match laneNets d l with
  | [] => s
  | n :: rest => setLane l (fun x => { x with
      task := some t, running := true, ctx := { stack := [], index := n.first, net := some n, rest } }) s

/-! ### Suspension and resumption (R72, R73) -/

/-- Suspends a running instance: its cores take PREEMPT, its lanes save stack, word index and skip state at once. -/
def suspend (t : Nat) (s : State) : State :=
  match taskDef s t with
  | none => s
  | some d =>
    let s1 := s |> setPhase t .suspended |> setRun t (fun r => { r with stopAt := s.now })
    let s2 := forEach d.cores s1 fun c s => if ownsCore s t c.core.val then raiseLine c.core.val 1 s else s
    forEach (List.range 4) s2 fun l s =>
      if ownsLane s t l then
        setLane l (fun x => { x with saved := put t { x.ctx with lines := [] } x.saved, task := none, running := false }) s
      else s

/-- Every core that the instance had entered has saved its context, and its cores and lanes are free. -/
def canResume (s : State) (t : Nat) (d : TaskDef) : Bool :=
  d.cores.all (fun c => (core s c.core.val).task.isNone)
    && (List.range 4).all (fun l => !d.lanes.getLsbD l || (lane s l).task.isNone)

/-- Restores the saved contexts of a suspended instance. -/
def resume (t : Nat) (s : State) : State :=
  match taskDef s t with
  | none => s
  | some d =>
    let tid : Fin 32 := Fin.ofNat 32 t
    let s1 := s |> setPhase t .running |> setRun t (fun r => { r with stopped := r.stopped + (s.now - r.stopAt) })
    let s2 := forEach d.cores s1 fun c s =>
      match look (core s c.core.val).saved t with
      | some x => setCore c.core.val (fun k => { k with
          task := some tid, saved := del t k.saved
          ctx := { x with mode := .task, masked := false, pc := x.epc, rep := x.cause.getLsbD 30 } }) s
      | none => s
    forEach (List.range 4) s2 fun l s =>
      match look (lane s l).saved t with
      | some x => setLane l (fun k => { k with task := some tid, running := true, saved := del t k.saved, ctx := x }) s
      | none => s

/-- Starts the code of an instance whose snapshot is in place (R38, R70). -/
def startCode (t : Nat) (s : State) : State :=
  match taskDef s t with
  | none => s
  | some d =>
    let tid : Fin 32 := Fin.ofNat 32 t
    let lanes := (List.range 4).filter (fun l => d.lanes.getLsbD l && !(laneNets d l).isEmpty)
    let s1 := s |> setPhase t .running |> setRun t (fun r => { r with
      codeAt := s.now, stopped := 0
      coresLeft := BitVec.ofNat 8 (coreMask d)
      lanesLeft := BitVec.ofNat 4 (lanes.foldl (fun m l => m ||| 2 ^ l) 0) })
    let order := (List.range 8).filterMap (fun c => d.cores.find? (fun x => x.core.val = c))
    let s2 := forEach order.zipIdx s1 fun (c, i) s => enterCore tid d c i s
    forEach lanes s2 fun l s => enterLane tid d l s

/-- Starts every instance that waits with its snapshot in place, and resumes every suspended instance, whose cores and
lanes are free, highest priority first (R72). -/
def startReady (s : State) : State :=
  let ids := (taskIds s).mergeSort (fun a b => prioOf s a ≥ prioOf s b)
  forEach ids s fun t s =>
    match taskDef s t with
    | none => s
    | some d =>
      if blocked s t || !canResume s t d then s
      else match (run s t).phase with
        | .snapped => startCode t s
        | .suspended => resume t s
        | _ => s

/-! ### Overrun, abort, HALT -/

/-- Removes the requests of a task's snapshot. -/
def dropSnapshot (t : Nat) (s : State) : State :=
  { s with img.queue := s.img.queue.filter (fun r => r.kind ≠ .snapshot t) }

/-- The unit runs instances that its peer runs too: those that an active mirrors, and those of a unit in shadow (R203, R210). -/
def twinned (s : State) : Bool := mirrors s || decide (pair s = 5 ∨ pair s = 3)

/-- One pair of digests of the same instance: a difference makes the standby unfit (R208), and so does a lag above T_sync in a
REDUNDANT pair (R206, R210). RED_LAG keeps the largest lag of the SYNC task. -/
def judgeDigests (unfit : Nat → State → State) (own peer : Digest) (s : State) : State :=
  let lag := if own.fromStandby then own.time - peer.time else peer.time - own.time
  let isSync : Bool := match taskDef s own.task.val with
    | some d => decide (d.kind = .sync)
    | none => false
  let s1 := if isSync then
      { s with red.lags := (lag :: s.red.lags).take 1000 } |> bumpMax RED_LAG_NS lag
    else s
  if own.digest ≠ peer.digest ∨ own.aborted ≠ peer.aborted then
    s1 |> raise RED_EVENTS_DIGEST_MISMATCH
       |> fput RED_MISMATCH_VALID 1 |> fput RED_MISMATCH_TASK own.task.val |> fput RED_MISMATCH_INSTANCE own.inst
       |> unfit 1
  else if lag > tSync s1 ∧ (pair s1 = 4 ∨ pair s1 = 5) then s1 |> raise RED_EVENTS_LAG |> unfit 2
  else s1

/-- Compares every pair of digests that the unit holds (R208). -/
def matchDigests (unfit : Nat → State → State) : Nat → State → State
  | 0, s => s
  | n + 1, s =>
    if !twinned s then s
    else match s.red.ownDigests.findSome? (fun o =>
        (s.red.peerDigests.find? (fun p => p.task = o.task ∧ p.inst = o.inst)).map (fun p => (o, p))) with
      | none => s
      | some (o, p) =>
        matchDigests unfit n (judgeDigests unfit o p
          { s with red.ownDigests := s.red.ownDigests.erase o, red.peerDigests := s.red.peerDigests.erase p })

/-- The digest of an instance of this unit (R207, R208) is sent to the peer and kept for the comparison. -/
def sendDigest (t : Nat) (inst gen : Nat) (aborted : Bool) (digest : Nat) (s : State) : State :=
  if twinned s then
    let m : Digest := { task := Fin.ofNat 32 t, aborted, fromStandby := standby s, gen, inst, time := nsNow s,
                        digest := BitVec.ofNat 64 digest }
    hedgeSend (.digest m) { s with red.ownDigests := s.red.ownDigests ++ [m] }
  else s

/-- The digest of an aborted instance may complete a pair (R208). A standby aborts instances only as it stops. -/
def abortedDigest (s : State) : State :=
  matchDigests (fun r s => ownUnfit r (if standby s then hedgeSend (.unfit r) s else s)) s.red.ownDigests.length s

/-- Ends an instance without commit (R39, R76, R82, R83): its cores take ABORT, its lanes stop, its retained lines are
captured, its digest is 0 with ABORTED. -/
def abort (t : Nat) (s : State) : State :=
  if (run s t).phase = .idle then s
  else match taskDef s t with
    | none => s
    | some d =>
      let r := run s t
      let s1 := s |> setPhase t .idle |> dropSnapshot t |> capture t true
      let s2 := forEach d.cores s1 fun c s =>
        (if ownsCore s t c.core.val then raiseLine c.core.val 0 s else s)
          |> setCore c.core.val (fun k =>
            match look k.saved t with
            | some _ =>
              let k1 : Core := { k with saved := del t k.saved }
              if k.task.isSome then k1 else { k1 with ctx := { k.ctx with rs := min k.ctx.rs (entriesLeft k1) } }
            | none => k)
      let s3 := forEach (List.range 4) s2 fun l s =>
        if ownsLane s t l then setLane l (fun k => { k with task := if k.stopped then k.task else none, running := false }) s
        else setLane l (fun k => { k with saved := del t k.saved }) s
      let s4 := if d.kind = .background then { s3 with seq.bgDue := put t (s.now + usec d.period) s3.seq.bgDue } else s3
      startReady (abortedDigest (sendDigest t r.inst r.gen true 0 s4))

/-- Aborts every running or pending instance (R82, R83). -/
def abortAll (s : State) : State := forEach (taskIds s) s abort

/-- Class Unit of R83: LANE_FAULT, POWERFAIL, SWITCH_FAULT. -/
def unitCause (cause : Nat) : Bool := cause = 3 ∨ cause = 5 ∨ cause = 9

/-- A journal entry about a commit (R110): of the command that asked for it, or of the module for the revert of R105. -/
def graftEntry (s : State) (type : Nat) (c : GraftCommit) : JEntry :=
  if c.auto then { jentry s type with ident := c.job.d.ident }
  else { jcommand s type 0 c.job.d with origin := if c.job.mirrored then 3 else originCode c.job.d.origin }

/-- A commit in COMMITTING ends without a switch (R103, R109, R110): GRAFT_NOT_SWITCHED is journalled, the command completes
with the status and reason, and the Graft returns to the state it came from. The automatic revert of R105 comes from none: the
Graft is NONE then, the new generation stays, and the revert is not issued again (DESIGN CHOICE, log entry 84). -/
def endCommit (status reason : Nat) (s : State) : State :=
  match s.prog.commit with
  | none => s
  | some c =>
    let s0 := s |> fput CTL_GRAFT_STATUS_STATE c.back
    let s1 := if c.back = 0 then s0 |> fput CTL_GRAFT_ID_ID 0 |> fput CTL_GRAFT_AFFECTED_TASK 0 else s0
    let s2 : State := { s1 with prog.commit := none, prog.switchAt := none, prog.haltNext := none }
    let e := graftEntry s2 0x0011 c
    let s3 := jadd { e with status, reason } s2
    if c.auto then s3 else settle (finish c.job status reason 0 [] s3)

/-- HALT and CTL_STOP end a commit that has not reached instant I with ABORTED (R109). -/
def abortCommit (s : State) : State :=
  if s.prog.switchAt.isSome then s else endCommit 0x0A 0x0010 s

/-- Entry into HALT at detection (R83, R85): cause and time, aborted instances, safe outputs; in pair code 4 the HALT
message of a program cause or the explicit fault of a unit cause; the CTL_HALT commands that waited complete (R109). -/
def haltNow (cause t : Nat) (s : State) : State :=
  s |> abortCommit
    |> fput CTL_HALT_CAUSE_CAUSE cause
    |> fput CTL_HALT_CAUSE_TASK (if 1 ≤ cause ∧ cause ≤ 4 then t else 0)
    |> fput CTL_HALT_TIME_TIME (nsNow s)
    |> setCtl 4
    |> abortAll
    |> (fun s => { s with seq.bgDue := [] })
    |> allSafe
    |> (fun s => if pair s = 4 then (if unitCause cause then explicitFault s else hedgeSend (.halt cause t) s) else s)
    |> (fun s => forEach s.cmd.haltJobs { s with cmd.haltJobs := [] } fun j s => ended j 0 0 (nsNow s) s)

/-- HALT by a cause (R83): from RUN, or from STOP for POWERFAIL and SWITCH_FAULT (R80); one that meets a Graft switch
waits for its end, save POWERFAIL and SWITCH_FAULT, which stop the switch first (R109). -/
def halt (cause t : Nat) (s : State) : State :=
  if ctl s = 3 ∨ (ctl s = 2 ∧ (cause = 5 ∨ cause = 9)) then
    if s.prog.switchAt.isSome ∧ cause ≠ 5 ∧ cause ≠ 9 then
      { s with prog.haltNext := some (s.prog.haltNext.getD (cause, t)) }
    else haltNow cause t (if cause = 5 then endCommit 0x0A 0x0739 s else s)
  else s

/-- A unit in shadow execution, a joiner that runs the instances it has queued included, becomes unfit (R78, R209): it stops
at once, reports and resynchronises or parks. -/
def selfUnfit (reason : Nat) (s : State) : State :=
  if pair s = 5 ∨ pair s = 3 then
    s |> abortAll |> hedgeSend (.unfit reason) |> ownUnfit reason
  else s

/-- A fault of the program: HALT in an active unit, unfitness with SHADOW_FAULT in a standby (R78, R83). -/
def programFault (cause t : Nat) (s : State) : State :=
  if standby s then selfUnfit 4 s else halt cause t s

/-- One overrun of a task (R76–R78). -/
def overrun (t : Nat) (s : State) : State :=
  let n := fget s (CTL_TASK_STAT_OVERRUNS t) + 1
  let s1 := s
    |> fputBit CTL_OVERRUN_TASK t true
    |> bump (CTL_TASK_STAT_OVERRUN_TOTAL t) 1
  if standby s then s1 |> logEarly 1 .overrun t 0 |> selfUnfit 4 |> logLate 1 .overrun t 0
  else
    let s2 := log 1 .overrun t 0 s1
    match taskDef s t with
    | some d =>
      let s3 := fput (CTL_TASK_STAT_OVERRUNS t) (min n (d.grace + 1)) s2
      if n > d.grace then halt 1 t s3 else s3
    | none => s2

/-- BUDGET or BUDGET_SAG of an instance in ns; 0 for none (R62, R89). -/
def budgetOf (s : State) (t : Nat) : Nat :=
  match taskDef s t with
  | some d => if (run s t).sagBudget then d.budgetSag else d.budget
  | none => 0

/-- Execution time of the running instance in ns (R74). -/
def execNs (s : State) (t : Nat) : Nat :=
  let r := run s t
  (s.now - r.codeAt - r.stopped - (if r.phase = .suspended then s.now - r.stopAt else 0)) / 16

/-- The execution time has reached the budget (R76). -/
def overBudget (s : State) (t : Nat) : Bool := budgetOf s t ≠ 0 ∧ execNs s t ≥ budgetOf s t

/-- A budget overrun: aborted without commit, and counted (R76). -/
def budgetOverrun (t : Nat) (s : State) : State := overrun t (abort t s)

/-- The instance ends when its cores have returned and its lanes have reported END, also where the last of them does so
between the suspension and its PREEMPT interrupt; its commit is requested (R70). -/
def endCheck (t : Nat) (s : State) : State :=
  let r := run s t
  if (r.phase = .running ∨ r.phase = .suspended) ∧ r.coresLeft = 0 ∧ r.lanesLeft = 0 then
    if overBudget s t then budgetOverrun t s
    else
      s |> setRun t (fun r => { r with committing := some (r.inst, execNs s t), commitGen := r.gen })
        |> setPhase t .idle
        |> request 0 (.commit t r.inst)
        |> startReady
  else s

/-! ### Releases -/

/-- New code of a CODE Graft comes into force for a task at its next release (R100). -/
def codeSwitch (t : Nat) (s : State) : State :=
  if s.prog.codePending.getLsbD t then
    { s with
      prog.codePending := s.prog.codePending &&& ~~~(BitVec.ofNat 32 (2 ^ t))
      prog.first := s.prog.first ||| BitVec.ofNat 32 (2 ^ t)
      prog.cur.tasks := match look s.prog.pendTasks t with
        | some d => put t d s.prog.cur.tasks
        | none => s.prog.cur.tasks
      prog.pendTasks := del t s.prog.pendTasks }
  else s

/-- Suspends the lower-priority instances that hold a core or lane of the task (R72). -/
def preempt (t : Nat) (s : State) : State :=
  match taskDef s t with
  | none => s
  | some d => forEach (taskIds s) s fun u s =>
    match taskDef s u with
    | some e => if u ≠ t && (run s u).phase = .running && shares d e && e.prio < d.prio then suspend u s else s
    | none => s

/-- A STRUCTURAL or LAYOUT switch holds back the releases of an affected task that are not SYNC or CYCLIC (R102). -/
def heldBySwitch (s : State) (t : Nat) : Bool :=
  s.prog.switchAt.isSome && (fget s CTL_GRAFT_AFFECTED_TASK).testBit t

/-- A pending release starts: it suspends what it preempts and requests its snapshot (R72). -/
def startRelease (t : Nat) (s : State) : State := requestSnapshot t (preempt t s)

/-- The task still occupies a core or a lane that has stopped at a memory error (R424). -/
def occupied (s : State) (t : Nat) : Bool :=
  (List.range 8).any (fun c => (core s c).stopped && ownsCore s t c)
    || (List.range 4).any (fun l => (lane s l).stopped && ownsLane s t l)

/-- A release of a task from the unit's own sources (R63–R67, R69, R72, R76): only in RUN and in an active code. A release
that finds an instance running or pending is an overrun, and its number is consumed. -/
def release (t : Nat) (s : State) : State :=
  match taskDef s t with
  | none => s
  | some _ =>
    if ctl s ≠ 3 ∨ standby s then s
    else
      let n := (run s t).nextInst
      let s1 := setRun t (fun r => { r with nextInst := n + 1 }) s
      if (run s t).phase ≠ .idle || occupied s t then overrun t s1
      else
        let s2 := codeSwitch t s1
        let s3 := s2 |> setRun t (fun r => { r with
          inst := n, releaseAt := s.now, cycle := cycleNow s, gen := generation s2, mirror := none
          sagBudget := sag s = 2 ∧ fbit s CTL_STATE_SAG2_RT })
        if blocked s3 t || heldBySwitch s3 t then setPhase t .pending s3 else startRelease t s3

/-- Releases several tasks of one instant, highest priority first (R40). -/
def releaseAll (ts : List Nat) (s : State) : State :=
  forEach (ts.mergeSort (fun a b => prioOf s a ≥ prioOf s b)) s release

/-- The EVENT tasks with a source. -/
def eventTasks (s : State) (p : EventSource → Bool) : List Nat :=
  (s.prog.cur.tasks.filter (fun (_, d) => d.kind = .event ∧ p d.source)).map (·.1)

/-- A CYCLIC task is released in SYNC cycle `n` (R64). -/
def cyclicIn (d : TaskDef) (n : Nat) : Bool := d.kind = .cyclic ∧ n % max 1 d.period = d.phase

/-! ### Quiescence -/

/-- The drive cycle runs: NET_STATUS.CYCLE_RUN. -/
def cycleRuns (s : State) : Bool := fbit s NET_STATUS_CYCLE_RUN

/-- The time of the next SYNC or CYCLIC release of a task after the present instant, looking one period ahead. -/
def nextRelease (s : State) (d : TaskDef) : Option Nat :=
  let n := cycleNow s
  match d.kind with
  | .sync =>
    let ofs := (fget s NET_RX_CUTOFF_NS + 500) * 16
    some (if boundary s n + ofs > s.now then boundary s n + ofs else boundary s (n + 1) + ofs)
  | .cyclic =>
    let k := max 1 d.period
    let here := n - n % k + d.phase
    let cand := [here, here + k, here + 2 * k].map (fun m => boundary s m + d.ofs * 16)
    cand.find? (· > s.now)
  | _ => none

/-- The time of the next SYNC or CYCLIC release of task `t` that is still to come, one that is due at the present instant
included. -/
def nextDue (s : State) (t : Nat) (d : TaskDef) : Option Nat :=
  let n := cycleNow s
  let open_ := decide (lookD s.seq.relCycle t 0 ≤ n)
  let here := match d.kind with
    | .sync => decide (boundary s n + (fget s NET_RX_CUTOFF_NS + 500) * 16 = s.now)
    | .cyclic => cyclicIn d n && decide (boundary s n + d.ofs * 16 = s.now)
    | _ => false
  if open_ && here then some s.now else nextRelease s d

/-- No SYNC or CYCLIC release falls within the next `dt` sixteenths of a ns. -/
def noReleaseWithin (s : State) (dt : Nat) : Bool :=
  ctl s ≠ 3 || !cycleRuns s || s.prog.cur.tasks.all fun (_, d) =>
    match nextRelease s d with
    | some t => t ≥ s.now + dt
    | none => true

/-- No instance of the tasks is running, suspended or pending. -/
def allIdle (s : State) (mask : Nat) : Bool :=
  (taskIds s).all fun t => !mask.testBit t || ((run s t).phase = .idle && (run s t).committing.isNone)

/-- Quiescence of R352. -/
def quiescent (s : State) (dt : Nat) : Bool := allIdle s (2 ^ 32 - 1) && noReleaseWithin s dt

end Sys2Proof.Machine
end

