-- ==== Sys2Proof/Machine/Gate.lean ====
section
/-! DEFINITION. What every command passes before its own checks: the descriptor checks of R321, the service-port rules of
R347 and R363, the standby role (R205), the state guards (R104, R345), the power state (R429), in the order of R346. -/

namespace Sys2Proof.Machine

open Reg

/-- How a command uses the host buffer (R320, R347). -/
inductive BufUse where
  | none | reads | writes | both
  deriving DecidableEq, Repr

/-- The SVC column of R347. -/
inductive SvcUse where
  | open_ | auth | no
  deriving DecidableEq, Repr

/-- A command card (R347): opcode, ring 0 only, defined OPFLAGS bits (of FLAGS), the PARAMS bytes it defines as runs of
descriptor bytes, buffer use and limit, whether it takes IDENT, the APPLY selectors it allows, the SVC column, whether a
standby code refuses it, and the state guards that apply to it as reason codes 1–7. -/
structure Card where
  op : Nat
  ring0 : Bool := false
  opflags : Nat := 0
  params : List (Nat × Nat) := []
  buf : BufUse := .none
  bufMax : Nat := 16777216
  ident : Bool := false
  apply : List Nat := [0]
  svc : SvcUse := .auth
  active : Bool := false
  guards : List Nat := []

/-- Byte `i` of the descriptor, 32 to 63. -/
def param (d : Desc) (i : Nat) : Nat := (d.params.toNat / 2 ^ (8 * (i - 32))) % 256

/-- `n` bytes of the descriptor from byte `i`, little-endian. -/
def paramN (d : Desc) (i n : Nat) : Nat := (d.params.toNat / 2 ^ (8 * (i - 32))) % 2 ^ (8 * n)

/-- OPFLAGS bit `i`, by its number in FLAGS (R320). -/
def opflag (d : Desc) (i : Nat) : Bool := d.flags.getLsbD i

def isSvc (d : Desc) : Bool := match d.origin with
  | .svc => true
  | .ring _ => false

/-- Every PARAMS byte that the card does not define is 0 (R321). -/
def paramsClean (c : Card) (d : Desc) : Bool :=
  (List.range 32).all fun i => c.params.any (fun (o, n) => o ≤ i + 32 ∧ i + 32 < o + n) || param d (i + 32) = 0

/-- DESC_BUFFER of R321; on the service port BUF_ADDR is 0, and BUF_LEN gives the bytes sent for a command that reads its
buffer (R362). -/
def bufferBad (c : Card) (d : Desc) : Bool :=
  (if isSvc d then d.bufAddr ≠ 0 ∨ (c.buf = .reads ∧ (d.bufLen > 1024 ∨ d.buf.length ≠ d.bufLen))
   else d.bufAddr.toNat % 8 ≠ 0 ∨ (d.bufLen ≠ 0 ∧ d.bufAddr = 0) ∨ (d.bufLen = 0 ∧ d.bufAddr ≠ 0))
    ∨ d.bufLen > 16777216 ∨ d.bufLen > c.bufMax ∨ (c.buf = .none ∧ d.bufLen ≠ 0)

/-- The first malformed condition of R321, as a reason. DESC_FETCH and DESC_OPCODE are met before a card is known. DESC_RING
is for COMMAND rings; the service port has the SVC column of R347 (DEDUCED, log 60). -/
def malformedReason (c : Card) (d : Desc) : Option Nat :=
  if c.ring0 ∧ !isSvc d ∧ d.origin ≠ .ring 0 then some 0x0103
  else if d.byte3 ≠ 0 ∨ bits d.flags.toNat 1 3 ≠ 0 ∨ (d.flags.toNat / 16 * 16) &&& c.opflags ≠ d.flags.toNat / 16 * 16
      ∨ !paramsClean c d then some 0x0104
  else if bufferBad c d then some 0x0105
  else if (c.ident ∧ d.ident = 0) ∨ (!c.ident ∧ d.ident ≠ 0) then some 0x0106
  else if d.apply ∉ c.apply then some 0x0107
  else none

/-- A service session that the datagram names is open (R363). -/
def sessionOk (s : State) (d : Desc) : Bool := match s.cmd.session with
  | some x => d.session ≠ 0 ∧ d.session = x.num
  | none => false

/-- Service-port AUTH refusals of R347 and R363. -/
def svcRefusal (c : Card) (d : Desc) (s : State) : Option (Nat × Nat) :=
  if isSvc d then
    if c.svc = .auth ∧ !sessionOk s d then some (0x04, 0x0601)
    else if sessionOk s d ∧ !d.tagOk then some (0x04, 0x0602)
    else none
  else none

/-- A state guard by its reason code (R345): MOVING, HOLDUP_LOW, OWNER_LOCK, PAIR_NOT_READY, LIFECYCLE, DEBUG_ACTIVE,
TXN_OPEN; `self` is the transaction that the guarded command commits (R348). -/
def guardTrue (s : State) (self : Option DWord) (g : Nat) : Bool :=
  match g with
  | 1 => moving s
  | 2 => holdupLow s
  | 3 => s.sec.ownerLock
  | 4 => pair s = 1 ∨ pair s = 2 ∨ pair s = 3
  | 5 => s.sec.life = 0 ∨ s.sec.life = 3 ∨ s.sec.life = 4
  | 6 => fget s DBG_STATUS_LEVEL = 1 ∨ fget s DBG_STATUS_LEVEL = 2
  | 7 => s.cmd.txns.any (fun t => some t.ident ≠ self)
  | _ => false

/-- All seven guards. -/
def allGuards : List Nat := [1, 2, 3, 4, 5, 6, 7]

/-- The first guard of a list that is true, in code order (R346). -/
def guardRefusal (s : State) (self : Option DWord) (gs : List Nat) : Option (Nat × Nat) :=
  (allGuards.find? (fun g => gs.contains g && guardTrue s self g)).map (fun g => (0x01, g))

/-- In HOLD, ring 0 executes only six commands (R429). -/
def powerRefusal (c : Card) (s : State) : Option (Nat × Nat) :=
  if power s = 2 ∧ c.op ∉ [0x0E01, 0x0E02, 0x0F01, 0x0110, 0x0C01, 0x0D01] then some (0x01, 0x0738) else none

/-- A command whose card has SVC "no" is refused on the service port with NOT_SUPPORTED (R347). -/
def notOnSvc (c : Card) (d : Desc) : Option (Nat × Nat) := if isSvc d ∧ c.svc = .no then some (0x07, 0) else none

/-- The checks that every command shares, in the order of R346. -/
def gate (c : Card) (d : Desc) (s : State) : Option (Nat × Nat) :=
  match malformedReason c d with
  | some r => some (0x02, r)
  | none =>
    (svcRefusal c d s).or <|
      (if c.active ∧ standby s then some (0x01, 0x0013) else none).or <|
        (guardRefusal s (if c.op = 0x0303 then some d.ident else none) c.guards).or <|
          (powerRefusal c s).or (notOnSvc c d)

/-- A slot for a fetched entry (R324); the ring's completions are posted in the order of these. -/
def openSlot (d : Desc) (s : State) : State :=
  match d.origin with
  | .ring r => setRing r.val (fun g => { g with
      slots := g.slots ++ [{ index := d.index, irqNow := d.flags.getLsbD 0 }] }) s
  | .svc => s

/-- The read of the host buffer ended in error: fewer bytes came than BUF_LEN names. -/
def bufferLost (c : Card) (d : Desc) : Bool :=
  (c.buf = .reads ∨ c.buf = .both) ∧ !isSvc d ∧ d.buf.length ≠ d.bufLen

/-- An accepted command whose buffer read failed completes with INTEGRITY, reason HOST_DMA (HIF_EVENTS.HOST_DMA_ERR, and
vector 128 of R329). -/
def dmaError (op : Nat) (d : Desc) (s : State) : State :=
  let (s1, jb) := accept op d 0 s
  settle (finish jb 0x09 0x0307 0 [] (interrupt 128 (raise HIF_EVENTS_HOST_DMA_ERR s1)))

/-- The place of a refusal in the order of R346: a malformed descriptor, AUTH, STANDBY_ROLE, the state guards in code order, the
other state reasons, every other check, BUSY. -/
def refusalRank (r : Nat × Nat) : Nat :=
  match r.1 with
  | 2 => if 0x0100 ≤ r.2 ∧ r.2 < 0x0108 then 0 else 11
  | 4 => 1
  | 1 => if r.2 = 0x0013 then 2 else if 1 ≤ r.2 ∧ r.2 ≤ 7 then 2 + r.2 else 10
  | 8 => 12
  | _ => 11

/-- The refusal of the common checks or one of the command's own, whichever comes first in R346. -/
def firstRefusal (g : Nat × Nat) (own : Option (Nat × Nat)) : Nat × Nat :=
  match own with
  | some r => if refusalRank r < refusalRank g then r else g
  | none => g

/-- The refusal of a command: from the common checks, or from its own in their order. A buffer that did not arrive is not
judged. -/
def refusalOf (c : Card) (d : Desc) (own : State → Option (Nat × Nat)) (s : State) : Option (Nat × Nat) :=
  match gate c d s with
  | some g => some (firstRefusal g (if bufferLost c d then none else own s))
  | none => if bufferLost c d then none else own s

/-- Runs a command: the common checks, its own checks in their order, and its effect when none refuses it. The own checks
give the status and reason of the first refusal. -/
def command (c : Card) (d : Desc) (own : State → Option (Nat × Nat)) (effect : State → State) (s : State) : State :=
  let s1 := openSlot d s
  match refusalOf c d own s1 with
  | some (st, rs) => refuse c.op d st rs s1
  | none => if bufferLost c d then dmaError c.op d s1 else effect s1

/-- A command whose refusal by its own checks leaves a trace of its own. -/
def judged (c : Card) (d : Desc) (own : State → Option (Nat × Nat)) (note : Nat × Nat → State → State)
    (effect : State → State) (s : State) : State :=
  command c d (fun _ => own s) effect (match refusalOf c d own s with
    | some r => note r s
    | none => s)

/-- The first refusal of a list whose condition holds. -/
def firstOf : List (Bool × Nat × Nat) → Option (Nat × Nat)
  | [] => none
  | (b, st, rs) :: l => if b then some (st, rs) else firstOf l

/-- A command that takes effect and completes at once: its state change, RESULT and the bytes that it writes to the
buffer. -/
def immediate (op : Nat) (d : Desc) (change : State → State) (result : State → Nat) (data : State → List Byte)
    (s : State) : State :=
  let (s1, jb) := accept op d 0 s
  let s2 := change s1
  done jb (result s2) (data s2) s2

/-- Puts a deferred command behind those of the same or an earlier boundary: acceptance order decides (R324). -/
def queueDeferred (x : Deferred) : List Deferred → List Deferred
  | [] => [x]
  | y :: ys => if y.cycle ≤ x.cycle then y :: queueDeferred x ys else x :: y :: ys

/-- Sends a MIRROR_CMD message in pair code 4 (R204). -/
def mirrorCmd (op : Nat) (d : Desc) (cycle : Nat) (s : State) : State :=
  if mirrors s then hedgeSend (.mirrorCmd op d cycle) s else s

/-- A command with its effect at the boundary of cycle N + 2 (R80, R204): accepted, mirrored by an active unit in pair
code 4, and kept until that boundary. -/
def deferCmd (op : Nat) (d : Desc) (act : DefAct) (s : State) : State :=
  let n := cycleNow s + 2
  let (s1, job) := accept op d n s
  mirrorCmd op d n { s1 with cmd.deferred := queueDeferred { act, cycle := n, job } s1.cmd.deferred }

/-- The change that a transaction waits to make: a commit or a rollback. -/
def waits (x : Txn) : Bool := x.state = .committing || x.rollback.isSome

/-- A configuration transaction accepted earlier takes effect at the same boundary first (R324). -/
def txnBefore (s : State) (x : Deferred) : Bool :=
  s.cmd.txns.any fun y => waits y && y.sel ≠ 2 && y.due = boundary s x.cycle && y.job.any (fun b => decide (b.j < x.job.j))

/-- The deferred command whose turn it is, when it is of a kind: the first in the order of boundaries and acceptance
(R324). -/
def nextDeferred (p : DefAct → Bool) (s : State) : Option Deferred :=
  match s.cmd.deferred with
  | x :: _ => if p x.act && !txnBefore s x then some x else none
  | [] => none

/-- The reason that a state condition gives at the boundary: HOLD, in which the module takes no such command (R429), stands behind the
state guards and before the other state reasons, as at acceptance (R346). -/
def againReason (s : State) (own : Option Nat) : Option Nat :=
  if power s = 2 ∧ own.all (fun r => decide (r = 0 ∨ 7 < r)) then some 0x0738 else own

/-- A deferred command takes effect at its boundary (R204, R497): it is judged again, and its effect or ABORTED with the
reason of the failed state condition completes it. The effect gives the state and RESULT. -/
def applyDeferred (x : Deferred) (cond : State → Option Nat) (effect : State → State × Nat) (s : State) : State :=
  let s1 := toBoundary x.cycle { s with cmd.deferred := s.cmd.deferred.erase x }
  if !x.job.mirrored ∧ standby s1 then ended x.job 0x0A 0x0013 0 s1
  else match (if x.job.mirrored then cond s1 else againReason s1 (cond s1)) with
    | some reason => ended x.job 0x0A reason 0 s1
    | none => ended x.job 0 0 (effect s1).2 (effect s1).1

/-- The row of a deferred kind: nothing happens unless such a command's turn has come. -/
def deferredRow (p : DefAct → Bool) (cond : Deferred → State → Option Nat) (effect : Deferred → State → State × Nat)
    (s : State) : State :=
  match nextDeferred p s with
  | some x => applyDeferred x (cond x) (effect x) s
  | none => s

end Sys2Proof.Machine
end

