-- ==== Sys2Proof/Machine/Image.lean ====
section
/-! DEFINITION. The image unit (R28–R49): write units and the EVENT releases they cause, forces, the S area, snapshots and
commits, with the frames, digests, captures and publications that a commit triggers. -/

namespace Sys2Proof.Machine

open Reg

/-! ### Write units and edges -/

/-- The EVENT tasks whose named I bit changed (R66). -/
def edgeTasks (old new : Mem) (s : State) : List Nat :=
  eventTasks s fun
    | .rise b => b < 0x100000 ∧ !rdBit old b ∧ rdBit new b
    | .fall b => b < 0x100000 ∧ rdBit old b ∧ !rdBit new b
    | _ => false

/-- One write unit into the live image, atomic, with the EVENT releases of the I bits that it changes (R31, R66). `mark`
records the unit for the freshness fields (R496). -/
def writeUnit (mark : Mark → Img → Img) (write : Mem → Mem) (s : State) : State :=
  let old := s.img.live
  let new := write old
  let n := s.img.evNo + 1
  let s1 : State := { s with img := mark { no := n, at_ := s.now } { s.img with live := new, evNo := n } }
  releaseAll (edgeTasks old new s) s1

/-- A write unit of byte runs. -/
def writeBytes (mark : Mark → Img → Img) (runs : List (Nat × List Byte)) (s : State) : State :=
  writeUnit mark (fun m => runs.foldl (fun m (a, bs) => wrN m a bs) m) s

def noMark (_ : Mark) (i : Img) : Img := i

/-! ### Forces (R44–R49) -/

/-- Bits of a force entry by its WIDTH code. -/
def forceBits (w : Nat) : Nat := match w with
  | 0 => 1 | 1 => 8 | 2 => 16 | _ => 32

/-- Applies the force table to the bits of a memory that a predicate selects. -/
def applyForces (fs : List ForceEntry) (p : Nat → Bool) (m : Mem) : Mem :=
  fs.foldl (fun m e => (List.range (forceBits e.width)).foldl
    (fun m i => if p (e.addr + i) then wrBit m (e.addr + i) (e.value.getLsbD i) else m) m) m

def inRange (r : Range) (b : Nat) : Bool := r.start ≤ b ∧ b < r.start + r.len

/-- A bit lies in some output set (R42, R43). -/
def ownedBit (s : State) (b : Nat) : Bool :=
  s.prog.cur.tasks.any fun (_, d) => d.ranges.any fun r => r.out && inRange r b

/-- FORCE_N, SYS_STAT.FORCED and IMG_FORCE_STATUS follow the table (R49). -/
def showForces (s : State) : State :=
  let n := s.img.forces.length
  let was := fbit s SYS_STAT_FORCED
  let s1 := s |> fput SYS_STAT_FORCED (if n = 0 then 0 else 1)
    |> fput IMG_FORCE_STATUS_FORCED (if n = 0 then 0 else 1)
    |> fput IMG_FORCE_STATUS_COUNT n
  if was = (n ≠ 0) then s1 else emit (.forceN (n ≠ 0)) s1

/-- Reads the entry of R44 from 8 bytes. -/
def forceOf (bs : List Byte) : ForceEntry :=
  { addr := bits (leAt bs 0 4) 0 23, width := bits (leAt bs 0 4) 26 2, value := BitVec.ofNat 32 (leAt bs 4 4) }

/-- The two entries force the same bits. -/
def sameForce (a b : ForceEntry) : Bool := a.addr = b.addr ∧ a.width = b.width

def overlapForce (a b : ForceEntry) : Bool :=
  a.addr < b.addr + forceBits b.width ∧ b.addr < a.addr + forceBits a.width

/-- The records of a FORCE_WRITE buffer, 12 bytes each. -/
def forceRecords (buf : List Byte) : List (List Byte) :=
  (List.range (buf.length / 12)).map (fun i => (buf.drop (12 * i)).take 12)

/-- Applies one record to a force table: set or replace, or remove. -/
def forceStep (fs : List ForceEntry) (rec_ : List Byte) : List ForceEntry :=
  let e := forceOf (rec_.drop 4)
  let rest := fs.filter (fun x => !sameForce x e)
  if leAt rec_ 0 1 = 1 then rest else rest ++ [e]

def forceApplyAll (fs : List ForceEntry) (buf : List Byte) : List ForceEntry := (forceRecords buf).foldl forceStep fs

/-! ### The S area (R32, R33, R496) -/

/-- The seven calendar bytes SEC–WEEKDAY (R452). -/
def rtcBytes (r : RtcTime) : List Byte :=
  [r.sec, r.min, r.hour, r.day, r.month, r.year, r.weekday].map (BitVec.ofNat 8)

/-- An input delivered after the previous snapshot of a task: after the event number of an own one, or from the time of a
mirrored one on (R496). -/
def freshSince (r : TaskRun) (m : Mark) : Bool :=
  match r.prevAt with
  | some t => t ≤ m.at_
  | none => r.prevSnap < m.no

/-- The bits `i < n` of the inputs delivered since the previous snapshot. -/
def freshMask (n : Nat) (r : TaskRun) (m : SMap Mark) : Nat :=
  (List.range n).foldl (fun a i => if (look m i).any (freshSince r) then a + 2 ^ i else a) 0

/-- S bytes 0x0000–0x03FF for a task at its snapshot instant; `n` numbers the random words (R33, R393). -/
def sArea (t n : Nat) (s : State) : List Byte :=
  let r := run s t
  let kind := match taskDef s t with
    | some d => kindCode d.kind
    | none => 0
  let sync := fbit s NET_STATUS_PLANT_SYNC
  let flags := (if s.img.forces.isEmpty then 0 else 1) + (if r.warmFirst then 2 else 0)
    + (if r.takeoverFirst then 4 else 0) + (if s.prog.first.getLsbD t then 8 else 0)
    + (if sync then 16 else 0) + (if s.rtc.lost then 0 else 32)
  le 8 (nsNow s) ++ le 8 (devNs s r.releaseAt) ++ le 8 (cycleNow s) ++ le 8 r.inst
    ++ le 1 t ++ le 1 kind ++ le 1 (ctl s) ++ le 1 (pair s) ++ le 1 (sag s)
    ++ le 1 (min 3 (fget s (CTL_TASK_STAT_OVERRUNS t))) ++ le 2 0
    ++ le 4 flags ++ le 4 0 ++ le 8 (if sync then fget s NET_PLANT_OFFSET_OFFSET else 0) ++ le 8 0
    ++ rtcBytes s.rtc.latch ++ le 57 0
    ++ le 64 (Config.freeBits 512 n).toNat ++ le 64 0
    ++ (List.range 16).flatMap (axisBytes s)
    ++ le 32 (freshMask 256 r s.img.tplAt)
    ++ le 4 (freshMask 4 r s.img.groupAt + (if fbit s FIO_STATUS_LINK_UP then 16 else 0))
    ++ le 4 (freshMask 2 r s.img.loopAt)
    ++ le 2 (freshMask 16 r s.img.axisAt) ++ le 214 0

/-- Image byte of the S area (R28). -/
def sBase : Nat := 0xF0000

/-! ### Snapshot (R38, R34, R45) -/

/-- First byte and number of whole bytes that a range covers. -/
def rangeBytes (r : Range) : Nat × Nat := (r.start / 8, (r.start + r.len + 7) / 8 - r.start / 8)

def inRanges (d : TaskDef) : List Range := d.ranges.filter (fun r => !r.out)
def outRanges (d : TaskDef) : List Range := d.ranges.filter (fun r => r.out)

def totalBytes (rs : List Range) : Nat := (rs.map (fun r => (rangeBytes r).2)).sum

/-- Copies the bytes of ranges from one memory into another. -/
def copyRanges (dst src : Mem) (rs : List Range) : Mem :=
  rs.foldl (fun m r => copyN m src (rangeBytes r).1 (rangeBytes r).2) dst

/-- The view of an active unit: input ranges, output ranges in whole bytes, S, forces on I bits (R38, R45). -/
def buildView (d : TaskDef) (live : Mem) (sBytes : List Byte) (forces : List ForceEntry) : Mem :=
  let v := wrN (copyRanges (copyRanges [] live (inRanges d)) live (outRanges d)) sBase sBytes
  applyForces forces (fun b => b < 0x100000 && (inRanges d).any (fun r => inRange r b)) v

/-- The input bytes of a view in descriptor order, as a SNAPSHOT message carries them (R203). -/
def viewInputs (d : TaskDef) (v : Mem) : List Byte :=
  (inRanges d).flatMap fun r => rdN v (rangeBytes r).1 (rangeBytes r).2

/-- The view of a standby, from the mirrored inputs and S bytes and its own output ranges (R34). -/
def mirrorView (d : TaskDef) (live : Mem) (m : SnapMsg) : Mem :=
  let v := copyRanges [] live (outRanges d)
  let (v, _) := (inRanges d).foldl
    (fun (acc : Mem × List Byte) r =>
      (wrN acc.1 (rangeBytes r).1 (acc.2.take (rangeBytes r).2), acc.2.drop (rangeBytes r).2)) (v, m.inputs)
  wrN v sBase m.sArea

/-- Snapshot bound of R41 in 1/128 ns, in which a byte at 25.6 bytes per ns takes 5. -/
def snapBound128 (d : TaskDef) : Nat :=
  128 * (250 + 10 * d.ranges.length) + 5 * (totalBytes d.ranges + 1024)

/-- Commit bound of R41 in 1/128 ns. -/
def commitBound128 (d : TaskDef) : Nat :=
  128 * (80 + 5 * (outRanges d).length) + 5 * totalBytes (outRanges d)

/-- The bounds in sixteenths of a ns, the model's clock. -/
def snapBound (d : TaskDef) : Nat := snapBound128 d / 8
def commitBound (d : TaskDef) : Nat := commitBound128 d / 8

/-- Serves the snapshot of an instance at its snapshot instant (R38, R34, R32, R33, R496). -/
def serveSnapshot (t : Nat) (d : TaskDef) (s : State) : State :=
  let n := s.free
  let r := run s t
  let own := sArea t n s
  let (view, sBytes) := match r.mirror with
    | some m => (mirrorView d s.img.live m, m.sArea)
    | none => (buildView d s.img.live own s.img.forces, own)
  { s with free := n + 2, img.live := wrN s.img.live sBase sBytes
           img.busy := s.now + Config.freeNat (n + 1) % (snapBound d + 1)
           prog.first := s.prog.first &&& ~~~(BitVec.ofNat 32 (2 ^ t)) }
    |> bumpWrap IMG_SNAP_COUNT_COUNT 1
    |> setPhase t .copying
    |> setRun t (fun r => { r with
        snapAt := s.now, view, warmFirst := false, takeoverFirst := false, prevSnap := s.img.evNo
        prevAt := r.mirror.map (fun m => localTime s (16 * leAt m.sArea 0 8))
        snapDone := s.now + Config.freeNat (n + 1) % (snapBound d + 1) })

/-! ### Output frames (R283, R294) -/

/-- Image byte address of the field output word, while FIO_MAP_OUT.EN = 1. -/
def fieldWordAt (s : State) : Option Nat :=
  if fbit s FIO_MAP_OUT_EN then some (fget s FIO_MAP_OUT_ADDR) else none

/-- The output word as it stands in the live Q area; 0 while no word is mapped (R282). -/
def fieldWord (s : State) : Word :=
  match fieldWordAt s with
  | some a => BitVec.ofNat 32 (ofLe (rdN s.img.live a 4))
  | none => 0

/-- Image byte address of a loop output word (R294, R308). -/
def loopWordAt (s : State) (x : Nat) : Option Nat :=
  if fbit s (LPT_LT_MAP_OUT_EN x) then some (0x20000 + 4 * fget s (LPT_LT_MAP_OUT_OFS x)) else none

def loopWord (s : State) (x : Nat) : Nat :=
  match loopWordAt s x with
  | some a => ofLe (rdN s.img.live a 4)
  | none => 0

/-- An output frame starts at once, or when the frame on the link ends (R283). Logic held in reset sends none (R22). -/
def sendField (s : State) : State :=
  if logicOff s then s
  else if s.fio.outFrame.isSome then { s with fio.outNext := true }
  else
    let w := fieldWord s
    emit (.fieldFrame w) { s with fio.outFrame := some w, fio.outNext := false, fio.outEnd := s.now + 30720 }

/-- A loop frame with the output word (R294). Logic held in reset sends none (R22). -/
def sendLoop (x : Nat) (s : State) : State :=
  let w := loopWord s x
  if logicOff s then s
  else s |> setLoop x (fun l => { l with frame := some w, frameAt := s.now }) |> emit (.loopFrame x (BitVec.ofNat 32 w))

/-- A set of bits covers a byte of the word at an address. -/
def coversWord (p : Nat → Bool) (a : Nat) : Bool := (List.range 32).any (fun i => p (8 * a + i))

/-- Sends the frames whose words the changed bits touch. -/
def sendOutputs (p : Nat → Bool) (s : State) : State :=
  let s1 := match fieldWordAt s with
    | some a => if coversWord p a then sendField s else s
    | none => s
  forEach [0, 1] s1 fun x s => match loopWordAt s x with
    | some a => if coversWord p a then sendLoop x s else s
    | none => s

/-! ### Commit (R39, R46) -/

/-- Copies the bits `[start, start + len)` from one memory into another. -/
def copyBits (dst src : Mem) (start len : Nat) : Mem :=
  let stop := start + len
  let lo := min stop ((start + 7) / 8 * 8)
  let hi := max lo (stop / 8 * 8)
  let one := fun (m : Mem) (b : Nat) => wrBit m b (rdBit src b)
  let m1 := (List.range (lo - start)).foldl (fun m i => one m (start + i)) dst
  let m2 := copyN m1 src (lo / 8) ((hi - lo) / 8)
  (List.range (stop - hi)).foldl (fun m i => one m (hi + i)) m2

/-- The live image after the commit of a view: only bits of the output ranges, then the forces on them. -/
def commitImage (d : TaskDef) (live view : Mem) (forces : List ForceEntry) : Mem :=
  let m := (outRanges d).foldl (fun m r => copyBits m view r.start r.len) live
  applyForces forces (fun b => (outRanges d).any (fun r => inRange r b)) m

/-- The Pepper digest of an instance (R207). -/
def digestOf (t gen inst : Nat) (d : TaskDef) (view : Mem) : Nat :=
  crc64 (le 1 t ++ le 3 0 ++ le 4 gen ++ le 8 inst ++ (outRanges d).flatMap fun r =>
    let (a, n) := rangeBytes r
    rdN (copyBits [] view r.start r.len) a n)

/-- Requests the publish copies that a commit triggers (R334, R335). -/
def requestPublish (t inst : Nat) (s : State) : State :=
  forEach s.hif.pubs s fun (r, p) s =>
    if p.task = t ∧ ringKind s r = 2 ∧ inst % max 1 p.every = 0 then request 40 (.publish r t inst (cycleNow s)) s else s

/-- Trim words that a committed instance has set for later boundaries; a commit that completes after its boundary is late
(R118). -/
def queueTrims (t : Nat) (d : TaskDef) (s : State) : State :=
  let k := if d.kind = .cyclic then d.period else 1
  let n := (run s t).cycle + k + 1
  let late := decide (s.now > boundary s n)
  forEach (List.range 16) s fun a s =>
    let addr := fget s (TRL_AXIS_TRIM_SRC_ADDR a)
    if fbit s (TRL_AXIS_TRIM_SRC_EN a) ∧ (outRanges d).any (fun r => inRange r (8 * addr)) then
      { s with trl.trimDue := s.trl.trimDue ++
        [{ axis := a, value := BitVec.ofNat 32 (ofLe (rdN s.img.live addr 4)), cycle := if late then cycleNow s + 1 else n
           late }] }
    else s

/-- Compares every pair of digests that the unit holds (R208); a standby that is found unfit stops at once. -/
def compareDigests (s : State) : State :=
  matchDigests (fun r s => if standby s then selfUnfit r s else ownUnfit r s) s.red.ownDigests.length s

/-- Serves the commit of an instance, requested at `at_` (R39, R40, R41, R46), with everything that follows it. -/
def serveCommit (t inst exec at_ : Nat) (d : TaskDef) (s : State) : State :=
  let (s0, n) := fresh s
  let s1 := advance (s.now + Config.freeNat n % (commitBound d + 1)) s0
  let r := run s1 t
  let owned := fun b => (outRanges d).any (fun x => inRange x b)
  { s1 with img.live := commitImage d s1.img.live r.view s1.img.forces }
    |> setRun t (fun r => { r with committing := none })
    |> bumpWrap IMG_COMMIT_COUNT_COUNT 1
    |> bumpMax IMG_COMMIT_MAX_NS ((s1.now - at_) / 16)
    |> fput (CTL_TASK_EXEC_LAST_NS t) exec
    |> bumpMax (CTL_TASK_EXEC_MAX_NS t) exec
    |> measure (Config.execMetric t) exec
    |> (fun s => if standby s then s else fput (CTL_TASK_STAT_OVERRUNS t) 0 s)
    |> capture t false
    |> queueTrims t d
    |> requestPublish t inst
    |> sendOutputs owned
    |> sendDigest t inst r.commitGen false (digestOf t r.commitGen inst d r.view)
    |> compareDigests
    |> (fun s => if d.kind = .background ∧ ctl s = 3 then
        { s with seq.bgDue := put t (s.now + usec d.period) s.seq.bgDue } else s)
    |> (fun s => releaseAll (eventTasks s (fun
        | .chain u => u = t
        | _ => false)) s)

end Sys2Proof.Machine
end

