-- ==== Sys2Proof/Machine/Derived.lean ====
section
/-! DEFINITION. Reading a register word (R11, R13–R15): the fields that show another part of the state, the word that a
read returns, and what the read does to the register. -/

namespace Sys2Proof.Machine

open Reg

/-! ### Fields that show other state -/

/-- The bit address that an EVENT task watches, 0 for another source (R66). -/
def watchBit : EventSource → Nat
  | .rise b => b
  | .fall b => b
  | .host => 0
  | .chain _ => 0

def sourceCode : EventSource → Nat
  | .host => 0 | .chain _ => 1 | .rise _ => 2 | .fall _ => 3

/-- CTL_TASKt_CTRL, RELEASE, OFFSET, BUDGET and BUDGET_SAG follow the task table: field `lsb` of register `reg`. -/
def taskField (s : State) (t reg lsb : Nat) : Option Nat :=
  match taskDef s t with
  | none => if reg < 5 then some 0 else none
  | some d =>
    match reg, lsb with
    | 0, 31 => some 1
    | 0, 28 => some (kindCode d.kind)
    | 0, 26 => some d.grace
    | 0, 20 => some d.prio
    | 0, 16 => some d.lanes.toNat
    | 0, 8 => some (coreMask d)
    | 1, 16 => some (if d.kind = .cyclic then d.period else if d.kind = .event then 2 ^ 13 * sourceCode d.source else 0)
    | 1, 0 => some (match d.kind with
        | .cyclic => d.phase
        | .background => d.period
        | .event => (match d.source with
            | .chain u => u
            | x => watchBit x % 65536)
        | _ => 0)
    | 2, 23 => some (if d.kind = .event then watchBit d.source / 65536 else 0)
    | 2, 0 => some (match d.kind with
        | .cyclic => d.ofs
        | .sync => fget s NET_RX_CUTOFF_NS + 500
        | _ => 0)
    | 3, _ => some d.budget
    | 4, _ => some (if fbit s CTL_STATE_SAG2_RT then d.budgetSag else d.budget)
    | _, _ => none

/-- The seven calendar fields in the order of their registers 0x7C00–0x7C18 (R453). -/
def rtcField (r : RtcTime) (i : Nat) : Nat :=
  [r.sec, r.min, r.hour, r.day, r.month, r.weekday, r.year].getD i 0

/-- A mask of the axes in a state. -/
def axesIn (s : State) (st : Nat) : Nat :=
  (List.range 16).foldl (fun m k => if axEnabled s k && axState s k = st then m + 2 ^ k else m) 0

/-- The level that Trellis commands on a fast channel. -/
def trellisLevel (s : State) (n : Nat) : Bool := (chan s n).edge

/-- Elapsed time of the system watchdog (R419) in units of 10 µs. -/
def watchdogElapsed (s : State) : Nat :=
  (s.now - s.sup.ref - s.sup.notCounted - (match s.sup.suspAt with
    | some t => s.now - t
    | none => 0)) / 160000

/-- The RETAIN_MIRROR ring that is RUNNING (R314, R338). -/
def mirrorRing (s : State) : Option Nat := (List.range 128).find? (fun r => ringKind s r = 3 ∧ ringState s r = 1)

def mirrorRuns (s : State) : Bool := (mirrorRing s).isSome

/-! Twin records (R448, R450) -/

/-- SEQ `x` is later than SEQ `y` (R450). -/
def laterSeq (x y : Nat) : Bool := 1 ≤ (x + 2 ^ 32 - y) % 2 ^ 32 ∧ (x + 2 ^ 32 - y) % 2 ^ 32 ≤ 2 ^ 31 - 1

/-- The copy in use of two: whether it is B, its SEQ and its data; and whether the copies conflict (R450). A copy that is not
valid is `none`. -/
def selectTwin (a b : Option (Nat × List Byte)) : Option (Bool × Nat × List Byte) × Bool :=
  match a, b with
  | none, none => (none, false)
  | some (x, d), none => (some (false, x, d), false)
  | none, some (y, e) => (some (true, y, e), false)
  | some (x, d), some (y, e) =>
    if laterSeq y x then (some (true, y, e), false)
    else if laterSeq x y then (some (false, x, d), false)
    else (some (false, x, d), d ≠ e)

def twinOf (s : State) (id : RecId) : Twin := ((s.nv.twins.find? (fun p => p.1 = id)).map (·.2)).getD {}

/-- The records in the order in which `Config` numbers them. -/
def records : List RecId :=
  [.pairEpoch, .jrnlStart, .lptTrim0, .lptTrim1, .pwrHoldup, .secLock] ++ (List.finRange 4).map .readPw
    ++ (List.finRange 4).map .writePw

/-- The identifier of a record (R448). -/
def recordId (id : RecId) : Nat := Config.recordId (records.idxOf id) % 65536

/-- A copy of a twin record as its bytes stand (R448). Every record of the module has at most 112 bytes of DATA, and a copy is
one page. -/
def copyBytes (id : RecId) (seq : Nat) (data : List Byte) : List Byte :=
  let b := le 2 0x5254 ++ le 2 (recordId id) ++ le 2 data.length ++ le 2 0 ++ le 4 seq ++ data
  b ++ le 4 (crc32c b)

/-- SEQ and DATA of a valid copy: MAGIC, ID, LEN and the reserved bytes as expected, and CHECK matches (R448). -/
def validCopy (id : RecId) (b : List Byte) : Option (Nat × List Byte) :=
  let n := leAt b 4 2
  if leAt b 0 2 = 0x5254 ∧ leAt b 2 2 = recordId id ∧ 1 ≤ n ∧ n ≤ 1008 ∧ leAt b 6 2 = 0 ∧ 16 + n ≤ b.length
      ∧ leAt b (12 + n) 4 = crc32c (b.take (12 + n)) then
    some (leAt b 8 4, (b.drop 12).take n)
  else none

/-- The copy in use of a record, and whether its copies conflict (R450). -/
def selectRecord (s : State) (id : RecId) : Option (Bool × Nat × List Byte) × Bool :=
  selectTwin (validCopy id (twinOf s id).a) (validCopy id (twinOf s id).b)

/-- The data of a record in use. -/
def recordData (s : State) (id : RecId) : Option (List Byte) := (selectRecord s id).1.map (fun x => x.2.2)

/-- A password in force; sixteen zero bytes are none (R442). -/
def passwordOf (s : State) (id : RecId) : Option (List Byte) :=
  (recordData s id).bind (fun d => if d.all (· = 0) then none else some d)

/-- The areas USER0–USER3 with a password of a kind, as a mask. -/
def passwordsSet (s : State) (kind : Fin 4 → RecId) : Nat :=
  (List.finRange 4).foldl (fun m u => if (passwordOf s (kind u)).isSome then m + 2 ^ u.val else m) 0

/-! Loop transmitters (R293) -/

/-- Fields of LPT_LTx_STAT that follow the target. -/
def loopField (s : State) (x lsb : Nat) : Option Nat :=
  let p := (loopTarget s x).2
  match lsb with
  | 29 => some (if p = 2 ∨ p = 5 then 1 else 0)
  | 27 => some (if (loop s x).trim.isSome then 1 else 0)
  | 26 => some (if hartOn s x then 1 else 0)
  | 25 => some (if 1 ≤ p ∧ p ≤ 5 then 1 else 0)
  | _ => none

/-- The TRACE ring that is RUNNING (R314, R341). -/
def traceRing (s : State) : Option Nat := (List.range 128).find? (fun r => ringKind s r = 4 ∧ ringState s r = 1)

/-- Records are being written (R408). -/
def traceOn (s : State) : Bool :=
  fget s DBG_STATUS_LEVEL ≠ 0 && fbit s DBG_TRACE_CFG_EN && (traceRing s).isSome

/-- The value of a field that shows other state. -/
def derived (s : State) (f : Field) : Option Nat :=
  let o := f.off
  if 0x1100 ≤ o ∧ o < 0x1500 then taskField s ((o - 0x1100) / 0x20) ((o - 0x1100) % 0x20 / 4) f.lsb
  else if 0x2100 ≤ o ∧ o < 0x2500 ∧ (o - 0x2100) % 0x40 = 0x10 then
    some (angle64 (motion s ((o - 0x2100) / 0x40) (tickAt s s.now)).pos)
  else if 0x2100 ≤ o ∧ o < 0x2500 ∧ (o - 0x2100) % 0x40 = 0x18 then
    some (q3216 (motion s ((o - 0x2100) / 0x40) (tickAt s s.now)).vel)
  else if o = 0x5814 then loopField s 0 f.lsb
  else if o = 0x5854 then loopField s 1 f.lsb
  else if 0x7C00 ≤ o ∧ o ≤ 0x7C18 then
    some (rtcField (match s.rtc.bar0.shadow with
      | some (r, _) => r
      | none => s.rtc.time) ((o - 0x7C00) / 4))
  else match o, f.lsb with
    | 0x1000, 16 => some s.prog.cur.tasks.length
    | 0x1000, 10 => some (if s.prog.cur.tasks.any (fun (_, d) => d.kind = .sync) then 1 else 0)
    | 0x1008, _ => some (cycleNow s)
    | 0x2000, 16 => some (axesIn s 3)
    | 0x2000, 0 => some (axesIn s 2)
    | 0x200C, 16 => some ((List.range 16).foldl
        (fun m n => if trellisOwned s n && trellisLevel s n then m + 2 ^ n else m) 0)
    | 0x200C, 0 => some ((List.range 16).foldl (fun m n => if trellisOwned s n then m + 2 ^ n else m) 0)
    | 0x3030, _ => some (nsNow s)
    | 0x3050, _ => if fget s f = 0 then some (Config.baseMac.toNat * 65536) else none
    | 0x32A0, 16 => some (s.prog.cur.templates.filter (fun (_, t) => t.tx)).length
    | 0x32A0, 0 => some (s.prog.cur.templates.filter (fun (_, t) => !t.tx)).length
    | 0x0444, _ => some s.hif.mirrorSeq
    | 0x0440, 31 => some (if mirrorRuns s && s.mem.pend.isEmpty then 1 else 0)
    | 0x0440, 30 => some (if mirrorRuns s ∧ s.hif.resync then 1 else 0)
    | 0x0440, 0 => some s.mem.pend.length
    | 0xA048, _ => some Config.unitId.toNat
    | 0x6000, 29 => some s.sec.life
    | 0x6000, 28 => some (if s.sec.ownerKey.all (· = 0) then 0 else 1)
    | 0x6000, 27 => some (if s.sec.ownerLock then 1 else 0)
    | 0x6000, 23 => some (if s.cmd.session.isSome then 1 else 0)
    | 0x6000, 16 => some s.sec.minSvn
    | 0x6000, 12 => some ((List.range 4).foldl (fun m k => if (Config.vendorKeyHash k).all (· = 0) then m else m + 2 ^ k) 0)
    | 0x6000, 8 => some s.sec.revoked.toNat
    | 0x6008, _ => some (s.sec.slots.foldl (fun m (k, _) => m ||| 2 ^ k) 0)
    | 0x9000, 28 => some (if traceOn s then 1 else 0)
    | 0x7008, 0 => some (min (2 ^ 24 - 1) (watchdogElapsed s))
    | 0x7800, 31 => some (if s.nv.writing.isSome then 1 else 0)
    | 0x7800, 30 => some (if holdupLow s then 1 else 0)
    | 0x7800, 0 => some (min 255 s.nv.queue.length)
    | 0x7808, 4 => some (passwordsSet s .writePw)
    | 0x7808, 0 => some (passwordsSet s .readPw)
    | 0x7010, 31 => some 1
    | 0x7010, 0 => some s.sup.resets
    | 0x7400, 23 => some (if holdupLow s then 1 else 0)
    | 0x8000, 31 => some (if s.recd.running.isSome then 1 else 0)
    | 0x8000, 30 => some (if (s.recd.due.isSome ∨ s.recd.running.isSome) ∧ (sag s ≥ 2 ∨ holdupLow s) then 1 else 0)
    | 0x7C20, 31 => some (if s.rtc.lost then 1 else 0)
    | 0x7C20, 30 => some (if s.rtc.onVbat then 1 else 0)
    | 0x7C20, 29 => some (if s.rtc.bar0.shadow.isSome then 1 else 0)
    | 0x7C20, 28 => some (if s.rtc.bar0.staging.isSome then 1 else 0)
    | _, _ => none

/-- The value that a read shows in a field (R11): 0 for a write-only field. -/
def fview (s : State) (f : Field) : Nat :=
  if f.acc = .wo then 0 else ((derived s f).getD (fget s f)) % 2 ^ f.width

/-! ### Finding a register -/

/-- The register that a word offset belongs to: its definition, its index in an array, and whether the word is the high
half of a 64-bit register (R15). -/
def locate (o : Nat) : Option (RegDef × Nat × Bool) :=
  table.findSome? fun d =>
    if o < d.off then none
    else
      let n := if d.stride = 0 then 0 else (o - d.off) / d.stride
      let r := if d.stride = 0 then o - d.off else (o - d.off) % d.stride
      if n < d.count ∧ r = 0 then some (d, n, false)
      else if n < d.count ∧ d.wide ∧ r = 4 then some (d, n, true)
      else none

/-- A whole register as a number. -/
def regValue (s : State) (d : RegDef) (n : Nat) : Nat :=
  ((d.fields n).map (fun f => fview s f * 2 ^ f.lsb)).sum

/-- Word offsets of the MSI-X table and the pending-bit array (R312). -/
def msixTableBase : Nat := 0xB000
def msixPendBase : Nat := 0xBC00

/-- The value of a word of BAR0; an undocumented offset reads 0 (R13). -/
def regWord (s : State) (o : Nat) : Word :=
  if msixTableBase ≤ o ∧ o < 0xB880 ∧ o % 4 = 0 then msixWord s ((o - msixTableBase) / 16) ((o - msixTableBase) % 16 / 4)
  else if msixPendBase ≤ o ∧ o < 0xBC14 ∧ o % 4 = 0 then
    BitVec.ofNat 32 ((List.range 32).foldl
      (fun m i => if lookD s.hif.msixPend (8 * (o - msixPendBase) + i) false then m + 2 ^ i else m) 0)
  else match locate o with
    | some (d, n, hi) => BitVec.ofNat 32 (if hi then regValue s d n / 2 ^ 32 else regValue s d n)
    | none => 0

/-! ### Reading -/

/-- A read-clear field returns to the value that holds nothing: its reset value (R11). -/
def clearRead (f : Field) (s : State) : State := if f.acc = .rc then fput f f.reset s else s

/-- A host read of a word (R11, R14, R15): a read of another width, and of an offset that is
no multiple of 4 (DESIGN CHOICE, log entry 72), completes with all bits set and does nothing; the low
word of a 64-bit register latches the high word, whose next read returns what was latched. -/
def hostRead (o width : Nat) (s : State) : State :=
  if width ≠ 4 ∨ o % 4 ≠ 0 then emit (.read o 0xFFFFFFFF) s
  else match locate o with
    | some (d, n, false) =>
      let v := regValue s d n
      let s1 := (d.fields n).foldl (fun s f => clearRead f s) s
      let s2 : State := if d.wide then { s1 with hiLatch := put o (BitVec.ofNat 32 (v / 2 ^ 32)) s1.hiLatch } else s1
      emit (.read o (BitVec.ofNat 32 v)) s2
    | some (_, _, true) =>
      match look s.hiLatch (o - 4) with
      | some v => emit (.read o v) { s with hiLatch := del (o - 4) s.hiLatch }
      | none => emit (.read o (regWord s o)) s
    | none => emit (.read o (regWord s o)) s

end Sys2Proof.Machine
end

