-- ==== Sys2Proof/Machine/Rings.lean ====
section
/-! DEFINITION. Ring set-up, reset and disable (R314–R316, R327), the host interface reset (R313), and writing a register
word (R11, R13–R15). -/

namespace Sys2Proof.Machine

open Reg

/-! ### Rings -/

/-- Rings of R314 that stand against a kind limit: other rings of the kind that are not DISABLED. -/
def sameKind (s : State) (r : Nat) : List Nat :=
  (List.range 128).filter fun q => q ≠ r ∧ ringState s q ≠ 0 ∧ ringKind s q = ringKind s r

/-- The set-up check of R316 step 1: the cause of the refusal. BASE has no bits below 4 KiB. -/
def setupCause (s : State) (r : Nat) : Option Nat :=
  let k := ringKind s r
  let n := (sameKind s r).length
  let lg := fget s (HIF_RING_CFG_LOG2SIZE r)
  if lg < 4 ∨ 16 < lg then some 2
  else if k = 7 then some 3
  else if (k = 2 ∧ n ≥ 8) ∨ (k = 3 ∧ n ≥ 1) ∨ (k = 4 ∧ n ≥ 1)
      ∨ (k = 6 ∧ (sameKind s r).any (fun q => fget s (HIF_RING_CFG_PORT q) = fget s (HIF_RING_CFG_PORT r))) then some 4
  else none

/-- What a reset, a disable and a host interface reset do to a ring (R327): entries fetched and not accepted are dropped,
no outstanding completion is posted, and fences that name the ring end. An event that was dropped is still owed its LOST (R333). -/
def dropRing (r st : Nat) (s : State) : State :=
  { s with
    net.nicBuf := del r s.net.nicBuf
    net.nicBad := del r s.net.nicBad
    hif.heldPubs := s.hif.heldPubs.filter (fun x => x.ring ≠ r) }
    |> setRing r (fun g => { g with slots := [], posted := [], signalled := false })
    |> fput (HIF_RING_STATUS_STATE r) st
    |> fputBit (HIF_RING_ERROR_RING (r / 32)) (r % 32) false

/-- Zeroing of the completion queue begins (R316 step 2). -/
def startZeroing (r : Nat) (s : State) : State := settle (dropRing r 3 s)

/-- The fields of HIF_RINGr_CFG other than ENABLE and RESET take their values from a written word (R316): VECTOR, IRQ_EN
and COALESCE_US always; KIND, LOG2SIZE and PORT only while the ring is disabled, otherwise CFG_IGNORED is set when the word
would change one of them. -/
def writeRingFields (r : Nat) (v : Word) (s : State) : State :=
  let b := fun lo w => bits v.toNat lo w
  let kind := if r = 0 then 0 else b 27 3
  let s1 := s |> fput (HIF_RING_CFG_VECTOR r) (b 12 7) |> fput (HIF_RING_CFG_IRQ_EN r) (b 19 1)
              |> fput (HIF_RING_CFG_COALESCE_US r) (b 0 10)
  if fbit s (HIF_RING_CFG_ENABLE r) ∨ ringState s r = 3 then
    if kind ≠ fget s (HIF_RING_CFG_KIND r) ∨ b 22 5 ≠ fget s (HIF_RING_CFG_LOG2SIZE r)
        ∨ b 20 2 ≠ fget s (HIF_RING_CFG_PORT r) then raise HIF_EVENTS_CFG_IGNORED s1
    else s1
  else s1 |> fput (HIF_RING_CFG_KIND r) kind |> fput (HIF_RING_CFG_LOG2SIZE r) (b 22 5)
          |> fput (HIF_RING_CFG_PORT r) (b 20 2)

/-- Indices of a ring at 0 and phase 1 (R316 step 3). -/
def clearRing (r : Nat) (s : State) : State :=
  s |> setRing r (fun g => { g with sqTail := 0, cqTail := 0, cqHead := 0, slots := [] })
    |> fput (HIF_RING_STATUS_SQ_HEAD r) 0 |> fput (HIF_RING_STATUS_PHASE r) 1 |> showFull r

/-- The completion queue of a ring is written with zeros (R316 step 2). -/
def zeroQueue (r : Nat) (s : State) : State := dma (.cqZero r (cqBase s r) (ringN s r)) s

/-- A reset of the host interface (R313, R12): HIF fields at reset, MSI-X masked and empty, every ring DISABLED with its completion
queue zeroed (R327; as the reset begins, and not with Bus Master Enable 0: DESIGN CHOICE, log entry 7), publish sets cleared, and
HOST_RESET journalled. FW_UP follows the controller (R316). No line is pending until the mirror runs again and resends them all
(R339). -/
def hostReset (kind : Nat) (s : State) : State :=
  let up := ctl s ≠ 0
  let s1 := forEach (List.range 128) s fun r s => if ringState s r = 0 then s else clearRing r (dropRing r 0 (zeroQueue r s))
  let s2 := { resetBlock 0x0400 0x1000 s1 with
    hif.msixTable := []
    hif.msixPend := []
    hif.funcMask := false
    hif.pubs := []
    hif.held := []
    hif.maxPayload := 128
    hif.maxReadReq := 512
    hif.aspmL1 := false
    mem.owedAborts := s.mem.owedAborts ++ (s.mem.pend.filter fun p : Nat × Bool => p.2).map fun p : Nat × Bool => p.1
    mem.pend := [] }
  let s3 := { s2 with
    hiLatch := s2.hiLatch.filter (fun p => ¬(0x400 ≤ p.1 ∧ p.1 < 0x1000))
    loStage := s2.loStage.filter (fun p => ¬(0x400 ≤ p.1 ∧ p.1 < 0x1000)) }
  s3 |> fput HIF_STATUS_FW_UP (if up then 1 else 0) |> jnote 0x0041 kind 0 |> settle

/-! ### Writing a register word -/

/-- A field that a row of its own writes: ring ENABLE and RESET, BOOT_CTRL, the time registers of the RTC. -/
def ownRow (f : Field) : Bool :=
  (0x0500 ≤ f.off ∧ f.off < 0x0D00 ∧ f.off % 16 = 8) ∨ f.off = 0xA004 ∨ (0x7C00 ≤ f.off ∧ f.off ≤ 0x7C18)

/-- What a write of `w` does to a field, by its access type (R11). -/
def writeField (f : Field) (w : Nat) (s : State) : State :=
  if ownRow f then s
  else match f.acc with
    | .ro => s
    | .rc => s
    | .wo => s
    | .rw => fput f w s
    | .w1c => fput f (fget s f - (fget s f &&& w)) s
    | .w1s => fput f (fget s f ||| w) s

/-- Writes a whole register from a number. -/
def writeReg (d : RegDef) (n v : Nat) (s : State) : State :=
  (d.fields n).foldl (fun s f => writeField f (bits v f.lsb f.width) s) s

/-- A ring whose BASE a write may not change (R316). -/
def baseHeld (s : State) (o : Nat) : Bool :=
  let r := (o - 0x0500) / 16
  0x0500 ≤ o ∧ o < 0x0D00 ∧ o % 16 = 0 ∧ (fbit s (HIF_RING_CFG_ENABLE r) ∨ ringState s r = 3)

/-- The trace configuration ignores writes at debug level 0. -/
def traceHeld (s : State) (o : Nat) : Bool := o = 0x9008 ∧ fget s DBG_STATUS_LEVEL = 0

/-- The length of a bundle ignores writes outside AWAITING_BUNDLE. -/
def lengthHeld (s : State) (o : Nat) : Bool := o = 0xA008 ∧ boot s ≠ 1

/-- A host write of a word whose register has no row of its own (R11, R13–R15): another width is discarded, and so is an
offset that is no multiple of 4 (DESIGN CHOICE, log entry 72: R14 only says that registers are aligned); an undocumented
offset ignores it, and the low word of a 64-bit register waits for the high word. -/
def hostWrite (o width : Nat) (v : Word) (s : State) : State :=
  if width ≠ 4 ∨ o % 4 ≠ 0 then s
  else if msixTableBase ≤ o ∧ o < 0xB880 then
    sendPending { s with hif.msixTable := put ((o - msixTableBase) / 4) v s.hif.msixTable }
  else if traceHeld s o || lengthHeld s o then s
  else match locate o with
    | some (d, n, false) => if d.wide then { s with loStage := put o v s.loStage } else writeReg d n v.toNat s
    | some (d, n, true) =>
      let lo := o - 4
      if baseHeld s lo then
        let s1 : State := { s with loStage := del lo s.loStage }
        raise HIF_EVENTS_CFG_IGNORED s1
      else
        let (s1, k) := fresh s
        let low := ((look s.loStage lo).getD (Config.freeBits 32 k)).toNat
        writeReg d n (v.toNat * 2 ^ 32 + low) { s1 with loStage := del lo s1.loStage }
    | none => s

end Sys2Proof.Machine
end

