-- ==== Sys2Proof/Machine/HostIf.lean ====
section
/-! DEFINITION. The host interface (chapter 12): ring set-up and doorbells, interrupt coalescing, the five events that reset
it, NOP and FENCE, image publication and the retain mirror, PCIe configuration and link events. -/

namespace Sys2Proof.Machine

open Reg

/-! ### Ring set-up, reset and disable -/

/-- Grants and unlocks of a ring end with a ring reset or a host interface reset (R401, R441). -/
def ringGone (p : Nat → Bool) (s : State) : State :=
  { s with
    sec.grants := s.sec.grants.filter (fun x => !p x.1)
    nv.unlocks := s.nv.unlocks.filter (fun x => match x.1 with
      | .ring r => !p r.val
      | .svc => true) }

/-- A set-up that the check of R316 step 1 refuses. -/
def refuseSetup (r cause : Nat) (s : State) : State :=
  s |> fput HIF_SETUP_ERR_VALID 1 |> fput HIF_SETUP_ERR_RING r |> fput HIF_SETUP_ERR_CAUSE cause
    |> raise HIF_EVENTS_SETUP_REFUSED

/-- RING_ENABLE (R314–R316): a write of HIF_RINGr_CFG that sets ENABLE from 0. -/
def ringEnableEffect (r : Nat) (cfg : Word) (s : State) : State :=
  let s1 := s |> writeRingFields r cfg |> fput (HIF_RING_CFG_ENABLE r) 1
  match setupCause s1 r with
  | some c => refuseSetup r c s1
  | none => zeroQueue r (startZeroing r s1)

/-- Every line of banks 1–15 becomes pending, to be sent with RESYNC (R339); a line that an abort captured and that has not been
sent since keeps its flag (R338). -/
def startResync (s : State) : State :=
  { s with
    mem.pend := (List.range 15360).map (fun i =>
      let a := 0x30010000 + 64 * i
      (a, lookD s.mem.pend a false || s.mem.owedAborts.contains a))
    mem.owedAborts := []
    hif.resync := true }
    |> raise HIF_EVENTS_MIRROR_RESYNC

/-- The zeroing ends with indices 0 and phase 1, and the ring enters RUNNING (R316 steps 3 and 4, R327, R339). A ring that a reset
zeroed while it was not set up, with ENABLE 0 or against the check of R316, goes back to DISABLED (DESIGN CHOICE, log entry 7). -/
def ringReady (r : Nat) (s : State) : State :=
  let s1 := s |> clearRing r |> fput (HIF_RING_CFG_RESET r) 0
  if fbit s (HIF_RING_CFG_ENABLE r) ∧ (setupCause s r).isNone then
    s1 |> fput (HIF_RING_STATUS_STATE r) 1 |> (fun s => if ringKind s r = 3 then startResync s else s)
  else fput (HIF_RING_STATUS_STATE r) 0 s1

/-- RING_ZEROING_DONE (R316): the zeroing of a RESETTING ring ends. -/
def execRingZeroingDone (r : Fin 128) (s : State) : Host.Outcome State Fault Refusal :=
  .next (if ringState s r = 3 then ringReady r s else s)

/-- RING_DISABLE (R316, R327): a write of HIF_RINGr_CFG that clears ENABLE. -/
def ringDisableEffect (r : Nat) (cfg : Word) (s : State) : State :=
  s |> zeroQueue r |> writeRingFields r cfg |> fput (HIF_RING_CFG_ENABLE r) 0 |> fput (HIF_RING_CFG_RESET r) 0
    |> dropRing r 0 |> clearRing r |> settle

/-- RING_RESET (R327), in every state: journalled, grants and unlocks of the ring end, and the queue is zeroed. -/
def ringResetEffect (r : Nat) (s : State) : State :=
  s |> (fun s => jadd { jentry s 0x0042 with ring := r } s) |> ringGone (· = r)
    |> fput (HIF_RING_CFG_RESET r) 1 |> startZeroing r |> zeroQueue r

/-- A write of HIF_RINGr_CFG (R11, R316, R327): the set-up fields and ENABLE, then RESET where its bit is 1; the spec gives
no order of the two within one word (DESIGN CHOICE, log entry 7). -/
def writeRingCfg (r : Nat) (cfg : Word) (s : State) : State :=
  let on := fbit s (HIF_RING_CFG_ENABLE r)
  let s1 :=
    if !on && cfg.getLsbD 31 then ringEnableEffect r cfg s
    else if on && !cfg.getLsbD 31 then ringDisableEffect r cfg s
    else writeRingFields r cfg s
  if cfg.getLsbD 30 then ringResetEffect r s1 else s1

/-- RING_ENABLE: the word sets ENABLE from 0. -/
def execRingEnable (r : Fin 128) (cfg : Word) (s : State) : Host.Outcome State Fault Refusal :=
  .next (if !fbit s (HIF_RING_CFG_ENABLE r) ∧ cfg.getLsbD 31 then writeRingCfg r cfg s else s)

/-- RING_DISABLE: the word clears ENABLE. -/
def execRingDisable (r : Fin 128) (cfg : Word) (s : State) : Host.Outcome State Fault Refusal :=
  .next (if fbit s (HIF_RING_CFG_ENABLE r) ∧ !cfg.getLsbD 31 then writeRingCfg r cfg s else s)

/-- RING_RESET: the word has RESET set. -/
def execRingReset (r : Fin 128) (cfg : Word) (s : State) : Host.Outcome State Fault Refusal :=
  .next (if cfg.getLsbD 30 then writeRingCfg r cfg s else s)

/-! ### Doorbells (R317, R318, R330) -/

/-- A doorbell write without effect. -/
def badDoorbell (s : State) : State := s |> bump HIF_DOORBELL_BAD_COUNT 1 |> raise HIF_EVENTS_DOORBELL_BAD

/-- SQ_TAIL_DOORBELL; a write that is not 32 bits wide is discarded (R312). -/
def execSqTailDoorbell (r : Fin 128) (b : Bell) (s : State) : Host.Outcome State Fault Refusal :=
  .next (if b.width ≠ 4 then s else if ringState s r ≠ 1 ∨ b.v.toNat ≥ ringN s r ∨ ringKind s r = 1 then badDoorbell s
    else setRing r (fun g => { g with sqTail := b.v.toNat }) s)

/-- A malformed NIC_RX buffer entry is answered once the entries before it have completed: index and a frame length of 0 (R326). -/
def endNic (r : Nat) (s : State) : State :=
  match look s.net.nicBad r with
  | some (idx, reason) =>
    if (lookD s.net.nicBuf r []).isEmpty ∧ ringState s r = 1 ∧ !cqFull s r then
      settle (enterError r idx reason (postCq r (le 4 idx ++ le 2 0 ++ le 1 (fget s (HIF_RING_CFG_PORT r))) false
        { s with net.nicBad := del r s.net.nicBad }))
    else s
  | none => s

/-- The posted entries that a consumption to an index leaves; those that had been signalled may signal again under the same rule
(R330). -/
def leftPosted (r v : Nat) (s : State) : List Posted :=
  let g := ring s r
  (g.posted.drop ((v + ringN s r - g.cqHead) % ringN s r)).map
    (fun x => if x.told then { x with told := false, at_ := s.now } else x)

/-- Consumption to an index: the ring may signal again, completions that waited for room are posted, and posted entries
that stay unconsumed signal under the same rule. -/
def consume (r v : Nat) (s : State) : State :=
  let s1 := s |> setRing r (fun g => { g with cqHead := v, signalled := false, posted := leftPosted r v s }) |> showFull r
  settle (trySignal r (endNic r (flush r ((ring s1 r).slots.length + 1) s1)))

/-- CQ_HEAD_DOORBELL; a write that is not 32 bits wide is discarded (R312). -/
def execCqHeadDoorbell (r : Fin 128) (b : Bell) (s : State) : Host.Outcome State Fault Refusal :=
  .next (if b.width ≠ 4 then s else if ringState s r ≠ 1 ∨ b.v.toNat ≥ ringN s r then badDoorbell s
    else consume r b.v.toNat s)

/-- INTERRUPT_COALESCE_EXPIRY (R330): COALESCE_US after the first entry that has not been signalled. -/
def execInterruptCoalesceExpiry (r : Fin 128) (s : State) : Host.Outcome State Fault Refusal :=
  .next (match unsignalled (ring s r) with
    | some t =>
      if fbit s (HIF_RING_CFG_IRQ_EN r) ∧ !(ring s r).signalled then
        signalRing r (advance (t + usec (fget s (HIF_RING_CFG_COALESCE_US r))) s)
      else s
    | none => s)

/-! ### Resets of the host interface (R313) -/

/-- The effect of a host interface reset: `kind` as HOST_RESET records it. -/
def hifReset (kind : Nat) (s : State) : State := ringGone (fun _ => true) (hostReset kind s)

/-- PCIE_HOT_RESET. -/
def execPcieHotReset (s : State) : Host.Outcome State Fault Refusal := .next (hifReset 0 s)

/-- PERST_N_ASSERT. In DORMANT the pin is a wake source and nothing of the interface is powered (R433). -/
def execPerstNAssert (s : State) : Host.Outcome State Fault Refusal :=
  .next (if power s = 3 then s else { hifReset 1 s with hif.linkUp := false })

/-- FUNCTION_LEVEL_RESET. -/
def execFunctionLevelReset (s : State) : Host.Outcome State Fault Refusal := .next (hifReset 2 s)

/-- PCIE_LINK_DOWN. -/
def execPcieLinkDown (s : State) : Host.Outcome State Fault Refusal :=
  .next { hifReset 3 s with hif.linkUp := false }

/-- D3HOT_ENTRY. -/
def execD3hotEntry (s : State) : Host.Outcome State Fault Refusal := .next (hifReset 4 s)

/-- PCIE_LINK_UP (R310, R433, R434, R493): the trained generation and width; WAKE_N is released, and the vector of a wake can
be sent. -/
def execPcieLinkUp (speed width : Nat) (s : State) : Host.Outcome State Fault Refusal :=
  .next (
    let s1 := { s with hif.linkUp := true } |> fput HIF_STATUS_SPEED speed |> fput HIF_STATUS_WIDTH width
    sendPending (if s1.sup.wakeN then emit (.wakeN false) { s1 with sup.wakeN := false } else s1))

/-! ### NOP and FENCE (R325) -/

def nopCard : Card := { op := 0x0001, svc := .open_ }

/-- RING_NOP. -/
def execRingNop (d : Desc) (s : State) : Host.Outcome State Fault Refusal :=
  .next (command nopCard d (fun _ => none) (immediate 0x0001 d id (fun _ => 0) (fun _ => [])) s)

def fenceCard : Card := { op := 0x0002, params := [(32, 16), (48, 2)], svc := .no }

/-- The rings that a FENCE names, without its own. -/
def fenceRings (d : Desc) : List Nat := (setBits 128 (paramN d 32 16)).filter (fun r => d.origin ≠ .ring (Fin.ofNat 128 r))

def fenceChecks (d : Desc) (s : State) : Option (Nat × Nat) :=
  firstOf [((fenceRings d).any (fun r => ringState s r ≠ 1 ∨ (ringKind s r ≠ 0 ∧ ringKind s r ≠ 5)), 0x05, 0x0215)]

/-- Completions that a ring still owes for the entries before its tail. -/
def owedBy (s : State) (r : Nat) : Nat :=
  (ring s r).slots.length
    + ((ring s r).sqTail + ringN s r - fget s (HIF_RING_STATUS_SQ_HEAD r)) % ringN s r

def fenceEffect (d : Desc) (s : State) : State :=
  let (s1, job) := accept 0x0002 d 0 s
  let ms := if paramN d 48 2 = 0 then 1000 else paramN d 48 2
  let owed := (fenceRings d).map (fun r => (r, owedBy s1 r))
  settle { s1 with hif.fences := s1.hif.fences ++ [{ job, owed, until_ := s1.now + msec ms }] }

/-- FENCE. -/
def execFence (d : Desc) (s : State) : Host.Outcome State Fault Refusal :=
  .next (command fenceCard d (fenceChecks d) (fenceEffect d) s)

/-- The fence whose TIMEOUT_MS passes first. -/
def nextFence (s : State) : Option Fence :=
  s.hif.fences.foldl (fun best x => match best with
    | none => some x
    | some b => if x.until_ < b.until_ then some x else best) none

/-- FENCE_TIMEOUT. -/
def execFenceTimeout (s : State) : Host.Outcome State Fault Refusal :=
  .next (match nextFence s with
    | some x => ended x.job 0x06 0 0 (advance x.until_ { s with hif.fences := s.hif.fences.erase x })
    | none => s)

/-! ### Buffer rings -/

/-- A buffer entry of an IMAGE_PUBLISH, RETAIN_MIRROR or TRACE ring that R314 and R326 call malformed. -/
def badBuffer (e : BufEntry) : Option Nat :=
  if e.reserved ≠ 0 then some 0x0104 else if e.addr % 64 ≠ 0 ∨ e.len < 4096 then some 0x0105 else none

/-- The power state lets a ring fetch: in HOLD only ring 0 does (R428, R429). -/
def powerFetches (s : State) (r : Nat) : Bool := power s < 2 ∨ (power s = 2 ∧ r = 0)

/-- The ring has a buffer and room for a completion (R318). -/
def entryWaits (s : State) (r : Nat) : Bool :=
  powerFetches s r &&
  ringState s r = 1 && fbit s HIF_STATUS_FW_UP && !cqFull s r
    && decide (fget s (HIF_RING_STATUS_SQ_HEAD r) ≠ (ring s r).sqTail)

/-- An entry of the ring is ready, a completion can be posted (R318), and the module may fetch (R313). -/
def entryReady (s : State) (r : Nat) : Bool := entryWaits s r && fbit s HIF_STATUS_BME

/-- Takes the entry at the SQ head. -/
def takeEntry (r : Nat) (s : State) : State :=
  fput (HIF_RING_STATUS_SQ_HEAD r) ((fget s (HIF_RING_STATUS_SQ_HEAD r) + 1) % ringN s r) s

/-- A completion in the layout of R336 without its phase byte. -/
def recordCompletion (idx len number time status reason : Nat) : List Byte :=
  le 4 idx ++ le 4 len ++ le 8 number ++ le 8 time ++ le 2 status ++ le 2 reason ++ le 3 0

/-- A malformed buffer entry: its error completion, and the ring enters ERROR (R326). -/
def bufferError (r reason number : Nat) (s : State) : State :=
  let idx := fget s (HIF_RING_STATUS_SQ_HEAD r)
  s |> takeEntry r |> postCq r (recordCompletion idx 0 number (nsNow s) 0x02 reason) false
    |> enterError r idx reason |> settle

/-- Writes one record into the buffer at the SQ head, then its completion (R319, R336). -/
def postRecord (r : Nat) (e : BufEntry) (number time : Nat) (bytes : List Byte) (s : State) : State :=
  let idx := fget s (HIF_RING_STATUS_SQ_HEAD r)
  s |> takeEntry r |> dma (.hostWrite e.addr bytes)
    |> postCq r (recordCompletion idx bytes.length number time 0 0) false

/-! ### Image publication (R334–R336, R342) -/

/-- A publication that is skipped (R336). -/
def skipPublish (s : State) : State := s |> bump HIF_PUBLISH_SKIP_COUNT 1 |> raise HIF_EVENTS_PUBLISH_SKIP

/-- The record of R335. -/
def publishRecord (p : PubSet) (inst cycle : Nat) (s : State) : List Byte :=
  le 8 cycle ++ le 8 inst ++ le 8 (nsNow s) ++ le 1 p.task
    ++ le 1 ((if s.img.forces.isEmpty then 0 else 1) + (if ctl s = 3 then 2 else 0)) ++ le 2 0 ++ le 4 (generation s)
    ++ p.ranges.flatMap (fun (a, n) => rdN s.img.live a n)

/-- Bound of the write of a record in sixteenths of a ns: 300 ns + bytes / 6 per ns, doubled in SAG1 (R335, R342). -/
def writeBound (s : State) (len : Nat) : Nat := (if sag s = 1 then 2 else 1) * (4800 + len * 16 / 6)

/-- Time that a publish copy takes the image unit, in sixteenths of a ns: 40 ns + bytes / 25.6 per ns (R335). -/
def copyTime (p : PubSet) : Nat := 640 + (p.ranges.map (·.2)).sum * 160 / 256

/-- Publications of a ring that wait for Bus Master Enable. -/
def heldFor (s : State) (r : Nat) : Nat := (s.hif.heldPubs.filter (fun x => x.ring = r)).length

/-- The ring has a buffer and a completion left for one more publication, beside those that wait for Bus Master Enable (R313). -/
def publishRoom (s : State) (r : Nat) : Bool :=
  let n := ringN s r
  powerFetches s r && ringState s r = 1 && fbit s HIF_STATUS_FW_UP
    && decide (heldFor s r < ((ring s r).sqTail + n - fget s (HIF_RING_STATUS_SQ_HEAD r)) % n)
    && decide (heldFor s r < ((ring s r).cqHead + 2 * n - (ring s r).cqTail - 1) % n)

/-- The record of a publication goes into the buffer that the ring fetches, with its completion; a malformed entry ends the ring, and
a buffer that is too small skips the publication (R326, R336). -/
def writePub (x : HeldPub) (s : State) : State :=
  if !entryWaits s x.ring then skipPublish s
  else match badBuffer x.entry with
    | some reason => bufferError x.ring reason x.number s
    | none =>
      if x.bytes.length > x.entry.len then skipPublish s
      else
        let (s1, n) := fresh s
        s1 |> setRing x.ring (fun g => { g with
            busyUntil := s1.now + x.copy + Config.freeNat n % (writeBound s1 x.bytes.length + 1) })
           |> postRecord x.ring x.entry x.number (nsNow s) x.bytes

/-- One publication: the copy of the ranges, then the record and its completion, or a skip. While Bus Master Enable is 0 the ring
fetches nothing, and the record waits; none is lost while the ring has buffers for them (R313). -/
def publish (r : Nat) (e : BufEntry) (p : PubSet) (inst cycle : Nat) (s : State) : State :=
  let number := (ring s r).records
  let x : HeldPub := { ring := r, entry := e, number, copy := copyTime p, bytes := publishRecord p inst cycle s }
  let s1 := setRing r (fun g => { g with records := number + 1 }) s
  if sag s ≥ 2 then skipPublish s1
  else if sag s = 1 ∧ s.now < (ring s r).busyUntil then skipPublish s1
  else if !publishRoom s r then skipPublish s1
  else if fbit s HIF_STATUS_BME then writePub x s1
  else { s1 with hif.heldPubs := s1.hif.heldPubs ++ [x] }

/-- PUBLISH_COPY (R335): the image unit serves the publish copy at the head of its queue, and is busy until it ends (R40). Only an
IMAGE_PUBLISH ring has a publish set (R334). -/
def execPublishCopy (r : Fin 128) (e : BufEntry) (s : State) : Host.Outcome State Fault Refusal :=
  .next (match s.img.queue with
    | [] => s
    | q :: rest =>
      match q.kind with
      | .publish ring_ _ inst cycle =>
        if ring_ ≠ r then s
        else match look s.hif.pubs r with
          | some p =>
            if ringKind s r ≠ 2 then { s with img.queue := rest }
            else
              let s1 := advance (max q.at_ s.img.busy) { s with img.queue := rest }
              publish r e p inst cycle { s1 with img.busy := s1.now + copyTime p }
          | none => { s with img.queue := rest }
      | _ => s)

/-! ### Configuration space (R310, R313) -/

/-- What Bus Master Enable held back leaves in its order: DMA writes, then publications (R313). -/
def releaseHeld (s : State) : State :=
  let s1 := forEach s.hif.held { s with hif.held := [] } emit
  forEach s1.hif.heldPubs { s1 with hif.heldPubs := [] } writePub

/-- PCIE_CONFIG_WRITE (R310, R313, R329): Bus Master Enable, MSI-X Enable and function masking, ASPM L1, and the maximum payload and
read request sizes, of which only those that R310 names are taken. -/
def execPcieConfigWrite (bme : Bool) (msix : MsixCtl) (dev : DevCtl) (s : State) : Host.Outcome State Fault Refusal :=
  .next (
    let s1 := { s with
        hif.funcMask := msix.mask
        hif.aspmL1 := dev.aspmL1
        hif.maxPayload := if dev.payload ∈ [128, 256, 512] then dev.payload else s.hif.maxPayload
        hif.maxReadReq := if dev.readReq ∈ [128, 256, 512, 1024, 2048, 4096] then dev.readReq else s.hif.maxReadReq }
      |> fput HIF_STATUS_BME (if bme then 1 else 0) |> fput HIF_STATUS_MSIX_EN (if msix.en then 1 else 0)
    sendPending (if bme then releaseHeld s1 else s1))

/-! ### The retain mirror (R338, R339) -/

/-- Device time of the newest capture among some lines. -/
def newestCapture (lines : SMap Bool) (s : State) : Nat :=
  lines.foldl (fun m (a, _) => max m (lookD s.mem.capturedAt a 0)) 0

/-- The bytes of a mirror record. -/
def mirrorRecord (lines : SMap Bool) (last : Bool) (s : State) : List Byte :=
  le 8 (s.hif.mirrorSeq + 1) ++ le 8 (newestCapture lines s) ++ le 4 lines.length
    ++ le 1 ((if s.hif.resync then 1 else 0) + (if last then 2 else 0) + (if lines.any (·.2) then 4 else 0)) ++ le 11 0
    ++ lines.flatMap (fun (a, _) => le 4 a ++ rdN s.mem.shadow a 64)

/-- Sends the lowest pending lines that fit the buffer. -/
def mirrorOut (r : Nat) (e : BufEntry) (s : State) : State :=
  match badBuffer e with
  | some reason => bufferError r reason s.hif.mirrorSeq s
  | none =>
    let lines := s.mem.pend.take ((e.len - 32) / 68)
    let rest := s.mem.pend.drop ((e.len - 32) / 68)
    let seq := s.hif.mirrorSeq + 1
    let s1 := postRecord r e seq (nsNow s) (mirrorRecord lines rest.isEmpty s) s
    let s2 : State := { s1 with mem.pend := rest, hif.mirrorSeq := seq, hif.resync := s1.hif.resync && !rest.isEmpty }
    if rest.isEmpty then event 0 0x404 0 seq s2 else s2

/-- MIRROR_SEND (R338, R339): with a RUNNING mirror ring, a buffer and a CQ slot, the pending lines are sent. -/
def execMirrorSend (e : BufEntry) (s : State) : Host.Outcome State Fault Refusal :=
  .next (match mirrorRing s with
    | some r => if entryReady s r ∧ !s.mem.pend.isEmpty then mirrorOut r e s else s
    | none => s)

end Sys2Proof.Machine
end

