-- ==== Sys2Proof/Machine/Control.lean ====
section
/-! DEFINITION. The controller and its commands (R66, R79–R85, R497, R499), with what the warm reset keeps (R12) and what a
roll-call set does when RUN begins (R415). -/

namespace Sys2Proof.Machine

open Reg

/-! ### Retained data -/

/-- Zeroes retained banks 1–15 (R81). -/
def zeroRetain (s : State) : State :=
  { s with mem.data := zeroN s.mem.data 0x30010000 0xF0000 } |> fput CTL_STATE_RETAIN_DONE 1

/-! ### CTL_START and RUN_BEGIN -/

def startCard : Card := { op := 0x0101, opflags := 16, active := true }

/-- A warm restart is in progress, so the controller commands are refused with BUSY (R499). -/
def restarting (s : State) : Bool := s.seq.warm.isSome

/-- R80, R81, R429, R499; in BLANK and RETURNED the controller does not come to run a machine (R21, R391; DEDUCED, log entry 93). -/
def startChecks (d : Desc) (s : State) : Option (Nat × Nat) :=
  firstOf [(restarting s, 0x08, 0), (serviceOpen s, 0x01, 0x0005), (ctl s ≠ 2, 0x01, 0x0010),
    (!opflag d 4 && !fbit s CTL_STATE_RETAIN_DONE, 0x01, 0x0011), (power s ≠ 0, 0x01, 0x0738)]

/-- CTL_START. -/
def execCtlStart (d : Desc) (s : State) : Host.Outcome State Fault Refusal :=
  .next (command startCard d (startChecks d) (deferCmd 0x0101 d (.start (opflag d 4))) s)

/-- The four roll-call sets start with the first window that begins at or after this boundary (R415). -/
def rollCallBegin (s : State) : State :=
  forEach (List.range 4) { s with sup.checkIns := [], sup.rcChanged := [] } fun k s =>
    let w := fget s (WDG_RC_CFG_WIN k)
    { s with
      sup.inForce := put k (w, fget s (WDG_RC_MASK_TASK k), fbit s (WDG_RC_CFG_EN k)) s.sup.inForce
      sup.nextWin := put k ((cycleNow s + w - 1) / max 1 w) s.sup.nextWin }

/-- Every channel starts from its safe value, and groups that were safe on timeout are released (R138, R286). -/
def outputsBegin (s : State) : State :=
  forEach (List.range 16)
      (forEach (List.range 32) { s with fio.explicitSafe := false, fio.safeLatched := 0 } chanSafe) edgeSafe
    |> fput FIO_STATUS_SAFE_LATCHED 0
    |> fun s => forEach (List.range 4) s fun g s => fput (FIO_GRP_STAT_SAFE g) 0 s

/-- The tasks' instance numbers start at 0, and the first instances after a warm restart carry WARM_FIRST (R82). -/
def freshRuns (s : State) : State :=
  let warm := s.seq.warmNext
  { s with
    seq.runs := s.prog.cur.tasks.map (fun (t, _) =>
      (t, { run s t with nextInst := 0, prevSnap := s.img.evNo, prevAt := none, warmFirst := warm, mirror := none }))
    seq.warmNext := false
    seq.relCycle := []
    seq.bgDue := []
    seq.numFrom := cycleNow s
    red.mirrored := []
    seq.runAt := s.now
    seq.runEv := s.img.evNo }

/-- RUN begins (R80–R82): the state changes, outputs and roll call start, and the BACKGROUND tasks are released; SYNC and
CYCLIC releases of the cycle follow at their offsets. -/
def runBegin (zero : Bool) (s : State) : State :=
  let s1 := s |> (fun s => if zero then zeroRetain s else s) |> setCtl 3 |> freshRuns |> rollCallBegin |> outputsBegin
  releaseAll ((s1.prog.cur.tasks.filter (fun (_, d) => d.kind = .background)).map (·.1)) s1

def isStart : DefAct → Bool
  | .start _ => true
  | _ => false

/-- The state conditions of CTL_START, judged again (R497, R499). -/
def startAgain (s : State) : Option Nat :=
  if ctl s ≠ 2 ∨ restarting s then some 0x0010 else if serviceOpen s then some 0x0005 else if power s ≠ 0 then some 0x0738 else none

/-- RUN_BEGIN. -/
def execRunBegin (s : State) : Host.Outcome State Fault Refusal :=
  .next (deferredRow isStart (fun _ => startAgain)
    (fun x s => (runBegin (match x.act with
      | .start z => z
      | _ => false) s, x.cycle)) s)

/-! ### CTL_STOP and STOP_BEGIN -/

def stopCard : Card := { op := 0x0102, active := true }

def stopChecks (s : State) : Option (Nat × Nat) :=
  firstOf [(restarting s, 0x08, 0), (ctl s ≠ 3, 0x01, 0x0010)]

/-- CTL_STOP. -/
def execCtlStop (d : Desc) (s : State) : Host.Outcome State Fault Refusal :=
  .next (command stopCard d stopChecks (deferCmd 0x0102 d .stop) s)

/-- STOP begins (R82, R84, R109): a commit that has not reached instant I ends, every instance is aborted, the outputs go
safe. -/
def stopBegin (s : State) : State :=
  let s1 := abortCommit s |> setCtl 2 |> abortAll
  allSafe { s1 with seq.bgDue := [] }

/-- STOP_BEGIN; during a Graft switch the STOP waits for its end (R109). -/
def execStopBegin (s : State) : Host.Outcome State Fault Refusal :=
  .next (if s.prog.switchAt.isSome then s
    else deferredRow (· = .stop) (fun _ s => if ctl s ≠ 3 then some 0x0010 else none)
      (fun x s => (stopBegin s, x.cycle)) s)

/-! ### CTL_HALT, CTL_CLEAR_HALT and the pair's HALT -/

def haltCard : Card := { op := 0x0103, active := true }

/-- CTL_HALT (R83, R109): completes at the HALT; a HALT that meets a Graft switch follows the switch. -/
def haltEffect (d : Desc) (s : State) : State :=
  let (s1, job) := accept 0x0103 d 0 s
  if s1.prog.switchAt.isSome then
    { halt 6 0 s1 with cmd.haltJobs := s1.cmd.haltJobs ++ [job] }
  else ended job 0 0 (fget (halt 6 0 s1) CTL_HALT_TIME_TIME) (halt 6 0 s1)

/-- CTL_HALT. -/
def execCtlHalt (d : Desc) (s : State) : Host.Outcome State Fault Refusal :=
  .next (command haltCard d (fun s => firstOf [(restarting s, 0x08, 0), (ctl s ≠ 3, 0x01, 0x0010)]) (haltEffect d) s)

def clearHaltCard : Card := { op := 0x0104, active := true, guards := [2] }

/-- HALT ends (R80); the standby applies the same command on receipt (R204). -/
def clearHalt (s : State) : State := setCtl 2 s

/-- CTL_CLEAR_HALT. -/
def execCtlClearHalt (d : Desc) (s : State) : Host.Outcome State Fault Refusal :=
  .next (command clearHaltCard d (fun s => firstOf [(restarting s, 0x08, 0), (ctl s ≠ 4, 0x01, 0x0010)])
    (immediate 0x0104 d (fun s => mirrorCmd 0x0104 d (cycleNow s) (clearHalt s)) (fun _ => 0) (fun _ => [])) s)

/-- PAIR_HALT (R85): the HALT message of an active unit with a program cause takes the standby to HALT with cause PAIR,
but not from the declaration of a failed active on (R211). -/
def execPairHalt (cause : Nat) (t : Fin 32) (s : State) : Host.Outcome State Fault Refusal :=
  .next (if pair s = 5 ∧ s.red.takeover.isNone ∧ !unitCause cause then halt 7 t.val s else s)

/-! ### Warm restart (R12, R57, R80, R109, R499) -/

def warmCard : Card := { op := 0x0105, active := true }

/-- CTL and IMG registers that a warm reset keeps: STATE and PREV_STATE, RETAIN_DONE, the generation, and the fields that
follow the force table and the task table. CTL_STATE.SAG2_RT has Reset 0 and no exception, so R12 clears it. -/
def warmKept : List Field :=
  [CTL_STATE_STATE, CTL_STATE_PREV_STATE, CTL_STATE_RETAIN_DONE, CTL_GRAFT_GEN_GEN, IMG_FORCE_STATUS_FORCED,
    IMG_FORCE_STATUS_COUNT, IMG_VIEW_USE_BYTES]

/-- The warm reset: registers, Graft, cores, lanes, and the timers and counters without RETAIN. The program in force stays, new
code that waits for a task's next release and the GRAFT_FIRST that tasks owe with it (R100). -/
def warmReset (s : State) : State :=
  let keep := warmKept.map (fun f => (f, fget s f))
  let s1 := abortAll (endCommit 0x0A 0x0010 s)
  let s2 := keep.foldl (fun s p => fput p.1 p.2 s) (resetBlock 0x1000 0x2000 s1)
  let retained := fun (m : SMap TcDecl) (i : Nat) => (look m i).elim false (·.retain)
  { s2 with
    prog.kept := none
    prog.image := []
    prog.loaded := []
    prog.length := 0
    prog.origin := none
    prog.next := none
    prog.convert := []
    prog.reconvert := []
    prog.confirmUntil := none
    img.queue := []
    img.timers := s2.img.timers.filter (fun p => retained s2.prog.cur.timers p.1)
    img.counters := s2.img.counters.filter (fun p => retained s2.prog.cur.counters p.1)
    cores := s2.cores.map (fun (c, k) => (c, { vbase := k.vbase, mem := k.mem, halted := k.halted, stopped := k.stopped,
                                               breakpoints := k.breakpoints }))
    lanes := []
    seq.runs := []
    seq.bgDue := []
    seq.warmNext := true }

/-- CTL_WARM_RESTART is accepted; a Graft switch that runs completes first (R109). -/
def warmEffect (d : Desc) (s : State) : State :=
  let (s1, job) := accept 0x0105 d 0 s
  let s2 := if s1.prog.switchAt.isSome then s1 else warmReset s1
  { s2 with seq.warm := some job }

/-- CTL_WARM_RESTART. -/
def execCtlWarmRestart (d : Desc) (s : State) : Host.Outcome State Fault Refusal :=
  .next (command warmCard d (fun s => firstOf [(restarting s, 0x08, 0), (ctl s ≠ 2 ∧ ctl s ≠ 4, 0x01, 0x0010)])
    (warmEffect d) s)

/-- The runtime has restarted: START is journalled, the state becomes STOP and PREV_STATE the state before (R499). A POWERFAIL meanwhile
gives HALT as in STOP, and the restart, where it still ends, gives STOP: R499 does not settle the two together (DESIGN CHOICE,
log entry 109). -/
def warmDone (job : Job) (s : State) : State :=
  { s with seq.warm := none }
    |> bump SYS_RESET_CAUSE_WARM 1 |> setCtl 2 |> jnote 0x0040 2 0 |> ended job 0 0 0

/-- WARM_RESTART_DONE. -/
def execWarmRestartDone (s : State) : Host.Outcome State Fault Refusal :=
  .next (match s.seq.warm with
    | some job => if s.prog.switchAt.isSome then s else warmDone job s
    | none => s)

/-! ### CTL_TRIGGER and the release of a HOST EVENT task (R66, R497) -/

def triggerCard : Card := { op := 0x0106, params := [(32, 1)], active := true }

/-- The task is an EVENT task with source HOST. -/
def isHostEvent (s : State) (t : Nat) : Bool :=
  (taskDef s t).elim false (fun d => d.kind = .event ∧ d.source = .host)

def triggerChecks (d : Desc) (s : State) : Option (Nat × Nat) :=
  firstOf [(restarting s, 0x08, 0), (ctl s ≠ 3, 0x01, 0x0010), (!isHostEvent s (param d 32), 0x05, 0x020C)]

/-- CTL_TRIGGER. -/
def execCtlTrigger (d : Desc) (s : State) : Host.Outcome State Fault Refusal :=
  .next (command triggerCard d (triggerChecks d) (deferCmd 0x0106 d (.trigger (param d 32))) s)

def isTrigger : DefAct → Bool
  | .trigger _ => true
  | _ => false

def triggerTask : DefAct → Nat
  | .trigger t => t
  | _ => 0

/-- HOST_EVENT_RELEASE. -/
def execHostEventRelease (s : State) : Host.Outcome State Fault Refusal :=
  .next (deferredRow isTrigger
    (fun x s => if ctl s ≠ 3 then some 0x0010 else if !isHostEvent s (triggerTask x.act) then some 0x020C else none)
    (fun x s => (release (triggerTask x.act) s, (run s (triggerTask x.act)).nextInst)) s)

end Sys2Proof.Machine
end

