-- ==== Sys2Proof/Machine/Axes.lean ====
section
/-! DEFINITION. The axes and entries of Trellis: the fields of an entry (R122, R123), arming and firing (R125–R127),
actions and edges (R123, R130–R132), captures (R133–R135), axis states (R119, R120), steps (R128, R129), master samples
(R114). Ticks and the commands are in `Trellis.lean`. -/

namespace Sys2Proof.Machine

open Reg

/-! ### Entries (R122, R123) -/

def entry (s : State) (i : Nat) : Option Entry := look s.trl.entries i
def setEntry (i : Nat) (e : Entry) (s : State) : State := { s with trl.entries := put i e s.trl.entries }

def Entry.valid (e : Entry) : Bool := e.ctl.testBit 31
def Entry.abs (e : Entry) : Bool := e.ctl.testBit 30
def Entry.dir (e : Entry) : Nat := bits e.ctl 28 2
def Entry.axis (e : Entry) : Nat := bits e.ctl 24 4
def Entry.action (e : Entry) : Nat := bits e.ctl 21 3
def Entry.skip (e : Entry) : Bool := e.ctl.testBit 20
def Entry.trigger (e : Entry) : Bool := e.ctl.testBit 19
def Entry.comp (e : Entry) : Bool := e.ctl.testBit 18
def Entry.capUnit (e : Entry) : Nat := bits e.param 4 4
def Entry.ch (e : Entry) : Nat := bits e.param 0 4

/-- The entry drives a channel. -/
def Entry.output (e : Entry) : Bool := e.action ≤ 3

/-- H of R122. -/
def hyst (s : State) (e : Entry) : Int :=
  let h := bits e.ctl 0 16
  if h = 0 then 16 else (h * 2 ^ fget s (TRL_AXIS_CFG_HSCALE e.axis) : Nat)

/-- WIDTH of a PULSE in sixteenths of a ns (R123). -/
def pulseWidth (e : Entry) : Nat := bits e.param 16 16 * (if e.param.testBit 15 then 16000 else 40)

def outRise (s : State) (n : Nat) : Nat := fget s (TRL_OUT_DELAY_RISE n) * 5
def outFall (s : State) (n : Nat) : Nat := fget s (TRL_OUT_DELAY_FALL n) * 5

/-- OUT_DELAY for the edge that an action makes first (R130). -/
def outDelay (s : State) (e : Entry) : Nat :=
  if e.action = 1 ∨ (e.action = 2 ∧ (chan s e.ch).edge) then outFall s e.ch else outRise s e.ch

/-- How far ahead of the tick an entry looks (R125, R130). -/
def leadOfEntry (s : State) (e : Entry) : Nat := if e.comp ∧ e.output then outDelay s e + 200 else 0

/-- δ at an instant (R125, R126): 32 bits for a periodic entry, 64 bits for an absolute one or a target. -/
def deltaAt (s : State) (e : Entry) (u : Nat) : Int :=
  let x := (motion s e.axis u).pos / 2 ^ 32
  if e.trigger then toInt 64 (ofInt 64 (x - (e.target.getD 0 : Nat)))
  else if e.abs then toInt 64 (ofInt 64 (x - (e.angle : Nat)))
  else toInt 32 (ofInt 32 (x - (e.angle : Nat)))

/-- Sign of the velocity at an instant. -/
def signAt (s : State) (k u : Nat) : Int := (motion s k u).vel.sign

/-- Activation (R125). -/
def activate (e : Entry) (d : Int) : Entry :=
  { e with armF := d < 0 ∧ e.dir ≠ 2, armR := d ≥ 0 ∧ e.dir ≠ 1, delta := some d, heldF := false, heldR := false }

/-- The rule of R125 from one δ to the next with a direction of motion: the entry after it, and whether it fires. -/
def armRule (h : Int) (e : Entry) (prev now dirn : Int) : Entry × Bool :=
  let fire := (dirn > 0 ∧ e.armF ∧ prev < 0 ∧ now ≥ 0) ∨ (dirn < 0 ∧ e.armR ∧ prev ≥ 0 ∧ now < 0)
  let heldF := e.heldF && decide (now < -h ∧ dirn ≥ 0)
  let heldR := e.heldR && decide (now ≥ h ∧ dirn ≤ 0)
  ({ e with
      armF := (e.armF && !fire) || (!heldF && decide (now < -h ∧ e.dir ≠ 2))
      armR := (e.armR && !fire) || (!heldR && decide (now ≥ h ∧ e.dir ≠ 1))
      spent := e.spent || (fire && e.abs)
      delta := some now, heldF, heldR }, fire)

/-- A crossing of a pending target (R126). -/
def targetFires (e : Entry) (prev now dirn : Int) : Bool :=
  (dirn > 0 ∧ e.dir ≠ 2 ∧ prev < 0 ∧ now ≥ 0) ∨ (dirn < 0 ∧ e.dir ≠ 1 ∧ prev ≥ 0 ∧ now < 0)

/-- A fire that is due: entry, late, and the crossing time of a compensated edge. -/
structure Fire where
  idx : Nat
  late : Bool
  at_ : Option Nat := none
  /-- It has waited from an earlier tick, so it goes before those that are due now (R127). -/
  old : Bool := false
  deriving DecidableEq, Repr

/-! ### Channels and edges (R120, R127, R130–R132) -/

/-- An axis with LOST_OUT = 1 that drives the channel is LOST (R120). -/
def lostSafe (s : State) (ch : Nat) : Bool :=
  s.trl.entries.any fun (_, e) => e.output ∧ e.ch = ch ∧ fbit s (TRL_AXIS_CFG_LOST_OUT e.axis) ∧ axState s e.axis = 3

/-- The island does not act on edges of the channel (R285–R287). -/
def edgeSuppressed (s : State) (n : Nat) : Bool :=
  stageOff s n || groupSafe s (n / 8) || s.fio.silent

/-- Mean of measured delays. -/
def meanOf (l : List Nat) : Nat := l.sum / max 1 l.length

/-- The island measures OUT_DELAY on an edge; a mean of 16 replaces the default (R132). The measured value is free up to
147.5 ns (R137, R486). -/
def measureEdge (n : Nat) (level : Bool) (s : State) : State :=
  let (s1, k) := fresh s
  let v := Config.freeNat k % 473
  if level then
    let l := (v :: lookD s1.trl.rise n []).take 16
    let s2 : State := { s1 with trl.rise := put n l s1.trl.rise }
    if l.length < 16 then s2 else s2 |> fput (TRL_OUT_DELAY_RISE n) (meanOf l) |> fputBit TRL_CAL_RISE_DONE n true
  else
    let l := (v :: lookD s1.trl.fall n []).take 16
    let s2 : State := { s1 with trl.fall := put n l s1.trl.fall }
    if l.length < 16 then s2 else s2 |> fput (TRL_OUT_DELAY_FALL n) (meanOf l) |> fputBit TRL_CAL_FALL_DONE n true

/-- The channel takes a level that Trellis commands; an edge that this drives is measured (R132). -/
def takeEdge (n : Nat) (level : Bool) (s : State) : State :=
  let s1 := setChan n (fun c => { c with taken := level, atSafe := false }) (setLevel n level s)
  if (fget s1 FIO_OUTPUT_LEVEL).testBit n = (fget s FIO_OUTPUT_LEVEL).testBit n then s1 else measureEdge n level s1

/-- Trellis commands a level on its channel: a shadow level in a standby (R139), and a command that the island does not
store where it suppresses it (R287). -/
def driveEdge (n : Nat) (level : Bool) (s : State) : State :=
  let s1 := setChan n (fun c => { c with edge := level }) s
  if standby s then s1
  else
    let s2 := emit (.edge n level s.now) s1
    if edgeSuppressed s n then s2 else takeEdge n level s2

/-- Edges in the order of their times, and of entry index at equal times (R127). -/
def queueEdge (e : Edge) : List Edge → List Edge
  | [] => [e]
  | x :: xs => if x.time < e.time ∨ (x.time = e.time ∧ x.entry ≤ e.entry) then x :: queueEdge e xs else e :: x :: xs

/-- Rounded to 312.5 ps (R130). -/
def round5 (t : Nat) : Nat := (t + 2) / 5 * 5

/-- The crossing time of a compensated entry: the first instant of the tick before the lead instant `u` at which δ has
crossed (R130). -/
def crossing (s : State) (e : Entry) (u : Nat) (forward : Bool) : Nat :=
  (((List.range 41).map (fun i => u - 40 + i)).find?
    (fun x => if forward then deltaAt s e x ≥ 0 else deltaAt s e x < 0)).getD u

/-- The edge of an output action that fires now (R130, R131). -/
def placeEdge (i : Nat) (e : Entry) (late : Bool) (tc : Option Nat) (s : State) : State :=
  let base : Edge := { time := 0, ch := e.ch, level := e.action ≠ 1, toggle := e.action = 2, entry := i }
  let edge : Edge := match tc with
    | some t =>
      if late then { base with time := s.now + 80, pulse := if e.action = 3 then some (s.now + 80 + pulseWidth e) else none }
      else
        let start := max (round5 (t - outDelay s e)) (s.now + 160)
        { base with time := start
                    pulse := if e.action = 3 then some (max start (round5 (t + pulseWidth e - outFall s e.ch))) else none }
    | none => { base with time := s.now + 80, pulse := if e.action = 3 then some (s.now + 80 + pulseWidth e) else none }
  { s with trl.edges := queueEdge edge s.trl.edges }

/-! ### Captures (R126, R133–R135) -/

def cap (s : State) (c : Nat) : Capture := lookD s.trl.caps c {}

/-- The record of R134. -/
def captureRecord (s : State) (c stamp : Nat) (rising soft : Bool) : List Byte :=
  let k := fget s (TRL_CAP_CFG_AXIS c)
  let st := axState s k
  let m := motion s k (tickAt s stamp)
  let flags := (if rising then 1 else 0) + (if soft then 2 else 0) + (if st = 2 then 4 else 0)
    + (if st = 3 ∨ st = 0 then 8 else 0)
  le 8 (devTime s stamp / 40) ++ le 8 (angle64 m.pos) ++ le 4 (cap s c).seq ++ le 1 flags ++ le 1 k
    ++ le 2 (min 65535 (cap s c).missed) ++ le 8 (q3216 m.vel)

/-- Writes the record as one write unit, and counts it (R134). -/
def writeCapture (c stamp : Nat) (rising soft : Bool) (s : State) : State :=
  let n := (cap s c).seq
  let addr := fget s (TRL_CAP_CFG_ADDR c) + 32 * (n % 2 ^ fget s (TRL_CAP_CFG_DEPTH c))
  let bytes := captureRecord s c stamp rising soft
  let s1 : State := { s with trl.caps := put c { seq := (n + 1) % 2 ^ 32, missed := 0, last := some stamp } s.trl.caps }
  s1 |> fput (TRL_CAP_STAT_SEQ c) n |> writeBytes noMark [(addr, bytes)]

/-- A capture gives an entry its target (R126): the entry after it, and whether it fires at once. -/
def takeTarget (s : State) (e : Entry) (stamp : Nat) : Entry × Bool :=
  let t := ofInt 64 ((motion s e.axis (tickAt s stamp)).pos / 2 ^ 32 + (e.angle : Nat))
  let e1 := { e with target := some t }
  let d := deltaAt s e1 (tickAt s s.now)
  let v := signAt s e.axis (tickAt s s.now)
  if d = 0 ∨ (d > 0 ∧ v > 0 ∧ e.dir ≠ 2) ∨ (d < 0 ∧ v < 0 ∧ e.dir ≠ 1) then ({ e with target := none, delta := none }, true)
  else ({ e1 with delta := some d }, false)

/-- The capture-triggered entries of a unit take the capture: the state, and the entries that fire at once. -/
def giveTargets (c stamp : Nat) (s : State) : State × List Fire :=
  s.trl.entries.foldl (fun acc p =>
    if p.2.valid ∧ p.2.trigger ∧ p.2.capUnit = c ∧ (axState s p.2.axis = 1 ∨ axState s p.2.axis = 2) then
      let (e, fires) := takeTarget acc.1 p.2 stamp
      (setEntry p.1 e acc.1, if fires then acc.2 ++ [{ idx := p.1, late := false }] else acc.2)
    else acc) (s, [])

/-! ### Fires and their actions (R123, R127, R138) -/

/-- The I byte has a source (R30). -/
def sourceIs (p : Program) (src : Source) (a : Nat) : Bool :=
  p.sources.any fun r => r.src = src ∧ r.start ≤ a ∧ a < r.start + r.len

/-- An IMAGE_BIT action (R123). -/
def imageBit (e : Entry) (s : State) : State :=
  let b := bits e.param 8 20
  if sourceIs s.prog.cur .imageBit (b / 8) then writeUnit noMark (fun m => wrBit m b (e.param.testBit 31)) s else s

/-- Counts a fire (R127, R131, R141). -/
def countFire (i : Nat) (e : Entry) (late : Bool) (s : State) : State :=
  let s1 := setEntry i { e with
    fires := (e.fires + 1) % 65536
    late := if late then min 255 (e.late + 1) else e.late } s
  if late then raise TRL_EVENTS_LATE s1 else s1

/-- One fire of an entry whose action is no soft capture: output and RELEASE actions are applied only in RUN (R138). -/
def fireAction (f : Fire) (s : State) : State :=
  match entry s f.idx with
  | none => s
  | some e =>
    let s1 := countFire f.idx e f.late s
    if e.output then (if ctl s = 3 ∧ !lostSafe s e.ch then placeEdge f.idx e f.late f.at_ s1 else s1)
    else if e.action = 4 then release (bits e.param 8 5) s1
    else if e.action = 6 then imageBit e s1
    else s1

/-- A soft capture of unit `c` by a CAPTURE action (R133, R134), and the fires that it causes. -/
def softCapture (c : Nat) (s : State) : State × List Fire :=
  if fbit s (TRL_CAP_CFG_ENABLE c) then giveTargets c (tickAt s s.now) (writeCapture c (tickAt s s.now) false true s) else (s, [])

/-- Puts a fire in its place: those that have waited first, then ascending entry index (R127). -/
def putFire (f : Fire) : List Fire → List Fire
  | [] => [f]
  | g :: gs => if (f.old && !g.old) || (f.old == g.old && decide (f.idx < g.idx)) then f :: g :: gs else g :: putFire f gs

/-- Adds fires to those that are due (R127). -/
def joinFires (more due : List Fire) : List Fire := more.foldl (fun fs f => putFire f fs) due

/-- Runs due fires in order while `n` may still fire in this tick, with the fires that soft captures add; the others wait
(R127). A CAPTURE action cannot be capture-triggered (R124), so what it adds adds nothing further. -/
def runFires : Nat → List Fire → State → State
  | 0, fs, s =>
    if fs.isEmpty then s
    else raise TRL_EVENTS_QUEUED { s with trl.waiting := s.trl.waiting ++ fs.map (fun f =>
      (f.idx, f.late || (entry s f.idx).elim false Entry.output)) }
  | _ + 1, [], s => s
  | n + 1, f :: fs, s =>
    let s1 := fireAction f { s with trl.firedIn := s.trl.firedIn + 1 }
    match entry s f.idx with
    | some e =>
      if e.action = 5 then
        let (s2, more) := softCapture (bits e.param 8 4) s1
        runFires n (joinFires more fs) s2
      else runFires n fs s1
    | none => runFires n fs s1

/-- Fires that become due in the present tick, with those that have waited for it: at most 16 in all (R127). -/
def fireAll (fs : List Fire) (s : State) : State :=
  let t := tickAt s s.now
  if s.trl.firedAt = t then runFires (16 - s.trl.firedIn) (joinFires fs []) s
  else
    let waited := s.trl.waiting.map (fun w => ({ idx := w.1, late := w.2, old := true } : Fire))
    runFires 16 (joinFires (waited ++ fs) []) { s with trl.firedAt := t, trl.firedIn := 0, trl.waiting := [] }

/-- A hardware edge judged by a capture unit that it is meant for (R133): the state, and the entries that fire at once. -/
def captureEdge (c stamp : Nat) (rising : Bool) (s : State) : State × List Fire :=
  let k := fget s (TRL_CAP_CFG_AXIS c)
  let pos := ofInt 32 ((motion s k (tickAt s stamp)).pos / 2 ^ 32)
  let start := fget s (TRL_CAP_WIN_START c) * 65536
  let span := (fget s (TRL_CAP_WIN_END c) * 65536 + 2 ^ 32 - start) % 2 ^ 32
  if (cap s c).last.elim false (fun t => stamp ≤ t + 800 ∧ t ≤ stamp + 800) then (bump (TRL_CAP_STAT_TOO_CLOSE c) 1 s, [])
  else if fbit s (TRL_CAP_CFG_WINDOW c) ∧ axState s k ≠ 0 ∧ axState s k ≠ 3 ∧ (pos + 2 ^ 32 - start) % 2 ^ 32 ≥ span then
    (bump (TRL_CAP_STAT_MISSED c) 1
      { s with trl.caps := upd c {} (fun x => { x with missed := x.missed + 1 }) s.trl.caps }, [])
  else giveTargets c stamp (writeCapture c stamp rising false s)

/-! ### Steps (R128, R129) -/

/-- Entries of an axis, with their indices. -/
def entriesOn (s : State) (k : Nat) : List (Nat × Entry) := s.trl.entries.filter (fun p => p.2.valid ∧ p.2.axis = k)

/-- Every entry on the axis re-arms as at activation, and pending targets are discarded (R120, R129). -/
def rearmAll (k : Nat) (s : State) : State :=
  forEach (entriesOn s k) s fun (i, e) s =>
    if e.trigger then setEntry i { e with target := none, delta := none } s
    else setEntry i (activate e (deltaAt s e (tickAt s s.now + leadOfEntry s e))) s

/-- The band edges of an entry that lie in a stepped interval, in the order in which the angle meets them, each as the δ
just after it; unwrapped δ from `a` to `b`. -/
def bandPoints (m h a b : Int) : List Int :=
  let all := [-2, -1, 0, 1, 2].flatMap (fun j : Int => [-(m / 2), -h, 0, h].map (fun o => j * m + o))
  if a ≤ b then (all.filter (fun x => a < x ∧ x ≤ b)).mergeSort (· ≤ ·)
  else ((all.filter (fun x => b < x ∧ x ≤ a)).mergeSort (· ≥ ·)).map (· - 1)

/-- The signed value of a δ modulo `m`. -/
def wrapDelta (m d : Int) : Int := (d + m / 2) % m - m / 2

/-- An entry whose δ moves through an interval as a step (R129): the entry, and whether its fire point was met. -/
def walk (h m : Int) (dirn : Int) : List Int → Entry → Bool → Entry × Bool
  | [], e, fired => (e, fired)
  | x :: xs, e, fired =>
    let d := wrapDelta m x
    let (e1, f) := armRule h e (e.delta.getD d) d dirn
    walk h m dirn xs e1 (fired || f)

/-- A small step along the motion for one entry: the entry, and whether it fires as a late fire; with SKIP = DROP it is
disarmed and not spent (R129). -/
def stepAlong (s : State) (e : Entry) (eps dirn : Int) : Entry × Bool :=
  let now := deltaAt s e (tickAt s s.now + leadOfEntry s e)
  if e.trigger then
    if e.target.isSome then
      if targetFires e (now - eps) now dirn then ({ e with target := none, delta := none }, !e.skip)
      else ({ e with delta := some now }, false)
    else (e, false)
  else if e.spent then (e, false)
  else
    let m : Int := if e.abs then 2 ^ 64 else 2 ^ 32
    let (e1, f) := walk (hyst s e) m dirn (bandPoints m (hyst s e) (now - eps) now ++ [now])
      { e with delta := some (wrapDelta m (now - eps)) } false
    ({ e1 with spent := e1.spent && !e.skip }, f && !e.skip)

/-- A small step against the motion leaves an entry as it is; one that the step carries past the arming bound does not arm
there (R129). -/
def stepAgainst (s : State) (e : Entry) (eps dirn : Int) : Entry :=
  let now := deltaAt s e (tickAt s s.now + leadOfEntry s e)
  if e.trigger then { e with delta := if e.target.isSome then some now else e.delta }
  else
    let h := hyst s e
    let before := wrapDelta (if e.abs then 2 ^ 64 else 2 ^ 32) (now - eps)
    { e with
      delta := some now
      heldF := e.heldF || (decide (dirn > 0 ∧ now < -h ∧ before ≥ -h) && !e.armF)
      heldR := e.heldR || (decide (dirn < 0 ∧ now ≥ h ∧ before < h) && !e.armR) }

/-- The late fires of a small step along the motion. -/
def smallAlong (k : Nat) (eps dirn : Int) (s : State) : State × List Fire :=
  (entriesOn s k).foldl (fun acc p =>
    let (e, f) := stepAlong acc.1 p.2 eps dirn
    (setEntry p.1 e acc.1, if f then acc.2 ++ [{ idx := p.1, late := true }] else acc.2)) (s, [])

/-- A step of axis `k` from one position to another, in 2^−32 counts, which has taken effect: the state, and the late fires
(R128, R129). `quiet` for a re-anchoring correction below 16 counts. -/
def stepOf (k : Nat) (old new : Int) (large quiet : Bool) (s : State) : State × List Fire :=
  let eps := new / 2 ^ 32 - old / 2 ^ 32
  let big := large ∨ (new - old).natAbs > fget s (TRL_AXIS_STEP_LIMIT_COUNTS k) * 2 ^ 32
  let s1 := if quiet ∧ (new - old).natAbs < 16 * 2 ^ 32 then s
    else raise (if big then TRL_AXIS_EVENTS_LARGE_STEP k else TRL_AXIS_EVENTS_SMALL_STEP k) s
  if big then (s1 |> raise TRL_EVENTS_LARGE_STEP |> log 3 .largeStep k 0 |> rearmAll k, [])
  else if axState s k = 3 then (s1, [])
  else
    let v := signAt s1 k (tickAt s1 s1.now)
    let dirn := if v = 0 then eps.sign else v
    if eps.sign = dirn then smallAlong k eps dirn s1
    else (forEach (entriesOn s1 k) s1 fun (i, e) s => setEntry i (stepAgainst s e eps dirn) s, [])

/-! ### Axis states (R119, R120) -/

/-- GEAR axes that follow an axis, directly or not, in ascending order (R117). -/
def followers (s : State) (k : Nat) : List Nat :=
  ((List.range 16).foldl (fun acc j =>
    if axEnabled s j ∧ axSource s j = 4 ∧ j > k ∧ acc.contains (fget s (TRL_AXIS_CFG_MASTER j)) then acc ++ [j] else acc)
    [k]).drop 1

/-- With LOST_OUT = 1, the channels that entries on the axis drive go to their safe values, and pulses and edges on them
end (R120). -/
def lostOutputs (k : Nat) (s : State) : State :=
  if fbit s (TRL_AXIS_CFG_LOST_OUT k) then
    forEach ((entriesOn s k).filter (fun p => p.2.output)) s fun (_, e) s =>
      { s with
        trl.pulses := del e.ch s.trl.pulses
        trl.edges := s.trl.edges.filter (fun x => x.ch ≠ e.ch) }
        |> fun s => if ctl s = 3 then setAtSafe e.ch true (driveEdge e.ch (safeOf s e.ch) s) else s
  else s

/-- Fires of an axis's entries that still wait lapse: no entry on an IDLE or LOST axis fires (R120). -/
def dropWaiting (k : Nat) (s : State) : State :=
  { s with trl.waiting := s.trl.waiting.filter (fun w => (entry s w.1).all (fun e => e.axis ≠ k)) }

/-- One axis takes a state; leaving IDLE or LOST, its entries re-arm as at activation (R119, R120, R125). -/
def enterAxState (k new : Nat) (s : State) : State :=
  let old := axState s k
  if old = new then s
  else
    let s1 := fput (TRL_AXIS_STATUS_STATE k) new s
    let s2 := if old = 0 then setAxis k (fun x => { x with offset := 0 }) s1 else s1
    let s3 := if old = 0 ∨ old = 3 then rearmAll k s2 else s2
    if new = 0 then dropWaiting k s3
    else if new = 2 then raise (TRL_AXIS_EVENTS_COAST_ENTERED k) s3
    else if new = 3 then lostOutputs k (raise (TRL_AXIS_EVENTS_LOST_ENTERED k) (dropWaiting k s3))
    else s3

/-- An axis takes a state, and the GEAR axes that follow it take it too (R119). -/
def setAxState (k new : Nat) (s : State) : State := forEach (k :: followers s k) s (fun j s => enterAxState j new s)

/-- A change of an axis's angle with the steps that it makes on the axis and its followers (R128). `change` may change
states too; an axis that enters or leaves IDLE or LOST makes no step. The late fires of all of them are due together (R127). -/
def withSteps (k : Nat) (large quiet : Bool) (change : State → State) (s : State) : State :=
  let t := tickAt s s.now
  let before := (k :: followers s k).map (fun j => (j, (motion s j t).pos, axState s j))
  let (s1, due) := before.foldl (fun (acc : State × List Fire) (j, old, st) =>
    let new := (motion acc.1 j t).pos
    let now := axState acc.1 j
    if new ≠ old ∧ (st = now ∨ (st ≠ 0 ∧ st ≠ 3 ∧ now ≠ 0 ∧ now ≠ 3)) ∧ now ≠ 0 then
      let (s2, fs) := stepOf j old new (large && j = k) quiet acc.1
      (s2, acc.2 ++ fs)
    else acc) (change s, [])
  fireAll due s1

/-- The angle of an axis without its trim. -/
def untrimmed (s : State) (k t : Nat) : Int := (motion s k t).pos - trimOf s k

/-- On entering LOST the angle freezes at its value in the tick (R120). The velocity up to it stays in the anchor, and ta is that tick: a
sample stamped before it is out of order (DESIGN CHOICE, log entry 113). -/
def loseAxis (k : Nat) (s : State) : State :=
  let t := tickAt s s.now
  let m := motion s k t
  s |> setAxis k (fun x => { x with theta := m.pos - trimOf s k, v := m.vel, a := 0, ta := t, lostAt := none, edges := [] })
    |> setAxState k 3

/-- On entering COAST the axis re-anchors with the predicted velocity and no acceleration (R120). -/
def coastAxis (k : Nat) (s : State) : State :=
  let t := tickAt s s.now
  let m := motion s k t
  s |> setAxis k (fun x => { x with theta := m.pos - trimOf s k, v := m.vel, a := 0, ta := t, coastAt := t })
    |> setAxState k 2

/-! ### Master samples (R114, R119) -/

/-- A master sample (R178): angle, velocity and acceleration in the units of R111, and its plant time in ns. -/
structure Sample where
  angle : Nat
  vel : Int
  acc : Int
  time : Int
  deriving DecidableEq, Repr

/-- The nearest unwrapped angle, in 2^−32 counts, to a 64-bit angle. -/
def unwrap (near : Int) (a : Nat) : Int :=
  let n := near / 2 ^ 32
  (n + toInt 64 (ofInt 64 ((a : Int) - n))) * 2 ^ 32

/-- An axis has accepted a source sample: age, count and freshness (R33, R496). -/
def accepted (k : Nat) (s : State) : State :=
  let n := s.img.evNo + 1
  { s with img.evNo := n, img.axisAt := put k { no := n, at_ := s.now } s.img.axisAt }
    |> setAxis k (fun x => { x with sampleAt := some s.now })
    |> bumpWrap (TRL_AXIS_STATUS_ACCEPTED k) 1

/-- Sets the anchor of a PLANT axis, which is TRACKING from then on. -/
def anchorAt (k : Nat) (th v a : Int) (t : Nat) (s : State) : State :=
  s |> setAxis k (fun x => { x with theta := th, v, a, ta := t, lostAt := none }) |> setAxState k 1

/-- A sample that passed the other conditions: the step limit, then the anchor or the pair of R119. -/
def takeSample (k : Nat) (m : Sample) (ts : Nat) (s : State) : State :=
  let t := tickAt s s.now
  let st := axState s k
  let th := unwrap (axis s k).theta m.angle
  let v := m.vel * 65536
  let a := m.acc * 65536
  let eps := (predict th v a (t - ts : Int)).pos - untrimmed s k t
  if (st = 1 ∨ st = 2) ∧ !fbit s (TRL_AXIS_CFG_JUMP_ACCEPT k)
      ∧ eps.natAbs > fget s (TRL_AXIS_STEP_LIMIT_COUNTS k) * 2 ^ 32 then raise (TRL_AXIS_EVENTS_JUMP_REJ k) s
  else
    let s1 := accepted k s
    if st = 3 then
      match (axis s k).lostAt with
      | some t0 =>
        if ts ≤ t0 + usec (fget s (TRL_AXIS_TIMING_SAMPLE_TIMEOUT k)) then anchorAt k th v a ts s1
        else setAxis k (fun x => { x with lostAt := some ts }) s1
      | none => setAxis k (fun x => { x with lostAt := some ts }) s1
    else withSteps k false true (anchorAt k th v a ts) s1

/-- An axis judges a master sample that arrives now (R114). Where several conditions fail, the flag of the first failed row of the table
is set, and no other (DESIGN CHOICE, log entry 112). -/
def judgeSample (k : Nat) (m : Sample) (s : State) : State :=
  let ts := (m.time - toInt 64 (fget s NET_PLANT_OFFSET_OFFSET)) * 16 - s.net.ptp.step
  let st := axState s k
  let ta := max (axis s k).ta ((axis s k).lostAt.getD 0)
  if !fbit s NET_STATUS_PLANT_SYNC then raise (TRL_AXIS_EVENTS_STALE k) s
  else if m.vel.natAbs > 2 ^ 40 ∨ m.acc.natAbs > 2 ^ 32 then raise (TRL_AXIS_EVENTS_RANGE k) s
  else if st ≠ 0 ∧ ts ≤ ta then raise (TRL_AXIS_EVENTS_ORDER k) s
  else if ts < 0 ∨ ts > s.now ∨ ts + usec (fget s (TRL_AXIS_TIMING_SAMPLE_TIMEOUT k)) < s.now then
    raise (TRL_AXIS_EVENTS_STALE k) s
  else takeSample k m ts.toNat s

/-- A sample of a stream reaches the enabled PLANT axes that follow the stream (R112, R178). -/
def sampleToAxes (stream : Nat) (m : Sample) (s : State) : State :=
  forEach (List.range 16) s fun k s =>
    if axEnabled s k ∧ axSource s k = 1 ∧ fget s (TRL_AXIS_CFG_STREAM k) = stream then judgeSample k m s else s

end Sys2Proof.Machine
end

