-- ==== Sys2Proof/Machine/Trellis.lean ====
section
/-! DEFINITION. The rows of Trellis (chapter 05): the tick, edges and pulses, encoders, sample timeouts, captures, trims,
entry batches and the class 0x06 commands, with what a configuration change does to an axis (R116, R117, R119, R141). -/

namespace Sys2Proof.Machine

open Reg

/-! ### The tick (R113, R125–R127) -/

/-- One entry in a tick at `t`: the entry after it, and its fire. -/
def tickEntry (s : State) (t i : Nat) (e : Entry) : Entry × Option Fire :=
  let k := e.axis
  if !e.valid ∨ axState s k = 0 ∨ axState s k = 3 ∨ (e.trigger ∧ e.target.isNone) ∨ (!e.trigger ∧ e.spent) then (e, none)
  else
    let u := t + leadOfEntry s e
    let now := deltaAt s e u
    let dirn := signAt s k u
    let tc := if e.comp ∧ e.output then some (crossing s e u (decide (dirn > 0))) else none
    match e.delta with
    | none => (if e.trigger then { e with delta := some now } else activate e now, none)
    | some prev =>
      if e.trigger then
        if targetFires e prev now dirn then ({ e with target := none, delta := none }, some { idx := i, late := false, at_ := tc })
        else ({ e with delta := some now }, none)
      else
        let (e1, f) := armRule (hyst s e) e prev now dirn
        (e1, if f then some { idx := i, late := false, at_ := tc } else none)

/-- Evaluates every entry, in ascending index. -/
def tickEntries (t : Nat) (s : State) : State × List Fire :=
  s.trl.entries.foldl (fun acc p =>
    let (e, f) := tickEntry acc.1 t p.1 p.2
    (setEntry p.1 e acc.1, acc.2 ++ f.toList)) (s, [])

/-- REVERSE of every axis follows the predicted velocity. -/
def showReverse (t : Nat) (s : State) : State :=
  forEach (List.range 16) s fun k s => fput (TRL_AXIS_STATUS_REVERSE k) (if (motion s k t).vel < 0 then 1 else 0) s

/-- TRELLIS_TICK: the first tick that has not been handled yet, at or after the latest tick of device time; waiting fires
go first (R127). -/
def tickEffect (s : State) : State :=
  let t := max (tickAt s (s.trl.lastTick + 40)) (tickAt s s.now)
  let (s1, due) := tickEntries t { advance t s with trl.lastTick := t }
  fireAll due (showReverse t s1)

def execTrellisTick (s : State) : Host.Outcome State Fault Refusal := .next (tickEffect s)

/-! ### Edges and pulses (R127, R130) -/

/-- The edge placer starts an edge; outside RUN, and on a channel that a LOST axis holds safe, nothing is driven. -/
def issueEdge (e : Edge) (s : State) : State :=
  if ctl s ≠ 3 ∨ lostSafe s e.ch then s
  else
    let level := if e.toggle then !(chan s e.ch).edge else e.level
    let s1 : State := { s with trl.pulses := match e.pulse with
      | some t => put e.ch t s.trl.pulses
      | none => del e.ch s.trl.pulses }
    driveEdge e.ch level s1

/-- EDGE_ISSUE: the first edge of the edge placer. -/
def execEdgeIssue (s : State) : Host.Outcome State Fault Refusal :=
  .next (match s.trl.edges with
    | e :: rest => issueEdge e (advance e.time { s with trl.edges := rest })
    | [] => s)

/-- PULSE_END: the falling edge of the pulse that runs on a channel. -/
def execPulseEnd (ch : Fin 16) (s : State) : Host.Outcome State Fault Refusal :=
  .next (match look s.trl.pulses ch with
    | some t =>
      let s1 := advance t { s with trl.pulses := del ch s.trl.pulses }
      if ctl s1 = 3 ∧ !lostSafe s1 ch then driveEdge ch false s1 else s1
    | none => s)

/-! ### Encoders (R115, R119) -/

/-- An enabled ENCODER axis that counts on encoder `e`. -/
def countsOn (s : State) (e k : Nat) : Bool := axEnabled s k ∧ axSource s k = 3 ∧ fget s (TRL_AXIS_CFG_ENC k) = e

/-- A quadrature edge: the anchor moves to the boundary that was crossed, which a change of direction crosses again. -/
def countEdge (k : Nat) (reverse : Bool) (s : State) : State :=
  let t := tickAt s s.now
  let q := quantum s k
  s |> accepted k |> setAxis k (fun x =>
    if x.reverse = reverse then
      { x with theta := if reverse then x.theta - q else x.theta + q, ta := t, edges := (t :: x.edges).take 4 }
    else { x with ta := t, edges := [t], reverse })

/-- A Z edge with Z_HOME = 1: on a forward one the position within the revolution becomes NUM, a step, and on any Z edge a
LOST axis, which counts no direction, tracks again from there (R115, R119). -/
def homeAxis (k : Nat) (s : State) : State :=
  if !fbit s (TRL_AXIS_CFG_Z_HOME k) ∨ ((axis s k).reverse ∧ axState s k ≠ 3) then s
  else
    let num : Int := fget s (TRL_AXIS_RATIO_NUM_NUM k)
    let set := fun (s : State) =>
      let p := untrimmed s k (tickAt s s.now)
      let goal := (p / 2 ^ 64) * 2 ^ 64 + num * 2 ^ 32
      setAxis k (fun x => { x with theta := x.theta + (goal - p) }) s
    if axState s k = 3 then
      setAxState k 1 (setAxis k (fun x => { x with ta := tickAt s s.now, reverse := false, sampleAt := some s.now }) (set s))
    else withSteps k false false set s

/-- What one ENCODER axis does with an edge of its encoder. -/
def encoderStep (k : Nat) (kind : EncEdge) (s : State) : State :=
  match kind with
  | .z => if axState s k = 0 then s else homeAxis k s
  | .both => if axState s k = 1 then loseAxis k (raise (TRL_AXIS_EVENTS_QUAD_ERR k) s) else s
  | .forward => if axState s k = 1 then countEdge k false s else s
  | .reverse => if axState s k = 1 then countEdge k true s else s

/-- The channels of an encoder whose edges the inbound isolators do not deliver: their group is not OK (R288). -/
def encoderBlind (s : State) (e : Nat) (k : EncEdge) : Bool :=
  if k = .z then groupBad s (fget s (FIO_ENC_CFG_Z_CH e) / 8)
  else groupBad s (fget s (FIO_ENC_CFG_A_CH e) / 8) || groupBad s (fget s (FIO_ENC_CFG_B_CH e) / 8)

/-- The accepted levels of A and B, and the crossing of the accepted level of Z, as they stand now (R277). -/
def encoderNow (s : State) (e : Nat) : EncLevels :=
  { a := (chan s (fget s (FIO_ENC_CFG_A_CH e))).level
    b := (chan s (fget s (FIO_ENC_CFG_B_CH e))).level
    zAt := if (chan s (fget s (FIO_ENC_CFG_Z_CH e))).level then some (chan s (fget s (FIO_ENC_CFG_Z_CH e))).levelAt else none }

/-- The interface takes the accepted levels as they stand. -/
def takeLevels (e : Nat) (s : State) : State := { s with trl.enc := put e (encoderNow s e) s.trl.enc }

/-- The accepted levels carry the edge: the isolators deliver an accepted level once, so one of A and B has changed since the
last edge, or both in one tick, or Z has risen (R115, R277). Which change is a forward one the spec does not say, and the
command says it (log entry 101). -/
def levelsCarry (s : State) (e : Nat) (k : EncEdge) : Bool :=
  let x := lookD s.trl.enc e {}
  let y := encoderNow s e
  match k with
  | .z => y.zAt.isSome && y.zAt ≠ x.zAt
  | .both => (x.a != y.a) && (x.b != y.b)
  | _ => (x.a != y.a) != (x.b != y.b)

/-- ENCODER_EDGE: an interface that is disabled, or whose channels' group is not OK, delivers none (R288), and neither do
levels that have not changed (R277). -/
def execEncoderEdge (e : Fin 4) (k : EncEdge) (s : State) : Host.Outcome State Fault Refusal :=
  .next (if !fbit s (FIO_ENC_CFG_ENABLE e) ∨ s.fio.powerUp ∨ encoderBlind s e k ∨ (k = .z ∧ !fbit s (FIO_ENC_CFG_Z_EN e))
      ∨ !levelsCarry s e k then s
    else
      let y := encoderNow s e
      let x := lookD s.trl.enc e {}
      forEach (List.range 16) { s with trl.enc := put e (if k = .z then { x with zAt := y.zAt } else { y with zAt := x.zAt }) s.trl.enc }
        fun a s => if countsOn s e a then encoderStep a k s else s)

/-- An encoder interface after a configuration that changes it: it starts from the levels as they stand. -/
def encoderConfigured (old : State) (e : Nat) (s : State) : State :=
  if [FIO_ENC_CFG_ENABLE e, FIO_ENC_CFG_Z_EN e, FIO_ENC_CFG_Z_CH e, FIO_ENC_CFG_B_CH e, FIO_ENC_CFG_A_CH e].any
      (fun f => fget old f ≠ fget s f) then takeLevels e s else s

/-- A fault on a channel of an encoder takes its ENCODER axes to LOST (R119, R278). -/
def encoderFault (ch : Nat) (s : State) : State :=
  forEach (List.range 4) s fun e s =>
    if fbit s (FIO_ENC_CFG_ENABLE e) ∧ (fget s (FIO_ENC_CFG_A_CH e) = ch ∨ fget s (FIO_ENC_CFG_B_CH e) = ch
        ∨ (fbit s (FIO_ENC_CFG_Z_EN e) ∧ fget s (FIO_ENC_CFG_Z_CH e) = ch)) then
      forEach (List.range 16) s fun k s => if countsOn s e k ∧ axState s k = 1 then loseAxis k s else s
    else s

/-! ### Sample timeouts (R119, R120) -/

/-- SAMPLE_TIMEOUT. -/
def execSampleTimeout (k : Fin 16) (s : State) : Host.Outcome State Fault Refusal :=
  .next (match (axis s k).sampleAt with
    | some t =>
      if axEnabled s k ∧ axSource s k = 1 ∧ axState s k = 1 then
        let s1 := advance (tickUp s (t + usec (fget s (TRL_AXIS_TIMING_SAMPLE_TIMEOUT k)))) s
        if fget s (TRL_AXIS_TIMING_COAST_LIMIT k) = 0 then loseAxis k s1 else coastAxis k s1
      else s
    | none => s)

/-- COAST_LIMIT. -/
def execCoastLimit (k : Fin 16) (s : State) : Host.Outcome State Fault Refusal :=
  .next (if axEnabled s k ∧ axSource s k = 1 ∧ axState s k = 2 then
      loseAxis k (advance (tickUp s ((axis s k).coastAt + msec (fget s (TRL_AXIS_TIMING_COAST_LIMIT k)))) s)
    else s)

/-! ### Captures (R133) -/

/-- A capture unit takes edges of a polarity from a channel. -/
def takesEdge (s : State) (c ch : Nat) (rising : Bool) : Bool :=
  fbit s (TRL_CAP_CFG_ENABLE c) ∧ fget s (TRL_CAP_CFG_CHANNEL c) = ch
    ∧ (fget s (TRL_CAP_CFG_EDGE c)).testBit (if rising then 0 else 1)

/-- The debounce of a channel in ticks (R271). -/
def debounceTicks (s : State) (ch : Nat) : Nat := 400 * fget s (FIO_CH_CFG_DEBOUNCE ch)

/-- The ticks from the crossing to Trellis: the debounce and the path delay that the factory measured (R135, R137, R271). -/
def pathTicks (s : State) (ch : Nat) : Nat := debounceTicks s ch + (Config.inputDelay ch % 38 + 1)

/-- The tick at which an edge with its threshold crossing at `at_` reaches Trellis, within ±5 ns; where in that range is free
(R135, R137, R277). -/
def edgeTick (s : State) (ch at_ k : Nat) : Nat :=
  tickAt s at_ + 40 * (pathTicks s ch + Config.freeNat k % 4) - 40

/-- The tick that STAMP names: Trellis subtracts the debounce and the path delay from that tick (R135). -/
def stampOf (s : State) (ch tick : Nat) : Nat := tick - 40 * pathTicks s ch

/-- An accepted edge of a channel is judged by each capture unit that takes it (R133); what they fire is due together (R127). -/
def captureAll (ch stamp : Nat) (rising : Bool) (s : State) : State :=
  let (s1, due) := (List.range 16).foldl (fun (acc : State × List Fire) c =>
    if takesEdge acc.1 c ch rising then
      let (s2, fs) := captureEdge c stamp rising acc.1
      (s2, acc.2 ++ fs)
    else acc) (s, [])
  fireAll due s1

/-- FAST_INPUT_EDGE: the isolator carries the accepted level, so the edge is one that the channel has accepted; `at_` is the
threshold crossing that began it (R135, R277). -/
def execFastInputEdge (ch : Fin 16) (rising : Bool) (at_ : Nat) (s : State) : Host.Outcome State Fault Refusal :=
  .next (if chMode s ch ≠ 3 ∨ groupBad s (ch / 8) ∨ s.fio.powerUp ∨ (chan s ch).level ≠ rising ∨ (chan s ch).levelAt ≠ at_ then s
    else
      let (s1, k) := fresh s
      let t := edgeTick s ch at_ k
      captureAll ch (stampOf s ch t) rising (advance t s1))

/-! ### Trims (R118) -/

/-- A trim takes effect as a step of the size of its change. -/
def applyTrim (k : Nat) (v : Nat) (s : State) : State := withSteps k false false (fput (TRL_AXIS_TRIM_TRIM k) v) s

/-- The trim word whose boundary comes first. -/
def nextTrim (s : State) : Option TrimDue :=
  s.trl.trimDue.foldl (fun best x => match best with
    | none => some x
    | some b => if x.cycle < b.cycle then some x else best) none

/-- TRIM_SOURCE_APPLY: a late trim sets TRIM_LATE and makes a standby unfit (R118, R139). -/
def execTrimSourceApply (s : State) : Host.Outcome State Fault Refusal :=
  .next (match nextTrim s with
    | some x =>
      let s1 := toBoundary x.cycle { s with trl.trimDue := s.trl.trimDue.erase x }
      let s2 := if fbit s1 (TRL_AXIS_TRIM_SRC_EN x.axis) then applyTrim x.axis x.value.toNat s1 else s1
      if x.late then selfUnfit 7 (raise (TRL_AXIS_EVENTS_TRIM_LATE x.axis) s2) else s2
    | none => s)

/-! ### Entry batches (R124, R141) -/

/-- A record of TRL_ENTRY_WRITE: index and the entry it holds. -/
def entryOf (rec_ : List Byte) : Nat × Entry :=
  (leAt rec_ 0 2, { angle := leAt rec_ 4 8, ctl := leAt rec_ 12 4, param := leAt rec_ 16 4 })

def entryRecords (buf : List Byte) : List (List Byte) :=
  (List.range (buf.length / 20)).map (fun i => (buf.drop (20 * i)).take 20)

/-- Reserved PARAM bits of an action (R123). -/
def paramReserved (action : Nat) : Nat :=
  [0xFFFFFF00, 0xFFFFFF00, 0xFFFFFF00, 0x00007F00, 0xFFFFE00F, 0xFFFFF00F, 0x7000000F].getD action 0

/-- A record that breaks the first row of R124. Of a record with VALID = 0 only the reserved bits of the record itself (R122) are
judged, and not those of PARAM (R123), a field that R124 leaves unexamined there (DESIGN CHOICE, log entry 106). -/
def badRecord (rec_ : List Byte) : Bool :=
  let (i, e) := entryOf rec_
  i > 4095 ∨ leAt rec_ 2 2 ≠ 0 ∨ bits e.ctl 16 2 ≠ 0
    ∨ (e.valid ∧ (e.dir = 3 ∨ e.action = 7 ∨ e.param &&& paramReserved e.action ≠ 0
      ∨ (!e.trigger ∧ !e.abs ∧ e.angle ≥ 2 ^ 32) ∨ (e.comp ∧ e.action ≥ 4) ∨ (!e.trigger ∧ e.capUnit ≠ 0)
      ∨ (e.action = 3 ∧ bits e.param 16 16 = 0) ∨ (e.action = 5 ∧ e.trigger)))

/-- The entries with VALID = 1 of a batch. -/
def liveRecords (buf : List Byte) : List Entry := ((entryRecords buf).map (fun r => (entryOf r).2)).filter Entry.valid

def isAngleTask (s : State) (t : Nat) : Bool := (taskDef s t).elim false (fun d => d.kind = .angle)

def entryWriteCard : Card := { op := 0x0601, buf := .reads, active := true }

def entryWriteChecks (d : Desc) (s : State) : Option (Nat × Nat) :=
  let live := liveRecords d.buf
  firstOf [
    (d.buf.length = 0 ∨ d.buf.length % 20 ≠ 0 ∨ d.buf.length > 5120 ∨ (entryRecords d.buf).any badRecord, 0x02, 0x0111),
    (live.any (fun e => e.output ∧ !trellisOwned s e.ch), 0x05, 0x020B),
    (live.any (fun e => e.action = 4 ∧ !isAngleTask s (bits e.param 8 5)), 0x05, 0x020C),
    (live.any (fun e => e.action = 6 ∧ !sourceIs s.prog.cur .imageBit (bits e.param 8 20 / 8)), 0x05, 0x0206)]

/-- TRL_ENTRY_WRITE. -/
def execTrlEntryWrite (d : Desc) (s : State) : Host.Outcome State Fault Refusal :=
  .next (command entryWriteCard d (entryWriteChecks d) (deferCmd 0x0601 d .entryBatch) s)

/-- The channels of an axis that is LOST go safe, for an entry or a LOST_OUT that comes later (R120). -/
def lostNow (k : Nat) (s : State) : State := if axState s k = 3 then lostOutputs k s else s

/-- One record takes effect: removed, or written and armed as at activation; its waiting fires lapse (R124, R125). -/
def installEntry (rec_ : List Byte) (s : State) : State :=
  let (i, e) := entryOf rec_
  let s1 : State := { s with trl.entries := del i s.trl.entries, trl.waiting := s.trl.waiting.filter (fun w => w.1 ≠ i) }
  if !e.valid then s1
  else if e.trigger ∨ axState s1 e.axis = 0 then lostNow e.axis (setEntry i e s1)
  else lostNow e.axis (setEntry i (activate e (deltaAt s1 e (tickAt s1 s1.now + leadOfEntry s1 e))) s1)

/-- ENTRY_BATCH_APPLY. -/
def execEntryBatchApply (s : State) : Host.Outcome State Fault Refusal :=
  .next (deferredRow (· = .entryBatch) (fun _ _ => none)
    (fun x s => (forEach (entryRecords x.job.d.buf) s installEntry, (entryRecords x.job.d.buf).length)) s)

def entryReadCard : Card := { op := 0x0602, params := [(32, 2), (34, 2)], buf := .writes, svc := .open_ }

/-- The entry and the status bytes of R141; an entry that is not in use reads as zeros. -/
def entryBytes (s : State) (i : Nat) : List Byte :=
  match entry s i with
  | none => le 20 0
  | some e =>
    le 8 e.angle ++ le 4 e.ctl ++ le 4 e.param
      ++ le 4 ((if e.armF then 1 else 0) + (if e.armR then 2 else 0) + (if e.target.isSome then 4 else 0)
        + (if e.spent then 8 else 0) + 256 * e.late + 65536 * e.fires)

/-- Entries that TRL_ENTRY_READ returns: those that fit the buffer. -/
def entriesRead (d : Desc) : Nat := min (paramN d 34 2) (d.bufLen / 20)

/-- TRL_ENTRY_READ. -/
def execTrlEntryRead (d : Desc) (s : State) : Host.Outcome State Fault Refusal :=
  .next (command entryReadCard d
    (fun _ => firstOf [(paramN d 34 2 = 0 ∨ paramN d 34 2 > 256 ∨ paramN d 32 2 + paramN d 34 2 > 4096, 0x02, 0x0111)])
    (immediate 0x0602 d id (fun _ => entriesRead d)
      (fun s => (List.range (entriesRead d)).flatMap (fun i => entryBytes s (paramN d 32 2 + i)))) s)

/-! ### TRL_AXIS_SET, TRL_TRIM_SET and TRL_AXIS_REARM (R116, R118, R119, R141) -/

/-- The angle without trim becomes a preset less the trim, at the present tick; anchors and edges move with it. -/
def presetAngle (k : Nat) (p : Nat) (s : State) : State :=
  let t := tickAt s s.now
  if axState s k = 0 then setAxis k (fun x => { x with preset := some (ofInt 64 ((p : Int) - toInt 32 (fget s (TRL_AXIS_TRIM_TRIM k)))) }) s
  else
    let goal : Int := (p : Int) * 2 ^ 32 - trimOf s k
    s |> setAxis k (fun x => { x with theta := x.theta + (goal - untrimmed s k t) })
      |> setAxis k (fun x => if x.edges.isEmpty then { x with sampleAt := some s.now } else x)

/-- A VIRTUAL axis moves its anchor to the present tick. -/
def reanchorVirtual (k : Nat) (s : State) : State :=
  let t := tickAt s s.now
  let m := virtualAt s k t
  setAxis k (fun x => { x with theta := m.pos, v := m.vel, a := 0, ta := t }) s

/-- A new V_SET (R116). -/
def setVelocity (k : Nat) (v : Int) (s : State) : State :=
  setAxis k (fun x => { x with vSet := v * 65536 }) (if axState s k = 0 then s else reanchorVirtual k s)

def axisSetCard : Card := { op := 0x0603, params := [(32, 1), (33, 1), (40, 8)], active := true }

/-- TRL_AXIS_SET with PRESET. -/
def wantsPreset (d : Desc) : Bool := (param d 33).testBit 0

def axisSetChecks (d : Desc) (s : State) : Option (Nat × Nat) :=
  let k := param d 32
  let v := paramN d 40 8
  let src := axSource s k
  firstOf [(k > 15 ∨ param d 33 > 1 ∨ (wantsPreset d ∧ src ≠ 2 ∧ src ≠ 3)
    ∨ (!wantsPreset d ∧ (src ≠ 2 ∨ toInt 64 v ≠ toInt 48 v ∨ (toInt 48 v).natAbs > 2 ^ 40)), 0x02, 0x0111)]

/-- TRL_AXIS_SET. -/
def execTrlAxisSet (d : Desc) (s : State) : Host.Outcome State Fault Refusal :=
  .next (command axisSetCard d (axisSetChecks d) (deferCmd 0x0603 d .axisSet) s)

def axisSet (d : Desc) (s : State) : State :=
  let k := param d 32
  if wantsPreset d then withSteps k true false (presetAngle k (paramN d 40 8)) s
  else setVelocity k (toInt 48 (paramN d 40 8)) s

/-- AXIS_SET_APPLY. -/
def execAxisSetApply (s : State) : Host.Outcome State Fault Refusal :=
  .next (deferredRow (· = .axisSet) (fun _ _ => none) (fun x s => (axisSet x.job.d s, 0)) s)

def trimSetCard : Card := { op := 0x0604, params := [(32, 1), (36, 4)], active := true }

def trimSetChecks (d : Desc) (s : State) : Option (Nat × Nat) :=
  firstOf [(param d 32 > 15, 0x02, 0x0111), (fbit s (TRL_AXIS_TRIM_SRC_EN (param d 32)), 0x05, 0x020D)]

/-- TRL_TRIM_SET. -/
def execTrlTrimSet (d : Desc) (s : State) : Host.Outcome State Fault Refusal :=
  .next (command trimSetCard d (trimSetChecks d) (deferCmd 0x0604 d .trimSet) s)

/-- TRIM_SET_APPLY. -/
def execTrimSetApply (s : State) : Host.Outcome State Fault Refusal :=
  .next (deferredRow (· = .trimSet) (fun _ _ => none)
    (fun x s => (applyTrim (param x.job.d 32) (paramN x.job.d 36 4) s, 0)) s)

def rearmCard : Card := { op := 0x0605, params := [(32, 1), (40, 8)], active := true }

/-- An ENCODER axis in LOST. -/
def rearmable (s : State) (k : Nat) : Bool := axSource s k = 3 ∧ axState s k = 3

def rearmChecks (d : Desc) (s : State) : Option (Nat × Nat) :=
  firstOf [(param d 32 > 15, 0x02, 0x0111), (!rearmable s (param d 32), 0x01, 0x0014)]

/-- TRL_AXIS_REARM. -/
def execTrlAxisRearm (d : Desc) (s : State) : Host.Outcome State Fault Refusal :=
  .next (command rearmCard d (rearmChecks d) (deferCmd 0x0605 d .rearm) s)

/-- LOST to TRACKING at the preset, trim included. -/
def rearmAxis (k p : Nat) (s : State) : State :=
  s |> setAxis k (fun x => { x with theta := (p : Int) * 2 ^ 32 - trimOf s k, ta := tickAt s s.now, edges := [], reverse := false
                                    sampleAt := some s.now })
    |> setAxState k 1

/-- AXIS_REARM_APPLY. -/
def execAxisRearmApply (s : State) : Host.Outcome State Fault Refusal :=
  .next (deferredRow (· = .rearm)
    (fun x s => if rearmable s (param x.job.d 32) then none else some 0x0014)
    (fun x s => (rearmAxis (param x.job.d 32) (paramN x.job.d 40 8) s, 0)) s)

/-! ### Configuration of an axis (R116, R117, R119) -/

/-- An axis that a configuration has enabled (R119). -/
def enableAxis (k : Nat) (s : State) : State :=
  let t := tickAt s s.now
  let src := axSource s k
  if src = 2 ∨ src = 3 then
    s |> setAxis k (fun x => { x with
          theta := (x.preset.getD 0 : Nat) * 2 ^ 32, v := 0, a := 0, ta := t, preset := none, edges := [], reverse := false
          sampleAt := if src = 3 then some s.now else none })
      |> setAxState k 1
  else if src = 4 then setAxState k (axState s (fget s (TRL_AXIS_CFG_MASTER k))) s
  else setAxis k (fun x => { x with sampleAt := none, lostAt := none }) s

/-- The source of axis `k` after a configuration has changed its registers; `old` is the state before (R117, R119). -/
def sourceConfigured (old : State) (k : Nat) (s : State) : State :=
  if !axEnabled s k then
    if axEnabled old k then setAxState k 0 (setAxis k (fun x => { vSet := x.vSet }) s) else s
  else if !axEnabled old k then enableAxis k s
  else if axSource s k = 4 ∧ axState s k ≠ 0 then
    let t := tickAt s s.now
    let p := (motion old k t).pos
    let q := (motion s k t).pos
    setAxis k (fun x => { x with offset := x.offset + (p - q) }) s
  else if axSource s k = 2 then
    let m := virtualAt old k (tickAt s s.now)
    setAxis k (fun x => { x with theta := m.pos, v := m.vel, a := 0, ta := tickAt s s.now }) s
  else s

/-- Axis `k` after a configuration; a LOST_OUT that it sets on a LOST axis drives the channels safe (R120). -/
def axisConfigured (old : State) (k : Nat) (s : State) : State :=
  let s1 := sourceConfigured old k s
  if fbit s1 (TRL_AXIS_CFG_LOST_OUT k) ∧ !fbit old (TRL_AXIS_CFG_LOST_OUT k) then lostNow k s1 else s1

/-- A capture unit that a configuration has enabled counts from 0 (R134). -/
def captureConfigured (old : State) (c : Nat) (s : State) : State :=
  if fbit s (TRL_CAP_CFG_ENABLE c) ∧ !fbit old (TRL_CAP_CFG_ENABLE c) then
    { s with trl.caps := put c {} s.trl.caps }
  else s

end Sys2Proof.Machine
end

