-- ==== Sys2Proof/Machine/Field.lean ====
section
/-! DEFINITION. The field channels (chapter 10): inputs and their filters (R271–R273), outputs and their faults (R274–R276),
the field link (R279–R283), hold, safe and release (R284–R287), the group supplies (R288) and the commands (R291). -/

namespace Sys2Proof.Machine

open Reg

/-! ### Channels -/

/-- Modes INPUT and FAST_IN (R269). -/
def isInput (s : State) (n : Nat) : Bool := chMode s n = 1 ∨ chMode s n = 3

/-- The command of a channel before faults: the bit of the applied word, or the level that the island has taken from Trellis
(R282, R276, R287). -/
def wanted (s : State) (n : Nat) : Bool :=
  let l := leadOf s n
  if trellisOwned s l then (chan s l).taken else s.fio.word.getLsbD l

/-- Safe values stand before the word and the edges (R287): a safe group, or the controller state. -/
def heldSafe (s : State) (n : Nat) : Bool := groupSafe s (n / 8) || stateSafe s

/-- The command of a channel before supply and overload decide (R274, R287). -/
def commandOf (s : State) (n : Nat) : Bool := if heldSafe s n then safeOf s n else wanted s n

/-- The island drives a channel as R287 decides: safe values, or the command. A Trellis-owned channel that stands at its safe value
has taken no command (R284). -/
def redrive (n : Nat) (s : State) : State :=
  if isOutput s n then
    setAtSafe n (heldSafe s n || (trellisOwned s n && (chan s n).atSafe)) (setLevel n (commandOf s n) s)
  else s

/-- Bits of FIO_CHn_STAT that FAULT gathers: SHORT, THERMAL, OVERLOAD, OPEN_LOAD, OPEN_WIRE (R281). -/
def faultBits : BitVec 7 := 0x5E

/-- Conditions that are still active: a short and an open load need the command 1, an external high the command 0, and an
overload an open switch (R274). -/
def activeNow (s : State) (n : Nat) : BitVec 7 :=
  let on := (fget s FIO_OUTPUT_LEVEL).testBit n
  let keep : BitVec 7 := 0x02 ||| (if on then 0x44 else 0x20) ||| (if (chan s n).opened then 0x18 else 0)
  (chan s n).active &&& keep

/-- The stage of a channel drives its terminal. A PUSH_PULL stage with OR_MODE = 1 is high-impedance while it carries safe value 0
(R284). -/
def drives (s : State) (n : Nat) : Bool :=
  let highZ := stageOff s n || (fbit s (FIO_CH_CFG_OR_MODE n) && (chan s n).atSafe && !safeOf s n)
  isOutput s n && ((fget s FIO_OUTPUT_LEVEL).testBit n || (chMode s n = 4 && !highZ))

/-- The readback of a terminal (R274): what the stage drives, unless the comparator has seen another level, and otherwise what
holds the terminal. -/
def readback (s : State) (n : Nat) : Bool :=
  if drives s n then (chan s n).term.getD ((fget s FIO_OUTPUT_LEVEL).testBit n) else (chan s n).comp

/-- The comparator of an output terminal crosses (R274): a driven terminal that stands at another level than its stage, or an
outside level; a short ends as the terminal rises, an external high as it falls. -/
def terminalChange (n : Nat) (level : Bool) (s : State) : State :=
  setChan n (fun c => { c with
    term := if drives s n then some level else c.term
    comp := if drives s n then c.comp else level
    active := c.active &&& (if level then 0x3F else 0x5F) }) s

/-- The STATE bit of a channel at a sample (R272, R281). -/
def stateBit (s : State) (n : Nat) : Bool :=
  if groupBad s (n / 8) then s.fio.lastState.getLsbD n
  else if isInput s n then (chan s n).level || (fbit s (FIO_CH_CFG_STRETCH n) && (chan s n).seen)
  else if isOutput s n then readback s n
  else false

/-- The FAULT bit of a channel at a sample: an active condition, or latched open. -/
def faultBit (s : State) (n : Nat) : Bool :=
  if groupBad s (n / 8) then s.fio.lastFault.getLsbD n
  else decide (activeNow s n &&& faultBits ≠ 0) || fbit s (FIO_CH_STAT_LATCHED n)

def wordOf (p : Nat → Bool) : Word := BitVec.ofNat 32 ((List.range 32).foldl (fun m n => if p n then m + 2 ^ n else m) 0)

/-! ### Inputs (R271–R273) -/

/-- A level is accepted; its time is the crossing that began it (R271). -/
def acceptLevel (n : Nat) (s : State) : State :=
  setChan n (fun c => { c with level := c.comp, levelAt := c.compAt, seen := c.seen || c.comp }) s

/-- INPUT_LEVEL_CHANGE: the comparator of a channel crosses; a filter starts anew, and with DEBOUNCE = 0 the level is
accepted at once. On an output it is the readback of the terminal (R274). -/
def execInputLevelChange (ch : Fin 32) (level : Bool) (at_ : Nat) (s : State) : Host.Outcome State Fault Refusal :=
  .next (
    let s0 := advance at_ s
    if isOutput s0 ch then terminalChange ch level s0
    else
      let s1 := setChan ch (fun c => { c with comp := level, compAt := at_, filterAt := at_ }) s0
      if isInput s1 ch ∧ fget s1 (FIO_CH_CFG_DEBOUNCE ch) = 0 then acceptLevel ch s1 else s1)

/-- DEBOUNCE_ACCEPT: the comparator has held a new level for D µs. -/
def execDebounceAccept (ch : Fin 32) (s : State) : Host.Outcome State Fault Refusal :=
  .next (
    let c := chan s ch
    if isInput s ch ∧ fget s (FIO_CH_CFG_DEBOUNCE ch) ≠ 0 ∧ c.comp ≠ c.level then
      acceptLevel ch (advance (c.filterAt + usec (fget s (FIO_CH_CFG_DEBOUNCE ch))) s)
    else s)

/-! ### Faults (R273, R274, R276) -/

/-- A condition becomes active: its flag in FIO_CHn_STAT by bit number, and for all but EXT_HIGH the count and CH_FAULT. -/
def setFault (n bit : Nat) (f : Field) (s : State) : State :=
  let s1 := s |> raise f |> setChan n (fun c => { c with active := c.active ||| BitVec.ofNat 7 (2 ^ bit) })
  if bit = 5 then s1 else s1 |> bump (FIO_CH_FAULTS_COUNT n) 1 |> raise FIO_EVENTS_CH_FAULT

/-- OPEN_WIRE_DETECT: reported to Trellis when an encoder uses the channel (R278). -/
def execOpenWireDetect (ch : Fin 32) (s : State) : Host.Outcome State Fault Refusal :=
  .next (if isInput s ch ∧ fbit s (FIO_CH_CFG_OPEN_DET ch) then encoderFault ch (setFault ch 1 (FIO_CH_STAT_OPEN_WIRE ch) s) else s)

/-- OPEN_WIRE_CLEAR: the flag clears itself. -/
def execOpenWireClear (ch : Fin 32) (s : State) : Host.Outcome State Fault Refusal :=
  .next (s |> setChan ch (fun c => { c with active := c.active &&& 0x7D }) |> fput (FIO_CH_STAT_OPEN_WIRE ch) 0)

/-- A stage of OUTPUT or of a gang whose command is 1. -/
def stageOn (s : State) (n : Nat) : Bool := (chMode s n = 2 ∨ chMode s n = 5) ∧ (fget s FIO_OUTPUT_LEVEL).testBit n

/-- The stages of the gang follow what R287 decides for them. -/
def redriveGang (n : Nat) (s : State) : State := forEach (gangOf s (leadOf s n)) s redrive

/-- A switch opens: every stage of its gang opens, latched when the lead's OVL_LATCH is set. -/
def openSwitch (n bit : Nat) (f : Field) (s : State) : State :=
  let l := leadOf s n
  let s1 := setChan n (fun c => { c with opened := true, openedAt := s.now }) (setFault n bit f s)
  let s2 := if fbit s (FIO_CH_CFG_OVL_LATCH l) then forEach (gangOf s l) s1 fun m s => fput (FIO_CH_STAT_LATCHED m) 1 s else s1
  redriveGang n s2

/-- OVERLOAD_DETECT. -/
def execOverloadDetect (ch : Fin 32) (s : State) : Host.Outcome State Fault Refusal :=
  .next (if stageOn s ch then openSwitch ch 3 (FIO_CH_STAT_OVERLOAD ch) s else s)

/-- THERMAL_SHUTDOWN. -/
def execThermalShutdown (ch : Fin 32) (s : State) : Host.Outcome State Fault Refusal :=
  .next (if stageOn s ch then openSwitch ch 4 (FIO_CH_STAT_THERMAL ch) s else s)

/-- The switches of a gang may close again. -/
def closeSwitches (n : Nat) (s : State) : State :=
  redriveGang n (forEach (gangOf s (leadOf s n)) s fun m s =>
    s |> setChan m (fun c => { c with opened := false }) |> fput (FIO_CH_STAT_LATCHED m) 0)

/-- OVERLOAD_RETRY: 100 ms after the opening, while the command is 1 and OVL_LATCH is 0. -/
def execOverloadRetry (ch : Fin 32) (s : State) : Host.Outcome State Fault Refusal :=
  .next (
    let c := chan s ch
    if c.opened ∧ !fbit s (FIO_CH_CFG_OVL_LATCH (leadOf s ch)) ∧ commandOf s ch then
      closeSwitches ch (advance (c.openedAt + msec 100) s)
    else s)

/-- SHORT_DETECT: the terminal of a closed switch stands below the threshold (R274). -/
def execShortDetect (ch : Fin 32) (s : State) : Host.Outcome State Fault Refusal :=
  .next (if stageOn s ch then setChan ch (fun c => { c with term := some false }) (setFault ch 6 (FIO_CH_STAT_SHORT ch) s) else s)

/-- OPEN_LOAD_DETECT. -/
def execOpenLoadDetect (ch : Fin 32) (s : State) : Host.Outcome State Fault Refusal :=
  .next (if stageOn s ch then setFault ch 2 (FIO_CH_STAT_OPEN_LOAD ch) s else s)

/-- EXT_HIGH_DETECT. -/
def execExtHighDetect (ch : Fin 32) (s : State) : Host.Outcome State Fault Refusal :=
  .next (if (chMode s ch = 2 ∨ chMode s ch = 5) ∧ !(fget s FIO_OUTPUT_LEVEL).testBit ch then
      setChan ch (fun c => { c with comp := true }) (setFault ch 5 (FIO_CH_STAT_EXT_HIGH ch) s)
    else s)

/-! ### The field link inward (R280, R281) -/

/-- A sample instant has passed without a valid input frame; three in a row take the link down. -/
def sampleMissed (s : State) : State :=
  let s1 := bump FIO_LINK_ERR_MISSED 1 { s with fio.missed := s.fio.missed + 1, fio.inFrame := none }
  if s1.fio.missed ≥ 3 ∧ fbit s1 FIO_STATUS_LINK_UP then
    s1 |> fput FIO_STATUS_LINK_UP 0 |> raise FIO_EVENTS_LINK_DOWN
  else s1

/-- Groups whose supply is OK. -/
def okMask (s : State) : Nat := (List.range 4).foldl (fun m g => if groupBad s g then m else m + 2 ^ g) 0

/-- Groups at their safe values. -/
def safeMask (s : State) : Nat := (List.range 4).foldl (fun m g => if groupSafe s g then m + 2 ^ g else m) 0

/-- FIELD_SAMPLE: all channels once per SYNC cycle at boundary + IN_OFS. An island in its power-up state sends no frame, and
logic that stands still takes no sample. -/
def execFieldSample (s : State) : Host.Outcome State Fault Refusal :=
  .next (if logicOff s then s else
    let n := max s.fio.sampled (cycleNow s)
    let s1 := advance (boundary s n + fget s FIO_LINK_CFG_IN_OFS * 160) { s with fio.sampled := n + 1 }
    let s2 := if s1.fio.inFrame.isSome ∨ s1.fio.powerUp then sampleMissed s1 else s1
    if s2.fio.powerUp then s2
    else
      forEach (List.range 32)
        { s2 with
          fio.inFrame := some { time := nsNow s2, seq := s2.fio.seq, st := wordOf (stateBit s2), fl := wordOf (faultBit s2)
                                ok := okMask s2, safe := safeMask s2 }
          fio.seq := (s2.fio.seq + 1) % 2 ^ 32 }
        fun n s => setChan n (fun c => { c with seen := c.level }) s)

/-- The input record of R281. -/
def inputRecord (f : InFrame) : List Byte :=
  le 4 f.st.toNat ++ le 4 f.fl.toNat ++ le 1 (f.ok + 16 * f.safe) ++ le 3 0 ++ le 4 f.seq ++ le 8 f.time ++ le 8 0

/-- Groups that deliver count as fresh (R33, R281). -/
def markGroups (ok : Nat) (n : Mark) (i : Img) : Img :=
  { i with groupAt := (setBits 4 ok).foldl (fun m g => put g n m) i.groupAt }

/-- The field link comes up: the running means of OUT_DELAY start anew, and each direction uses 110 ns until 16 edges are
measured (R132). -/
def restartCal (s : State) : State :=
  forEach (List.range 16) { s with trl.rise := [], trl.fall := [] } fun n s =>
    s |> fput (TRL_OUT_DELAY_RISE n) 352 |> fput (TRL_OUT_DELAY_FALL n) 352
      |> fputBit TRL_CAL_RISE_DONE n false |> fputBit TRL_CAL_FALL_DONE n false

/-- A valid input frame. -/
def inputFrame (f : InFrame) (s0 : State) : State :=
  let s := if fbit s0 FIO_STATUS_LINK_UP then s0 else restartCal s0
  let s1 : State := { s with fio.inFrame := none, fio.missed := 0, fio.lastState := f.st, fio.lastFault := f.fl }
  let s2 := s1 |> fput FIO_STATUS_LINK_UP 1 |> fput FIO_STATUS_HOLDING (if s.fio.silent then 1 else 0)
    |> fput FIO_INPUT_STATE f.st.toNat
  let s3 := forEach (List.range 32) s2 fun n s => fput (FIO_CH_STAT_STATE n) (if f.st.getLsbD n then 1 else 0) s
  if fbit s3 FIO_MAP_IN_EN then
    writeBytes (markGroups f.ok) [(fget s3 FIO_MAP_IN_ADDR, inputRecord f)] s3
  else s3

/-- A frame that failed its CRC (R279). -/
def fieldCrc (s : State) : State := s |> bump FIO_LINK_ERR_CRC 1 |> raise FIO_EVENTS_CRC_ERR

/-- FIELD_INPUT_RECORD_WRITE: within 4.9 µs of the sample instant. -/
def execFieldInputRecordWrite (crcOk : Bool) (s : State) : Host.Outcome State Fault Refusal :=
  .next (match s.fio.inFrame with
    | some f =>
      let (s1, k) := fresh s
      let s2 := advance (localTime s1 (f.time * 16) + Config.freeNat k % 78401) s1
      if crcOk then inputFrame f s2 else sampleMissed (fieldCrc s2)
    | none => s)

/-! ### The field link outward (R283, R285, R287) -/

/-- FIELD_OUTPUT_REFRESH: at the latest 50 µs after the end of the previous frame. -/
def execFieldOutputRefresh (s : State) : Host.Outcome State Fault Refusal :=
  .next (if s.fio.outFrame.isSome ∨ s.fio.powerUp ∨ logicOff s then s else sendField (advance (s.fio.outEnd + usec 50) s))

/-- A valid frame: a hold ends, and the commands apply as R287 lets them. -/
def applyWord (w : Word) (s : State) : State :=
  let s1 : State := { s with fio.validAt := s.now, fio.silent := false, fio.timeouts := [], fio.word := w }
  forEach (List.range 32) s1 fun n s =>
    if trellisOwned s n then s
    else
      let was := (fget s FIO_OUTPUT_LEVEL).testBit n
      let s2 := redrive n s
      if was = (fget s2 FIO_OUTPUT_LEVEL).testBit n then s2 else setChan n (fun c => { c with active := c.active &&& 0x1A }) s2

/-- ISLAND_OUTPUT_FRAME_RECEIVE: the frame on the link ends at the island; one that waited for it starts. -/
def execIslandOutputFrameReceive (crcOk : Bool) (s : State) : Host.Outcome State Fault Refusal :=
  .next (match s.fio.outFrame with
    | some w =>
      let s1 := advance s.fio.outEnd { s with fio.outFrame := none }
      let s2 := if !crcOk then fieldCrc s1 else if s1.fio.powerUp then s1 else applyWord w s1
      if s2.fio.outNext then sendField s2 else s2
    | none => s)

/-- FIELD_LINK_SILENCE: 100 µs without a valid frame; the island holds, with the SAFE_TIMEOUT values that it has. -/
def execFieldLinkSilence (s : State) : Host.Outcome State Fault Refusal :=
  .next (if s.fio.silent ∨ s.fio.powerUp then s
    else
      let held := (List.range 4).map (fun g => (g, fget s (FIO_GRP_CFG_SAFE_TIMEOUT g)))
      advance (s.fio.validAt + usec 100) { s with fio.silent := true, fio.timeouts := held })

/-- FIELD_SAFE_TIMEOUT: a group goes safe SAFE_TIMEOUT after the last valid frame and stays so (R286). -/
def execFieldSafeTimeout (g : Fin 4) (s : State) : Host.Outcome State Fault Refusal :=
  .next (
    let t := lookD s.fio.timeouts g 0xFFFF
    if s.fio.silent ∧ t ≠ 0xFFFF ∧ !s.fio.safeLatched.getLsbD g then
      let s1 := advance (s.fio.validAt + msec t) { s with fio.safeLatched := s.fio.safeLatched ||| BitVec.ofNat 4 (2 ^ g.val) }
      let s2 := forEach ((List.range 8).map (8 * g.val + ·)) s1 fun n s => edgeSafe n (chanSafe n s)
      s2 |> raise FIO_EVENTS_TIMEOUT_SAFE |> fput FIO_STATUS_SAFE_LATCHED 1 |> fput (FIO_GRP_STAT_SAFE g) 1
    else s)

/-! ### Group supplies (R288) -/

/-- WARN follows a measurement. -/
def measureWarn (g mv : Nat) (s : State) : State :=
  if mv < 19200 ∧ !fbit s (FIO_GRP_STAT_WARN g) then s |> fput (FIO_GRP_STAT_WARN g) 1 |> raise FIO_EVENTS_GRP_WARN
  else if mv > 19500 then fput (FIO_GRP_STAT_WARN g) 0 s
  else s

/-- FAIL: below 16.0 V, until the supply has been above 17.0 V for 10 ms. -/
def measureFail (g mv : Nat) (s : State) : State :=
  let bit := BitVec.ofNat 4 (2 ^ g)
  if mv < 16000 then
    let s1 : State := { s with fio.fail := s.fio.fail ||| bit, fio.okSince := del g s.fio.okSince }
    if s.fio.fail.getLsbD g then s1 else raise FIO_EVENTS_GRP_FAIL s1
  else if !s.fio.fail.getLsbD g then s
  else if mv ≤ 17000 then { s with fio.okSince := del g s.fio.okSince }
  else
    let since := lookD s.fio.okSince g s.now
    if s.now ≥ since + msec 10 then { s with fio.fail := s.fio.fail &&& ~~~bit, fio.okSince := del g s.fio.okSince }
    else { s with fio.okSince := put g since s.fio.okSince }

/-- OV: above 31.0 V, until below 30.5 V. -/
def measureOv (g mv : Nat) (s : State) : State :=
  let bit := BitVec.ofNat 4 (2 ^ g)
  if mv > 31000 ∧ !s.fio.ov.getLsbD g then raise FIO_EVENTS_GRP_OV { s with fio.ov := s.fio.ov ||| bit }
  else if mv < 30500 then { s with fio.ov := s.fio.ov &&& ~~~bit }
  else s

/-- A group is OK again (R288): its outputs wait for the next command, and the encoder interfaces start from the levels as they
stand. -/
def groupBack (g : Nat) (s : State) : State :=
  let s1 : State := { s with fio.word := s.fio.word &&& ~~~(BitVec.ofNat 32 (0xFF * 2 ^ (8 * g))) }
  let s2 := forEach ((List.range 8).map (8 * g + ·)) s1 fun n s =>
    if trellisOwned s n then setChan n (fun c => { c with taken := false, atSafe := true }) s else s
  if g < 2 then forEach (List.range 4) s2 takeLevels else s2

/-- One group's measurement: its flags, and the stages and encoders of a group that has left OK. -/
def measureGroup (g mv : Nat) (s : State) : State :=
  let was := groupBad s g
  let s1 := s |> fput (FIO_GRP_STAT_LP_MV g) mv |> measureWarn g mv |> measureFail g mv |> measureOv g mv
  let bad := groupBad s1 g
  let s2 := s1 |> fput (FIO_GRP_STAT_OK g) (if bad then 0 else 1)
    |> fput (FIO_GRP_STAT_OV g) (if s1.fio.ov.getLsbD g then 1 else 0) |> fputBit FIO_STATUS_GROUP_OK g (!bad)
  if bad ∧ !was then
    forEach ((List.range 8).map (8 * g + ·)) s2 fun n s =>
      let s3 := if isOutput s n then setLevel n false s else s
      encoderFault n s3
  else if was ∧ !bad then groupBack g s2
  else s2

/-- GROUP_SUPPLY_MEASURE: every 100 µs, with a phase of its own, which is free. -/
def execGroupSupplyMeasure (mv0 mv1 mv2 mv3 : Nat) (s : State) : Host.Outcome State Fault Refusal :=
  .next (
    let (s0, k) := fresh s
    let t := match s.fio.measAt with
      | some t => t + usec 100
      | none => s.now + Config.freeNat k % usec 100
    let s1 := advance t { s0 with fio.measAt := some t }
    s1 |> measureGroup 0 mv0 |> measureGroup 1 mv1 |> measureGroup 2 mv2 |> measureGroup 3 mv3)

/-! ### Commands (R291) -/

def clearLatchCard : Card := { op := 0x0901, params := [(32, 4)], active := true }

/-- FIO_CLEAR_LATCH. -/
def execFioClearLatch (d : Desc) (s : State) : Host.Outcome State Fault Refusal :=
  .next (command clearLatchCard d (fun _ => none) (deferCmd 0x0901 d .clearLatch) s)

/-- CLEAR_LATCH_APPLY: the latched open state of each named lead or channel ends. -/
def execClearLatchApply (s : State) : Host.Outcome State Fault Refusal :=
  .next (deferredRow (· = .clearLatch) (fun _ _ => none)
    (fun x s => (forEach (setBits 32 (paramN x.job.d 32 4)) s fun n s =>
      if fbit s (FIO_CH_STAT_LATCHED n) then closeSwitches n s else s, 0)) s)

def fioReleaseCard : Card := { op := 0x0902, params := [(32, 1)], active := true }

/-- FIO_RELEASE. -/
def execFioRelease (d : Desc) (s : State) : Host.Outcome State Fault Refusal :=
  .next (command fioReleaseCard d (fun s => firstOf [(ctl s ≠ 3, 0x01, 0x0010), (param d 32 > 15, 0x02, 0x0111)])
    (deferCmd 0x0902 d .release) s)

/-- Groups leave the safe state of R286; their channels take the next command, and a gang that is open opens. -/
def releaseGroups (mask : Nat) (s : State) : State :=
  let s1 := openStages { s with fio.safeLatched := s.fio.safeLatched &&& ~~~(BitVec.ofNat 4 mask) }
  forEach (setBits 4 mask) s1 (fun g s => fput (FIO_GRP_STAT_SAFE g) 0 s)
    |> fun s => fput FIO_STATUS_SAFE_LATCHED (if s.fio.safeLatched = 0 then 0 else 1) s

/-- GROUP_RELEASE_APPLY. -/
def execGroupReleaseApply (s : State) : Host.Outcome State Fault Refusal :=
  .next (deferredRow (· = .release) (fun _ s => if ctl s ≠ 3 then some 0x0010 else none)
    (fun x s => (releaseGroups (param x.job.d 32) s, 0)) s)

/-- The 276 bytes of FIO_READ. -/
def fioBytes (s : State) : List Byte :=
  let reg := fun o => le 4 (regWord s o).toNat
  (List.range 32).flatMap (fun n => reg (0x5104 + 16 * n) ++ reg (0x5108 + 16 * n))
    ++ (List.range 4).flatMap (fun g => reg (0x5044 + 8 * g)) ++ reg 0x5014

def fioReadCard : Card := { op := 0x0903, buf := .writes, svc := .open_ }

/-- FIO_READ: RESULT is the number of bytes written, as far as the buffer holds them. -/
def execFioRead (d : Desc) (s : State) : Host.Outcome State Fault Refusal :=
  .next (command fioReadCard d (fun _ => none)
    (immediate 0x0903 d id (fun s => ((fioBytes s).take d.bufLen).length) (fun s => (fioBytes s).take d.bufLen)) s)

/-! ### The island's power-up state (R287, R500) -/

/-- The first configuration reaches the island as the controller enters READY: outputs go to their safe values. -/
def configureIsland (s : State) : State :=
  explicitSafe { s with fio.powerUp := false, fio.validAt := s.now, fio.silent := false } |> fput FIO_STATUS_CONFIGURED 1

/-- The island returns to its power-up state, in which every channel behaves as mode OFF; the explicit safe command goes
first. -/
def islandDown (s : State) : State :=
  let s1 := explicitSafe s
  forEach (List.range 32)
    { s1 with fio.powerUp := true, fio.silent := false, fio.timeouts := [], fio.safeLatched := 0, fio.word := 0, fio.inFrame := none }
    (fun n s => setChan n (fun c => { c with opened := false, active := 0 }) (setLevel n false s))
    |> fput FIO_STATUS_CONFIGURED 0

end Sys2Proof.Machine
end

