-- ==== Sys2Proof/Machine/Watch.lean ====
section
/-! DEFINITION. The system watchdog's elapsed time (R419, R421) and its WARNING (R420, R422, R423). -/

namespace Sys2Proof.Machine

open Reg

/-- Elapsed time counts up to an instant (R419). -/
def elapsedAt (s : State) (t : Nat) : Nat :=
  t - s.sup.ref - s.sup.notCounted - (s.sup.suspAt.elim 0 (fun u => t - u))

/-- A debugger has halted a service core (R406). -/
def serviceHalted (s : State) : Bool := [8, 9, 10, 11].any (fun c => (core s c).halted)

/-- DORMANT entry is in progress (R432). -/
def enteringDormant (s : State) : Bool := s.sup.powerJob.elim false (fun x => x.2.1 = 3)

/-- Counting is suspended: a busy stall on the NV store, a halted service core, or DORMANT from its entry until the firmware runs
again (R421). -/
def watchSuspended (s : State) : Bool :=
  !s.nv.readWaits.isEmpty || serviceHalted s || enteringDormant s || power s = 3 || power s = 4 || ctl s = 0

/-- Follows a change of what suspends the count. A stall alone suspends for at most 8 ms. -/
def watchUpdate (s : State) : State :=
  match s.sup.suspAt, watchSuspended s with
  | none, true => { s with sup.suspAt := some s.now } |> fput WDG_STATUS_SUSPENDED 1
  | some _, true => s
  | some t, false =>
    { s with sup.suspAt := none, sup.notCounted := s.sup.notCounted + (s.now - t) } |> fput WDG_STATUS_SUSPENDED 0
  | none, false => s

/-- The end of a busy stall that began at `t`: counting resumed after 8 ms (R421). -/
def endStall (t : Nat) (s : State) : State :=
  if s.sup.suspAt.isSome ∧ !serviceHalted s ∧ s.now > t + msec 8 then
    { s with sup.suspAt := none, sup.notCounted := s.sup.notCounted + msec 8 }
      |> raise WDG_EVENTS_STALL_LONG |> fput WDG_STATUS_SUSPENDED 0
  else watchUpdate s

/-- The instant becomes the reference of the count. -/
def newReference (s : State) : State :=
  { s with sup.ref := s.now, sup.notCounted := 0, sup.suspAt := s.sup.suspAt.map (fun _ => s.now) }

/-- Evidence of a WARNING (R423): the PCs of C0–C7, those of S0–S3, whose code the manual does not give and which are free,
and the last valid serve. Cause 1 late, 2 early, 3 forced by an error, 4 forced by a runtime fault. -/
def evidence (cause : Nat) (s : State) : State :=
  if fget s WDG_CFG_EVIDENCE = 0 then s
  else
    let n := s.free
    let s1 : State := { s with free := n + 4 }
    let s2 := forEach (List.range 12) s1 fun i s =>
      fput (WDG_CAP_PC_PC i) (if i < 8 then (core s i).ctx.pc.toNat else (Config.freeBits 32 (n + i - 8)).toNat) s
    s2 |> fput WDG_CAP_TIME_TIME (fget s2 WDG_SERVE_TIME_TIME) |> fput WDG_CAP_INFO_VALID 1 |> fput WDG_CAP_INFO_CAUSE cause

/-- A WARNING (R420). -/
def warning (cause : Nat) (s : State) : State :=
  s |> fput WDG_STATUS_WARNING 1 |> raise WDG_EVENTS_WARNING |> interrupt 133
    |> log 9 .watchdogWarning cause 0 |> evidence cause |> newReference |> explicitFault

/-- A forced WARNING (R422); a further one changes nothing but the evidence of it that is already there. -/
def forceWarning (cause : Nat) (s : State) : State :=
  if fbit s WDG_STATUS_FORCED then s
  else warning cause s |> fput WDG_STATUS_FORCED 1 |> raise WDG_EVENTS_FORCED

end Sys2Proof.Machine
end

