-- ==== Sys2Proof/Machine/Nv.lean ====
section
/-! DEFINITION. The NV store (chapter 17): areas and passwords (R440–R443), page writes (R444–R446), twin records
(R448–R450). -/

namespace Sys2Proof.Machine

open Reg

/-! ### Reading twin records (R450) -/

/-- The registers show a conflict of a record's copies. -/
def noteConflict (id : RecId) (s : State) : State :=
  if (selectRecord s id).2 then
    s |> raise NVS_EVENTS_TWIN_CONFLICT |> fput NVS_CONFLICT_VALID 1 |> fput NVS_CONFLICT_ID (recordId id)
  else s

/-- The event recorder logs a conflict of a record's copies. -/
def logConflict (id : RecId) (s : State) : State :=
  if (selectRecord s id).2 then log 11 .twinConflict (recordId id) 0 s else s

/-- Reads a record while the event recorder runs. -/
def loadRecord (id : RecId) (s : State) : State × Option (List Byte) :=
  (logConflict id (noteConflict id s), recordData s id)

/-! ### Areas (R440) -/

/-- First addresses of the eight areas, and the end. -/
def nvBounds : List Nat := [0, 0x2000, 0x4000, 0x10000, 0x30000, 0x44000, 0x58000, 0x6C000, 0x80000]

/-- The area of an NV address; 8 beyond the store. -/
def nvArea (a : Nat) : Nat := ((List.range 8).find? (fun i => a < nvBounds.getD (i + 1) 0)).getD 8

/-- The user area of area code 4–7. -/
def userOf (area : Nat) : Fin 4 := Fin.ofNat 4 (area - 4)

def lockedOut (s : State) (u : Fin 4) : Bool := (fget s NVS_STATUS_LOCKOUT).testBit u

/-- The origin may read or write a user area (R441). -/
def nvOpen (s : State) (o : Origin) (u : Fin 4) (write : Bool) : Bool :=
  (passwordOf s (if write then .writePw u else .readPw u)).isNone || s.nv.unlocks.contains (o, u, write)

/-- AUTH of an access to a user area (R441, R443). -/
def nvAuth (s : State) (o : Origin) (area : Nat) (write : Bool) : Option (Nat × Nat) :=
  if area < 4 ∨ area > 7 ∨ nvOpen s o (userOf area) write then none
  else some (0x04, if lockedOut s (userOf area) then 0x0753 else 0x0751)

/-- A byte of the SYSTEM area: of the copy of a record that `Config` places there, or one that nothing has written. -/
def systemByte (s : State) (a : Nat) : Byte :=
  match Config.nvCell a with
  | some (k, toB, i) =>
    match records[k]? with
    | some id =>
      if k < 5 then (if toB then (twinOf s id).b else (twinOf s id).a).getD i (Config.nvByte a) else Config.nvByte a
    | none => Config.nvByte a
  | none => Config.nvByte a

/-- `n` bytes from an address: the factory area, the records of the SYSTEM area, the recorder's area and the user areas. The
SECURITY area is not read. -/
def nvBytes (s : State) (a n : Nat) : List Byte :=
  match nvArea a with
  | 0 => (List.range n).map (fun i => Config.factoryByte (a + i))
  | 2 => (List.range n).map (fun i => systemByte s (a + i))
  | _ => rdN s.nv.mem a n

/-! ### The queue of page writes (R445, R446) -/

/-- A page write may start: HOLDUP_SENSE at or above HOLDUP_MIN, and in POWERFAIL only the emergency record (R446, R436); in
SAG2 a consolidation waits (R466). -/
def pageMayStart (s : State) (w : PageWrite) : Bool :=
  match w.what with
  | .emergency _ _ => fget s PWR_HOLDUP_SENSE_MV ≥ fget s PWR_HOLDUP_MIN_MV
  | .consol _ _ => !holdupLow s && decide (sag s < 2)
  | _ => !holdupLow s

/-- The next page write: firmware writes first, then command writes in the order of acceptance. -/
def nextPage (s : State) : Option PageWrite :=
  match s.nv.queue.find? (fun w => w.fw && pageMayStart s w) with
  | some w => some w
  | none => s.nv.queue.find? (fun w => !w.fw && pageMayStart s w)

def queuePage (w : PageWrite) (s : State) : State := { s with nv.queue := s.nv.queue ++ [w] }

/-- A firmware write of a twin record; the copy and its SEQ are chosen when it starts. -/
def writeRecord (id : RecId) (data : List Byte) (job : Option Job) (s : State) : State :=
  queuePage { fw := true, what := .record id false 0 data, job } s

/-- Queued command writes that HOLDUP_LOW keeps from starting are aborted (R446). -/
def abortWrites (s : State) : State :=
  if holdupLow s then
    forEach (s.nv.queue.filterMap (·.job)) { s with nv.queue := s.nv.queue.filter (fun w => w.job.isNone) } fun jb s =>
      raise NVS_EVENTS_WRITE_REFUSED (ended jb 0x0A 0x0002 0 s)
  else s

/-- The copy and SEQ that a record write takes (R449). -/
def aimRecord (s : State) : PageData → PageData
  | .record id _ _ data =>
    match (selectRecord s id).1 with
    | none => .record id false 1 data
    | some (b, seq, _) => .record id (!b) ((seq + 1) % 2 ^ 32) data
  | w => w

/-- NV_PAGE_WRITE_START (R445): one write at a time, none while a read waits or in DORMANT. -/
def execNvPageWriteStart (s : State) : Host.Outcome State Fault Refusal :=
  .next (if s.nv.writing.isSome ∨ !s.nv.readWaits.isEmpty ∨ power s = 3 then s
    else
      let s1 := abortWrites s
      match nextPage s1 with
      | some w => { s1 with nv.queue := s1.nv.queue.erase w, nv.writing := some ({ w with what := aimRecord s1 w.what }, s1.now) }
      | none => s1)

/-- Bytes stand in the page of one copy of a twin record; the other copy stays. -/
def setTwin (id : RecId) (toB : Bool) (bytes : List Byte) (s : State) : State :=
  let t := twinOf s id
  let t1 : Twin := if toB then { t with b := bytes } else { t with a := bytes }
  { s with nv.twins := (id, t1) :: s.nv.twins.filter (fun p => p.1 ≠ id) }

/-- Bytes latched at an address wrap within their page (R444). -/
def latchPage (m : Mem) (a : Nat) (data : List Byte) : Mem :=
  data.zipIdx.foldl (fun m (b, i) => wr m (a / 128 * 128 + (a + i) % 128) b) m

/-- A transmitter takes the trim of its record: GAIN and OFFSET in 4 bytes each, a layout of the model's (log entry 43);
TRIM_DEFAULT falls, and a trim that asked for the record ends (R305, R306). -/
def takeTrim (x : Nat) (data : List Byte) (s : State) : State :=
  noteLoops s <|
  setLoop x (fun l => { l with trim := l.trim.filter (·.stage ≠ 3) }) s
    |> fput (LPT_LT_TRIM_GAIN_GAIN x) (leAt data 0 4) |> fput (LPT_LT_TRIM_OFFSET_OFFSET x) (leAt data 4 4)
    |> fput (LPT_LT_STAT_TRIM_DEFAULT x) 0

/-- What follows a record that has been written. -/
def recordWritten (id : RecId) (data : List Byte) (s : State) : State :=
  match id with
  | .lptTrim0 => takeTrim 0 data s
  | .lptTrim1 => takeTrim 1 data s
  | _ => s

/-- What a page write leaves. -/
def programPage (w : PageData) (s : State) : State :=
  match w with
  | .bytes a data => { s with nv.mem := latchPage s.nv.mem a data }
  | .record id toB seq data => recordWritten id data (setTwin id toB (copyBytes id seq data) s)
  | .consol a data => { s with nv.mem := latchPage s.nv.mem a data }
  | .emergency a data => { s with nv.mem := latchPage s.nv.mem a data }

/-- Reads that waited for the page write are served (R445). -/
def serveReads (s : State) : State :=
  forEach s.nv.readWaits { s with nv.readWaits := [] } fun jb s =>
    let n := paramN jb.d 36 4
    done jb n (nvBytes s (paramN jb.d 32 4) n) s

/-- NV_PAGE_WRITE_DONE (R444, R445): the page is programmed after t_WR, given in µs and at most 4 ms, and its command
completes. -/
def pageDone (w : PageWrite) (t0 tWr : Nat) (s : State) : State :=
  let us := min tWr 4000
  let s1 := advance (t0 + usec us) { s with nv.writing := none }
  let s2 := programPage w.what s1 |> bumpWrap NVS_WRITES_COUNT 1 |> fput NVS_TWR_LAST_US us |> bumpMax NVS_TWR_MAX_US us
  let s3 := match w.job with
    | some jb => ended jb 0 0 (match w.what with
        | .bytes _ _ => us
        | _ => 0) s2
    | none => s2
  if s3.nv.readWaits.isEmpty then s3 else endStall (s3.sup.suspAt.getD s3.now) (serveReads s3)

/-! ### NVS_READ and NVS_WRITE (R457) -/

def nvsReadCard : Card := { op := 0x0B01, params := [(32, 4), (36, 4)], buf := .writes }

def nvsReadChecks (d : Desc) (s : State) : Option (Nat × Nat) :=
  let a := paramN d 32 4
  let n := paramN d 36 4
  (nvAuth s d.origin (nvArea a) false).or (firstOf [(nvArea a = 1, 0x05, 0x0750),
    (n = 0 ∨ n > 65536 ∨ n > d.bufLen ∨ nvArea a = 8 ∨ nvArea (a + n - 1) ≠ nvArea a, 0x02, 0x0111)])

/-- A read waits while a page write runs, and a service core stalls with it (R421, R445). -/
def nvsReadEffect (d : Desc) (s : State) : State :=
  let (s1, jb) := accept 0x0B01 d 0 s
  let s2 : State := { s1 with nv.readWaits := s1.nv.readWaits ++ [jb] }
  if s1.nv.writing.isSome then watchUpdate s2 else serveReads s2

/-- NVS_READ. -/
def execNvsRead (d : Desc) (s : State) : Host.Outcome State Fault Refusal :=
  .next (command nvsReadCard d (nvsReadChecks d) (nvsReadEffect d) s)

def nvsWriteCard : Card := { op := 0x0B02, params := [(32, 4), (36, 4)], buf := .reads }

def nvsWriteChecks (d : Desc) (s : State) : Option (Nat × Nat) :=
  let a := paramN d 32 4
  let n := paramN d 36 4
  (nvAuth s d.origin (nvArea a) true).or (firstOf [(holdupLow s, 0x01, 0x0002), (nvArea a < 4, 0x05, 0x0750),
    (n = 0 ∨ n > 128 ∨ n ≠ d.bufLen ∨ nvArea a = 8, 0x02, 0x0111)])

/-- WRITE_REFUSED records a refusal under R446. -/
def noteHold (r : Nat × Nat) (s : State) : State := if r = (0x01, 0x0002) then raise NVS_EVENTS_WRITE_REFUSED s else s

/-- NVS_WRITE. -/
def execNvsWrite (d : Desc) (s : State) : Host.Outcome State Fault Refusal :=
  .next (judged nvsWriteCard d (nvsWriteChecks d) noteHold
    (fun s =>
      let (s1, jb) := accept 0x0B02 d 0 s
      queuePage { fw := false, what := .bytes (paramN d 32 4) d.buf, job := some jb } s1) s)

/-! ### NVS_UNLOCK (R441–R443) -/

def unlockCard (op : Nat) : Card :=
  { op := 0x0B03, params := [(32, 1), (33, 1)], buf := if op = 0 then .none else .reads }

/-- Area, operation and password of an NVS_UNLOCK. -/
def unlockForm (d : Desc) : Bool :=
  param d 32 < 4 ∨ param d 32 > 7 ∨ param d 33 > 4 ∨ (param d 33 ≠ 0 ∧ d.buf.length ≠ 16)

def unlockUser (d : Desc) : Fin 4 := userOf (param d 32)

/-- The password that an unlock must give does not match (R441). -/
def wrongPassword (d : Desc) (s : State) : Bool :=
  (param d 33 = 1 ∧ ((passwordOf s (.readPw (unlockUser d))).elim false (· ≠ d.buf)))
    ∨ (param d 33 = 2 ∧ ((passwordOf s (.writePw (unlockUser d))).elim false (· ≠ d.buf)))

/-- The origin may set a password: the write unlock, or no write password (R442). -/
def maySetPw (d : Desc) (s : State) : Bool := nvOpen s d.origin (unlockUser d) true

def unlockChecks (d : Desc) (s : State) : Option (Nat × Nat) :=
  let setting := decide (param d 33 ≥ 3)
  firstOf [(!unlockForm d && lockedOut s (unlockUser d), 0x04, 0x0753),
    (!unlockForm d && wrongPassword d s, 0x04, 0x0752),
    (!unlockForm d && setting && !maySetPw d s, 0x04, 0x0751),
    (!unlockForm d && setting && holdupLow s, 0x01, 0x0002),
    (unlockForm d, 0x02, 0x0111)]

def failsOf (s : State) (u : Fin 4) : Nat := bits (fget s NVS_PW_FAILS_FAILS) (4 * u) 4

def setFails (u : Fin 4) (n : Nat) (s : State) : State :=
  let old := fget s NVS_PW_FAILS_FAILS
  fput NVS_PW_FAILS_FAILS (old - failsOf s u * 2 ^ (4 * u.val) + n * 2 ^ (4 * u.val)) s

/-- A wrong password counts, and the eighth in a row locks the area out (R443). -/
def countWrong (u : Fin 4) (s : State) : State :=
  let n := min 8 (failsOf s u + 1)
  let s1 := setFails u n (raise NVS_EVENTS_PW_FAIL s)
  if n < 8 then s1
  else { s1 with nv.unlocks := s1.nv.unlocks.filter (fun x => x.2.1 ≠ u) }
    |> fputBit NVS_STATUS_LOCKOUT u true |> raise NVS_EVENTS_LOCKOUT |> interrupt 134

/-- What a refused NVS_UNLOCK leaves: the count of a wrong password, or WRITE_REFUSED. -/
def unlockNotes (d : Desc) (r : Nat × Nat) (s : State) : State :=
  if r = (0x04, 0x0752) then countWrong (unlockUser d) s else noteHold r s

/-- An NVS_UNLOCK of one operation. The checks read the counts as they were before the command. -/
def unlockCommand (d : Desc) (effect : State → State) (s : State) : State :=
  judged (unlockCard (param d 33)) d (unlockChecks d) (unlockNotes d) effect s

/-- The unlock gave a password that is in force, which resets the count; an area without one counts nothing (R441, R443). -/
def rightPassword (d : Desc) (write : Bool) (s : State) : State :=
  if (passwordOf s (if write then .writePw (unlockUser d) else .readPw (unlockUser d))).isSome then setFails (unlockUser d) 0 s
  else s

/-- An unlock is granted to the origin, and a correct password returns the count to 0. -/
def grantUnlock (d : Desc) (write : Bool) (s : State) : State :=
  immediate 0x0B03 d
    (fun s => rightPassword d write { s with nv.unlocks := (d.origin, unlockUser d, write) :: s.nv.unlocks })
    (fun _ => 0) (fun _ => []) s

/-- A password record is written; the completion follows the page write. -/
def setPassword (d : Desc) (id : RecId) (s : State) : State :=
  let (s1, jb) := accept 0x0B03 d 0 s
  writeRecord id d.buf (some jb) s1

/-- NVS_LOCK: op LOCK; an undefined op is refused here too. -/
def execNvsLock (d : Desc) (s : State) : Host.Outcome State Fault Refusal :=
  .next (if 1 ≤ param d 33 ∧ param d 33 ≤ 4 then s
    else unlockCommand d (immediate 0x0B03 d
      (fun s => { s with nv.unlocks := s.nv.unlocks.filter (fun x => ¬(x.1 = d.origin ∧ x.2.1 = unlockUser d)) })
      (fun _ => 0) (fun _ => [])) s)

/-- UNLOCK_READ. -/
def execUnlockRead (d : Desc) (s : State) : Host.Outcome State Fault Refusal :=
  .next (if param d 33 = 1 then unlockCommand d (grantUnlock d false) s else s)

/-- UNLOCK_WRITE. -/
def execUnlockWrite (d : Desc) (s : State) : Host.Outcome State Fault Refusal :=
  .next (if param d 33 = 2 then unlockCommand d (grantUnlock d true) s else s)

/-- SET_READ_PW. -/
def execSetReadPw (d : Desc) (s : State) : Host.Outcome State Fault Refusal :=
  .next (if param d 33 = 3 then unlockCommand d (setPassword d (.readPw (unlockUser d))) s else s)

/-- SET_WRITE_PW. -/
def execSetWritePw (d : Desc) (s : State) : Host.Outcome State Fault Refusal :=
  .next (if param d 33 = 4 then unlockCommand d (setPassword d (.writePw (unlockUser d))) s else s)


/-! ### The pair's epoch record (R194) -/

/-- EPOCH_RECORD_WRITE: within 20 ms of a change of E the firmware writes PAIR_EPOCH. -/
def execEpochRecordWrite (s : State) : Host.Outcome State Fault Refusal :=
  .next (if s.red.epochDue.isSome then
      writeRecord .pairEpoch (le 4 (fget s RED_EPOCH_EPOCH)) none { s with red.epochDue := none }
    else s)

end Sys2Proof.Machine
end

