-- ==== Sys2Proof/Machine/Loop.lean ====
section
/-! DEFINITION. The loop transmitters (chapter 11): the loop link (R294, R299, R300), faults (R295–R297), readback (R298),
HART (R301–R304), the two-point trim (R305, R306) and the commands (R309). The target is `loopTarget` (R293). -/

namespace Sys2Proof.Machine

open Reg

/-! ### The loop link -/

/-- LOOP_OUTPUT_REFRESH: 1 ms after the previous frame. -/
def execLoopOutputRefresh (x : Fin 2) (s : State) : Host.Outcome State Fault Refusal :=
  .next (if (loop s x).frame.isSome ∨ loopPowerUp s x ∨ logicOff s then s else sendLoop x (advance ((loop s x).frameAt + msec 1) s))

/-- The command is outside the range of R292, whatever sets the target. -/
def clamped (s : State) (x : Nat) : Bool :=
  let l := loop s x
  !loopPowerUp s x ∧ clampLoop l.word ≠ l.word

/-- A valid frame at the island: a hold and the safe state end, and the word is the command (R300). -/
def loopWordIn (x w : Nat) (s : State) : State :=
  let l := loop s x
  let s1 := changeLoop x (fun l => { l with validAt := s.now, silent := false, safeOnTimeout := false, hold := none, word := w }) s
    |> fput (LPT_LT_STAT_HOLDING x) 0
  let s2 := if l.silent ∨ l.safeOnTimeout then raise (LPT_LT_FLAGS_LINK_RETURN x) s1 else s1
  if clamped s2 x then raise (LPT_LT_FLAGS_CLAMP x) s2 else s2

/-- A frame of the loop link that fails its CRC is discarded and counted (R299). -/
def loopCrc (x : Nat) (s : State) : State :=
  s |> setLoop x (fun l => { l with crcErrors := l.crcErrors + 1 }) |> raise (LPT_LT_FLAGS_CRC_ERR x)

/-- LOOP_FRAME_RECEIVE. An island without loop power receives nothing. -/
def execLoopFrameReceive (x : Fin 2) (crcOk : Bool) (s : State) : Host.Outcome State Fault Refusal :=
  .next (match (loop s x).frame with
    | some w =>
      let s1 := setLoop x (fun l => { l with frame := none }) s
      if !(loop s x).powered ∨ (loop s x).powerUp then s1
      else if crcOk then loopWordIn x w s1 else loopCrc x s1
    | none => s)

/-- LOOP_LINK_SILENCE: 5 ms without a valid frame; the island holds, and a trim ends with the link. -/
def execLoopLinkSilence (x : Fin 2) (s : State) : Host.Outcome State Fault Refusal :=
  .next (
    let l := loop s x
    if l.silent ∨ !l.powered ∨ l.powerUp then s
    else
      advance (l.validAt + msec 5) s |> changeLoop x (fun l => { l with silent := true, trim := none })
        |> (fun s => setLoop x (fun l => { l with hold := some (loopTarget s x) }) s)
        |> fput (LPT_LT_STAT_HOLDING x) 1)

/-- LOOP_SAFE_TIMEOUT: SAFE_TIMEOUT after the last valid frame the target becomes SAFE_UA, before the link counts as silent too. -/
def execLoopSafeTimeout (x : Fin 2) (s : State) : Host.Outcome State Fault Refusal :=
  .next (
    let l := loop s x
    let t := fget s (LPT_LT_CFG_SAFE_TIMEOUT x)
    if l.powered ∧ !l.powerUp ∧ t ≠ 0xFFFF ∧ !l.safeOnTimeout then
      advance (l.validAt + msec t) s |> changeLoop x (fun l => { l with safeOnTimeout := true })
        |> raise (LPT_LT_FLAGS_TIMEOUT_SAFE x)
    else s)

/-- LOOP_READBACK_SILENCE: the logic side has had no valid readback frame for 5 ms. -/
def execLoopReadbackSilence (x : Fin 2) (s : State) : Host.Outcome State Fault Refusal :=
  .next (if fbit s (LPT_LT_STAT_LINK_UP x) then
      advance ((loop s x).rxAt + msec 5) s |> cancelTrim x |> fput (LPT_LT_STAT_LINK_UP x) 0
    else s)

/-! ### Faults (R295–R297) -/

/-- A fault of a transmitter goes to the event recorder too (R304). -/
def loopFault (x : Nat) (f : Field) (s : State) : State := s |> raise f |> log 7 .loopFault x f.lsb

/-- COMPLIANCE_DETECT. -/
def execComplianceDetect (x : Fin 2) (s : State) : Host.Outcome State Fault Refusal :=
  .next (if (loop s x).powered then
      s |> setLoop x (fun l => { l with compliance := true, devSince := none }) |> loopFault x (LPT_LT_FLAGS_COMPLIANCE x)
    else s)

/-- COMPLIANCE_CLEAR. -/
def execComplianceClear (x : Fin 2) (s : State) : Host.Outcome State Fault Refusal :=
  .next (s |> setLoop x (fun l => { l with compliance := false }) |> fput (LPT_LT_FLAGS_COMPLIANCE x) 0)

/-- An enabled transmitter compares readback and target outside the power-up state, without COMPLIANCE or MISWIRE, while the target has
stood for 100 ms (R296). -/
def compares (s : State) (x : Nat) : Bool :=
  let l := loop s x
  fbit s (LPT_LT_CFG_EN x) && !loopPowerUp s x && !l.compliance && !l.miswire && decide (s.now ≥ l.targetAt + msec 100)

/-- What a conversion says of the deviation: since when it has been more than 80 µA, and since when within 40 µA (R296). -/
def noteDeviation (x na : Nat) (s : State) : State :=
  let away := ((na : Int) - (loopTarget s x).1).natAbs
  let far := compares s x && decide (away > 80000)
  setLoop x (fun l => { l with
    devSince := if far then l.devSince.or (some s.now) else none
    nearSince := if away ≤ 40000 then l.nearSince.or (some s.now) else none }) s

/-- READBACK_DEV_DETECT: the deviation has lasted 1 s under the conditions of R296. -/
def execReadbackDevDetect (x : Fin 2) (s : State) : Host.Outcome State Fault Refusal :=
  .next (match (loop s x).devSince with
    | some t =>
      if compares s x ∧ (loop s x).targetAt + msec 100 ≤ t then
        advance (t + secs 1) s |> setLoop x (fun l => { l with dev := true }) |> loopFault x (LPT_LT_FLAGS_READBACK_DEV x)
      else s
    | none => s)

/-- READBACK_DEV_CLEAR: the readback has stood within 40 µA for 1 s (R296). -/
def execReadbackDevClear (x : Fin 2) (s : State) : Host.Outcome State Fault Refusal :=
  .next (match (loop s x).nearSince with
    | some t =>
      advance (t + secs 1) s |> setLoop x (fun l => { l with dev := false }) |> fput (LPT_LT_FLAGS_READBACK_DEV x) 0
    | none => s)

/-- A request that will have no reply: its token is given up (R303). -/
def dropRequest (l : Loop) : Loop :=
  { l with req := none, replaced := match l.req with
      | some r => r.token :: l.replaced
      | none => l.replaced }

/-- MISWIRE_DETECT: fold-back, HART off, and a trim is cancelled. -/
def execMiswireDetect (x : Fin 2) (s : State) : Host.Outcome State Fault Refusal :=
  .next (if (loop s x).powered then
      s |> changeLoop x (fun l => { dropRequest l with miswire := true, trim := none, devSince := none }) |> loopFault x (LPT_LT_FLAGS_MISWIRE x)
    else s)

/-- MISWIRE_CLEAR. -/
def execMiswireClear (x : Fin 2) (s : State) : Host.Outcome State Fault Refusal :=
  .next (s |> changeLoop x (fun l => { l with miswire := false }) |> fput (LPT_LT_FLAGS_MISWIRE x) 0)

/-! ### Readback (R298) -/

/-- FLAGS of a readback record. -/
def loopFlags (s : State) (x : Nat) : Nat :=
  let l := loop s x
  let p := (loopTarget s x).2
  (if l.compliance then 1 else 0) + (if l.miswire then 2 else 0) + (if clamped s x then 4 else 0)
    + (if p = 2 ∨ p = 5 then 8 else 0) + (if l.trim.isSome then 16 else 0) + (if l.dev then 32 else 0)
    + (if hartOn s x then 64 else 0)

/-- A readback record, its registers and its write into the image. -/
def readbackIn (x na mv t : Nat) (s : State) : State :=
  let rec_ := le 4 na ++ le 2 mv ++ le 2 (loopFlags s x) ++ le 8 t
  let s1 := setLoop x (fun l => { l with rxAt := s.now, readbacks := (rec_ :: l.readbacks).take 16 }) s
    |> fput (LPT_LT_STAT_LINK_UP x) 1 |> fput (LPT_LT_CURRENT_NA x) na |> fput (LPT_LT_STAT_TERM_MV x) mv
  if fbit s1 (LPT_LT_MAP_IN_EN x) then
    writeBytes (fun n i => { i with loopAt := put x n i.loopAt }) [(fget s1 (LPT_LT_MAP_IN_ADDR x) * 16, rec_)] s1
  else s1

/-- LOOP_READBACK_CONVERSION: every 250 µs; the record follows within 30 µs. -/
def execLoopReadbackConversion (x : Fin 2) (currentNa termMv : Nat) (crcOk : Bool) (s : State) :
    Host.Outcome State Fault Refusal :=
  .next (if !(loop s x).powered ∨ (loop s x).powerUp ∨ logicOff s then s
    else
      let s1 := advance (((loop s x).convAt.map (· + usec 250)).getD s.now) s
      let s2 := noteDeviation x currentNa (setLoop x (fun l => { l with convAt := some s1.now }) s1)
      if !crcOk then loopCrc x s2
      else
        let (s3, k) := fresh s2
        readbackIn x currentNa termMv (nsNow s1) (advance (s1.now + Config.freeNat k % (usec 30 + 1)) s3))

/-! ### Configuration of an island (R299, R305, R380) -/

def trimRecord (x : Nat) : RecId := if x = 0 then .lptTrim0 else .lptTrim1

/-- The island runs its firmware and has its configuration and its trim: it leaves the power-up state. -/
def configureLoop (x : Nat) (s : State) : State :=
  let (s1, data) := loadRecord (trimRecord x) s
  let s2 := match data with
    | some d => takeTrim x d s1
    | none => s1 |> fput (LPT_LT_TRIM_GAIN_GAIN x) 0x40000000 |> fput (LPT_LT_TRIM_OFFSET_OFFSET x) 0
        |> fput (LPT_LT_STAT_TRIM_DEFAULT x) 1
  s2 |> changeLoop x (fun l => { l with powerUp := false, deferred := false, validAt := s2.now, silent := false, hold := none })
     |> fput (LPT_LT_STAT_CONFIGURED x) 1

/-- The island returns to its power-up state (R293, R382). -/
def loopDown (x : Nat) (s : State) : State :=
  s |> changeLoop x (fun l => { dropRequest l with powerUp := true, trim := none, silent := false, safeOnTimeout := false, hold := none })
    |> fput (LPT_LT_STAT_CONFIGURED x) 0

/-- LOOP_POWER_APPEAR: a deferred island is loaded by the service firmware; whether the load succeeds is free, and one that
fails leaves CONFIGURED at 0, with or without frames that fail their CRC (R380). -/
def execLoopPowerAppear (x : Fin 2) (s : State) : Host.Outcome State Fault Refusal :=
  .next (
    let s1 := setLoop x (fun l => { l with powered := true, powerUp := true }) s
    if boot s1 = 4 then
      let (s2, k) := fresh (emit (.islandImage (3 + x) (s1.boot.region.getD 3 [])) s1)
      if (Config.freeBits 2 k).getLsbD 0 then
        if (Config.freeBits 2 k).getLsbD 1 then loopCrc x s2 else s2
      else
        let s3 := configureLoop x s2
        if !(loop s3 0).deferred ∧ !(loop s3 1).deferred then fput (BOOT_COMP_STAT_STATE 3) 1 s3 else s3
    else s1)

/-! ### HART (R301–R304) -/

/-- Exclusive or of bytes: the check byte of HART. -/
def xorBytes (bs : List Byte) : Byte := bs.foldl (· ^^^ ·) 0

/-- A request of a master, read from its bytes after the preambles: delimiter 0x02 with one address byte or 0x82 with five, whose
first bit is 1 for the primary master and whose second is 0, command, byte count, data and check byte (R301; the field places are
those of HART revision 7, log entry 44). -/
def hartParse (bs : List Byte) (token : Half) (at_ : Nat) : Option HartReq :=
  let long := bs.headD 0 = 0x82
  let n := if long then 5 else 1
  let a := beAt bs 1 n
  let len := leAt bs (2 + n) 1
  if (bs.headD 0 = 0x02 ∨ long) ∧ bs.length = 4 + n + len ∧ xorBytes bs = 0 ∧ !a.testBit (8 * n - 2) then
    some { token, long, primary := a.testBit (8 * n - 1), addr := a % 2 ^ (8 * n - 2), cmd := BitVec.ofNat 8 (leAt bs (1 + n) 1)
           data := (bs.drop (3 + n)).take len, at_ }
  else none

/-- The address is the transmitter's: POLL_ADDR, UNIQUE, or the broadcast address of 38 zeros (R301; log entry 44). -/
def hartForMe (s : State) (x : Nat) (r : HartReq) : Bool :=
  if r.long then r.addr = 0 || r.addr = fget s (LPT_LT_HART_ID_UNIQUE x) else r.addr = fget s (LPT_LT_CFG_POLL_ADDR x)

/-- The request that the data link accepts: HART on, at least two preambles, and a frame for this transmitter (R301, R303). -/
def hartAccepts (s : State) (x : Nat) (f : HartFrame) : Option HartReq :=
  if hartOn s x ∧ f.raw.take 2 = [0xFF, 0xFF] then
    (hartParse (f.raw.dropWhile (· = 0xFF)) (loop s x).nextToken s.now).filter (hartForMe s x)
  else none

/-- HART_REQUEST_RECEIVE: the request replaces an earlier one and is posted to the host. A standby passes none to the host, so
that the data link answers it Busy (R303, R307). -/
def execHartRequestReceive (x : Fin 2) (f : HartFrame) (s : State) : Host.Outcome State Fault Refusal :=
  .next (
    let s1 := advance f.at_ s
    match hartAccepts s1 x f with
    | none => s1
    | some r =>
      let s2 := setLoop x (fun l => { dropRequest l with req := some r, nextToken := r.token + 1 }) s1
      if standby s1 then s2
      else s2 |> bump (LPT_LT_HART_COUNT_REQUESTS x) 1 |> event 7 0x401 (x.val + 2 ^ 16 * r.token.toNat) 0)

/-- The module's own bits of the device status (R304). -/
def deviceStatus (s : State) (x : Nat) : Nat :=
  let l := loop s x
  let p := (loopTarget s x).2
  (if l.dev then 0x80 else 0) + (if 1 ≤ p ∧ p ≤ 5 then 0x08 else 0) + (if l.compliance ∨ clamped s x then 0x04 else 0)

/-- A response frame (R302 step 4); preamble, delimiters, the master that asked and check byte as HART revision 7 has them (log
entry 44). -/
def hartFrame (s : State) (x : Nat) (r : HartReq) (code status : Nat) (data : List Byte) : List Byte :=
  let n := if r.long then 5 else 1
  let body := le 1 (if r.long then 0x86 else 0x06) ++ be n (r.addr + (if r.primary then 2 ^ (8 * n - 1) else 0)) ++ [r.cmd]
    ++ le 1 (2 + data.length) ++ le 1 code ++ le 1 (status ||| deviceStatus s x) ++ data
  List.replicate (fget s (LPT_LT_CFG_PREAMBLES x)) 0xFF ++ body ++ [xorBytes body]

/-- HART_REPLY_TIMEOUT: 200 ms after the request the data link answers Busy, unless HART has gone off (R303). -/
def execHartReplyTimeout (x : Fin 2) (s : State) : Host.Outcome State Fault Refusal :=
  .next (match (loop s x).req with
    | some r =>
      let s1 := advance (r.at_ + msec 200) (setLoop x (fun l => { l with req := none }) s)
      if hartOn s1 x then s1 |> emit (.hart x (hartFrame s1 x r 32 0 [])) |> bump (LPT_LT_HART_COUNT_BUSY x) 1 else s1
    | none => s)

/-- The request that a token names in the transmitter of a command; ABORTED for one that was replaced, TIMEOUT for another
that no longer waits (R303). -/
def tokenCheck (d : Desc) (s : State) : Option (Nat × Nat) :=
  let token := BitVec.ofNat 16 (paramN d 34 2)
  let l := loop s (param d 32)
  if param d 32 > 1 then some (0x02, 0x0111)
  else match l.req with
    | some r => if r.token = token then none else some (if l.replaced.contains token then 0x0A else 0x06, 0)
    | none => some (if l.replaced.contains token then 0x0A else 0x06, 0)

def hartFetchCard : Card := { op := 0x0912, params := [(32, 1), (34, 2)], buf := .writes, svc := .no }

/-- LPT_HART_FETCH. -/
def execLptHartFetch (d : Desc) (s : State) : Host.Outcome State Fault Refusal :=
  .next (command hartFetchCard d (tokenCheck d)
    (immediate 0x0912 d id
      (fun s => (loop s (param d 32)).req.elim 0 (·.cmd.toNat))
      (fun s => ((loop s (param d 32)).req.elim [] (·.data)).take d.bufLen)) s)

def hartReplyCard : Card :=
  { op := 0x0913, params := [(32, 1), (33, 1), (34, 2), (36, 1)], buf := .reads, bufMax := 255, svc := .no, active := true }

/-- The response goes out with the host's content. -/
def hartReply (d : Desc) (s : State) : State :=
  let x := param d 32
  match (loop s x).req with
  | some r =>
    let s1 := setLoop x (fun l => { l with req := none }) s
    if hartOn s x then emit (.hart x (hartFrame s x r (param d 33) (param d 36) d.buf)) s1 else s1
  | none => s

/-- LPT_HART_REPLY. -/
def execLptHartReply (d : Desc) (s : State) : Host.Outcome State Fault Refusal :=
  .next (command hartReplyCard d
    (fun s => (tokenCheck d s).or (if ((loop s (param d 32)).req.any (fun r => s.now > r.at_ + msec 200)) then some (0x06, 0) else none))
    (immediate 0x0913 d (hartReply d) (fun _ => 0) (fun _ => [])) s)

/-! ### LPT_TRIM (R306) -/

def trimCard : Card := { op := 0x0911, params := [(32, 1), (33, 1), (36, 4)], active := true }

def trimOf_ (s : State) (d : Desc) : Option Trim := (loop s (param d 32)).trim

/-- A step of LPT_TRIM with its own state condition. -/
def trimStep (d : Desc) (bad : State → Bool) (more : State → Option (Nat × Nat)) (effect : State → State) (s : State) : State :=
  command trimCard d
    (fun s => (firstOf [(param d 32 ≤ 1 && bad s, 0x01, 0x0015), (param d 32 > 1 ∨ param d 33 > 3, 0x02, 0x0111)]).or (more s))
    effect s

/-- TRIM_BEGIN: the target is 4.000 mA untrimmed. -/
def execTrimBegin (d : Desc) (s : State) : Host.Outcome State Fault Refusal :=
  .next (if param d 33 = 0 then
      trimStep d (fun s => (trimOf_ s d).isSome || (loop s (param d 32)).miswire) (fun _ => none)
        (immediate 0x0911 d
          (fun s => changeLoop (param d 32) (fun l => { l with trim := some { stage := 1, stepAt := s.now } }) s)
          (fun _ => 0) (fun _ => [])) s
    else s)

/-- A point is recorded; the first moves on to 20.000 mA. -/
def trimPoint (d : Desc) (s : State) : State :=
  match trimOf_ s d with
  | some t =>
    let a := paramN d 36 4
    let t1 : Trim := if t.stage = 1 then { stage := 2, a1 := a, stepAt := s.now } else { t with stage := 3, a2 := a, stepAt := s.now }
    changeLoop (param d 32) (fun l => { l with trim := some t1 }) s
  | none => s

/-- TRIM_POINT: RESULT is the readback at the point. -/
def execTrimPoint (d : Desc) (s : State) : Host.Outcome State Fault Refusal :=
  .next (if param d 33 = 1 then
      let na := fget s (LPT_LT_CURRENT_NA (param d 32))
      trimStep d (fun s => !(trimOf_ s d).any (fun t => t.stage = 1 ∨ t.stage = 2)) (fun _ => none)
        (immediate 0x0911 d (trimPoint d) (fun _ => na) (fun _ => [])) s
    else s)

/-- α within 0.98–1.02 and |β| at most 200,000 nA. -/
def trimInRange (t : Trim) : Bool :=
  15680000 ≤ (t.a2 : Int) - t.a1 ∧ (t.a2 : Int) - t.a1 ≤ 16320000 ∧ (5 * (t.a1 : Int) - t.a2).natAbs ≤ 800000

/-- GAIN and OFFSET of the two points. -/
def trimData (t : Trim) : List Byte :=
  let span : Int := (t.a2 : Int) - t.a1
  let gain := nearest (16000000 * 2 ^ 30) span
  let offset := nearest (-(5 * (t.a1 : Int) - t.a2) * 4000000) span
  le 4 (ofInt 32 gain) ++ le 4 (ofInt 32 offset)

/-- TRIM_APPLY: the record is written, and the new trim and the completion follow the write. The trim stays at its second point until
then, so that a write that does not come leaves it as it was (R344). -/
def execTrimApply (d : Desc) (s : State) : Host.Outcome State Fault Refusal :=
  .next (if param d 33 = 2 then
      judged { trimCard with guards := [2] } d
        (fun s => firstOf [(param d 32 ≤ 1 && !(trimOf_ s d).any (fun t => t.stage = 3), 0x01, 0x0015),
          (param d 32 > 1, 0x02, 0x0111), (!(trimOf_ s d).any trimInRange, 0x05, 0x0214)]) noteHold
        (fun s =>
          match trimOf_ s d with
          | some t =>
            let (s1, jb) := accept 0x0911 d 0 s
            writeRecord (trimRecord (param d 32)) (trimData t) (some jb) s1
          | none => s) s
    else s)

/-- TRIM_CANCEL; an undefined step is refused here too. -/
def execTrimCancel (d : Desc) (s : State) : Host.Outcome State Fault Refusal :=
  .next (if param d 33 ≥ 3 then
      trimStep d (fun s => param d 33 = 3 ∧ (trimOf_ s d).isNone) (fun _ => none)
        (immediate 0x0911 d (cancelTrim (param d 32)) (fun _ => 0) (fun _ => [])) s
    else s)

/-- TRIM_IDLE_TIMEOUT: 600 s without a step. -/
def execTrimIdleTimeout (x : Fin 2) (s : State) : Host.Outcome State Fault Refusal :=
  .next (match (loop s x).trim with
    | some t => cancelTrim x (advance (t.stepAt + secs 600) s)
    | none => s)

/-! ### LPT_READ -/

/-- The registers of a transmitter, its target and the last 16 readback records, newest first; the layout is the model's
(log entry 41). -/
def lptBytes (s : State) (x : Nat) : List Byte :=
  (List.range 11).flatMap (fun i => le 4 (regWord s (0x5800 + 0x40 * x + 4 * i)).toNat) ++ le 4 (loopTarget s x).1
    ++ fit 256 ((loop s x).readbacks.flatMap id)

def lptReadCard : Card := { op := 0x0914, params := [(32, 1)], buf := .writes, svc := .open_ }

/-- LPT_READ. -/
def execLptRead (d : Desc) (s : State) : Host.Outcome State Fault Refusal :=
  .next (command lptReadCard d (fun _ => firstOf [(param d 32 > 1, 0x02, 0x0111)])
    (immediate 0x0914 d id (fun s => ((lptBytes s (param d 32)).take d.bufLen).length)
      (fun s => (lptBytes s (param d 32)).take d.bufLen)) s)

end Sys2Proof.Machine
end

