-- ==== Sys2Proof/Machine/Rtc.lean ====
section
/-! DEFINITION. The real-time clock (R451–R457). -/

namespace Sys2Proof.Machine

open Reg

/-! ### Calendar (R452, R455) -/

/-- Leap years by YEAR, 2000 + YEAR in the Gregorian rule. -/
def leap (year : Nat) : Bool := ((2000 + year) % 4 = 0 ∧ (2000 + year) % 100 ≠ 0) ∨ (2000 + year) % 400 = 0

def monthDays (year month : Nat) : Nat :=
  if month = 2 then (if leap year then 29 else 28) else if month ∈ [4, 6, 9, 11] then 30 else 31

/-- A time within the ranges of R452. -/
def validTime (r : RtcTime) : Bool :=
  r.sec < 60 ∧ r.min < 60 ∧ r.hour < 24 ∧ 1 ≤ r.month ∧ r.month ≤ 12 ∧ r.year < 200 ∧ 1 ≤ r.day
    ∧ r.day ≤ monthDays r.year r.month ∧ r.weekday < 7

/-- The second after a time; the second component says that YEAR wrapped. -/
def nextSecond (r : RtcTime) : RtcTime × Bool :=
  if r.sec < 59 then ({ r with sec := r.sec + 1 }, false)
  else if r.min < 59 then ({ r with sec := 0, min := r.min + 1 }, false)
  else if r.hour < 23 then ({ r with sec := 0, min := 0, hour := r.hour + 1 }, false)
  else
    let d : RtcTime := { r with sec := 0, min := 0, hour := 0, weekday := (r.weekday + 1) % 7 }
    if r.day < monthDays r.year r.month then ({ d with day := r.day + 1 }, false)
    else if r.month < 12 then ({ d with day := 1, month := r.month + 1 }, false)
    else if r.year < 199 then ({ d with day := 1, month := 1, year := r.year + 1 }, false)
    else ({ d with day := 1, month := 1, year := 0 }, true)

/-! ### Ticks and alarms (R452, R456) -/

/-- Match values of an alarm in the order of its mask bits: SEC, MIN, HOUR, DAY, MONTH, YEAR, WEEKDAY. -/
def alarmValues (s : State) (n : Nat) : List Nat :=
  [fget s (RTC_ALM_LO_SEC n), fget s (RTC_ALM_LO_MIN n), fget s (RTC_ALM_LO_HOUR n), fget s (RTC_ALM_LO_DAY n),
    fget s (RTC_ALM_HI_MONTH n), fget s (RTC_ALM_HI_YEAR n), fget s (RTC_ALM_HI_WEEKDAY n)]

def timeValues (r : RtcTime) : List Nat := [r.sec, r.min, r.hour, r.day, r.month, r.year, r.weekday]

/-- The alarm compares equal with a time. -/
def alarmMatches (s : State) (n : Nat) (r : RtcTime) : Bool :=
  (List.range 7).all fun k =>
    !(fget s (RTC_ALM_HI_MASK n)).testBit k || (alarmValues s n).getD k 0 = (timeValues r).getD k 0

/-- A wake source acts in DORMANT (R433): the wake is latched and recorded; during DORMANT entry it is held. Sources: 1 alarm 0,
2 alarm 1, 3 PERST_N. -/
def wake (source : Nat) (s : State) : State :=
  if power s = 3 ∧ s.sup.wakeAt.isNone then
    { s with sup.wakeAt := some s.now } |> fput PWR_WAKE_SOURCE source |> bumpWrap PWR_WAKE_COUNT 1
  else if enteringDormant s then { s with sup.wakeHeld := some (s.sup.wakeHeld.getD source) }
  else s

/-- An alarm fires. -/
def fireAlarm (n : Nat) (s : State) : State :=
  s |> raise (if n = 0 then RTC_EVENTS_ALM0 else RTC_EVENTS_ALM1) |> interrupt 134
    |> fun s => if fbit s (RTC_ALM_HI_WAKE n) then wake (n + 1) s else s

/-- The moment of the tick: one prescaler round of 32,768 crystal periods, 1 s, after the prescaler stood at 0 (R452;
DESIGN CHOICE, log entry 95). -/
def tickTime (s : State) : Nat := (s.rtc.prescaler.map (fun p => (p + (secs 1 : Int)).toNat)).getD s.now

/-- A second tick (R452, R456). -/
def secondTick (s0 : State) : State :=
  let s := advance (tickTime s0) s0
  let (r, wrapped) := nextSecond s.rtc.time
  let s1 : State := { s with rtc.time := r, rtc.latch := r, rtc.prescaler := some (tickTime s0 : Int) }
  let s2 := if wrapped then raise RTC_EVENTS_YEAR_WRAP s1 else s1
  forEach [0, 1] s2 fun n s => if fbit s (RTC_ALM_HI_EN n) && alarmMatches s n r then fireAlarm n s else s

/-- A valid commit waits for the next crystal edge: a tick at that edge is discarded (R454). -/
def commitWaits (s : State) : Bool :=
  [s.rtc.fw, s.rtc.bar0].any (fun p => p.commit && p.staging.any (fun r => validTime r))

/-- RTC_SECOND_TICK. -/
def execRtcSecondTick (s : State) : Host.Outcome State Fault Refusal :=
  .next (if s.rtc.counting && !commitWaits s then secondTick s else s)

/-! ### Shadows (R453) -/

/-- RTC_FREEZE_EXPIRY: 2 ms after the freeze. -/
def execRtcFreezeExpiry (fw : Bool) (s : State) : Host.Outcome State Fault Refusal :=
  .next (match (if fw then s.rtc.fw.shadow else s.rtc.bar0.shadow) with
    | some (_, t) =>
      let s1 := raise RTC_EVENTS_STALE_READ (advance (t + (msec 2 : Int)).toNat s)
      if fw then { s1 with rtc.fw.shadow := none } else { s1 with rtc.bar0.shadow := none }
    | none => s)

/-! ### Staging and commits (R454, R455) -/

/-- The staging set with one field of the registers' order written. -/
def stage (r : RtcTime) (i v : Nat) : RtcTime :=
  match i with
  | 0 => { r with sec := v }
  | 1 => { r with min := v }
  | 2 => { r with hour := v }
  | 3 => { r with day := v }
  | 4 => { r with month := v }
  | 5 => { r with weekday := v }
  | _ => { r with year := v }

/-- A staged time is set, or refused whole. -/
def commitTime (r : RtcTime) (s : State) : State :=
  if validTime r then
    { s with
      rtc.time := r
      rtc.prescaler := some (s.now : Int)
      rtc.lost := false
      rtc.counting := true
      rtc.bar0.shadow := none
      rtc.fw.shadow := none }
  else raise RTC_EVENTS_DATE_REJ s

/-- The commit that a port has asked for. -/
def commitPort (p : RtcPort) (s : State) : State :=
  match p.commit, p.staging with
  | true, some r => commitTime r s
  | _, _ => s

/-- RTC_COMMIT: the firmware port's values first, then those of BAR0; RTC_SET completes with the device time. -/
def execRtcCommit (s : State) : Host.Outcome State Fault Refusal :=
  .next (
    let fw := s.rtc.fw
    let bar := s.rtc.bar0
    let s1 := commitPort bar (commitPort fw s)
    let s2 : State := { s1 with
      rtc.fw.commit := false
      rtc.fw.staging := if fw.commit then none else fw.staging
      rtc.fw.jobs := []
      rtc.bar0.commit := false
      rtc.bar0.staging := if bar.commit then none else bar.staging }
    forEach fw.jobs s2 fun jb s => ended jb 0 0 (nsNow s) s)

/-- RTC_BACKUP_LOSS (R451). -/
def execRtcBackupLoss (s : State) : Host.Outcome State Fault Refusal :=
  .next (
    let s1 : State := { s with rtc := { time := {}, latch := {}, counting := false, lost := true, onVbat := s.rtc.onVbat } }
    forEach [0, 1] (raise RTC_EVENTS_TIME_LOST s1) fun n s => resetBlock (0x7C30 + 8 * n) (0x7C38 + 8 * n) s)

/-! ### Commands (R457) -/

def rtcReadCard : Card := { op := 0x0C01, svc := .open_ }

/-- RTC_READ: a freeze of the firmware port, which reading YEAR releases. -/
def execRtcRead (d : Desc) (s : State) : Host.Outcome State Fault Refusal :=
  .next (command rtcReadCard d (fun _ => none)
    (fun s =>
      let r := (s.rtc.fw.shadow.map (·.1)).getD s.rtc.time
      immediate 0x0C01 d (fun s => { s with rtc.fw.shadow := none })
        (fun s => ofLe (rtcBytesOf r) + 2 ^ 56 * ((if s.rtc.lost then 1 else 0) + (if s.rtc.onVbat then 2 else 0)))
        (fun _ => []) s) s)
where
  rtcBytesOf (r : RtcTime) : List Byte := (timeValues r).map (BitVec.ofNat 8)

def rtcSetCard : Card := { op := 0x0C02, params := [(32, 7)], svc := .auth }

/-- The time in the parameters of RTC_SET. -/
def rtcParams (d : Desc) : RtcTime :=
  { sec := param d 32, min := param d 33, hour := param d 34, day := param d 35, month := param d 36, year := param d 37
    weekday := param d 38 }

def rtcSetChecks (d : Desc) : Option (Nat × Nat) := firstOf [(!validTime (rtcParams d), 0x02, 0x0754)]

/-- RTC_SET: stages and asks for a commit; a refused date sets DATE_REJ (R455). -/
def execRtcSet (d : Desc) (s : State) : Host.Outcome State Fault Refusal :=
  .next (
    let s0 := if (gate rtcSetCard d s).isNone ∧ (rtcSetChecks d).isSome then raise RTC_EVENTS_DATE_REJ s else s
    command rtcSetCard d (fun _ => rtcSetChecks d)
      (fun s =>
        let (s1, jb) := accept 0x0C02 d 0 s
        { s1 with
          rtc.fw.staging := some (rtcParams d)
          rtc.fw.commit := true
          rtc.fw.jobs := s1.rtc.fw.jobs ++ [jb] }) s0)

def rtcAlarmCard : Card := { op := 0x0C03, params := [(32, 10)], svc := .auth }

/-- The largest DAY of an alarm: the length of the month where MONTH is compared, and a February has 29 days unless YEAR is
compared too and is no leap year (R452). -/
def alarmDays (d : Desc) : Nat :=
  if (param d 41).testBit 4 then monthDays (if (param d 41).testBit 5 then param d 39 else 0) (param d 38) else 31

/-- A match value within R452 for field `k`. -/
def matchInRange (d : Desc) (k : Nat) : Bool :=
  let v := param d (34 + k)
  match k with
  | 0 => v < 60
  | 1 => v < 60
  | 2 => v < 24
  | 3 => 1 ≤ v ∧ v ≤ alarmDays d
  | 4 => 1 ≤ v ∧ v ≤ 12
  | 5 => v < 200
  | _ => v < 7

def rtcAlarmChecks (d : Desc) : Option (Nat × Nat) :=
  firstOf [(param d 32 > 1 ∨ param d 33 > 3 ∨ param d 41 > 127
    ∨ (List.range 7).any (fun k => (param d 41).testBit k && !matchInRange d k), 0x02, 0x0111)]

/-- RTC_ALARM. -/
def execRtcAlarm (d : Desc) (s : State) : Host.Outcome State Fault Refusal :=
  .next (command rtcAlarmCard d (fun _ => rtcAlarmChecks d)
    (immediate 0x0C03 d (fun s =>
      let n := param d 32
      s |> fput (RTC_ALM_LO_SEC n) (param d 34) |> fput (RTC_ALM_LO_MIN n) (param d 35)
        |> fput (RTC_ALM_LO_HOUR n) (param d 36) |> fput (RTC_ALM_LO_DAY n) (param d 37)
        |> fput (RTC_ALM_HI_MONTH n) (param d 38) |> fput (RTC_ALM_HI_YEAR n) (param d 39)
        |> fput (RTC_ALM_HI_WEEKDAY n) (param d 40) |> fput (RTC_ALM_HI_MASK n) (param d 41)
        |> fput (RTC_ALM_HI_EN n) (bits (param d 33) 0 1) |> fput (RTC_ALM_HI_WAKE n) (bits (param d 33) 1 1))
      (fun _ => 0) (fun _ => [])) s)

end Sys2Proof.Machine
end

