-- ==== Sys2Proof/Machine/Sequence.lean ====
section
/-! DEFINITION. The task sequencer's own events (R63, R64, R67, R72, R76) and the image unit's (R38–R49), with the host's
image and force commands. -/

namespace Sys2Proof.Machine

open Reg

/-! ### Releases -/

/-- The unit releases tasks from its own sources: active, in RUN, with the drive cycle running. -/
def releasing (s : State) : Bool := ctl s = 3 && !standby s && cycleRuns s

/-- The SYNC task. -/
def syncTask (s : State) : Option Nat := (s.prog.cur.tasks.find? (fun (_, d) => d.kind = .sync)).map (·.1)

/-- First SYNC cycle in which a task has not been released yet. -/
def dueFrom (s : State) (t : Nat) : Nat := max (lookD s.seq.relCycle t 0) (cycleNow s)

/-- Releases a task at an offset in ns from the boundary of a cycle. -/
def releaseIn (t n ofs : Nat) (s : State) : State :=
  let s1 := advance (boundary s n + ofs * 16) s
  release t { s1 with seq.relCycle := put t (n + 1) s1.seq.relCycle }

/-- SYNC_RELEASE (R63): at boundary + RX_CUTOFF + 500 ns of every cycle. -/
def execSyncRelease (s : State) : Host.Outcome State Fault Refusal :=
  .next (match syncTask s with
    | some t => if releasing s then releaseIn t (dueFrom s t) (fget s NET_RX_CUTOFF_NS + 500) s else s
    | none => s)

/-- The first cycle from `n` on that is PHASE modulo K (R64). -/
def cyclicFrom (d : TaskDef) (n : Nat) : Nat :=
  let k := max 1 d.period
  n + (d.phase + k - n % k) % k

/-- CYCLIC_RELEASE (R64): at boundary + OFS of the cycles n with n mod K = PHASE. -/
def execCyclicRelease (t : Fin 32) (s : State) : Host.Outcome State Fault Refusal :=
  .next (match taskDef s t with
    | some d => if d.kind = .cyclic ∧ releasing s then releaseIn t (cyclicFrom d (dueFrom s t)) d.ofs s else s
    | none => s)

/-- BACKGROUND_RELEASE (R67): GAP after the instance before it ended. -/
def execBackgroundRelease (t : Fin 32) (s : State) : Host.Outcome State Fault Refusal :=
  .next (match look s.seq.bgDue t with
    | some due =>
      if ctl s = 3 ∧ !standby s then release t (advance due { s with seq.bgDue := del t s.seq.bgDue }) else s
    | none => s)

/-- The pending release of highest priority whose cores and lanes no instance of higher priority holds (R72). R72 lets such a release
wait until all of them are free, and lets a release suspend an instance of lower priority: where only one of lower priority
holds any of them, the model starts it and suspends that instance (DESIGN CHOICE, log entry 107). -/
def nextPending (s : State) : Option Nat :=
  ((taskIds s).filter (fun t => (run s t).phase = .pending && !blocked s t && !heldBySwitch s t)).foldl
    (fun best t => match best with
      | none => some t
      | some u => if prioOf s t > prioOf s u then some t else some u) none

/-- PENDING_RELEASE_START (R72). -/
def execPendingReleaseStart (s : State) : Host.Outcome State Fault Refusal :=
  .next (match nextPending s with
    | some t => startRelease t s
    | none => s)

/-- BUDGET_OVERRUN (R76, R414): the execution time of a running instance reaches its budget. -/
def execBudgetOverrun (t : Fin 32) (s : State) : Host.Outcome State Fault Refusal :=
  .next (if (run s t).phase = .running ∧ budgetOf s t ≠ 0 then
      let r := run s t
      budgetOverrun t (advance (r.codeAt + r.stopped + budgetOf s t * 16) s)
    else s)

/-! ### Snapshots and commits -/

/-- The request at the head of the image unit's queue, and the state without it (R40). -/
def headRequest (s : State) : Option (ImgReq × State) :=
  match s.img.queue with
  | q :: rest => some (q, advance (max q.at_ s.img.busy) { s with img.queue := rest })
  | [] => none

/-- SNAPSHOT (R38): the image unit serves a snapshot request. -/
def execSnapshot (s : State) : Host.Outcome State Fault Refusal :=
  .next (match headRequest s with
    | some ({ kind := .snapshot t, .. }, s1) =>
      (match taskDef s t with
        | some d => serveSnapshot t d s1
        | none => s1)
    | _ => s)

/-- The SNAPSHOT message of an active unit in pair code 4 (R203). -/
def sendSnapshot (t : Fin 32) (d : TaskDef) (s : State) : State :=
  let r := run s t
  if mirrors s then
    hedgeSend (.snapshot { task := t, kind := kindCode d.kind, gen := r.gen, inst := r.inst, cycle := r.cycle, inputs := viewInputs d r.view,
                           sArea := rdN r.view sBase 1024, at_ := devNs s r.snapAt }) s
  else s

/-- SNAPSHOT_COMPLETE (R38, R41, R70, R203): the snapshot is in place, and the instance starts when its cores and lanes
are free. -/
def snapshotDone (t : Fin 32) (d : TaskDef) (s : State) : State :=
  let s1 := advance (run s t).snapDone s
  s1 |> bumpMax IMG_SNAP_MAX_NS ((s1.now - (run s1 t).reqAt) / 16)
     |> setPhase t .snapped |> sendSnapshot t d |> startReady

def execSnapshotComplete (t : Fin 32) (s : State) : Host.Outcome State Fault Refusal :=
  .next (match taskDef s t with
    | some d => if (run s t).phase = .copying then snapshotDone t d s else s
    | none => s)

/-- COMMIT (R39): the image unit serves the commit request of an instance of task `t`. -/
def execCommit (t : Fin 32) (s : State) : Host.Outcome State Fault Refusal :=
  .next (match headRequest s with
    | some ({ kind := .commit u inst, at_, .. }, s1) =>
      if u = t.val then
        (match taskDef s t with
          | some d => serveCommit t inst (((run s t).committing.map (·.2)).getD 0) at_ d s1
          | none => s1)
      else s
    | _ => s)

/-! ### Host reads and writes of the image (R43) -/

def imgReadCard : Card := { op := 0x0401, params := [(32, 4), (36, 4)], buf := .writes, svc := .open_ }

def imgReadChecks (d : Desc) : Option (Nat × Nat) :=
  let a := paramN d 32 4
  let n := paramN d 36 4
  firstOf [(n = 0 ∨ n > 1048576 ∨ n > d.bufLen ∨ a + n > 0x100000, 0x02, 0x0111)]

/-- IMG_READ: the bytes as one state between write units and commits; RESULT is the device time of the read. -/
def execImgRead (d : Desc) (s : State) : Host.Outcome State Fault Refusal :=
  .next (command imgReadCard d (fun _ => imgReadChecks d)
    (immediate 0x0401 d id nsNow (fun s => rdN s.img.live (paramN d 32 4) (paramN d 36 4))) s)

/-- A chunk of IMG_WRITE: byte address, data and mask bytes. -/
structure Chunk where
  addr : Nat
  data : List Byte
  mask : List Byte
  deriving DecidableEq, Repr

/-- The chunks of a buffer; none when a chunk does not fit, has no bytes or leaves the image. -/
def chunksOf : Nat → List Byte → Option (List Chunk)
  | 0, bs => if bs.isEmpty then some [] else none
  | n + 1, bs =>
    if bs.isEmpty then some []
    else
      let a := leAt bs 0 4
      let len := leAt bs 4 4
      if bs.length < 8 + 2 * len ∨ len = 0 ∨ a + len > 0x100000 then none
      else (chunksOf n (bs.drop (8 + 2 * len))).map
        (fun cs => { addr := a, data := (bs.drop 8).take len, mask := (bs.drop (8 + len)).take len } :: cs)

/-- The bits that a chunk writes. -/
def chunkBits (c : Chunk) : List Nat :=
  (List.range (8 * c.mask.length)).filterMap
    (fun i => if (c.mask.getD (i / 8) 0).getLsbD (i % 8) then some (8 * c.addr + i) else none)

/-- The source of an I byte is the host (R30). -/
def hostSource (s : State) (a : Nat) : Bool :=
  s.prog.cur.sources.any fun r => r.src = .host ∧ r.start ≤ a ∧ a < r.start + r.len

/-- A host write may target the bit: an I byte whose source is the host, a Q or M bit that no output set contains (R43). -/
def hostMayWrite (s : State) (b : Nat) : Bool :=
  if b < 0x100000 then hostSource s (b / 8) else !ownedBit s b && decide (b < 8 * sBase)

def imgWriteCard : Card := { op := 0x0402, buf := .reads, active := true }

def imgWriteChecks (d : Desc) (s : State) : Option (Nat × Nat) :=
  match chunksOf d.buf.length d.buf with
  | none => some (0x02, 0x0111)
  | some cs => firstOf [(cs.any (fun c => (chunkBits c).any (fun b => !hostMayWrite s b)), 0x05, 0x021C)]

/-- IMG_WRITE. -/
def execImgWrite (d : Desc) (s : State) : Host.Outcome State Fault Refusal :=
  .next (command imgWriteCard d (imgWriteChecks d) (deferCmd 0x0402 d .imgWrite) s)

/-- Writes the masked bits of the chunks. -/
def writeChunks (cs : List Chunk) (m : Mem) : Mem :=
  cs.foldl (fun m c => (chunkBits c).foldl
    (fun m b => wrBit m b ((c.data.getD (b / 8 - c.addr) 0).getLsbD (b % 8))) m) m

/-- HOST_IMAGE_WRITE_APPLY (R43): the write is one write unit. -/
def execHostImageWriteApply (s : State) : Host.Outcome State Fault Refusal :=
  .next (deferredRow (· = .imgWrite) (fun _ _ => none)
    (fun x s => (writeUnit noMark (writeChunks ((chunksOf x.job.d.buf.length x.job.d.buf).getD [])) s, 0)) s)

/-! ### Forces (R44–R49) -/

/-- An entry of R44 is well formed: an aligned address within I, Q or M, reserved bits 0, and no value above the width. -/
def forceBad (rec_ : List Byte) : Bool :=
  let e := forceOf (rec_.drop 4)
  let word := leAt rec_ 4 4
  leAt rec_ 0 1 > 1 ∨ leAt rec_ 1 3 ≠ 0 ∨ bits word 23 3 ≠ 0 ∨ bits word 28 4 ≠ 0 ∨ e.addr % forceBits e.width ≠ 0
    ∨ e.addr + forceBits e.width > 8 * sBase ∨ e.value.toNat ≥ 2 ^ forceBits e.width
    ∨ (leAt rec_ 0 1 = 1 ∧ e.value ≠ 0)

/-- The table once the pending force changes have taken effect. -/
def forcesPending (s : State) : List ForceEntry :=
  s.cmd.deferred.foldl (fun fs x => match x.act with
    | .force => forceApplyAll fs x.job.d.buf
    | .forceClear => []
    | _ => fs) s.img.forces

/-- Walks the records of a FORCE_WRITE over a table: the first violation of R44. -/
def forceWalk (fs : List ForceEntry) : List (List Byte) → Option (Nat × Nat)
  | [] => none
  | r :: rs =>
    let e := forceOf (r.drop 4)
    let present := fs.any (sameForce e)
    if leAt r 0 1 = 1 ∧ !present then some (0x05, 0x021A)
    else if leAt r 0 1 = 0 ∧ !present ∧ fs.any (overlapForce e) then some (0x05, 0x021B)
    else if leAt r 0 1 = 0 ∧ !present ∧ fs.length ≥ 4096 then some (0x03, 0x0406)
    else forceWalk (forceStep fs r) rs

def forceWriteCard : Card := { op := 0x0501, buf := .reads, bufMax := 49152, active := true }

def forceWriteChecks (d : Desc) (s : State) : Option (Nat × Nat) :=
  let n := d.buf.length
  if n = 0 ∨ n % 12 ≠ 0 ∨ (forceRecords d.buf).any forceBad then some (0x02, 0x0111)
  else forceWalk (forcesPending s) (forceRecords d.buf)

/-- FORCE_WRITE. -/
def execForceWrite (d : Desc) (s : State) : Host.Outcome State Fault Refusal :=
  .next (command forceWriteCard d (forceWriteChecks d) (deferCmd 0x0501 d .force) s)

def forceClearCard : Card := { op := 0x0502, active := true }

/-- FORCE_CLEAR. -/
def execForceClear (d : Desc) (s : State) : Host.Outcome State Fault Refusal :=
  .next (command forceClearCard d (fun _ => none) (deferCmd 0x0502 d .forceClear) s)

/-- The 8 bytes of an entry (R44). -/
def forceBytes (e : ForceEntry) : List Byte := le 4 (e.addr + 2 ^ 26 * e.width) ++ le 4 e.value.toNat

def forceReadCard : Card := { op := 0x0503, buf := .writes, svc := .open_ }

/-- FORCE_READ: the table, as far as whole entries fit the buffer. -/
def execForceRead (d : Desc) (s : State) : Host.Outcome State Fault Refusal :=
  .next (command forceReadCard d (fun _ => none)
    (immediate 0x0503 d id (fun s => s.img.forces.length)
      (fun s => (s.img.forces.take (d.bufLen / 8)).flatMap forceBytes)) s)

/-- A bit that a force entry covers. -/
def coversBit (fs : List ForceEntry) (b : Nat) : Bool := fs.any (fun e => e.addr ≤ b ∧ b < e.addr + forceBits e.width)

/-- The new table is in force: bits of Q and M that no output set contains are written once by the entries that the change
sets, an entry that replaces itself among them, and output frames follow the words that the change touches (R44, R46, R48,
R49, R283, R294). -/
def forceChange (new set_ : List ForceEntry) (s : State) : State :=
  let gone := s.img.forces.filter (· ∉ new)
  { s with
    img.forces := new
    img.live := applyForces set_ (fun b => b ≥ 0x100000 && !ownedBit s b) s.img.live }
    |> showForces |> sendOutputs (coversBit (set_ ++ gone))

/-- The entries that a FORCE_WRITE sets and that stand in the table after it. -/
def forcesSet (new : List ForceEntry) (buf : List Byte) : List ForceEntry :=
  new.filter (fun e => (forceRecords buf).any (fun r => leAt r 0 1 ≠ 1 ∧ forceOf (r.drop 4) = e))

def isForce : DefAct → Bool
  | .force => true
  | .forceClear => true
  | _ => false

/-- FORCE_CHANGE_APPLY (R48): RESULT of FORCE_WRITE is the number of entries, of FORCE_CLEAR 0. -/
def execForceChangeApply (s : State) : Host.Outcome State Fault Refusal :=
  .next (deferredRow isForce (fun _ _ => none)
    (fun x s =>
      let new := if x.act = .forceClear then [] else forceApplyAll s.img.forces x.job.d.buf
      (forceChange new (if x.act = .forceClear then [] else forcesSet new x.job.d.buf) s, new.length)) s)

/-! ### RETAIN_RESTORE (R340) -/

def restoreCard : Card := { op := 0x0410, opflags := 16, buf := .reads, svc := .no, active := true }

/-- The chunks of a RETAIN_RESTORE buffer, or the refusal of R340. -/
def restoreChunks : Nat → List Byte → Except (Nat × Nat) (List (Nat × List Byte))
  | 0, _ => .ok []
  | n + 1, bs =>
    if bs.isEmpty then .ok []
    else
      let a := leAt bs 0 4
      let len := leAt bs 4 4
      if bs.length < 8 ∨ a % 64 ≠ 0 ∨ len % 64 ≠ 0 ∨ len = 0 then .error (0x02, 0x0111)
      else if a < 0x30010000 ∨ a + len > 0x30100000 ∨ bs.length < 8 + len then .error (0x05, 0x021D)
      else match restoreChunks n (bs.drop (8 + len)) with
        | .ok cs => .ok ((a, (bs.drop 8).take len) :: cs)
        | .error e => .error e

def restoreChecks (d : Desc) (s : State) : Option (Nat × Nat) :=
  if ctl s = 3 then some (0x01, 0x0010)
  else match restoreChunks d.buf.length d.buf with
    | .error e => some e
    | .ok _ => none

/-- The restored lines are written, tagged as restored, and captured. -/
def restore (d : Desc) (s : State) : State :=
  let cs := match restoreChunks d.buf.length d.buf with
    | .ok cs => cs
    | .error _ => []
  let s1 := forEach cs s fun (a, bs) s =>
    forEach (List.range (bs.length / 64)) { s with mem.data := wrN s.mem.data a bs }
      fun i s => touch (a + 64 * i) tagRestore s
  let s2 := capture tagRestore false s1
  if opflag d 4 then fput CTL_STATE_RETAIN_DONE 1 s2 else s2

/-- RETAIN_RESTORE; mirrored on acceptance (R204). -/
def execRetainRestore (d : Desc) (s : State) : Host.Outcome State Fault Refusal :=
  .next (command restoreCard d (restoreChecks d)
    (immediate 0x0410 d (fun s => mirrorCmd 0x0410 d (cycleNow s) (restore d s))
      (fun _ => (match restoreChunks d.buf.length d.buf with
        | .ok cs => (cs.map (fun c => c.2.length)).sum
        | .error _ => 0)) (fun _ => [])) s)

end Sys2Proof.Machine
end

