-- ==== Sys2Proof/Machine/Rung.lean ====
section
/-! DEFINITION. The rung lanes (R51–R61): formats, operands, faults, timers and counters, and the 26 words. A row acts when
its lane runs a network and the word has the row's opcode and keeps its format; a word that breaks its format, has a
reserved opcode or lies beyond its network is the row RUNG_ILLEGAL_WORD. -/

namespace Sys2Proof.Machine

open Reg

/-! ### Words (R51) -/

/-- OP, bits 31:26. -/
def rungOp (w : Word) : Nat := bits w.toNat 26 6
/-- N, bit 25. -/
def rungN (w : Word) : Bool := w.getLsbD 25
/-- ADDR, bits 22:0. -/
def rungAddr (w : Word) : Nat := bits w.toNat 0 23
/-- K, bit 16. -/
def rungK (w : Word) : Bool := w.getLsbD 16
/-- INDEX or COUNT, bits 15:0. -/
def rungLow (w : Word) : Nat := bits w.toNat 0 16

/-- Formats of R51. -/
inductive RungFormat where
  | z | b | c | s
  deriving DecidableEq, Repr

/-- The format of each opcode of R52; none for a reserved opcode. -/
def rungFormat (op : Nat) : Option RungFormat :=
  if op ∈ [0x00, 0x01, 0x02, 0x08, 0x09, 0x0A, 0x0B, 0x0C, 0x0D] then some .z
  else if op ∈ [0x04, 0x05, 0x06, 0x07, 0x10, 0x11, 0x12, 0x14, 0x15] then some .b
  else if op ∈ [0x18, 0x19, 0x1A, 0x1B, 0x1C, 0x1D] then some .c
  else if op ∈ [0x20, 0x21] then some .s
  else none

/-- The word keeps its format: reserved fields 0, K only in TCRES, no N in REDGE and FEDGE (R51). -/
def rungWellFormed (w : Word) : Bool :=
  match rungFormat (rungOp w) with
  | none => false
  | some .z => bits w.toNat 0 26 = 0
  | some .b => bits w.toNat 23 2 = 0 && !(rungN w && (rungOp w = 0x14 || rungOp w = 0x15))
  | some .c => bits w.toNat 17 9 = 0 && !(rungK w && rungOp w ≠ 0x1D)
  | some .s => bits w.toNat 16 10 = 0

/-! ### The lane's task -/

/-- What a word runs in: lane, task, its definition and the network, with the word index moved past the word. -/
structure RungEnv where
  l : Nat
  t : Nat
  d : TaskDef
  net : NetDecl
  deriving DecidableEq, Repr

/-- The environment of a lane that runs a network; a lane is clock-gated outside power state RUN (R428). -/
def rungEnv (s : State) (l : Nat) : Option RungEnv :=
  let x := lane s l
  if power s ≠ 0 ∨ !x.running ∨ x.stopped then none
  else match x.task, x.ctx.net with
    | some t, some n => (taskDef s t.val).map (fun d => { l, t := t.val, d, net := n })
    | _, _ => none

/-- Word index just beyond the network. -/
def netEnd (n : NetDecl) : Nat := n.first + n.count

/-- A view bit that words may read: an input range, an output range or the S area (R37). -/
def bitReadable (d : TaskDef) (b : Nat) : Bool :=
  d.ranges.any (fun r => inRange r b) || decide (8 * sBase ≤ b)

/-- A view bit that words may write: an output range (R37). -/
def bitWritable (d : TaskDef) (b : Nat) : Bool := (outRanges d).any (fun r => inRange r b)

/-- SNAP_TIME of the running instance, as its view shows it (R33, R55). -/
def snapTime (s : State) (t : Nat) : Nat := ofLe (rdN (run s t).view sBase 8)

def viewBit (s : State) (t b : Nat) : Bool := rdBit (run s t).view b
def setViewBit (t b : Nat) (v : Bool) (s : State) : State :=
  setRun t (fun r => { r with view := wrBit r.view b v }) s

/-! ### Faults (R58) -/

/-- A lane fault: recorded, logged, the instance ends without a commit, and the controller halts or the standby becomes
unfit (R58, R78, R83). -/
def laneFault (e : RungEnv) (cause : Nat) (s : State) : State :=
  s |> fput (IMG_LANE_INFO_CAUSE e.l) cause |> fput (IMG_LANE_INFO_TASK e.l) e.t
    |> fput (IMG_LANE_INFO_INDEX e.l) (lane s e.l).ctx.index
    |> fputBit IMG_FAULT_LANE e.l true
    |> setLane e.l (fun x => { x with running := false })
    |> logEarly 2 .laneFault e.t cause
    |> abort e.t
    |> programFault 3 e.t
    |> logLate 2 .laneFault e.t cause

/-- The lane's context after a word. -/
def setStack (e : RungEnv) (stack : List Bool) (s : State) : State :=
  setLane e.l (fun x => { x with ctx := { x.ctx with stack } }) s

/-- Words that a lane has executed move its index on. -/
def nextWord (e : RungEnv) (n : Nat) (s : State) : State :=
  setLane e.l (fun x => { x with ctx := { x.ctx with index := x.ctx.index + n } }) s

/-! ### One word -/

/-- Runs a word of opcode `op` on a lane that is at such a word: the stack checks of R53 (entries needed, entries added),
then the word's own action, which answers the new stack, how many words the lane moves on and the new state, or the cause
of a fault. -/
def rungRow (op need grow : Nat) (l : Nat) (w : Word)
    (act : RungEnv → List Bool → State → Except Nat (List Bool × Nat × State)) (s : State) : State :=
  match rungEnv s l with
  | none => s
  | some e =>
    let x := (lane s l).ctx
    if rungOp w ≠ op ∨ !rungWellFormed w ∨ x.index ≥ netEnd e.net then s
    else if x.stack.length < need then laneFault e 2 s
    else if x.stack.length + grow > 32 then laneFault e 1 s
    else match act e x.stack s with
      | .ok (stack, n, s1) => nextWord e n (setStack e stack s1)
      | .error cause => laneFault e cause s

/-- A word that only changes the stack. -/
def stackWord (f : List Bool → List Bool) (_ : RungEnv) (st : List Bool) (s : State) :
    Except Nat (List Bool × Nat × State) := .ok (f st, 1, s)

/-- The top of the stack; the checks of R53 have seen that there is one. -/
def top (st : List Bool) : Bool := st.headD false

/-- The bit cache after a read of a line: the line is the last one used, and 128 lines stay (R61). A line that is not there is
fetched with the bytes it has in the view. -/
def useLine (line : Nat) (fetched : List Byte) (lines : List (Nat × List Byte)) : List (Nat × List Byte) :=
  ((line, (lines.find? (·.1 = line)).elim fetched (·.2)) :: lines.filter (·.1 ≠ line)).take 128

/-- A word that reads its operand brings the line of its bit into the lane's cache. -/
def cacheRead (l t b : Nat) (s : State) : State :=
  setLane l (fun x => { x with ctx := { x.ctx with
    lines := useLine (b / 512) (rdN (run s t).view (64 * (b / 512)) 64) x.ctx.lines } }) s

/-- A bit of the view as the lane reads it: from its cache, or from the view. -/
def laneBit (s : State) (l t b : Nat) : Bool :=
  match (lane s l).ctx.lines.find? (·.1 = b / 512) with
  | some (_, bytes) => (bytes.getD (b / 8 % 64) 0).getLsbD (b % 8)
  | none => viewBit s t b

/-- A byte with one bit set to a value. -/
def setBitOf (y : Byte) (i : Nat) (v : Bool) : Byte :=
  if v then y ||| BitVec.ofNat 8 (2 ^ i) else y &&& ~~~(BitVec.ofNat 8 (2 ^ i))

/-- A lane writes a bit: through to the view, and into the line where its own cache holds it. -/
def laneWrite (l t b : Nat) (v : Bool) (s : State) : State :=
  setViewBit t b v <| setLane l (fun x => { x with ctx := { x.ctx with lines := x.ctx.lines.map (fun (n, bytes) =>
    (n, if n = b / 512 then bytes.modify (b / 8 % 64) (fun y => setBitOf y (b % 8) v) else bytes)) } }) s

/-- A word that reads its operand bit, inverted when N = 1 (log entry 12). -/
def readWord (w : Word) (f : Bool → List Bool → List Bool) (e : RungEnv) (st : List Bool) (s : State) :
    Except Nat (List Bool × Nat × State) :=
  if bitReadable e.d (rungAddr w) then
    .ok (f (laneBit s e.l e.t (rungAddr w) ^^ rungN w) st, 1, cacheRead e.l e.t (rungAddr w) s)
  else .error 4

/-- A word that writes its bit with what `f` makes of the top: none leaves the bit. -/
def writeWord (w : Word) (f : Bool → Option Bool) (e : RungEnv) (st : List Bool) (s : State) :
    Except Nat (List Bool × Nat × State) :=
  if bitWritable e.d (rungAddr w) then
    .ok (st, 1, match f (top st) with
      | some v => laneWrite e.l e.t (rungAddr w) v s
      | none => s)
  else .error 4

/-- An edge word: the operand bit m takes the top, and the top becomes `f top m`. -/
def edgeWord (w : Word) (f : Bool → Bool → Bool) (e : RungEnv) (st : List Bool) (s : State) :
    Except Nat (List Bool × Nat × State) :=
  if bitWritable e.d (rungAddr w) then
    let m := laneBit s e.l e.t (rungAddr w)
    .ok (f (top st) m :: st.drop 1, 1, laneWrite e.l e.t (rungAddr w) (top st) (cacheRead e.l e.t (rungAddr w) s))
  else .error 4

/-- A binary word on the two top entries: pop a, pop b, push. -/
def binaryWord (f : Bool → Bool → Bool) (st : List Bool) : List Bool :=
  f (top (st.drop 1)) (top st) :: st.drop 2

/-- A skip word: taken when `take top`; the target must not lie beyond the network's END (R54). -/
def skipWord (w : Word) (take : Bool → Bool) (e : RungEnv) (st : List Bool) (s : State) :
    Except Nat (List Bool × Nat × State) :=
  let n := rungLow w
  if n = 0 ∨ (lane s e.l).ctx.index + 1 + n > netEnd e.net - 1 then .error 5
  else .ok (st, if take (top st) then 1 + n else 1, s)

/-! ### Timers and counters (R55–R57) -/

/-- The entry of a table that the program assigns to the task. -/
def assigned (m : SMap TcDecl) (t i : Nat) : Option TcDecl :=
  match look m i with
  | some c => if c.task.val = t then some c else none
  | none => none

/-- Time base in ns: 1 µs to 100 ms. -/
def baseNs (c : TcDecl) : Nat := 10 ^ (3 + c.base)

/-- Timer words. -/
inductive TimerKind where
  | ton | tof | tp
  deriving DecidableEq, Repr

/-- ET after adding the elapsed units, saturating at PT. -/
def addEt (pt : Nat) (x : Timer) (units : Nat) : Timer := { x with et := min pt (x.et + units) }

/-- ET and the remainder at 0. -/
def zeroEt (x : Timer) : Timer := { x with et := 0, rem := 0 }

/-- The table of R55 for one evaluation, the elapsed units already taken from LAST and the remainder. -/
def timerRule (k : TimerKind) (pt : Nat) (units : Nat) (input : Bool) (x : Timer) : Timer :=
  let rising := input && !x.input
  let falling := !input && x.input
  match k with
  | .ton =>
    if !input then { zeroEt x with q := false }
    else
      let y := if rising then zeroEt x else addEt pt x units
      { y with q := y.et ≥ pt }
  | .tof =>
    if input then { zeroEt x with q := true }
    else if falling then zeroEt x
    else if x.q then
      let y := addEt pt x units
      { y with q := y.et < pt }
    else x
  | .tp =>
    let y :=
      if x.q then
        let y := addEt pt x units
        { y with q := y.et < pt }
      else if rising ∧ x.et = 0 then { zeroEt x with q := true }
      else x
    if !y.q ∧ !input then zeroEt y else y

/-- One evaluation of a timer at a SNAP_TIME (R55). Where device time stepped back (R149) and LAST lies after the new SNAP_TIME, the
rule gives no Δ: the model takes Δ = 0 (DESIGN CHOICE, log entry 105). -/
def timerEval (k : TimerKind) (c : TcDecl) (snap : Nat) (input : Bool) (x : Timer) : Timer :=
  let total := (match x.last with
    | some t => snap - t
    | none => 0) + x.rem
  let y := timerRule k c.preset.toNat (total / baseNs c) input { x with rem := total % baseNs c }
  { y with input, last := some snap }

def timerWord (k : TimerKind) (w : Word) (e : RungEnv) (st : List Bool) (s : State) :
    Except Nat (List Bool × Nat × State) :=
  match assigned s.prog.cur.timers e.t (rungLow w) with
  | none => .error 4
  | some c =>
    let x := timerEval k c (snapTime s e.t) (top st) (lookD s.img.timers (rungLow w) {})
    .ok (x.q :: st.drop 1, 1, { s with img.timers := put (rungLow w) x s.img.timers })

/-- One evaluation of a counter (R56): a rising input counts with saturation. -/
def counterEval (up input : Bool) (x : Counter) : Counter :=
  let cv := x.cv.toInt + (if up then 1 else -1)
  { cv := if input && !x.input then BitVec.ofInt 32 (max (-2147483648) (min 2147483647 cv)) else x.cv, input }

def counterWord (up : Bool) (w : Word) (e : RungEnv) (st : List Bool) (s : State) :
    Except Nat (List Bool × Nat × State) :=
  match assigned s.prog.cur.counters e.t (rungLow w) with
  | none => .error 4
  | some c =>
    let x := counterEval up (top st) (lookD s.img.counters (rungLow w) {})
    let q : Bool := if up then x.cv.toInt ≥ c.preset.toInt else x.cv.toInt ≤ 0
    .ok (q :: st.drop 1, 1, { s with img.counters := put (rungLow w) x s.img.counters })

/-- TCRES: with the top 1, ET, Q and the running state, or CV, return to 0. The remainder goes with the running state (DESIGN
CHOICE, log entry 73: R56 does not name it). -/
def resetWord (w : Word) (e : RungEnv) (st : List Bool) (s : State) : Except Nat (List Bool × Nat × State) :=
  let i := rungLow w
  match assigned (if rungK w then s.prog.cur.counters else s.prog.cur.timers) e.t i with
  | none => .error 4
  | some _ =>
    .ok (st, 1,
      if !top st then s
      else if rungK w then { s with img.counters := upd i {} (fun x => { x with cv := 0 }) s.img.counters }
      else { s with img.timers := upd i {} (fun x => { zeroEt x with q := false }) s.img.timers })

/-! ### END (R52, R70, R239) -/

/-- The lane reports completion: its next network starts, or the lane is done and its task's cores hear of it by LANE_DONE (R238). -/
def laneEnd (e : RungEnv) (s : State) : State :=
  match (lane s e.l).ctx.rest with
  | n :: rest => setLane e.l (fun x => { x with ctx := { stack := [], index := n.first, net := some n, rest } }) s
  | [] =>
    let s1 := s
      |> setLane e.l (fun x => { x with running := false, task := none, ctx := {} })
      |> setRun e.t (fun r => { r with lanesLeft := r.lanesLeft &&& ~~~(BitVec.ofNat 4 (2 ^ e.l)) })
    let s2 := forEach e.d.cores s1 fun c s => if ownsCore s e.t c.core.val then raiseLine c.core.val 2 s else s
    endCheck e.t s2

/-! ### The rows -/

/-- NOP. -/
def execRungNop (l : Fin 4) (w : Word) (s : State) : Host.Outcome State Fault Refusal :=
  .next (rungRow 0x00 0 0 l w (stackWord id) s)

/-- RNG: rung start, stack depth 0. -/
def execRungRng (l : Fin 4) (w : Word) (s : State) : Host.Outcome State Fault Refusal :=
  .next (rungRow 0x01 0 0 l w (stackWord (fun _ => [])) s)

/-- END. -/
def execRungEnd (l : Fin 4) (w : Word) (s : State) : Host.Outcome State Fault Refusal :=
  .next (match rungEnv s l with
    | some e =>
      if rungOp w = 0x02 ∧ rungWellFormed w ∧ (lane s l).ctx.index < netEnd e.net then laneEnd e s else s
    | none => s)

/-- LD. -/
def execRungLd (l : Fin 4) (w : Word) (s : State) : Host.Outcome State Fault Refusal :=
  .next (rungRow 0x04 0 1 l w (readWord w (fun v st => v :: st)) s)

/-- AND. -/
def execRungAnd (l : Fin 4) (w : Word) (s : State) : Host.Outcome State Fault Refusal :=
  .next (rungRow 0x05 1 0 l w (readWord w (fun v st => (top st && v) :: st.drop 1)) s)

/-- OR. -/
def execRungOr (l : Fin 4) (w : Word) (s : State) : Host.Outcome State Fault Refusal :=
  .next (rungRow 0x06 1 0 l w (readWord w (fun v st => (top st || v) :: st.drop 1)) s)

/-- XOR. -/
def execRungXor (l : Fin 4) (w : Word) (s : State) : Host.Outcome State Fault Refusal :=
  .next (rungRow 0x07 1 0 l w (readWord w (fun v st => (top st ^^ v) :: st.drop 1)) s)

/-- ANDB. -/
def execRungAndb (l : Fin 4) (w : Word) (s : State) : Host.Outcome State Fault Refusal :=
  .next (rungRow 0x08 2 0 l w (stackWord (binaryWord (· && ·))) s)

/-- ORB. -/
def execRungOrb (l : Fin 4) (w : Word) (s : State) : Host.Outcome State Fault Refusal :=
  .next (rungRow 0x09 2 0 l w (stackWord (binaryWord (· || ·))) s)

/-- XORB. -/
def execRungXorb (l : Fin 4) (w : Word) (s : State) : Host.Outcome State Fault Refusal :=
  .next (rungRow 0x0A 2 0 l w (stackWord (binaryWord (· ^^ ·))) s)

/-- NOT. -/
def execRungNot (l : Fin 4) (w : Word) (s : State) : Host.Outcome State Fault Refusal :=
  .next (rungRow 0x0B 1 0 l w (stackWord (fun st => (!top st) :: st.drop 1)) s)

/-- DUP. -/
def execRungDup (l : Fin 4) (w : Word) (s : State) : Host.Outcome State Fault Refusal :=
  .next (rungRow 0x0C 1 1 l w (stackWord (fun st => top st :: st)) s)

/-- POP. -/
def execRungPop (l : Fin 4) (w : Word) (s : State) : Host.Outcome State Fault Refusal :=
  .next (rungRow 0x0D 1 0 l w (stackWord (fun st => st.drop 1)) s)

/-- OUT. -/
def execRungOut (l : Fin 4) (w : Word) (s : State) : Host.Outcome State Fault Refusal :=
  .next (rungRow 0x10 1 0 l w (writeWord w (fun v => some (v ^^ rungN w))) s)

/-- SET. -/
def execRungSet (l : Fin 4) (w : Word) (s : State) : Host.Outcome State Fault Refusal :=
  .next (rungRow 0x11 1 0 l w (writeWord w (fun v => if v ^^ rungN w then some true else none)) s)

/-- RST. -/
def execRungRst (l : Fin 4) (w : Word) (s : State) : Host.Outcome State Fault Refusal :=
  .next (rungRow 0x12 1 0 l w (writeWord w (fun v => if v ^^ rungN w then some false else none)) s)

/-- REDGE: top AND NOT m. -/
def execRungRedge (l : Fin 4) (w : Word) (s : State) : Host.Outcome State Fault Refusal :=
  .next (rungRow 0x14 1 0 l w (edgeWord w (fun t m => t && !m)) s)

/-- FEDGE: m AND NOT top. -/
def execRungFedge (l : Fin 4) (w : Word) (s : State) : Host.Outcome State Fault Refusal :=
  .next (rungRow 0x15 1 0 l w (edgeWord w (fun t m => m && !t)) s)

/-- TON. -/
def execRungTon (l : Fin 4) (w : Word) (s : State) : Host.Outcome State Fault Refusal :=
  .next (rungRow 0x18 1 0 l w (timerWord .ton w) s)

/-- TOF. -/
def execRungTof (l : Fin 4) (w : Word) (s : State) : Host.Outcome State Fault Refusal :=
  .next (rungRow 0x19 1 0 l w (timerWord .tof w) s)

/-- TP. -/
def execRungTp (l : Fin 4) (w : Word) (s : State) : Host.Outcome State Fault Refusal :=
  .next (rungRow 0x1A 1 0 l w (timerWord .tp w) s)

/-- CTU. -/
def execRungCtu (l : Fin 4) (w : Word) (s : State) : Host.Outcome State Fault Refusal :=
  .next (rungRow 0x1B 1 0 l w (counterWord true w) s)

/-- CTD. -/
def execRungCtd (l : Fin 4) (w : Word) (s : State) : Host.Outcome State Fault Refusal :=
  .next (rungRow 0x1C 1 0 l w (counterWord false w) s)

/-- TCRES. -/
def execRungTcres (l : Fin 4) (w : Word) (s : State) : Host.Outcome State Fault Refusal :=
  .next (rungRow 0x1D 1 0 l w (resetWord w) s)

/-- SKZ. -/
def execRungSkz (l : Fin 4) (w : Word) (s : State) : Host.Outcome State Fault Refusal :=
  .next (rungRow 0x20 1 0 l w (skipWord w (! ·)) s)

/-- SKNZ. -/
def execRungSknz (l : Fin 4) (w : Word) (s : State) : Host.Outcome State Fault Refusal :=
  .next (rungRow 0x21 1 0 l w (skipWord w id) s)

/-- RUNG_ILLEGAL_WORD (R51, R52): a word that breaks its format, has a reserved opcode or lies beyond the network gives a
lane fault with cause ILLEGAL_WORD and no effect. -/
def execRungIllegalWord (l : Fin 4) (w : Word) (s : State) : Host.Outcome State Fault Refusal :=
  .next (match rungEnv s l with
    | some e => if !rungWellFormed w ∨ (lane s l).ctx.index ≥ netEnd e.net then laneFault e 3 s else s
    | none => s)

end Sys2Proof.Machine
end

