-- ==== Sys2Proof/Machine/Schedule.lean ====
section
/-! DEFINITION. The checks of a program and of the drive schedule that Graft and configuration commits share: wire times
and conditions of R155, the gather bound of R164, the rung checks of R51–R54, R57 and R59, the lane times of R60 and R61,
and the budget timing of R75 and R88. -/

namespace Sys2Proof.Machine

open Reg

/-! ### Wire time (R142, R155) -/

/-- Tenths of a ns that a byte takes on a drive or plant port. -/
def byteTime (s : State) (p : Nat) : Nat := if p < 2 ∧ fget s (NET_PORT_CFG_MODE p) ≠ 1 then 32 else 80

/-- The ports of the PORT encoding of R161. -/
def portsOf (port : Nat) : List Nat :=
  match port with
  | 4 => [0, 1]
  | 5 => [2, 3]
  | p => [p]

/-- The template names both ports of a side (R159). -/
def paired (t : Template) : Bool := t.port ≥ 4

/-- Wire bytes of a template's frame. -/
def wireBytes (t : Template) : Nat :=
  t.payloadLen + 62 + (if t.vlan.isSome then 4 else 0) + (if paired t then 6 else 0)

/-- Two frames meet in some cycle. -/
def meet (a b : Template) : Bool :=
  let g := Nat.gcd (max 1 a.every) (max 1 b.every)
  a.everyPhase % g = b.everyPhase % g

/-- The largest sum of weights of templates that are due in one cycle, over all cycles: `chosen` are already in. -/
def maxDue (w : Template → Nat) : List Template → List Template → Nat
  | [], _ => 0
  | t :: ts, chosen =>
    if !chosen.all (meet t) then maxDue w ts chosen
    else if ts.all (meet t) then w t + maxDue w ts (t :: chosen)
    else max (w t + maxDue w ts (t :: chosen)) (maxDue w ts chosen)

def templatesOf (s : State) : List Template := s.prog.cur.templates.map (·.2)

/-- The templates of a kind on a port. -/
def onPort (s : State) (kind p : Nat) : List Template :=
  (templatesOf s).filter (fun t => t.kind = kind ∧ (portsOf t.port).contains p)

/-- Kinds of R168 that templates carry. -/
def kSetpoint : Nat := 1
def kCollect : Nat := 2
def kStatus : Nat := 5
def kPlantData : Nat := 7

/-- W_fb and W_sp of a port in tenths of a ns. -/
def wFb (s : State) (p : Nat) : Nat := maxDue (fun t => wireBytes t * byteTime s p) (onPort s kCollect p) []
def wSp (s : State) (p : Nat) : Nat := maxDue (fun t => wireBytes t * byteTime s p) (onPort s kSetpoint p) []

/-- Endpoints: the slots of all COLLECT templates on D0 and D1. -/
def endpoints (s : State) : Nat :=
  ((templatesOf s).filter (fun t => t.kind = kCollect ∧ (t.port < 2 ∨ t.port = 4))).foldl
    (fun n t => n + t.payloadLen / max 1 t.slotSize) 0

/-- A condition of R155 fails on a drive port; times in tenths of a ns. NET_DRV_TIMING counts units of 10 ns. -/
def scheduleFails (s : State) (p : Nat) : Bool :=
  let cut := 10 * fget s NET_RX_CUTOFF_NS
  let open_ := 10 * fget s NET_TX_OPEN_NS
  let path := 100 * fget s (NET_DRV_TIMING_PATH_MAX p)
  let fb := 100 * fget s (NET_DRV_TIMING_FB_OFS p)
  let t := 10 * tSync s
  cut < 20000 ∨ open_ + 40000 > t ∨ cut < fb + path + wFb s p + 10000 ∨ open_ + wSp s p + path + 20000 > t
    ∨ open_ < cut + 21000

/-- SCHEDULE of R155. -/
def scheduleRefusal (s : State) : Option (Nat × Nat) :=
  if scheduleFails s 0 ∨ scheduleFails s 1
      ∨ endpoints s > (if fget s NET_CYCLE_CFG_TSYNC = 0 then 256 else 512) then some (0x05, 0x0211)
  else none

/-- TX_GATHER of R164: G of the SETPOINT templates, and of the STATUS templates, which gather in the same way. -/
def gatherFails (s : State) (kind : Nat) : Bool :=
  let g := maxDue (fun t => (t.fields.map (·.length)).sum) ((templatesOf s).filter (fun t => t.kind = kind)) []
  (200 + 200) * 128 + g * 10 > 1600 * 128

def gatherRefusal (s : State) : Option (Nat × Nat) :=
  if gatherFails s kSetpoint ∨ gatherFails s kStatus then some (0x03, 0x0404) else none

/-! ### Rung networks -/

/-- A word of the rung store with the words of a Graft laid over it. -/
def rungWord (s : State) (p : Program) (i : Nat) : Word := (look p.rung i).getD (lookD s.img.rung i 0)

/-- The words of a network. -/
def netWords (s : State) (p : Program) (n : NetDecl) : List Word :=
  (List.range n.count).map (fun i => rungWord s p (n.first + i))

/-- Entries that a word needs, and the depth after it. -/
def rungNeed (w : Word) : Nat :=
  if rungOp w ∈ [0x00, 0x01, 0x02, 0x04] then 0 else if rungOp w ∈ [0x08, 0x09, 0x0A] then 2 else 1
def rungDepth (w : Word) (d : Nat) : Nat :=
  if rungOp w = 0x01 then 0
  else if rungOp w ∈ [0x04, 0x0C] then d + 1
  else if rungOp w ∈ [0x08, 0x09, 0x0A, 0x0D] then d - 1
  else d

def isSkip (w : Word) : Bool := rungOp w = 0x20 ∨ rungOp w = 0x21
def isTimer (w : Word) : Bool := 0x18 ≤ rungOp w ∧ rungOp w ≤ 0x1D
def isEdge (w : Word) : Bool := rungOp w = 0x14 ∨ rungOp w = 0x15
/-- Words that read their operand. -/
def readsBit (w : Word) : Bool := rungOp w ∈ [0x04, 0x05, 0x06, 0x07, 0x14, 0x15]
/-- Words that write their bit. -/
def writesBit (w : Word) : Bool := rungOp w ∈ [0x10, 0x11, 0x12, 0x14, 0x15]

/-- The least and greatest depth on the paths that reach a word. -/
abbrev Depths := Option (Nat × Nat)

def joinDepth : Depths → Depths → Depths
  | none, b => b
  | a, none => a
  | some (a, b), some (c, d) => some (min a c, max b d)

/-- Joins a depth into the word `n` places ahead. -/
def joinAt : Nat → Depths → List Depths → List Depths
  | _, _, [] => []
  | 0, d, x :: xs => joinDepth d x :: xs
  | n + 1, d, x :: xs => x :: joinAt n d xs

/-- Every word keeps the stack within 0 to 32 on every path (R53), and every skip stays within the network (R54). -/
def stackSafe : List Word → List Depths → Bool
  | [], _ => true
  | w :: ws, ds =>
    let rest := ds.drop 1
    match ds.headD none with
    | none => (!isSkip w || decide (0 < rungLow w ∧ rungLow w < ws.length)) && stackSafe ws rest
    | some (lo, hi) =>
      let after : Depths := some (rungDepth w lo, rungDepth w hi)
      let on := if rungOp w = 0x02 then rest else joinAt 0 after rest
      let on := if isSkip w then joinAt (rungLow w) after on else on
      (!isSkip w || decide (0 < rungLow w ∧ rungLow w < ws.length))
        && decide (rungNeed w ≤ lo) && decide (rungDepth w hi ≤ 32) && stackSafe ws on

/-- A word that names a timer or counter that is not assigned to the task, in the table that it uses (R57). -/
def tcBad (p : Program) (t : Nat) (w : Word) : Bool :=
  isTimer w && (assigned (if rungOp w = 0x1B ∨ rungOp w = 0x1C ∨ (rungOp w = 0x1D ∧ rungK w) then p.counters
    else p.timers) t (rungLow w)).isNone

/-- A byte run declaration holds a byte. -/
def declares (rs : List (Nat × Nat)) (b : Nat) : Bool := rs.any (fun (a, n) => a ≤ b ∧ b < a + n)

/-- Operands against the declarations of the network (R59). -/
def netDeclBad (n : NetDecl) (w : Word) : Bool :=
  (readsBit w && !declares n.reads (rungAddr w / 8) && !declares n.writes (rungAddr w / 8))
    || (writesBit w && !declares n.writes (rungAddr w / 8))

/-- RUNG_CHECK of R98: encodings, extent ending in END, depth, skips and declarations. -/
def netBad (s : State) (p : Program) (n : NetDecl) : Bool :=
  let ws := netWords s p n
  n.count = 0 || n.first + n.count > 1048576 || ws.any (fun w => !rungWellFormed w)
    || (ws.getLast?.map rungOp) ≠ some 0x02
    || !stackSafe ws (some (0, 0) :: List.replicate ws.length none)
    || ws.any (netDeclBad n)

/-! ### Lane times (R60, R61) -/

/-- Clocks of a bit cache miss, or 0 for a hit, of a word that reads its operand (R60, R61). -/
def missClocks (w : Word) (lines : List Nat) : Nat :=
  if readsBit w && !lines.contains (rungAddr w / 512) then 16 else 0

/-- The numbers of the cached lines after a read of one: it is the last one used, and 128 lines stay (R61). -/
def cacheLines (line : Nat) (lines : List Nat) : List Nat := (line :: lines.erase line).take 128

/-- The bit cache after a word. A write neither fetches a line nor counts as a use of it (DEDUCED, log entry 74). -/
def linesAfter (w : Word) (lines : List Nat) : List Nat :=
  if readsBit w then cacheLines (rungAddr w / 512) lines else lines

/-- Worst clocks of the words from one on, over every path that the skips allow (R60): `skip` words are still to be passed
over, `group` plain words stand in the open group of 4, and `lines` is the bit cache. -/
def pathClocks : List Word → (skip group : Nat) → (lines : List Nat) → Nat
  | [], _, _, _ => 0
  | _ :: ws, skip + 1, group, lines => pathClocks ws skip group lines
  | w :: ws, 0, group, lines =>
    let after := linesAfter w lines
    let plain := (if group = 0 ∨ group = 4 then 1 + pathClocks ws 0 1 after else pathClocks ws 0 (group + 1) after)
      + missClocks w lines
    if rungOp w = 0x02 then 8
    else if isEdge w then 1 + missClocks w lines + pathClocks ws 0 0 after
    else if isTimer w then 2 + pathClocks ws 0 0 lines
    else if isSkip w then max plain (2 + pathClocks ws (rungLow w) 0 lines)
    else plain

/-- Worst-case clocks of a network, whose run starts with an empty cache. -/
def netClocks (ws : List Word) : Nat := 24 + pathClocks ws 0 0 []

/-! ### Budget timing (R75, R88) -/

/-- R75 fails for a task; `sag` for BUDGET_SAG at 1.2 GHz (R88). The sums are in 1/128 ns, in which the bounds of R41 are
whole numbers. -/
def budgetFails (s : State) (p : Program) (sag : Bool) (d : TaskDef) : Bool :=
  let b := if sag then d.budgetSag else d.budget
  let bounds := snapBound128 d + commitBound128 d
  let clocks := d.nets.map (fun n => netClocks (netWords s p n))
  (b ≠ 0 && clocks.any (fun c => c * 10 > b * (if sag then 12 else 16)))
    || (match d.kind with
        | .sync => 128 * (fget s NET_RX_CUTOFF_NS + 500 + b + 1600) + bounds > 128 * fget s NET_TX_OPEN_NS
        | .cyclic => bounds + 128 * b > 128 * (d.period * tSync s)
        | _ => false)
    || (sag && d.budgetSag < d.budget)

/-- BUDGET_TIMING of R75. -/
def budgetRefusal (s : State) (p : Program) (sag : Bool) : Option (Nat × Nat) :=
  if p.tasks.any (fun (_, d) => budgetFails s p sag d) then some (0x05, 0x0204) else none

end Sys2Proof.Machine
end

