-- ==== Sys2Proof/Machine/GraftCheck.lean ====
section
/-! DEFINITION. What GRAFT_CHECK verifies (R98): the image (R93, R94), room (R36, R231, R233), the task table (R35, R62, R64–
R67, R71, R124), sources, ranges and indices (R30, R42, R57), templates (R161, R162), networks and regions (R51–R59, R225),
and the switch time (R101). A refusal is a status and a reason. -/

namespace Sys2Proof.Machine

open Reg

/-- The generation in force as a whole: tasks whose new code waits for their next release have it here (R92, R100). -/
def latest (s : State) : Program :=
  { s.prog.cur with tasks := s.prog.cur.tasks.map (fun (t, d) => (t, (look s.prog.pendTasks t).getD d)) }

/-! ### Runs of addresses -/

/-- How far the union of runs reaches without a gap from a position, in at most `n` runs. -/
def coverTo (runs : List (Nat × Nat)) : Nat → Nat → Nat
  | 0, pos => pos
  | n + 1, pos =>
    match runs.find? (fun (a, len) => a ≤ pos ∧ pos < a + len) with
    | some (a, len) => coverTo runs n (a + len)
    | none => pos

def covers (runs : List (Nat × Nat)) (a n : Nat) : Bool := coverTo runs runs.length a ≥ a + n

def meets (x y : Nat × Nat) : Bool := x.1 < y.1 + y.2 ∧ y.1 < x.1 + x.2

def anyMeets (runs : List (Nat × Nat)) (x : Nat × Nat) : Bool := runs.any (meets x)

/-- Two runs of different places in a list overlap. -/
def selfMeets : List (Nat × Nat) → Bool
  | [] => false
  | x :: xs => anyMeets xs x || selfMeets xs

/-! ### The image (R93, R94) -/

/-- A section table entry of R93. -/
structure Section where
  type : Nat
  task : Nat
  offset : Nat
  size : Nat
  crc : Nat
  deriving DecidableEq, Repr

def imgAt (s : State) (a n : Nat) : Nat := ofLe (rdN s.prog.image a n)

def sectionCount (s : State) : Nat := imgAt s 12 4

def sectionAt (s : State) (i : Nat) : Section :=
  let a := 96 + 16 * i
  { type := imgAt s a 2, task := imgAt s (a + 2) 2, offset := imgAt s (a + 4) 4, size := imgAt s (a + 8) 4
    crc := imgAt s (a + 12) 4 }

def sectionsOf (s : State) : List Section := (List.range (min 256 (sectionCount s))).map (sectionAt s)

/-- First row of R98: every byte loaded, DIGEST and every section CRC match. A header that is no Graft image fails here too. R98 gives
MAGIC, FORMAT, the reserved bytes of the header and the ranges of the section table no place in its order: the model judges
them between the length and DIGEST (DESIGN CHOICE, log entry 111). -/
def digestRefusal (s : State) : Option (Nat × Nat) :=
  firstOf [
    (!covers s.prog.loaded 0 s.prog.length ∨ imgAt s 0 4 ≠ 0x54465247 ∨ imgAt s 16 8 ≠ s.prog.length, 0x09, 0x0301),
    (imgAt s 4 2 ≠ 1, 0x07, 0),
    (imgAt s 24 8 ≠ 0 ∨ imgAt s 80 16 ≠ 0 ∨ imgAt s 7 1 > 1 ∨ sectionCount s = 0 ∨ sectionCount s > 256
      ∨ (sectionsOf s).any (fun x => x.offset + x.size > s.prog.length ∨ (x.task > 31 ∧ x.task ≠ 0xFFFF)), 0x02, 0x0111),
    (rdN s.prog.image 32 48 ≠ Config.sha384 (rdN s.prog.image 96 (s.prog.length - 96))
      ∨ (sectionsOf s).any (fun x => crc32c (rdN s.prog.image x.offset x.size) ≠ x.crc), 0x09, 0x0301)]

/-- Section types that a kind may hold (R93). -/
def typeAllowed (kind t : Nat) : Bool :=
  t = 1 ∨ t = 2 ∨ t = 0x0B ∨ (kind ≥ 1 ∧ 7 ≤ t ∧ t ≤ 0x0A) ∨ (kind = 2 ∧ 1 ≤ t ∧ t ≤ 0x0B)

/-- The bytes of the sections of a type, in table order. -/
def sectionBytes (s : State) (t : Nat) : List Byte :=
  ((sectionsOf s).filter (fun x => x.type = t)).flatMap (fun x => rdN s.prog.image x.offset x.size)

/-- A move entry of 16 bytes (R94). -/
def moveOf (b : List Byte) : Move :=
  { src := leAt b 0 4, dst := leAt b 4 4, len := leAt b 8 4
    fill := if leAt b 12 1 = 1 then some (b.getD 13 0) else none }

def moveBytes (b : List Byte) : List (List Byte) := (List.range (b.length / 16)).map (fun i => (b.drop (16 * i)).take 16)

def movesOf (b : List Byte) : List Move := (moveBytes b).map moveOf

/-- Data SRAM below the view pool and banks 1–15 (R226). -/
def taskMemory (a n : Nat) : Bool :=
  (0x10000000 ≤ a ∧ a + n ≤ 0x10400000) ∨ (0x30010000 ≤ a ∧ a + n ≤ 0x30100000)

/-- Data SRAM and retained SRAM whole, as a SRC may name them (R94, R226). -/
def sourceMemory (a n : Nat) : Bool :=
  (0x10000000 ≤ a ∧ a + n ≤ 0x10800000) ∨ (0x30000000 ≤ a ∧ a + n ≤ 0x30100000)

/-- A move entry that breaks its format. -/
def moveBad (b : List Byte) : Bool :=
  leAt b 8 4 = 0 ∨ leAt b 8 4 > 16777216 ∨ leAt b 12 1 > 1 ∨ (leAt b 12 1 = 0 ∧ leAt b 13 1 ≠ 0)
    ∨ (leAt b 12 1 = 0 ∧ !sourceMemory (leAt b 0 4) (leAt b 8 4))

/-- DST of a list lies in what one generation allocates and the other does not use (R94). -/
def targetsBad (into_ other : Program) (ms : List Move) : Bool :=
  ms.any fun m => !taskMemory m.dst m.len ∨ !covers into_.alloc m.dst m.len ∨ anyMeets other.alloc (m.dst, m.len)

/-- What CODE and LAYOUT leave of a task (R91). -/
def taskShape (kind : Nat) (d : TaskDef) : TaskDef :=
  { d with
    cores := d.cores.map (fun c => { c with
      entry := 0, pages := []
      dsLo := if kind = 0 then c.dsLo else 0
      dsHi := if kind = 0 then c.dsHi else 0
      depth := if kind = 0 then c.depth else 0 })
    nets := []
    regions := if kind = 0 then d.regions else []
    ftz := false
    dztrap := false }

/-- The program keeps what no section of its kind can change (R91, R93). -/
def kindKeeps (kind : Nat) (cur p : Program) : Bool :=
  kind = 2
    || (decide (p.tasks.map (fun x => (x.1, taskShape 1 x.2)) = cur.tasks.map (fun x => (x.1, taskShape 1 x.2)))
      && decide (p.sources = cur.sources ∧ p.templates = cur.templates)
      && decide (p.fioMapIn = cur.fioMapIn ∧ p.fioMapOut = cur.fioMapOut ∧ p.lptMap0 = cur.lptMap0 ∧ p.lptMap1 = cur.lptMap1)
      && (kind = 1 || decide (p.timers = cur.timers ∧ p.counters = cur.counters)))

/-- The data declarations of every task stay as they are: the ninth row of R98, for a CODE Graft. -/
def dataKept (cur p : Program) : Bool :=
  decide (p.tasks.map (fun x => (x.1, taskShape 0 x.2)) = cur.tasks.map (fun x => (x.1, taskShape 0 x.2))
    ∧ p.alloc = cur.alloc ∧ p.declares = cur.declares)

/-- Second row of R98. A header whose BASE_GEN is not that of GRAFT_OPEN, or whose REVERSIBLE does not tell of its RECONVERT
section, is refused as KIND_MISMATCH (DESIGN CHOICE, log entry 76: the spec names no refusal for it). Reserved fields of move
entries and templates are judged first (R18; their place is a DESIGN CHOICE, log entry 111). -/
def kindRefusal (s : State) (kind : Nat) (p : Program) : Option (Nat × Nat) :=
  let conv := sectionBytes s 0x09
  let recon := sectionBytes s 0x0A
  firstOf [
    ((moveBytes conv ++ moveBytes recon).any (fun b => leAt b 14 2 ≠ 0) ∨ p.templates.any (fun x => x.2.reserved), 0x02, 0x0111),
    (imgAt s 6 1 ≠ kind ∨ imgAt s 8 4 ≠ s.prog.baseGen ∨ (sectionsOf s).any (fun x => !typeAllowed kind x.type)
      ∨ (imgAt s 7 1 = 1) ≠ (sectionsOf s).any (fun x => x.type = 0x0A) ∨ !kindKeeps kind s.prog.cur p
      ∨ conv.length % 16 ≠ 0 ∨ recon.length % 16 ≠ 0 ∨ (moveBytes conv).any moveBad ∨ (moveBytes recon).any moveBad,
      0x09, 0x0302),
    (targetsBad p s.prog.cur (movesOf conv) ∨ targetsBad s.prog.cur p (movesOf recon), 0x09, 0x0303)]

/-! ### Room (R36, R231, R233) -/

/-- Bytes of a task's view (R36). -/
def viewBytes (d : TaskDef) : Nat := 1024 + (d.ranges.map (fun r => ((rangeBytes r).2 + 63) / 64 * 64)).sum

def viewUse (p : Program) : Nat := (p.tasks.map (fun x => viewBytes x.2)).sum

/-- The extents in the rung store that a program uses. -/
def rungExtents (p : Program) : List (Nat × Nat) := p.tasks.flatMap (fun x => x.2.nets.map (fun n => (n.first, n.count)))

/-- The pages of the code store that a program uses on a core. -/
def pagesOn (p : Program) (c : Nat) : List Nat :=
  p.tasks.flatMap (fun x => (x.2.cores.filter (fun y => y.core.val = c)).flatMap (·.pages))

def codePages (p : Program) : List Nat := p.tasks.flatMap (fun x => x.2.cores.flatMap (·.pages))

/-- Return entries that the tasks of a core declare, with the runtime's 16 each (R233). -/
def returnUse (p : Program) (c : Nat) : Nat :=
  (p.tasks.flatMap (fun x => (x.2.cores.filter (fun y => y.core.val = c)).map (fun y => y.depth + 16))).sum

/-- Third row of R98: what the Graft loads lies beside the generation in force, and beside older code that a task still
runs. -/
def roomRefusal (s : State) (p : Program) : Option (Nat × Nat) :=
  let inUse := [s.prog.cur, latest s]
  firstOf [
    (p.rung.any (fun x => x.1 ≥ 1048576 ∨ inUse.any (fun cur => anyMeets (rungExtents cur) (x.1, 1)))
      ∨ p.code.any (fun x => x.1 ≥ 16777216 ∨ inUse.any (fun cur => (codePages cur).contains (x.1 / 4096)))
      ∨ p.alloc.any (fun x => !taskMemory x.1 x.2), 0x03, 0x0406),
    ((List.range 8).any (fun c => (pagesOn p c).length > 56 ∨ (pagesOn p c).eraseDups.length ≠ (pagesOn p c).length),
      0x03, 0x0402),
    ((List.range 8).any (fun c => returnUse p c > 1024), 0x03, 0x0403),
    (viewUse p > 4194304, 0x03, 0x0406)]

/-! ### The task table (R35, R62, R64, R66, R67, R71, R124) -/

/-- A range descriptor that breaks R35. -/
def rangeBad (r : Range) : Bool :=
  r.len = 0 ∨ r.start + r.len > 8 * sBase ∨ (!r.out ∧ (r.start % 8 ≠ 0 ∨ r.len % 8 ≠ 0)) ∨ (r.out ∧ r.start < 0x100000)

/-- A release source that R66 does not allow. -/
def eventBad (p : Program) (t : Nat) : EventSource → Bool
  | .host => false
  | .chain u => decide (u = t) || (look p.tasks u).isNone
  | .rise b => decide (b ≥ 0x100000)
  | .fall b => decide (b ≥ 0x100000)

/-- Data stacks of the tasks pinned to a core. -/
def slicesOn (p : Program) (c : Nat) : List (Nat × Nat) :=
  p.tasks.flatMap fun x => (x.2.cores.filter (fun k => k.core.val = c ∧ k.dsLo < k.dsHi)).map (fun k => (k.dsLo, k.dsHi - k.dsLo))

/-- Slices of tasks on one core overlap (R232). -/
def slicesBad (p : Program) : Bool := (List.range 8).any (fun c => selfMeets (slicesOn p c))

/-- A table entry outside the limits of R62 and R64–R67. -/
def taskBad (s : State) (p : Program) (t : Nat) (d : TaskDef) : Bool :=
  t > 31 ∨ d.prio > 31 ∨ d.grace > 3 ∨ (d.cores.isEmpty ∧ d.lanes = 0) ∨ (!d.nets.isEmpty ∧ d.lanes = 0)
    ∨ d.nets.any (fun n => !d.lanes.getLsbD n.lane.val)
    ∨ (d.cores.map (·.core)).eraseDups.length ≠ d.cores.length
    ∨ d.cores.any (fun c => c.dsLo > c.dsHi ∨ c.dsHi > 0x20000 ∨ c.pages.any (· ≥ 4096))
    ∨ !((1000 ≤ d.budget ∧ d.budget ≤ 1000000000) ∨ (d.kind = .background ∧ d.budget = 0))
    ∨ (d.kind = .cyclic ∧ (d.period = 0 ∨ d.period > 65535 ∨ d.phase ≥ d.period ∨ d.ofs ≥ tSync s))
    ∨ (d.kind = .background ∧ (d.period < 10 ∨ d.period > 65535))
    ∨ (d.kind = .event ∧ eventBad p t d.source)
    ∨ (inRanges d).length > 16 ∨ (outRanges d).length > 16 ∨ d.ranges.any rangeBad ∨ d.regions.length > 8

/-- A template or field entry that breaks R161 or R162. -/
def templateBad (p : Program) (i : Nat) (t : Template) : Bool :=
  i > 255 ∨ t.port > 5 ∨ (t.tx ∧ t.kind ≠ kSetpoint ∧ t.kind ≠ kStatus) ∨ (!t.tx ∧ t.kind ≠ kCollect ∧ t.kind ≠ kPlantData)
    ∨ (if t.kind = kSetpoint ∨ t.kind = kCollect then !(t.port < 2 ∨ t.port = 4) ∨ !t.dstMac.getLsbD 40
       else t.port < 2 ∨ t.port = 4)
    ∨ (t.tx ∧ t.sender ≠ 0) ∨ t.vlan.elim false (fun v => v.toNat / 8192 ≠ 7)
    ∨ t.fields.length = 0 ∨ t.fields.length > 128 ∨ t.payloadLen < 22 ∨ t.payloadLen > 1476
    ∨ (if t.kind = kCollect then t.slotSize < 4 ∨ t.slotSize > 256 ∨ t.payloadLen % t.slotSize ≠ 0 ∨ t.payloadLen / t.slotSize > 64
       else t.slotSize ≠ 0)
    ∨ t.every = 0 ∨ t.every > 65535 ∨ t.everyPhase ≥ t.every
    ∨ (if t.tx then t.lostLimit ≠ 0 else t.lostLimit = 0 ∨ t.lostLimit > 255)
    ∨ (t.tx ∧ t.safe.length ≠ t.payloadLen)
    ∨ t.fields.any (fun f => f.length = 0 ∨ f.frameOfs + f.length > t.payloadLen ∨ f.imgAddr + f.length > sBase
        ∨ (t.kind = kStatus ∧ f.frameOfs < 16)
        ∨ !([0, 2, 4, 8].contains f.swap) ∨ (f.swap ≠ 0 ∧ f.length % f.swap ≠ 0)
        ∨ (!t.tx ∧ (List.range f.length).any (fun j => !sourceIs p (.template i) (f.imgAddr + j))))
    ∨ selfMeets (t.fields.map (fun f => (f.frameOfs, f.length)))

/-- Image runs of all receive fields. -/
def receiveRuns (p : Program) : List (Nat × Nat) :=
  (p.templates.filter (fun x => !x.2.tx)).flatMap (fun x => x.2.fields.map (fun f => (f.imgAddr, f.length)))

/-- A mapped output word of the field island is a word of the Q area (R282). -/
def outMapBad (p : Program) : Bool :=
  let a := bits p.fioMapOut.toNat 0 18
  p.fioMapOut.getLsbD 31 ∧ (a % 4 ≠ 0 ∨ a < 0x20000 ∨ 0x40000 < a + 4)

/-- Fourth and fifth rows of R98, with R124. -/
def tableRefusal (s : State) (p : Program) : Option (Nat × Nat) :=
  let prios := p.tasks.map (fun x => x.2.prio)
  let released := (s.trl.entries.filter (fun x => x.2.valid ∧ x.2.action = 4)).map (fun x => bits x.2.param 8 5)
  firstOf [
    (prios.eraseDups.length ≠ prios.length, 0x05, 0x0201),
    ((p.tasks.filter (fun x => x.2.kind = .sync)).length > 1, 0x05, 0x0202),
    (p.tasks.any (fun x => taskBad s p x.1 x.2) ∨ slicesBad p ∨ p.templates.any (fun x => templateBad p x.1 x.2) ∨ selfMeets (receiveRuns p)
      ∨ outMapBad p, 0x02, 0x0111),
    (released.any (fun t => isAngleTask s t ∧ !(look p.tasks t).elim false (fun d => d.kind = .angle)), 0x05, 0x020C),
    (p.tasks.any (fun x => x.2.kind = .sync ∧ p.tasks.any (fun y => y.1 ≠ x.1 ∧ shares x.2 y.2 ∧ y.2.prio > x.2.prio)),
      0x05, 0x0203)]

/-! ### Sources, ranges, indices (R30, R42, R57) -/

/-- The output ranges of a task. -/
def outRuns (d : TaskDef) : List (Nat × Nat) := (outRanges d).map (fun r => (r.start, r.len))

/-- Two tasks' output sets share a bit (R42). -/
def outputsShare : List (Nat × TaskDef) → Bool
  | [] => false
  | x :: xs => xs.any (fun y => (outRuns x.2).any (anyMeets (outRuns y.2))) || outputsShare xs

/-- Every byte of a run has a source (R30). -/
def runFrom (p : Program) (src : Source) (a n : Nat) : Bool := (List.range n).all (fun i => sourceIs p src (a + i))

/-- The input record has the field island as its source (R281). -/
def mapBad (p : Program) : Bool :=
  let a := bits p.fioMapIn.toNat 0 17
  p.fioMapIn.getLsbD 31 ∧ (a % 32 ≠ 0 ∨ !runFrom p .field a 32)

/-- The readback record of a mapped loop transmitter has that transmitter as its source (R30, R308). -/
def loopMapBad (p : Program) : Bool :=
  [(0, p.lptMap0), (1, p.lptMap1)].any fun (x, w) =>
    w.getLsbD 31 && !runFrom p (.loop x) (16 * bits w.toNat 16 13) 16

/-- First address and length of the slots of a capture unit (R134). -/
def capSlots (s : State) (c : Nat) : Nat × Nat := (fget s (TRL_CAP_CFG_ADDR c), 32 * 2 ^ fget s (TRL_CAP_CFG_DEPTH c))

/-- A slot byte of an enabled capture unit has another source (R30, R134). -/
def captureSource (s : State) (p : Program) : Bool :=
  (List.range 16).any fun c =>
    fbit s (TRL_CAP_CFG_ENABLE c) && !runFrom p (.capture c) (capSlots s c).1 (capSlots s c).2

/-- One index is given to two tasks: the table names it twice (R57). -/
def namedTwice (m : SMap TcDecl) : Bool := (m.map (·.1)).eraseDups.length ≠ m.length

/-- Sixth row of R98. An index above 65,535 or a time base above 5 is refused as TC_INDEX (DESIGN CHOICE, log entry 77: the spec
names no refusal for it). -/
def sourceRefusal (s : State) (p : Program) : Option (Nat × Nat) :=
  firstOf [
    (p.sources.any (fun r => r.start + r.len > 0x20000) ∨ selfMeets (p.sources.map (fun r => (r.start, r.len))) ∨ mapBad p
      ∨ loopMapBad p ∨ captureSource s p, 0x05, 0x0206),
    (outputsShare p.tasks, 0x05, 0x0205),
    (p.tasks.any (fun x => x.2.nets.any (fun n => (netWords s p n).any (tcBad p x.1)))
      ∨ namedTwice p.timers ∨ namedTwice p.counters
      ∨ p.timers.any (fun x => x.1 ≥ 65536 ∨ x.2.base > 5) ∨ p.counters.any (fun x => x.1 ≥ 65536), 0x05, 0x0207)]

/-! ### Networks, regions, timing (R51–R59, R75, R225) -/

/-- A protection region outside R225. -/
def regionBad (r : Region) : Bool :=
  r.base % 64 ≠ 0 ∨ r.limit % 64 ≠ 0 ∨ r.limit ≤ r.base ∨ (r.w ∧ !r.r) ∨ !taskMemory r.base (r.limit - r.base)

/-- Rows of R98 from the networks to the data declarations, with the checks of R225 and R290 on the program. -/
def programRefusal (s : State) (kind : Nat) (p : Program) : Option (Nat × Nat) :=
  (firstOf [
    (p.tasks.any (fun x => x.2.nets.any (netBad s p)), 0x09, 0x0308),
    (p.tasks.any (fun x => x.2.regions.any regionBad), 0x09, 0x0304)]).or <|
  (budgetRefusal s p false).or <|
  (firstOf [(kind = 0 ∧ !dataKept s.prog.cur p, 0x09, 0x0302),
    (kind = 2 ∧ s.trl.entries.any (fun x => x.2.valid ∧ x.2.output ∧ !trellisOwned s x.2.ch), 0x05, 0x020B)])

/-- A commit that loads templates is judged with them in force (R155, R164). -/
def templateRefusal (s : State) (kind : Nat) (p : Program) : Option (Nat × Nat) :=
  let with_ : State := { s with prog.cur := p }
  if kind = 2 ∧ !p.templates.isEmpty then (scheduleRefusal with_).or (gatherRefusal with_) else none

/-! ### The switch time (R101) -/

/-- T_sw in ns; a CODE Graft has no switch step (R100). -/
def switchTime (kind : Nat) (ms : List Move) : Nat :=
  if kind = 0 then 0
  else 2000 + 40 * ms.length + ((ms.map (·.len)).sum + 15) / 16 + (if kind = 2 then 10000 else 0)

def maskOf (ts : List Nat) : Nat := ts.eraseDups.foldl (fun m t => m ||| 2 ^ t) 0

/-- Tasks whose table entry, with its code extents, networks and data declarations, differs between two programs. -/
def taskDiffs (from_ into_ : Program) : List Nat :=
  ((into_.tasks ++ from_.tasks).map (·.1)).eraseDups.filter (fun t => look from_.tasks t ≠ look into_.tasks t)

/-- Tasks whose timers or counters differ between two programs. -/
def tcDiffs (from_ into_ : Program) : List Nat :=
  let owners := fun (m n : SMap TcDecl) => (m.filter (fun x => look n x.1 ≠ some x.2)).map (·.2.task.val)
  owners into_.timers from_.timers ++ owners from_.timers into_.timers ++ owners into_.counters from_.counters
    ++ owners from_.counters into_.counters

/-- Tasks that a switch from one program to another affects (R101): those that differ, those that the image names as changed, and
those that declare data of a move. -/
def affectedMask (kind : Nat) (from_ into_ : Program) (named_ : BitVec 32) (ms : List Move) : Nat :=
  let changed := named_ ||| BitVec.ofNat 32 (maskOf (taskDiffs from_ into_ ++ tcDiffs from_ into_))
  let named := (into_.declares ++ from_.declares).filter (fun (_, a, n) =>
    ms.any (fun m => meets (m.dst, m.len) (a, n) ∨ (m.fill.isNone ∧ meets (m.src, m.len) (a, n))))
  match kind with
  | 0 => changed.toNat
  | 1 => changed.toNat ||| maskOf (named.map (·.1))
  | _ => maskOf ((into_.tasks ++ from_.tasks).map (·.1))

/-- The first failure of R98. -/
def graftRefusal (s : State) (kind : Nat) (p : Program) : Option (Nat × Nat) :=
  (digestRefusal s).or <| (kindRefusal s kind p).or <| (roomRefusal s p).or <| (tableRefusal s p).or <|
  (sourceRefusal s p).or <| (programRefusal s kind p).or <|
  (firstOf [(switchTime kind (movesOf (sectionBytes s 0x09)) > 500000, 0x03, 0x0401)])

end Sys2Proof.Machine
end

