-- ==== Sys2Proof/Machine/Operands.lean ====
section
/-! DEFINITION. The operands of the cycle cores' instructions: the formats of R243 field by field, which words are
reserved or illegal (R244, R245, R249), general registers and predicates (R220), the guard (R221), special registers
(R222), and the data map that loads, stores and atomics meet (R225–R228, R232, R37, R59). -/

namespace Sys2Proof.Machine

/-! ### Fields (R221, R243) -/

def evOp (w : Word) : Nat := bits w.toNat 22 6
/-- RD, bits 21:17. -/
def evRd (w : Word) : Nat := bits w.toNat 17 5
/-- RA, bits 16:12. -/
def evRa (w : Word) : Nat := bits w.toNat 12 5
/-- RB, bits 11:7. -/
def evRb (w : Word) : Nat := bits w.toNat 7 5
/-- FN, bits 6:0. -/
def evFn (w : Word) : Nat := bits w.toNat 0 7
/-- RS of format R4. -/
def evRs (w : Word) : Nat := bits w.toNat 2 5
/-- IMM12, OFS12 or BOFS. -/
def evImm12 (w : Word) : Nat := bits w.toNat 0 12
/-- IMM12 or OFS12 with its sign. -/
def evSimm (w : Word) : Word := BitVec.ofInt 32 (toInt 12 (evImm12 w))
def evImm17 (w : Word) : Nat := bits w.toNat 0 17
/-- LEN and POS of format BF. -/
def evLen (w : Word) : Nat := bits w.toNat 6 6
def evPos (w : Word) : Nat := bits w.toNat 1 5
/-- PD of formats C, CI, P and K. -/
def evPd (w : Word) : Nat := bits w.toNat 19 3
/-- CMODE of formats C and CI, KFN of format K. -/
def evMode (w : Word) : Nat := bits w.toNat 17 2
/-- PFN of format P. -/
def evPfn (w : Word) : Nat := bits w.toNat 8 3
/-- DISP22 in bytes. -/
def evDisp (w : Word) : Int := 4 * toInt 22 (bits w.toNat 0 22)
def evXop (w : Word) : Nat := bits w.toNat 16 6

/-! ### Reserved and illegal words -/

/-- Function codes of ALU (R250). -/
def aluFns : List Nat :=
  [0x00, 0x01, 0x02, 0x03, 0x04, 0x08, 0x09, 0x0A, 0x0B, 0x0C, 0x10, 0x11, 0x12, 0x13, 0x14, 0x18, 0x19, 0x1A,
   0x20, 0x21, 0x22, 0x23, 0x30, 0x31, 0x32, 0x33, 0x38, 0x39, 0x3A, 0x3B, 0x40, 0x41]

/-- A reserved major opcode, function code or escape XOP: UNIMPLEMENTED, whatever the rest of the word (R244, R245,
R249). -/
def evReserved (w : Word) : Bool :=
  let fn := evFn w
  match evOp w with
  | 0x00 => fn ∉ aluFns
  | 0x05 => bits w.toNat 9 3 > 4
  | 0x0B => fn > 6
  | 0x10 => evPfn w > 3
  | 0x1E => fn > 1
  | 0x24 => fn > 2
  | 0x26 => fn > 8
  | 0x27 => fn > 8
  | 0x28 => fn ∉ [0, 1, 2, 3, 0x10, 0x11, 0x12, 0x13]
  | 0x29 => fn ∉ [0, 1, 2, 3, 4, 8, 9, 0x0A, 0x0B, 0x0C, 0x10, 0x11]
  | 0x2B => fn > 1
  | 0x2C => fn > 1
  | 0x2E => fn > 1
  | 0x3F => evXop w ≥ 0x10
  | op => op > 0x2E

/-- An encoding that R243, R249, R250, R254–R264 call illegal: a reserved field that is not 0, CMODE 3, LEN 0 or above
32, an odd register in a pair field, a reserved SR number, a DSADJ that is no multiple of 4. -/
def evIllegal (w : Word) : Bool :=
  let fn := evFn w
  let rd := evRd w
  let ra := evRa w
  let rb := evRb w
  let odd := fun r => r % 2 = 1
  match evOp w with
  | 0x00 => (fn ∈ [0x04, 0x0C, 0x18, 0x19, 0x1A] ∧ rb ≠ 0) ∨ (fn = 0x40 ∧ (ra ≠ 0 ∨ rb ≠ 0))
      ∨ (fn = 0x41 ∧ (rd ≠ 0 ∨ rb ≠ 0))
  | 0x05 => bits w.toNat 5 4 ≠ 0
  | 0x08 => evLen w = 0 ∨ evLen w > 32 ∨ w.getLsbD 0
  | 0x09 => evLen w = 0 ∨ evLen w > 32 ∨ w.getLsbD 0
  | 0x0A => evLen w = 0 ∨ evLen w > 32 ∨ w.getLsbD 0
  | 0x0B => evMode w = 3
  | 0x0C => evMode w = 3
  | 0x0D => evMode w = 3
  | 0x0E => evMode w = 3
  | 0x0F => evMode w = 3
  | 0x10 => bits w.toNat 0 8 ≠ 0 ∨ (evPfn w = 3 ∧ (bits w.toNat 13 3 ≠ 0 ∨ w.getLsbD 11))
  | 0x11 => bits w.toNat 0 2 ≠ 0
  | 0x1C => odd rd
  | 0x1D => odd rd
  | 0x1F => rd ≠ 0 ∨ ra ≠ 0 ∨ evImm12 w % 4 ≠ 0
  | 0x20 => ra ≠ 0
  | 0x21 => ra ≠ 0
  | 0x24 => rd ≠ 0 ∨ rb ≠ 0 ∨ (fn = 0 ∧ ra ≠ 0)
  | 0x25 => if w.getLsbD 21 then bits w.toNat 0 16 ≠ 0 else bits w.toNat 16 5 ≠ 0
  | 0x26 => 4 ≤ fn ∧ fn ≠ 5 ∧ fn ≠ 6 ∧ rb ≠ 0
  | 0x27 => odd rd ∨ odd ra ∨ odd rb ∨ (4 ≤ fn ∧ fn ≠ 5 ∧ fn ≠ 6 ∧ rb ≠ 0)
  | 0x28 => evMode w = 3 ∨ (fn ≥ 0x10 ∧ (odd ra ∨ odd rb))
  | 0x29 => rb ≠ 0 ∨ (fn ∈ [0x08, 0x09, 0x10] ∧ odd rd) ∨ (fn ∈ [0x0A, 0x0B, 0x0C, 0x11] ∧ odd ra)
  | 0x2A => bits w.toNat 16 6 ≠ 0
  | 0x2B => rb ≠ 0 ∨ (fn = 0 ∧ ra > 13) ∨ (fn = 1 ∧ rd > 13)
  | 0x2C => bits w.toNat 7 15 ≠ 0
  | 0x2D => bits w.toNat 16 6 ≠ 0
  | 0x2E => bits w.toNat 7 15 ≠ 0
  | _ => false

/-- A word that may not follow REP (R240): BR, CALL, REP, SYS, BREAK, RET, JR, CALLR, ERET, ERETN and MTSR to RC. A reserved
function code is none of these. -/
def evNoRepeat (w : Word) : Bool :=
  evOp w ∈ [0x22, 0x23, 0x25, 0x2A, 0x2D] ∨ (evOp w = 0x24 ∧ evFn w ≤ 2) ∨ (evOp w = 0x2C ∧ evFn w ≤ 1)
    ∨ (evOp w = 0x2B ∧ evFn w = 1 ∧ evRd w = 7)

/-! ### Registers and predicates (R220) -/

/-- g[n]; g0 reads 0. -/
def gReg (x : Ctx) (n : Nat) : Word := if n = 0 then 0 else lookD x.g n 0

/-- Writes g[n]; a write to g0 is discarded. -/
def setG (n : Nat) (v : Word) (x : Ctx) : Ctx := if n = 0 then x else { x with g := put n v x.g }

/-- d[n]: the pair g[n+1]:g[n]. -/
def dReg (x : Ctx) (n : Nat) : Nat := (gReg x n).toNat + 2 ^ 32 * (gReg x (n + 1)).toNat

/-- Writes d[n]. -/
def setD (n v : Nat) (x : Ctx) : Ctx := setG (n + 1) (BitVec.ofNat 32 (v / 2 ^ 32)) (setG n (BitVec.ofNat 32 v) x)

/-- Predicate k; p0 reads 1. -/
def pReg (x : Ctx) (k : Nat) : Bool := k = 0 ∨ x.p.getLsbD k

/-- Writes predicate k; a write to p0 is discarded. -/
def setP (k : Nat) (v : Bool) (x : Ctx) : Ctx :=
  if k = 0 then x
  else { x with p := if v then x.p ||| BitVec.ofNat 8 (2 ^ k) else x.p &&& ~~~(BitVec.ofNat 8 (2 ^ k)) }

/-- PD as CMODE directs (R257). -/
def setCmp (w : Word) (r : Bool) (x : Ctx) : Ctx :=
  let old := pReg x (evPd w)
  setP (evPd w) (match evMode w with
    | 1 => old && r
    | 2 => old || r
    | _ => r) x

/-- The guard of a word (R221). -/
def guardHolds (x : Ctx) (w : Word) : Bool := pReg x (bits w.toNat 28 3) ^^ w.getLsbD 31

/-! ### One instruction on one core -/

/-- What an instruction runs in: core, word, context at issue and iteration of a repeat (R241). -/
structure Ev where
  c : Nat
  w : Word
  x : Ctx
  i : Nat

/-- A trap: code and CAUSE_WORD (R234). -/
abbrev Trap := Nat × Word

/-- The effect of an instruction: the state without the advance of the PC, and a trap. One that traps leaves the state as
it was, save DIVZERO (R235, R249). -/
abbrev EvAct := Ev → State → State × Option Trap

def setCtx (c : Nat) (x : Ctx) (s : State) : State := setCore c (fun k => { k with ctx := x }) s

/-- An instruction that only changes the context. -/
def evPure (f : Word → Ctx → Ctx) : EvAct := fun e s => (setCtx e.c (f e.w e.x) s, none)

/-- The task in service on a core. -/
def serving (s : State) (c : Nat) : Option Nat := (core s c).task.map (·.val)

/-- The declaration of the task in service. -/
def servingDef (s : State) (c : Nat) : Option TaskDef := (serving s c).bind (taskDef s)

/-! ### Code pages (R231) -/

/-- Code-store page numbers that a task has on a core. -/
def pagesOf (d : TaskDef) (c : Nat) : List Nat :=
  (d.cores.find? (fun x => x.core.val = c)).elim [] (·.pages)

/-- The code-store page of an address is mapped for the core in the mode (R231): for TASK, a page of the task in service;
for RUNTIME, any page of the core's page table, which holds the runtime's pages and those of the tasks on the core. -/
def pageMapped (s : State) (c : Nat) (mode : Mode) (a : Word) : Bool :=
  let page := a.toNat / 4096
  match mode with
  | .task => (servingDef s c).elim false (fun d => (pagesOf d c).contains page)
  | .runtime => (core s c).runtimePages.contains page ∨ s.prog.cur.tasks.any (fun (_, d) => (pagesOf d c).contains page)

/-- An address that can be fetched. -/
def canFetch (s : State) (c : Nat) (mode : Mode) (a : Word) : Bool :=
  a.toNat % 4 = 0 && a.toNat < 2 ^ 24 && pageMapped s c mode a

/-- The target of a control transfer is refused with FETCH (R263). -/
def badTarget (s : State) (c : Nat) (x : Ctx) (a : Word) : Bool :=
  a.toNat % 4 ≠ 0 ∨ a.toNat ≥ 2 ^ 24 ∨ (x.mode = .task ∧ !pageMapped s c .task a)

/-! ### Data accesses -/

/-- A byte belongs to a range when one of its bits does (R37). -/
def byteIn (r : Range) (b : Nat) : Bool := r.start < 8 * b + 8 ∧ 8 * b < r.start + r.len

/-- A view byte that a core may load or store (R37). -/
def byteReadable (d : TaskDef) (b : Nat) : Bool := b ≥ sBase ∨ d.ranges.any (fun r => byteIn r b)
def byteWritable (d : TaskDef) (b : Nat) : Bool := (outRanges d).any (fun r => byteIn r b)

def inRuns (rs : List (Nat × Nat)) (b : Nat) : Bool := rs.any (fun (a, n) => a ≤ b ∧ b < a + n)

/-- A lane of the task runs a network whose declaration bars the access (R59). -/
def laneBars (s : State) (t : Nat) (b : Nat) (store : Bool) : Bool :=
  (List.range 4).any fun l =>
    let k := lane s l
    ownsLane s t l && k.running && (k.ctx.net).elim false
      (fun n => inRuns n.writes b || (store && inRuns n.reads b))

/-- A region allows the whole access (R225). -/
def regionAllows (d : TaskDef) (a n : Nat) (store : Bool) : Bool :=
  d.regions.any fun r => r.base ≤ a ∧ a + n ≤ r.limit ∧ (if store then r.w else r.r)

/-- Where an access that no trap refuses goes. -/
inductive Place where
  | local_ | sram | pool | view (t : Nat) | table | control
  deriving DecidableEq, Repr

/-- The fenced range (R227). -/
def fenced (a : Nat) : Bool := 0xE0000000 ≤ a ∧ a < 0xF0000000

/-- The view window (R226, R37, R59). -/
def viewPlace (s : State) (c : Nat) (a : Word) (n : Nat) (store : Bool) : Except Trap Place :=
  let b := a.toNat - 0x20000000
  match serving s c, servingDef s c with
  | some t, some d =>
    if (List.range n).any (fun i => !(if store then byteWritable d (b + i) else byteReadable d (b + i))) then
      .error (0x0A, a)
    else if (List.range n).any (fun i => laneBars s t (b + i) store) then .error (0x0B, a)
    else .ok (.view t)
  | _, _ => .error (0x0A, a)

/-- Judges a data access of `n` bytes by the map of R226: FENCE and MISALIGNED before the others (R234). -/
def place (s : State) (c : Nat) (x : Ctx) (a : Word) (n : Nat) (store atomic : Bool) : Except Trap Place :=
  let b := a.toNat
  let task := decide (x.mode = .task)
  let other : Trap := (if task then 7 else 8, a)
  let regioned : Except Trap Place :=
    if !task ∨ (servingDef s c).elim false (fun d => regionAllows d b n store) then .ok .sram else .error (7, a)
  if fenced b then .error (6, a)
  else if b % n ≠ 0 then .error (9, a)
  else if 0x10000000 ≤ b ∧ b < 0x10400000 then regioned
  else if 0x10400000 ≤ b ∧ b < 0x10800000 then if task then .error (7, a) else .ok .pool
  else if atomic then .error other
  else if b < 0x20000 then
    if task ∧ (b < x.dsLo.toNat ∨ x.dsHi.toNat < b + n) then .error (0x0C, a) else .ok .local_
  else if 0x20000000 ≤ b ∧ b < 0x20100000 then viewPlace s c a n store
  else if 0x30000000 ≤ b ∧ b < 0x30010000 then if task then .error (7, a) else .ok .sram
  else if 0x30010000 ≤ b ∧ b < 0x30100000 then regioned
  else if 0xC0000000 ≤ b ∧ b < 0xC0200000 then if task ∨ store then .error (7, a) else .ok .table
  else if 0xD0000000 ≤ b ∧ b < 0xD0001000 then if task then .error (7, a) else .ok .control
  else .error other

/-- The 16 bytes of a timer entry (R226). -/
def timerBytes (s : State) (i : Nat) : List Byte :=
  let k := lookD s.img.timers i {}
  le 4 ((look s.prog.cur.timers i).elim 0 (·.preset.toNat)) ++ le 4 k.et ++ le 4 (k.last.getD 0)
    ++ le 4 ((if k.q then 1 else 0) + (if k.input then 2 else 0))

/-- The 16 bytes of a counter entry (R226). -/
def counterBytes (s : State) (i : Nat) : List Byte :=
  let k := lookD s.img.counters i {}
  le 4 k.cv.toNat ++ le 4 ((look s.prog.cur.counters i).elim 0 (·.preset.toNat)) ++ le 4 0
    ++ le 4 (if k.input then 2 else 0)

/-- Where a byte of data SRAM or retained SRAM lies: a byte of the view pool that holds a view is that view's (R36, R226). -/
def viewHome (s : State) (a : Nat) : Option (Nat × Nat) :=
  if a < 0x10400000 ∨ 0x10800000 ≤ a then none
  else (Config.poolHome s.prog.cur.tasks a).filter fun (t, b) =>
    (taskDef s t).elim false (fun d => byteReadable d b || byteWritable d b)

/-- A byte of data SRAM or retained SRAM by its data address (R226). -/
def sramByte (s : State) (a : Nat) : Byte :=
  match viewHome s a with
  | some (t, b) => rd (run s t).view b
  | none => rd s.mem.data a

/-- Writes a byte of data SRAM or retained SRAM. -/
def sramPut (a : Nat) (v : Byte) (s : State) : State :=
  match viewHome s a with
  | some (t, b) => setRun t (fun r => { r with view := wr r.view b v }) s
  | none => { s with mem.data := wr s.mem.data a v }

/-- Bytes from `a` on. -/
def sramBytes (s : State) (a n : Nat) : List Byte := (List.range n).map (fun i => sramByte s (a + i))

/-- Writes bytes from `a` on. -/
def sramPutAll : Nat → List Byte → State → State
  | _, [], s => s
  | a, v :: bs, s => sramPutAll (a + 1) bs (sramPut a v s)

/-- Loads `n` bytes; the runtime control page, whose layout the manual does not give, reads free (log entry 16). -/
def loadAt (s : State) (c : Nat) (p : Place) (a n : Nat) : State × Nat :=
  match p with
  | .local_ => (s, ofLe (rdN (core s c).mem a n))
  | .sram => (s, ofLe (rdN s.mem.data a n))
  | .pool => (s, ofLe (sramBytes s a n))
  | .view t => (s, ofLe (rdN (run s t).view (a - 0x20000000) n))
  | .table =>
    let b := if a < 0xC0100000 then timerBytes s ((a - 0xC0000000) / 16) else counterBytes s ((a - 0xC0100000) / 16)
    (s, leAt b (a % 16) n)
  | .control => ((fresh s).1, (Config.freeBits (8 * n) s.free).toNat)

/-- Tag of a dirty retained line that no task in service has written (R337). -/
def tagNone : Nat := 34

/-- A write to the runtime control page raises PEER on the other cycle cores (R238; log entry 16). -/
def raisePeers (c : Nat) (s : State) : State :=
  forEach (List.range 8) s fun k s => if k = c then s else raiseLine k 3 s

/-- Stores `n` bytes; a store into banks 1–15 tags its line with the task in service (R337). -/
def storeAt (c : Nat) (p : Place) (a n v : Nat) (s : State) : State :=
  match p with
  | .local_ => setCore c (fun k => { k with mem := wrN k.mem a (le n v) }) s
  | .sram => touch a ((serving s c).getD tagNone) { s with mem.data := wrN s.mem.data a (le n v) }
  | .pool => sramPutAll a (le n v) s
  | .view t => setRun t (fun r => { r with view := wrN r.view (a - 0x20000000) (le n v) }) s
  | .table => s
  | .control => raisePeers c s

end Sys2Proof.Machine
end

