-- ==== Sys2Proof/Machine/Graft.lean ====
section
/-! DEFINITION. The class 0x02 commands and the switch of a Graft (R91–R110). -/

namespace Sys2Proof.Machine

open Reg

/-- STATE of R95: 0 NONE, 1 OPEN, 2 CHECKED, 3 COMMITTING, 4 CONFIRMING. -/
def graftState (s : State) : Nat := fget s CTL_GRAFT_STATUS_STATE

def graftKind (s : State) : Nat := fget s CTL_GRAFT_STATUS_KIND

/-- The state and binding rules of R96 and R97. -/
def graftBound (states : List Nat) (d : Desc) (s : State) : Option (Nat × Nat) :=
  firstOf [(!states.contains (graftState s), 0x01, 0x0012), (d.ident.toNat ≠ fget s CTL_GRAFT_ID_ID, 0x05, 0x0209),
    (some d.origin ≠ s.prog.origin, 0x05, 0x020A)]

/-- The kept previous generation, as REVERT_KEPT shows it (R92). -/
def setKept (k : Option Kept) (s : State) : State :=
  fput CTL_GRAFT_STATUS_REVERT_KEPT (if k.isSome then 1 else 0) { s with prog.kept := k }

/-- STATE becomes NONE: no Graft is held (R95). -/
def closeGraft (s : State) : State :=
  { s with
    prog.image := []
    prog.loaded := []
    prog.length := 0
    prog.origin := none
    prog.next := none
    prog.convert := []
    prog.reconvert := []
    prog.confirmUntil := none }
    |> fput CTL_GRAFT_STATUS_STATE 0 |> fput CTL_GRAFT_STATUS_RING 0 |> fput CTL_GRAFT_STATUS_KIND 0
    |> fput CTL_GRAFT_STATUS_REVERSIBLE 0 |> fput CTL_GRAFT_ID_ID 0 |> fput CTL_GRAFT_AFFECTED_TASK 0

/-! ### GRAFT_OPEN, GRAFT_LOAD, GRAFT_CHECK, GRAFT_ABORT, GRAFT_CONFIRM -/

def graftOpenCard : Card := { op := 0x0201, ident := true, params := [(32, 1), (36, 4), (40, 8)], svc := .no, active := true }

def graftOpenChecks (d : Desc) (s : State) : Option (Nat × Nat) :=
  firstOf [(param d 32 > 2 ∨ paramN d 40 8 < 112 ∨ paramN d 40 8 > 25165824, 0x02, 0x0111),
    (paramN d 36 4 ≠ generation s, 0x05, 0x0208),
    (graftState s ≠ 0 ∨ (param d 32 = 2 ∧ s.cmd.txns.any (·.structural)), 0x08, 0)]

/-- A Graft opens, and the kept previous generation is discarded (R92, R96). -/
def graftOpen (d : Desc) (s : State) : State :=
  { setKept none s with
    prog.image := []
    prog.loaded := []
    prog.length := paramN d 40 8
    prog.baseGen := paramN d 36 4
    prog.origin := some d.origin
    prog.next := none
    prog.peerHas := false }
    |> fput CTL_GRAFT_STATUS_STATE 1 |> fput CTL_GRAFT_STATUS_RING (originRing d.origin)
    |> fput CTL_GRAFT_STATUS_KIND (param d 32) |> fput CTL_GRAFT_STATUS_REVERSIBLE 0
    |> fput CTL_GRAFT_ID_ID d.ident.toNat |> fput CTL_GRAFT_AFFECTED_TASK 0

/-- GRAFT_OPEN. -/
def execGraftOpen (d : Desc) (s : State) : Host.Outcome State Fault Refusal :=
  .next (command graftOpenCard d (graftOpenChecks d)
    (immediate 0x0201 d (fun s => mirrorCmd 0x0201 d (cycleNow s) (graftOpen d s)) (fun _ => 0) (fun _ => [])) s)

def graftLoadCard : Card :=
  { op := 0x0202, ident := true, params := [(32, 8)], buf := .reads, bufMax := 1048576, svc := .no, active := true }

def graftLoadChecks (d : Desc) (s : State) : Option (Nat × Nat) :=
  (graftBound [1, 2] d s).or
    (firstOf [(d.buf.length = 0 ∨ paramN d 32 8 + d.buf.length > s.prog.length, 0x02, 0x0111)])

/-- A chunk of the image; a checked Graft is OPEN again. -/
def graftLoad (d : Desc) (s : State) : State :=
  { s with
    prog.image := wrN s.prog.image (paramN d 32 8) d.buf
    prog.loaded := (paramN d 32 8, d.buf.length) :: s.prog.loaded
    prog.next := none
    prog.peerHas := false }
    |> fput CTL_GRAFT_STATUS_STATE 1 |> fput CTL_GRAFT_AFFECTED_TASK 0

/-- GRAFT_LOAD. -/
def execGraftLoad (d : Desc) (s : State) : Host.Outcome State Fault Refusal :=
  .next (command graftLoadCard d (graftLoadChecks d)
    (immediate 0x0202 d (fun s => mirrorCmd 0x0202 d (cycleNow s) (graftLoad d s)) (fun _ => d.buf.length) (fun _ => [])) s)

def graftCheckCard : Card := { op := 0x0203, ident := true, svc := .no, active := true }

/-- The check passes: the Graft is CHECKED, and its words and code lie beside the generation in force (R95, R98). -/
def graftChecked (p : Program) (s : State) : State :=
  let k := graftKind s
  let conv := movesOf (sectionBytes s 0x09)
  { s with
    prog.next := some p
    prog.convert := conv
    prog.reconvert := movesOf (sectionBytes s 0x0A)
    prog.tsw := switchTime k conv
    img.rung := p.rung.foldl (fun m x => put x.1 x.2 m) s.img.rung
    mem.code := p.code.foldl (fun m x => wr m x.1 x.2) s.mem.code }
    |> fput CTL_GRAFT_STATUS_STATE 2 |> fput CTL_GRAFT_STATUS_REVERSIBLE (imgAt s 7 1)
    |> fput CTL_GRAFT_AFFECTED_TASK (affectedMask k s.prog.cur p p.changed conv)

def checkResult (s : State) : Nat := fget s CTL_GRAFT_AFFECTED_TASK + 2 ^ 32 * s.prog.tsw

/-- GRAFT_CHECK passes in this unit. In pair code 4 the standby checks its own copy: whether it finds the same is not this
unit's to say, and a mismatch completes with PAIR_CHECK and makes the standby unfit (R107). -/
def graftCheckEffect (d : Desc) (p : Program) (s : State) : State :=
  if pair s = 4 then
    let (s1, n) := fresh s
    let (s2, jb) := accept 0x0203 d 0 s1
    let s3 := mirrorCmd 0x0203 d (cycleNow s2) s2
    if Config.freeNat n % 2 = 0 then
      let s4 := graftChecked p s3
      done jb (checkResult s4) [] { s4 with prog.peerHas := true }
    else markUnfit 6 (hedgeSend (.unfit 6) (settle (finish jb 0x09 0x0305 0 [] s3)))
  else immediate 0x0203 d (graftChecked p) checkResult (fun _ => []) s

/-- GRAFT_CHECK; `p` is what the sections of the image declare. -/
def execGraftCheck (d : Desc) (p : Program) (s : State) : Host.Outcome State Fault Refusal :=
  .next (command graftCheckCard d (fun s => (graftBound [1] d s).or (graftRefusal s (graftKind s) p)) (graftCheckEffect d p) s)

def graftAbortCard : Card := { op := 0x0205, ident := true, svc := .no, active := true }

/-- GRAFT_ABORT. -/
def execGraftAbort (d : Desc) (s : State) : Host.Outcome State Fault Refusal :=
  .next (command graftAbortCard d (graftBound [1, 2] d)
    (immediate 0x0205 d (fun s => mirrorCmd 0x0205 d (cycleNow s) (closeGraft s)) (fun _ => 0) (fun _ => [])) s)

def graftConfirmCard : Card := { op := 0x0206, ident := true, svc := .no, active := true }

/-- GRAFT_CONFIRM: the confirm window ends and the new generation stays (R105). -/
def execGraftConfirm (d : Desc) (s : State) : Host.Outcome State Fault Refusal :=
  .next (command graftConfirmCard d (graftBound [4] d)
    (immediate 0x0206 d closeGraft generation (fun _ => [])) s)

/-! ### GRAFT_COMMIT and GRAFT_REVERT (R99, R104–R107) -/

/-- The selectors that a kind allows (R99). -/
def selectors (kind : Nat) : List Nat := if kind = 0 then [0, 1, 2] else [2]

/-- The guards of a kind: all for STRUCTURAL (R104), and PAIR_NOT_READY for every kind (R107). -/
def graftGuards (kind : Nat) : List Nat := if kind = 2 then allGuards else [4]

def commitCard (kind : Nat) : Card :=
  { op := 0x0204, ident := true, params := [(32, 8), (40, 2), (42, 2), (44, 1)], apply := selectors kind, svc := .no
    active := true, guards := graftGuards kind }

/-- Apply cycle, GAP_TIMEOUT and confirm window of the parameters (R99, R103, R105, R352). -/
def applyRefusal (d : Desc) (s : State) : Option (Nat × Nat) :=
  let n := cycleNow s
  firstOf [(paramN d 40 2 > 10000 ∨ paramN d 42 2 > 3600 ∨ param d 44 > 1, 0x02, 0x0111),
    (d.apply = 1 ∧ (paramN d 32 8 < n + 2 ∨ paramN d 32 8 > n + 1048576), 0x05, 0x0219)]

/-- In pair code 4 the standby does not hold the Graft in CHECKED (R107). -/
def peerLacks (s : State) : Bool := pair s = 4 ∧ !s.prog.peerHas

def commitChecks (d : Desc) (s : State) : Option (Nat × Nat) :=
  (firstOf [(peerLacks s, 0x01, 0x0004)]).or <|
  (graftBound [2] d s).or <|
  (applyRefusal d s).or <|
  (templateRefusal s (graftKind s) (s.prog.next.getD {})).or <|
  (if (param d 44).testBit 0 then budgetRefusal s (s.prog.next.getD {}) true else none)

/-- The commit that a command asks for. A GRAFT_REVERT that ends without a switch returns the Graft to the state that it came from, NONE
or CONFIRMING, which R95 leaves open (DESIGN CHOICE, log entry 110). -/
def commitOf (d : Desc) (job : Job) (revert : Bool) (s : State) : GraftCommit :=
  let cycle := if d.apply = 1 then paramN d 32 8 else cycleNow s + 2
  let gap := if paramN d 40 2 = 0 then 100 else paramN d 40 2
  { job, revert, auto := false, sel := d.apply, cycle, gapUntil := boundary s cycle + msec gap, gapMs := gap
    confirmS := if revert then 0 else paramN d 42 2
    sag2 := (param d 44).testBit 0
    back := graftState s }

/-- The command is accepted: COMMITTING. -/
def startCommit (op : Nat) (d : Desc) (revert : Bool) (s : State) : State :=
  let c := commitOf d { op, d } revert s
  let (s1, job) := accept op d (if d.apply = 2 then 0 else c.cycle) s
  fput CTL_GRAFT_STATUS_STATE 3 { s1 with prog.commit := some { c with job } }

/-- GRAFT_COMMIT. -/
def execGraftCommit (d : Desc) (s : State) : Host.Outcome State Fault Refusal :=
  .next (command (commitCard (graftKind s)) d (commitChecks d) (startCommit 0x0204 d false) s)

def revertCard (kind : Nat) : Card :=
  { op := 0x0207, ident := true, params := [(32, 8), (40, 2), (44, 1)], apply := selectors kind, svc := .no
    active := true, guards := graftGuards kind }

/-- The kind that a revert undoes. -/
def keptKind (s : State) : Nat := s.prog.kept.elim 0 (·.kind)

/-- The kept generation cannot be returned to (R106). -/
def notReversible (s : State) : Bool := s.prog.kept.elim false (fun k => k.kind ≠ 0 ∧ !k.reversible)

/-- In NONE, where no Graft is held, the identifier and the ring are not compared with anything (DESIGN CHOICE, log entry 78). In
pair code 4 the standby must hold the generation that it kept (R107; log entry 79). A commit that asks for SAG2_RT_ALLOWED is
judged under R88. -/
def revertChecks (d : Desc) (s : State) : Option (Nat × Nat) :=
  (firstOf [(peerLacks s, 0x01, 0x0004)]).or <|
  (if graftState s = 0 then none else graftBound [4] d s).or <|
  (firstOf [(s.prog.kept.isNone, 0x01, 0x0012), (notReversible s, 0x07, 0)]).or <|
  (applyRefusal d s).or <|
  (templateRefusal s (keptKind s) (s.prog.kept.elim {} (·.prog))).or <|
  (if (param d 44).testBit 0 then budgetRefusal s (s.prog.kept.elim {} (·.prog)) true else none)

/-- The mask of a revert (R101, R106). -/
def revertMask (s : State) : Nat :=
  s.prog.kept.elim 0 (fun k => affectedMask k.kind s.prog.cur k.prog s.prog.cur.changed k.reconvert)

/-- GRAFT_REVERT. -/
def execGraftRevert (d : Desc) (s : State) : Host.Outcome State Fault Refusal :=
  .next (command (revertCard (keptKind s)) d (revertChecks d)
    (fun s => fput CTL_GRAFT_AFFECTED_TASK (revertMask s) (startCommit 0x0207 d true s)) s)

/-! ### What a commit switches to -/

/-- Kind, program and moves of a commit. -/
def commitPlan (s : State) (c : GraftCommit) : Nat × Program × List Move :=
  if c.revert then s.prog.kept.elim (0, s.prog.cur, []) (fun k => (k.kind, k.prog, k.reconvert))
  else (graftKind s, s.prog.next.getD s.prog.cur, s.prog.convert)

/-- Tasks that the commit in progress affects. -/
def affected (s : State) : Nat := fget s CTL_GRAFT_AFFECTED_TASK

/-- No release of an affected SYNC or CYCLIC task falls in the interval from now to `dt` later, both ends included (R6, R101). -/
def noAffectedRelease (s : State) (mask dt : Nat) : Bool :=
  ctl s ≠ 3 || !cycleRuns s || s.prog.cur.tasks.all fun (t, d) =>
    !mask.testBit t || (match nextDue s t d with
      | some x => decide (x > s.now + dt)
      | none => true)

/-- The two conditions of R101 hold now. In HALT no task runs either, and a commit made there switches at its apply point as in
STOP (DESIGN CHOICE, log entry 80: R99 names READY and STOP). -/
def gapNow (s : State) (mask tsw : Nat) : Bool :=
  ctl s ≠ 3 ∨ (allIdle s mask ∧ noAffectedRelease s mask ((tsw + 2000) * 16))

/-- GRAFT_HALT (R110): the controller has entered HALT with cause GRAFT or SWITCH_FAULT. -/
def graftHalt (cause : Nat) (ident : DWord) (s : State) : State :=
  if ctl s = 4 then jadd { jentry s 0x0013 with ident, detailA := generation s + 2 ^ 32 * cause } s else s

/-- The automatic revert of R105 could not switch: HALT with cause GRAFT on the new generation. -/
def autoFailed (ident : DWord) (s : State) : State :=
  let run_ := decide (ctl s = 3)
  let s1 := halt 8 0 (closeGraft s)
  if run_ then graftHalt 8 ident s1 else s1

/-- A commit ends without a switch. -/
def commitFails (c : GraftCommit) (status reason : Nat) (s : State) : State :=
  let s1 := endCommit status reason s
  if c.auto then autoFailed c.job.d.ident s1 else s1

/-- The parameters by which the active tells its standby of a switch: SAG2_RT_ALLOWED in bit 0 of byte 44, as in the command, and
AUTO in bit 0 of byte 45 (log entry 81). -/
def toldDesc (c : GraftCommit) : Desc :=
  let w := c.job.d.params.toNat
  let flags := (if c.sag2 then 1 else 0) + (if c.auto then 256 else 0)
  { c.job.d with params := BitVec.ofNat 256 (w % 2 ^ 96 + 2 ^ 96 * flags + w / 2 ^ 112 * 2 ^ 112) }

/-- The active tells its standby of the switch and of N_s, in the GRAFT message that R197 leaves open (R108, log entry 81). -/
def tellPeer (c : GraftCommit) (cycle : Nat) (s : State) : State :=
  mirrorCmd (if c.revert then 0x0207 else 0x0204) (toldDesc c) cycle s

/-- The journal entry and the completion of a switch (R101, R110). -/
def reportSwitch (c : GraftCommit) (kind mask ns cycle : Nat) (s : State) : State :=
  let e := graftEntry s (if c.revert then 0x0012 else 0x0010) c
  let s1 := jadd { e with
    cycle, detailB := mask
    detailA := generation s + 2 ^ 32 * ns + 2 ^ 52 * kind + (if c.auto then 2 ^ 56 else 0) } s
  if c.auto then s1 else settle (finish c.job 0 0 (generation s + 2 ^ 32 * (cycle % 2 ^ 32)) [] s1)

/-- The Graft after a switch: a confirm window, or NONE (R95, R105). Where a switch changes SAG2_RT_ALLOWED in SAG2, instances that run
keep their budget and later ones follow the new bit: R89 tells only of the entry of SAG2 and its end (DESIGN CHOICE, log
entry 108). -/
def afterSwitch (c : GraftCommit) (s : State) : State :=
  let s1 := fput CTL_STATE_SAG2_RT (if c.sag2 then 1 else 0) { s with prog.commit := none, prog.switchAt := none }
  if c.revert ∨ c.confirmS = 0 then closeGraft s1
  else fput CTL_GRAFT_STATUS_STATE 4 { s1 with
    prog.confirmUntil := some (s1.now + secs c.confirmS)
    prog.confirmSel := c.sel
    prog.confirmGap := c.gapMs }

/-- A new generation number, with the one before kept unless it is a revert (R92, R106). -/
def newGeneration (c : GraftCommit) (kind : Nat) (s : State) : State :=
  let old : Kept :=
    { prog := latest s, ident := BitVec.ofNat 64 (fget s CTL_GRAFT_ID_ID), kind, reversible := fbit s CTL_GRAFT_STATUS_REVERSIBLE, reconvert := s.prog.reconvert
      sag2 := fbit s CTL_STATE_SAG2_RT }
  s |> bumpWrap CTL_GRAFT_GEN_GEN 1 |> setKept (if c.revert then none else some old)

/-- The first Graft with a task table takes the controller from READY to STOP (R80, R99). -/
def firstTable (s : State) : State := if ctl s = 1 ∧ !s.prog.cur.tasks.isEmpty then setCtl 2 s else s

/-! ### CODE (R100) -/

/-- The new code waits for each affected task's next release while the controller runs; outside RUN no task is released, and
all of it is in force at once. -/
def installCode (p : Program) (mask : Nat) (s : State) : State :=
  if ctl s = 3 then
    { s with
      prog.cur := { p with tasks := s.prog.cur.tasks }
      prog.codePending := s.prog.codePending ||| BitVec.ofNat 32 mask
      prog.pendTasks := (setBits 32 mask).foldl (fun m t => match look p.tasks t with
        | some d => put t d m
        | none => m) s.prog.pendTasks }
  else { s with
    prog.cur := p
    prog.first := s.prog.first ||| BitVec.ofNat 32 mask ||| s.prog.codePending
    prog.codePending := 0
    prog.pendTasks := [] }

/-- What the apply point of a commit judges again: all guards for STRUCTURAL, which end it with REFUSED_STATE (R104), and
PAIR_NOT_READY for the other kinds, which ends it with ABORTED (R107, R497). -/
def switchRefusal (c : GraftCommit) (kind : Nat) (s : State) : Option (Nat × Nat) :=
  let lacks := !c.auto && peerLacks s
  if kind = 2 then (guardRefusal s none allGuards).or (if lacks then some (0x01, 0x0004) else none)
  else if guardTrue s none 4 || lacks then some (0x0A, 0x0004) else none

/-- The apply point of a CODE commit. -/
def applyCode (c : GraftCommit) (s : State) : State :=
  let (_, p, _) := commitPlan s c
  let mask := affected s
  match switchRefusal c 0 s with
  | some (st, rs) => commitFails c st rs s
  | none => s |> newGeneration c 0 |> installCode p mask |> reportSwitch c 0 mask 0 (cycleNow s) |> tellPeer c (cycleNow s)
    |> afterSwitch c

/-- CODE_GRAFT_APPLY. -/
def execCodeGraftApply (s : State) : Host.Outcome State Fault Refusal :=
  .next (match s.prog.commit with
    | some c =>
      let s1 := toBoundary c.cycle s
      if (commitPlan s c).1 ≠ 0 then s
      else if c.sel = 2 ∧ (!gapNow s1 (affected s1) 0 ∨ s1.now > c.gapUntil) then s
      else applyCode c s1
    | none => s)

/-! ### LAYOUT and STRUCTURAL (R101–R104, R109) -/

/-- GRAFT_SWITCH_START: instant I. -/
def startSwitch (c : GraftCommit) (kind : Nat) (s : State) : State :=
  match switchRefusal c kind s with
  | some (st, rs) => commitFails c st rs s
  | none => { s with prog.switchAt := some s.now }

def execGraftSwitchStart (s : State) : Host.Outcome State Fault Refusal :=
  .next (match s.prog.commit with
    | some c =>
      let (kind, _, ms) := commitPlan s c
      let s1 := toBoundary c.cycle s
      if kind = 0 ∨ s.prog.switchAt.isSome ∨ !gapNow s1 (affected s1) (switchTime kind ms) ∨ s1.now > c.gapUntil then s
      else startSwitch c kind s1
    | none => s)

/-- One move of a list (R94), with the lines of banks 1–15 that it writes (R337). -/
def moveData (m : Move) (s : State) : State :=
  let bytes := match m.fill with
    | some b => List.replicate m.len b
    | none => if m.src < 0x10800000 ∧ 0x10400000 < m.src + m.len then sramBytes s m.src m.len else rdN s.mem.data m.src m.len
  forEach (List.range ((m.dst % 64 + m.len + 63) / 64)) { s with mem.data := wrN s.mem.data m.dst bytes }
    fun i s => touch (m.dst / 64 * 64 + 64 * i) tagSwitch s

/-- Timers or counters whose assignment is new start afresh (R55, R57): an index whose task, preset, time base or RETAIN flag
changes counts as newly assigned, and with LAST it loses ET, Q or CV, the remainder and the last input (DESIGN CHOICE, log
entry 82: R55 says only that a new entry has no LAST). -/
def keepAssigned {α : Type} (old new : SMap TcDecl) (m : SMap α) : SMap α :=
  m.filter (fun x => look old x.1 = look new x.1)

/-- The words that a program gives the field and loop maps (R282, R308), and the view pool in use (R36). -/
def showMaps (p : Program) (s : State) : State :=
  let put_ := fun (fs : List Field) (w : Word) (s : State) =>
    fs.foldl (fun s f => fput f (bits w.toNat f.lsb f.width) s) s
  s |> put_ [FIO_MAP_IN_EN, FIO_MAP_IN_ADDR] p.fioMapIn |> put_ [FIO_MAP_OUT_EN, FIO_MAP_OUT_ADDR] p.fioMapOut
    |> put_ [LPT_LT_MAP_OUT_EN 0, LPT_LT_MAP_OUT_OFS 0, LPT_LT_MAP_IN_EN 0, LPT_LT_MAP_IN_ADDR 0] p.lptMap0
    |> put_ [LPT_LT_MAP_OUT_EN 1, LPT_LT_MAP_OUT_OFS 1, LPT_LT_MAP_IN_EN 1, LPT_LT_MAP_IN_ADDR 1] p.lptMap1
    |> fput IMG_VIEW_USE_BYTES (viewUse p)

def isBackground (p : Program) (t : Nat) : Bool := (look p.tasks t).any (fun d => d.kind = .background)

/-- Tasks that a switch adds: their first snapshot counts what came since RUN began (R496). -/
def newRuns (old p : Program) (runs : SMap TaskRun) (s : State) : SMap TaskRun :=
  (p.tasks.filter (fun x => (look old.tasks x.1).isNone)).foldl (fun m x => put x.1 { prevSnap := s.seq.runEv } m) runs

/-- A task that becomes BACKGROUND in RUN is released as the switch ends (DESIGN CHOICE, log entry 99). -/
def newBackground (old p : Program) (due : SMap Nat) (s : State) : SMap Nat :=
  if ctl s ≠ 3 then due
  else (p.tasks.filter (fun x => isBackground p x.1 && !isBackground old x.1)).foldl (fun m x => put x.1 s.now m) due

/-- Tables and bases are exchanged at once (R101). A task outside the mask whose new code still waits keeps what it runs until
its next release (R100). -/
def installProgram (p : Program) (mask : Nat) (s : State) : State :=
  let old := s.prog.cur
  let waits := fun t => s.prog.codePending.getLsbD t && !mask.testBit t
  { s with
    prog.cur := { p with tasks := p.tasks.map (fun (t, d) => (t, if waits t then (look old.tasks t).getD d else d)) }
    prog.first := s.prog.first ||| BitVec.ofNat 32 mask
    prog.codePending := s.prog.codePending &&& ~~~(BitVec.ofNat 32 mask)
    prog.pendTasks := s.prog.pendTasks.filter (fun x => !mask.testBit x.1)
    seq.runs := newRuns old p (s.seq.runs.filter (fun x => (look p.tasks x.1).isSome)) s
    seq.bgDue := newBackground old p (s.seq.bgDue.filter (fun x => isBackground p x.1)) s
    img.timers := keepAssigned old.timers p.timers s.img.timers
    img.counters := keepAssigned old.counters p.counters s.img.counters
    net.tpl := s.net.tpl.filter (fun x => look old.templates x.1 = look p.templates x.1) }
    |> showMaps p

/-- The releases that the switch held back start, under the new generation, and their delays are logged (R102, R108). -/
def releaseHeldTasks (mask : Nat) (s : State) : State :=
  let ts := ((taskIds s).filter (fun t => mask.testBit t && (run s t).phase = .pending)).mergeSort
    (fun a b => prioOf s a ≥ prioOf s b)
  forEach ts s fun t s =>
    let s1 := setRun t (fun r => { r with gen := generation s }) (log 1 .switchDelay t ((s.now - (run s t).releaseAt) / 16) s)
    if blocked s1 t then s1 else startRelease t s1

/-- What waited for the end of the switch (R109): HALT and a warm restart. -/
def afterwards (s : State) : State :=
  let s1 : State := { s with prog.haltNext := none }
  let s2 := match s.prog.haltNext with
    | some (c, t) => halt c t s1
    | none => s1
  if s2.seq.warm.isSome then warmReset s2 else s2

/-- The switch ends: the moves, the exchange, the new generation, the completion. -/
def finishSwitch (c : GraftCommit) (i : Nat) (s : State) : State :=
  let (kind, p, ms) := commitPlan s c
  let mask := affected s
  let (s0, n) := fresh s
  let ns := Config.freeNat n % (switchTime kind ms + 1)
  let haltNext := s.prog.haltNext
  let s1 := advance (i + ns * 16) s0
  let s2 := capture tagSwitch false (ms.foldl (fun s m => moveData m s) s1)
  let s3 := s2 |> newGeneration c kind |> installProgram p mask |> fput CTL_GRAFT_SWITCH_NS ns |> firstTable
    |> reportSwitch c kind mask ns (cycleAt s i) |> tellPeer c (cycleAt s i) |> afterSwitch c |> releaseHeldTasks mask
  afterwards { s3 with prog.haltNext := haltNext }

/-- A fault stops the switch: the old generation stays, HALT has cause SWITCH_FAULT, and a WARNING is forced, which a watchdog
reset follows (R109, R422). The command does not say which of the two events it was; the evidence gives it as an
uncorrectable error (DESIGN CHOICE, log entry 83). -/
def switchFault (c : GraftCommit) (s : State) : State :=
  let s1 := commitFails { c with auto := false } 0x09 0x0306 s
  let live := decide (ctl s = 3 ∨ ctl s = 2)
  let s2 := halt 9 0 s1
  let s3 := if live then graftHalt 9 c.job.d.ident s2 else s2
  forceWarning 3 (afterwards s3)

/-- GRAFT_SWITCH_END. -/
def execGraftSwitchEnd (fault : Bool) (s : State) : Host.Outcome State Fault Refusal :=
  .next (match s.prog.commit, s.prog.switchAt with
    | some c, some i => if fault then switchFault c s else finishSwitch c i s
    | _, _ => s)

/-- The present instant, or the apply point that is still to come, satisfies R101. -/
def gapFound (c : GraftCommit) (s : State) : Bool :=
  let (kind, _, ms) := commitPlan s c
  let s1 := toBoundary c.cycle s
  s1.now ≤ c.gapUntil && gapNow s1 (affected s1) (switchTime kind ms)

/-- GRAFT_NO_GAP (R103): GAP_TIMEOUT ends and no instant satisfies R101. -/
def execGraftNoGap (s : State) : Host.Outcome State Fault Refusal :=
  .next (match s.prog.commit with
    | some c =>
      if c.sel = 2 ∧ s.prog.switchAt.isNone ∧ !gapFound c s then commitFails c 0x06 0x0501 (advance c.gapUntil s) else s
    | none => s)

/-! ### The end of the confirm window (R105) -/

/-- The revert that the module issues itself. R105 leaves these open, and the model chooses (DESIGN CHOICE, log entry 84): a
generation that cannot be returned to gives HALT with cause GRAFT; with selector 1 the apply cycle is N + 2; SAG2_RT_ALLOWED
becomes that of the generation returned to, where R88 still allows it; a standby that lacks that generation does not keep the
revert from being made, as it would a command; and the Graft is NONE whatever becomes of the revert. -/
def autoRevert (s : State) : State :=
  let ident := BitVec.ofNat 64 (fget s CTL_GRAFT_ID_ID)
  let d : Desc := { origin := s.prog.origin.getD .svc, index := 0, ident, apply := s.prog.confirmSel }
  let kind := keptKind s
  if s.prog.kept.isNone ∨ notReversible s ∨ (guardRefusal s none (graftGuards kind)).isSome then autoFailed ident s
  else
    let cycle := cycleNow s + 2
    let c : GraftCommit :=
      { job := { op := 0x0207, d }, revert := true, auto := true, sel := s.prog.confirmSel, cycle
        gapUntil := boundary s cycle + msec s.prog.confirmGap, gapMs := s.prog.confirmGap, confirmS := 0
        sag2 := s.prog.kept.elim false (fun k => k.sag2 && (budgetRefusal s k.prog true).isNone), back := 0 }
    let mask := revertMask s
    { s with prog.commit := some c, prog.confirmUntil := none } |> fput CTL_GRAFT_STATUS_STATE 3
      |> fput CTL_GRAFT_AFFECTED_TASK mask

/-- CONFIRM_WINDOW_END. -/
def execConfirmWindowEnd (s : State) : Host.Outcome State Fault Refusal :=
  .next (match s.prog.confirmUntil with
    | some t => if graftState s = 4 then autoRevert (advance t s) else s
    | none => s)

/-! ### The standby (R107, R108) -/

/-- GRAFT_CHECK in the standby, on its own copy of the image (R107). -/
def standbyCheck (s : State) : State :=
  let p := Config.sections (rdN s.prog.image 0 s.prog.length)
  match graftRefusal s (graftKind s) p with
  | some _ => s
  | none => graftChecked p s

/-- The standby switches before the first instance that carries the new generation: to the Graft that it holds, or back to
the generation that it keeps (R108). N_s is the active's; `cycle` stands for it where no word of the active has come. A CODE
switch takes effect per task, as in the active (R100). A failure is for the caller. -/
def standbySwitch (cycle : Nat) (s : State) : Option State :=
  let held := decide (graftState s = 2)
  if !held ∧ s.prog.kept.isNone then none
  else
    let ident := if held then BitVec.ofNat 64 (fget s CTL_GRAFT_ID_ID) else s.prog.kept.elim 0 (·.ident)
    let ns := (s.prog.told.map (·.1)).getD cycle
    let sag2 := match s.prog.told with
      | some (_, d) => (param d 44).testBit 0
      | none => if held then fbit s CTL_STATE_SAG2_RT else s.prog.kept.elim false (·.sag2)
    let c : GraftCommit :=
      { job := { op := 0, d := { origin := s.prog.origin.getD .svc, index := 0, ident }, mirrored := true }, revert := !held
        auto := s.prog.told.any (fun x => (param x.2 45).testBit 0), sel := 2, cycle := ns, gapUntil := 0, gapMs := 0, confirmS := 0, sag2, back := graftState s }
    let (kind, p, ms) := commitPlan s c
    let mask := if held then affected s else revertMask s
    let (s0, n) := fresh { s with prog.told := none }
    let t := Config.freeNat n % (switchTime kind ms + 1)
    let s1 := ms.foldl (fun s m => moveData m s) (advance (s.now + t * 16) s0) |> capture tagSwitch false
      |> newGeneration c kind
    let s2 := if kind = 0 then installCode p mask s1 else installProgram p mask s1
    some (s2 |> fput CTL_GRAFT_SWITCH_NS t |> firstTable |> reportSwitch c kind mask t ns |> afterSwitch c)

end Sys2Proof.Machine
end

