-- ==== Sys2Proof/Machine/Role.lean ====
section
/-! DEFINITION. What changes the role of a unit: the epoch (R194), the yield (R213), the declaration of a failed peer
(R200, R211), the end of a state transfer (R210), and what an arriving heartbeat does (R199, R202). -/

namespace Sys2Proof.Machine

open Reg

/-! ### The epoch (R194) -/

def epoch (s : State) : Nat := fget s RED_EPOCH_EPOCH

/-- Records an epoch that carries the unit's PAIR_ID. -/
def seeEpoch (e : Nat) (s : State) : State := bumpMax RED_EPOCH_SEEN_EPOCH e s

/-- E := max(E, RED_EPOCH_SEEN) + 1, saturating; the record PAIR_EPOCH is due within 20 ms. -/
def raiseEpoch (s : State) : State :=
  { s with red.epochDue := some (s.red.epochDue.getD (s.now + msec 20)) }
    |> fput RED_EPOCH_EPOCH (min 0xFFFFFFFF (max (epoch s) (fget s RED_EPOCH_SEEN_EPOCH) + 1))

/-- Takeovers (0), yields (1) and handovers (2) with their times, newest first (R219). -/
def remember (kind : Nat) (s : State) : State :=
  { s with red.history := ((kind, nsNow s) :: s.red.history).take 16 }

/-- Seen at R193: PEER_SEEN follows the paths. -/
def showPeer (s : State) : State :=
  if fbit s RED_STATUS_PATH_A || fbit s RED_STATUS_PATH_B then fput RED_STATUS_PEER_SEEN 1 s
  else fput RED_STATUS_PEER_SEEN (if pair s = 1 ∧ s.red.setpointAt.isSome then 1 else 0) s

/-! ### Yield (R213) -/

/-- The old active completes its outstanding mailbox transactions with ABORTED (R177). -/
def abortMailbox (s : State) : State :=
  settle (forEach s.net.mailbox { s with net.mailbox := [] } fun m s => conclude m.job 0x0A 0x0013 0 [] s)

/-- The frame still leaves a unit that yields: an answer of the plant domain to a Pdelay request. -/
def plantAnswer (w : TxWait) : Bool := match w.what with
  | .gptp _ k _ _ _ _ _ => k = 2 ∨ k = 3 ∨ k = 0xA
  | _ => false

/-- Frames that wait for their gates leave no more (R213); those of a NIC ring stay until they complete. -/
def dropGated (s : State) : State :=
  { s with net.gates := s.net.gates.map (fun (p, g) =>
      (p, { g with waiting := g.waiting.filter (fun w => w.done.isSome || plantAnswer w) })) }

/-- A unit in an active code yields: it stops transmitting, its outputs go safe, its commit and its mailbox transactions end
with ABORTED (R109, R177), and it waits in PAIRING, taking nothing back on its own; as an unfit unit it stops execution at
once (R209). -/
def yieldNow (s : State) : State :=
  if standby s then s
  else
    abortMailbox (endCommit 0x0A 0x0013
      { dropGated s with red.xfer := none, red.queued := [], red.paired := true })
      |> fput RED_STATUS_FIT 0 |> fput RED_STATUS_UNFIT_REASON 9
      |> raise RED_EVENTS_YIELD |> bump RED_COUNTS_YIELDS 1
      |> allSafe |> setPair 1 |> (fun s => { s with red.faultSent := false }) |> abortAll
      |> remember 1 |> log 5 .pairUnfit 9 0 |> jnote 0x0030 9 0
      |> (fun s => jnote 0x0033 (epoch s) 0 s)

/-- A frame with a higher epoch is reported to the redundancy unit (R174, R213): a yield, or E raised above a stale
value while the peer is alive. -/
def epochReport (e : Nat) (s : State) : State :=
  let s1 := s |> seeEpoch e |> raise NET_EVENTS_EPOCH_HIGHER
  if standby s1 then s1
  else if s1.red.peerFailed ∨ pair s1 ≠ 4 then yieldNow s1
  else s1 |> raiseEpoch |> raise RED_EVENTS_EPOCH_ADOPT

/-- An epoch of the peer, from a heartbeat or a Hedge frame (R213). -/
def peerEpoch (e : Nat) (s : State) : State :=
  let s1 := seeEpoch e s
  if !standby s1 ∧ e > epoch s1 then yieldNow s1 else s1

/-! ### A failed peer (R200, R191, R211 step 1) -/

/-- The peer is declared failed. A standby that is lost is no longer parked for its active (DESIGN CHOICE, log entry 90). Mirror
traffic is accepted no more, but what is complete in the queue of a standby runs on. -/
def declareFailed (s : State) : State :=
  if s.red.peerFailed then s
  else
    let s1 := raise RED_EVENTS_PEER_LOST { s with red.peerFailed := true }
    match pair s1 with
    | 5 => { s1 with red.takeover := some s1.now, red.held := [] } |> raiseEpoch |> (fun s => jnote 0x0031 (epoch s) 0 s)
    | 4 => s1 |> fput RED_STATUS_FIT 0 |> setPair 6
    | 2 => dropTransfer s1
    | 3 => dropTransfer s1
    | 6 => fput RED_STATUS_PARKED 0 s1
    | _ => s1

/-! ### The end of a planned handover (R217 step 5) -/

/-- The completion is posted at H + TX_OPEN, and PAIR_HANDOVER is journalled in both units: it records the outcome of the command
(R361). RESULT is the cycle of H. -/
def handoverDone (x : Handover) (s : State) : State :=
  let rest := if x.outputsAt.isSome then some { x with job := none } else none
  let s1 : State := { s with red.handover := rest }
  if x.source ∧ x.job.isNone then s1
  else
    let s2 := raise RED_EVENTS_HANDOVER (jnote 0x0032 (epoch s1) 0 s1)
    match x.job with
    | some jb => settle (finish jb 0 0 x.h [] s2)
    | none => s2

/-- The handover whose window a cycle is, in a unit that has changed roles. -/
def handoverIn (s : State) (n : Nat) : Option Handover :=
  s.red.handover.filter (fun x => x.accepted ∧ x.h ≤ n ∧ (if x.source then standby s else !standby s))

/-! ### Heartbeats (R199, R202) -/

/-- The offset of local time over the peer's in ns, for a heartbeat that arrived at device time `r` (R202). -/
def beatOffset (b : Beat) (r : Nat) : Int := ((r - (b.sendTime : Int)) - ((b.echoRx : Int) - b.echoTime)) / 2

/-- A standby in code 3 or 5 steers to the active's time (R202): one step while it joins, frequency within ±250 ppm
afterwards. -/
def steer (b : Beat) (at_ : Nat) (s : State) : State :=
  if (pair s = 3 ∨ pair s = 5) ∧ b.echoTime ≠ 0 then
    let o := beatOffset b (devNs s at_)
    let s1 : State := { s with net.ptp.driveOffsets := (o :: s.net.ptp.driveOffsets).take 64 }
    if pair s1 = 3 ∧ !s1.red.stepped then
      { stepTime ((devTime s1 s1.now : Int) - o * 16).toNat s1.now s1 with red.stepped := true }
    else
      let (s2, k) := fresh s1
      fput NET_PTP_FREQ_PPB (ofInt 32 ((Config.freeNat k % 500001 : Nat) - 250000 : Int)) s2
  else s

/-- A heartbeat arrives on a path (R193, R194, R199, R200, R213); one with a foreign PAIR_ID or the receiver's own side is
ignored. -/
def beatIn (path : HbPath) (b : Beat) (at_ : Nat) (s : State) : State :=
  let s0 := advance at_ s
  if b.pairId ≠ fget s0 NET_PAIR_ID_PAIR_ID ∨ b.side = fget s0 RED_STATUS_SIDE then s0
  else
    let s1 := match path with
      | .laneA _ => { s0 with red.lastA := some at_, red.echoA := (b.sendTime, devNs s0 at_) } |> fput RED_STATUS_PATH_A 1
      | .portB _ => { s0 with red.lastB := some at_, red.echoB := (b.sendTime, devNs s0 at_) } |> fput RED_STATUS_PATH_B 1
    let s2 := showPeer { s1 with red.peerBeat := some b }
    if b.fault then peerEpoch b.epoch (declareFailed (seeEpoch b.epoch s2))
    else
      let s3 : State := if s2.red.takeover.isNone then { s2 with red.peerFailed := false } else s2
      peerEpoch b.epoch (steer b at_ s3)

end Sys2Proof.Machine
end

