-- ==== Sys2Proof/Machine/NetTx.lean ====
section
/-! DEFINITION. What the line network sends (chapter 06): gates (R156–R158), Flany headers (R167, R169), gathering and the
transmit windows (R163–R165, R179, R180), gPTP of the drive domain (R146), the drive cycle (R153, R154) and links (R157). -/

namespace Sys2Proof.Machine

open Reg

/-! ### Gates (R156–R158) -/

def linkUp (s : State) (p : Nat) : Bool := (fget s NET_STATUS_LINK).testBit p
def preempts (s : State) (p : Nat) : Bool := (fget s NET_STATUS_PREEMPT).testBit p

/-- GUARD of a port in sixteenths of a ns. -/
def guardTime (s : State) (p : Nat) : Nat :=
  16 * (if p < 2 then (if preempts s p then 512 else 4935) else (if preempts s p then 1280 else 12336))

/-- TX_CLOSE of a drive port after the boundary, in sixteenths of a ns. -/
def txClose (s : State) (p : Nat) : Nat := fget s NET_TX_OPEN_NS * 16 + wSp s p * 16 / 10 + 3200

/-- The unit sends heartbeats (R199). -/
def beating (s : State) : Bool := pair s ≠ 0 ∨ fbit s RED_CFG_PAIR_EN

/-- Beat instants in sixteenths of a ns of device time (R199). -/
def beatPeriod : Nat := 250000

/-- Openings of class 7 on a port that may concern a time, each with its start and its end. -/
def openings (s : State) (p t : Nat) : List (Nat × Nat) :=
  let n := cycleAt s t
  if p < 2 then [n, n + 1].map (fun m => (boundary s m + fget s NET_TX_OPEN_NS * 16, boundary s m + txClose s p))
  else
    (if fget s NET_PLANT_WIN_PLANT_LEN = 0 then []
      else [n - 1, n, n + 1].map (fun m =>
        let a := boundary s m + fget s NET_PLANT_WIN_PLANT_OPEN * 320
        (a, a + fget s NET_PLANT_WIN_PLANT_LEN * 320)))
    ++ (if beating s then
        [devTime s t / beatPeriod, devTime s t / beatPeriod + 1].map (fun k =>
          (localTime s (k * beatPeriod), localTime s (k * beatPeriod) + 16000))
      else [])

/-- Open and held classes of a port at a time. -/
def gatesAt (s : State) (p t : Nat) : BitVec 8 × BitVec 8 :=
  if beforeGrid s t then (0x7F, 0)
  else if (openings s p t).any (fun (a, b) => a ≤ t ∧ t < b) then (0x80, 0)
  else if (openings s p t).any (fun (a, _) => t < a ∧ a ≤ t + guardTime s p) then (0, if preempts s p then 0x3F else 0)
  else (0x7F, 0)

/-- When the gates of classes 0–6 close next. -/
def nextClose (s : State) (p t : Nat) : Nat :=
  ((openings s p t).filter (fun x => t ≤ x.1)).foldl (fun m x => min m (x.1 - guardTime s p)) (boundary s (cycleAt s t + 2))

def gateOf (s : State) (p : Nat) : Gate := lookD s.net.gates p {}
def setGate (p : Nat) (f : Gate → Gate) (s : State) : State := { s with net.gates := upd p {} f s.net.gates }

/-- Class 7 opens on ports. -/
def openSeven (ps : List Nat) (s : State) : State :=
  forEach ps s fun p s => setGate p (fun g => { g with open_ := 0x80, held := 0 }) s

/-- A frame of a class may start now: its gate is open, and a class-6 or class-5 frame can finish before its gate closes;
preemption holds class 5 instead. -/
def mayStart (s : State) (p cls bytes : Nat) : Bool :=
  (gateOf s p).open_.getLsbD cls
    && (cls < 5 || (cls = 5 && preempts s p) || s.now + bytes * byteTime s p * 16 / 10 ≤ nextClose s p s.now)

/-- The completion of a NIC_TX frame (R183). -/
def nicComplete (r index : Nat) (tag : Word) (status reason stamp : Nat) (s : State) : State :=
  let s1 := fillSlot r index 0 (le 4 tag.toNat ++ le 2 status ++ le 2 reason ++ le 8 stamp) s
  settle (flush r ((ring s1 r).slots.length + 1) s1)

/-- The time stamp of a frame that leaves now: device time at the MII and the PHY's own delay (R151). -/
def txStamp (s : State) (p : Nat) : Nat := nsNow s + fget s (NET_PORT_CFG_TX_DLY p)

/-- The drive-domain clockIdentity (R146, R152): the base MAC address until a state transfer gives the pair's. -/
def clockId (s : State) : Nat :=
  if fget s NET_PTP_CLKID_CLKID = 0 then Config.baseMac.toNat * 65536 else fget s NET_PTP_CLKID_CLKID

/-- A gPTP message after its EtherType: the header, and what follows it by type, in network byte order as IEEE 802.1AS-2020 lays them
out. Where the spec gives a field no value it is `Config.ptpField` (R17, R146; PRESUMED, log entry 37). -/
def ptpMessage (s : State) (p kind domain time prio clk seq : Nat) : List Byte :=
  let free := fun (i n : Nat) => (List.range n).map (fun j => Config.ptpField kind (i + j))
  let stamp := be 6 (time / 1000000000) ++ be 4 (time % 1000000000)
  let body :=
    if kind = 0 then be 10 0
    else if kind = 2 then be 20 0
    else if kind = 3 ∨ kind = 0xA then stamp ++ be 10 (clk / 65536)
    else if kind = 8 then stamp ++ free 44 32
    else free 34 13 ++ be 1 prio ++ free 48 5 ++ be 8 clk ++ free 61 15
  be 1 (0x10 + kind) ++ free 1 1 ++ be 2 (34 + body.length) ++ be 1 domain ++ free 5 15 ++ be 8 (clockId s) ++ be 2 (p + 1)
    ++ be 2 seq ++ free 32 2 ++ body

/-- The number of a message: a Follow_Up has that of its Sync and a Pdelay answer that of its request; of the others each has the
next one of its port. -/
def ptpNumber (s : State) (p kind clk : Nat) : Nat :=
  if kind = 3 ∨ kind = 0xA then clk % 65536
  else if kind = 8 then (lookD s.net.ptp.numbers (16 * p) 0 + 65535) % 65536
  else lookD s.net.ptp.numbers (16 * p + kind) 0

/-- A gPTP message leaves. -/
def emitPtp (p kind domain time prio clk : Nat) (s : State) : State :=
  let n := ptpNumber s p kind clk
  emit (.gptp p kind domain time prio clk (ptpMessage s p kind domain time prio clk n))
    (if kind = 0 ∨ kind = 2 ∨ kind = 0xB then
      { s with net.ptp.numbers := put (16 * p + kind) ((n + 1) % 65536) s.net.ptp.numbers } else s)

/-- A frame leaves. Event messages of gPTP are time-stamped as they leave: Follow_Up carries the time of the Sync before it, and
Pdelay_Resp_Follow_Up that of the Pdelay_Resp (R146, R151). -/
def emitStamped (o : Output) (s : State) : State :=
  match o with
  | .gptp p 0 domain _ prio clk _ => emitPtp p 0 domain (txStamp s p) prio clk
      { s with net.ptp.syncSent := put p (txStamp s p) s.net.ptp.syncSent }
  | .gptp p 2 domain _ prio clk _ => emitPtp p 2 domain (txStamp s p) prio clk s
  | .gptp p 3 domain rx prio clk _ => emitPtp p 3 domain rx prio clk
      { s with net.ptp.respSent := put p (txStamp s p) s.net.ptp.respSent }
  | .gptp p 8 domain _ prio clk _ => emitPtp p 8 domain (lookD s.net.ptp.syncSent p 0) prio clk s
  | .gptp p 0xA domain _ prio clk _ => emitPtp p 0xA domain (lookD s.net.ptp.respSent p 0) prio clk s
  | .gptp p kind domain time prio clk _ => emitPtp p kind domain time prio clk s
  | _ => emit o s

/-- A frame leaves on its port, and TX_FRAMES counts it. A port without link loses it (log entry 40), and so does a unit in a
standby code with a frame of a NIC ring that waited (R213). -/
def transmit (p : Nat) (w : TxWait) (s : State) : State :=
  let up := linkUp s p && !(w.done.isSome && standby s)
  let s1 := if up then s |> emitStamped w.what |> bumpWrap (NET_PORT_TX_FRAMES_COUNT p) 1 else s
  match w.done with
  | none => s1
  | some (r, index, tag, wants) =>
    let s2 := if up then s1 else s1 |> bump (NET_PORT_NIC_DROP_COUNT p) 1 |> raise NET_EVENTS_NIC_DROP
    nicComplete r index tag 0 0 (if up && wants then txStamp s p else 0) s2

/-- Sends a frame through the gate of its class, or lets it wait. -/
def sendFrame (p : Nat) (w : TxWait) (s : State) : State :=
  if mayStart s p w.cls w.bytes then transmit p w s
  else setGate p (fun g => { g with waiting := g.waiting ++ [w] }) s

/-- Sends what waits and may start, higher classes first. -/
def flushGate (p : Nat) (s : State) : State :=
  let all := (gateOf s p).waiting.mergeSort (fun a b => a.cls ≥ b.cls)
  forEach all (setGate p (fun g => { g with waiting := [] }) s) (sendFrame p)

/-- GATE_CONTROL_TRANSITION (R156, R158): the gates of a port take the list's entry for the time. -/
def execGateControlTransition (p : Fin 4) (at_ : Nat) (s : State) : Host.Outcome State Fault Refusal :=
  .next (
    let s1 := advance at_ s
    let g := gatesAt s1 p s1.now
    flushGate p (setGate p (fun x => { x with open_ := g.1, held := g.2 }) s1))

/-! ### Heartbeats (R158, R199) -/

/-- A path had no heartbeat in the last beat period. -/
def beatMissing (last : Option Nat) (s : State) : Bool := last.elim true (fun t => t + beatPeriod < s.now)

/-- The next beat instant: the first device time from now on that is a multiple of 15,625 ns and has had no heartbeat. -/
def nextBeat (s : State) : Nat :=
  let from_ := devTime s (max s.now (s.red.beatAt.elim 0 (· + 1)))
  localTime s ((from_ + beatPeriod - 1) / beatPeriod * beatPeriod)

/-- The heartbeat of the next beat instant: class 7 opens on the plant ports, and the frames leave (R158, R199). -/
def beatStep (s : State) : State :=
  let s1 := advance (nextBeat s) s
  let s2 := if beatMissing s1.red.lastA s1 then bump RED_HB_MISS_PATH_A 1 s1 else s1
  let s3 := if beatMissing s2.red.lastB s2 then bump RED_HB_MISS_PATH_B 1 s2 else s2
  sendBeats false (openSeven [2, 3] { s3 with red.beatAt := some s3.now })

/-- The next beat instant falls before a time. -/
def beatBefore (s : State) (t : Nat) : Bool := beating s && decide (nextBeat s < t)

/-! ### Gathering (R162–R165) -/

/-- Reverses the bytes of each group (R162); 0 leaves the order. -/
def swapGroups (g : Nat) : Nat → List Byte → List Byte
  | 0, bs => bs
  | n + 1, bs => if g = 0 ∨ bs.isEmpty then bs else (bs.take g).reverse ++ swapGroups g n (bs.drop g)

def swapped (f : TplField) (bs : List Byte) : List Byte := swapGroups f.swap bs.length bs

/-- Bytes laid over a list from an offset. -/
def overlay (bs : List Byte) (o : Nat) (v : List Byte) : List Byte := bs.take o ++ v ++ bs.drop (o + v.length)

/-- The payload of a transmit template: the safe payload with the fields over it (R163). -/
def gatherPayload (s : State) (t : Template) : List Byte :=
  t.fields.foldl (fun bs f => overlay bs f.frameOfs (swapped f (rdN s.img.live f.imgAddr f.length))) (fit t.payloadLen t.safe)

/-- The status block (R179). -/
def statusBlock (s : State) : List Byte :=
  le 1 (ctl s) ++ le 1 (pair s) ++ le 1 (sag s) ++ le 1 (if ctl s = 4 then fget s CTL_HALT_CAUSE_CAUSE else 0)
    ++ be 4 (generation s) ++ be 2 s.img.forces.length ++ le 6 0

def tplRun (s : State) (i : Nat) : TplRun := lookD s.net.tpl i {}
def setTpl (i : Nat) (f : TplRun → TplRun) (s : State) : State := { s with net.tpl := upd i {} f s.net.tpl }

/-- The transmit templates of a kind that are due in a cycle. -/
def dueTx (s : State) (kind n : Nat) : List (Nat × Template) :=
  s.prog.cur.templates.filter (fun (_, t) => t.tx ∧ t.kind = kind ∧ n % max 1 t.every = t.everyPhase)

/-- Gathers the templates of a kind for a cycle; the standby gathers too (R180). -/
def gatherAll (kind n : Nat) (s : State) : State :=
  forEach (dueTx s kind n) s fun (i, t) s =>
    setTpl i (fun r => { r with gathered := some (n, ctl s ≠ 3,
      if kind = kStatus then overlay (gatherPayload s t) 0 (statusBlock s) else gatherPayload s t) }) s

/-- Bytes gathered for a cycle. -/
def gatherSize (s : State) (kind n : Nat) : Nat := ((dueTx s kind n).map (fun (_, t) => (t.fields.map (·.length)).sum)).sum

/-- Gathering takes 200 ns and 1 / 12.8 ns per byte, frame set-up 200 ns (R164). -/
def gatherTime (s : State) (kind n : Nat) : Nat := 6400 + gatherSize s kind n * 5 / 4

/-- TX_GATHER (R164). -/
def execTxGather (s : State) : Host.Outcome State Fault Refusal :=
  .next (if !cycleRuns s then s else
    let n := max s.net.gatherCycle (cycleNow s)
    let s1 := advance (boundary s n + fget s NET_TX_OPEN_NS * 16 - 25600) s
    { gatherAll kSetpoint n s1 with net.gatherCycle := n + 1, net.gatherEnd := s1.now + gatherTime s1 kSetpoint n })

/-- The unit sends drive frames, STATUS and Sync: active, or for 10 µs after it has handed over (R190, R217). -/
def talks (s : State) : Bool := !standby s || s.red.handover.elim false (fun h => h.outputsAt.isSome)

/-- One transmit template leaves on its ports, with its sequence number on both ports of a side (R159, R165). -/
def sendTemplate (n i : Nat) (t : Template) (s : State) : State :=
  match (tplRun s i).gathered with
  | some (m, was, bytes) =>
    if m ≠ n then s
    else
      let safe := was || decide (ctl s ≠ 3)
      let own := fit t.payloadLen t.safe
      let block := if fget s NET_PLANT_WIN_PLANT_OPEN * 20 < 1600 then statusBlock s else bytes.take 16
      let payload := if t.kind = kStatus then overlay (if safe then own else bytes) 0 block else if safe then own else bytes
      let tag := if paired t then some (tplRun s i).txSeq else none
      let raw := flanyHeader s t.kind n t.payloadLen safe false ++ payload
      let s1 := setTpl i (fun r => { r with txSeq := if paired t then r.txSeq + 1 else r.txSeq, gathered := none }) s
      forEach (portsOf t.port) s1 fun p s =>
        transmit p { cls := 7, bytes := wireBytes t, what := .frame p t.dstMac t.vlan tag raw } s
  | none => s

/-- TX_WINDOW_OPEN (R156, R164, R165, R180): class 7 opens on the drive ports and the gathered frames leave; gathering that
is not complete sets TX_LATE and sends as soon as it is, within the window. -/
def txWindow (n : Nat) (s : State) : State :=
  let s1 := advance (boundary s n + fget s NET_TX_OPEN_NS * 16) { s with net.sentCycle := n + 1 }
  let s1 := match handoverIn s1 n with
    | some x => handoverDone x s1
    | none => s1
  let s2 := openSeven [0, 1] s1
  if standby s2 ∨ !cycleRuns s2 ∨ ctl s2 < 2 ∨ (dueTx s2 kSetpoint n).isEmpty then s2
  else
    let s3 := if s2.net.gatherCycle ≤ n ∨ s2.net.gatherEnd > s2.now then raise NET_EVENTS_TX_LATE s2 else s2
    let s4 := if s3.net.gatherCycle = n + 1 then advance s3.net.gatherEnd s3 else s3
    forEach (dueTx s4 kSetpoint n) s4 fun (i, t) s =>
      if s.now < boundary s n + (txClose s ((portsOf t.port).headD 0)) then sendTemplate n i t s else s

def execTxWindowOpen (s : State) : Host.Outcome State Fault Refusal :=
  .next (if cycleRuns s ∨ s.red.handover.isSome then txWindow (max s.net.sentCycle (cycleNow s)) s else s)

/-- STATUS_GATHER (R164): at PLANT_OPEN − 1,600 ns, which may lie in the cycle before. -/
def execStatusGather (s : State) : Host.Outcome State Fault Refusal :=
  .next (if !cycleRuns s ∨ fget s NET_PLANT_WIN_PLANT_LEN = 0 then s else
    let early := fget s NET_PLANT_WIN_PLANT_OPEN * 20 < 1600
    let n := max s.net.statusCycle (cycleNow s + if early then 1 else 0)
    let s1 := advance (boundary s n + fget s NET_PLANT_WIN_PLANT_OPEN * 320 - 25600) s
    { gatherAll kStatus n s1 with net.statusCycle := n + 1, net.statusEnd := s1.now + gatherTime s1 kStatus n })

/-- End of the plant window of cycle `n`. -/
def plantEnd (s : State) (n : Nat) : Nat :=
  boundary s n + (fget s NET_PLANT_WIN_PLANT_OPEN + fget s NET_PLANT_WIN_PLANT_LEN) * 320

/-- The STATUS frames of cycle `n` leave, within the window; gathering that is not complete sets TX_LATE (R164, R179). -/
def statusFrames (n : Nat) (s : State) : State :=
  if !talks s ∨ ctl s < 2 ∨ (dueTx s kStatus n).isEmpty then s
  else
    let s1 := if s.net.statusCycle ≤ n ∨ s.net.statusEnd > s.now then raise NET_EVENTS_TX_LATE s else s
    let s2 := if s1.net.statusCycle = n + 1 then advance s1.net.statusEnd s1 else s1
    forEach (dueTx s2 kStatus n) s2 fun (i, t) s => if s.now < plantEnd s n then sendTemplate n i t s else s

/-- PLANT_WINDOW_OPEN (R158, R179): class 7 opens on the plant ports; a heartbeat that falls in the window goes first, then
the STATUS frames. PLANT_LEN = 0 sends none. -/
def execPlantWindowOpen (s : State) : Host.Outcome State Fault Refusal :=
  .next (if !cycleRuns s ∨ fget s NET_PLANT_WIN_PLANT_LEN = 0 then s else
    let n := max s.net.sentPlant (cycleNow s)
    let s1 := advance (boundary s n + fget s NET_PLANT_WIN_PLANT_OPEN * 320) { s with net.sentPlant := n + 1 }
    let s2 := openSeven [2, 3] s1
    statusFrames n (if beatBefore s2 (plantEnd s2 n) then beatStep s2 else s2))

/-- COLLECT_HEAD_SEND (R171): the head of a chain, an endpoint, sends its frame FB_OFS after a due boundary. Nothing of the
module changes but its time. -/
def execCollectHeadSend (t : Nat) (s : State) : Host.Outcome State Fault Refusal :=
  .next (match look s.prog.cur.templates t with
    | some x =>
      let k := max 1 x.every
      let n := cycleNow s + (x.everyPhase + k - cycleNow s % k) % k
      let p := (portsOf x.port).headD 0
      advance (boundary s n + fget s (NET_DRV_TIMING_FB_OFS p) * 160) s
    | none => s)

/-! ### gPTP of the drive domain (R146, R152) -/

/-- The MACs and the gPTP firmware run: after LOADING, outside HOLD, DORMANT and the wake (R154). -/
def ptpRuns (s : State) : Bool := ctl s ≠ 0 && (power s = 0 || power s = 1)

/-- The time stamp of a frame that arrived at a moment: device time at the MII less the PHY's own delay (R151). -/
def rxStamp (s : State) (p at_ : Nat) : Nat := devNs s at_ - fget s (NET_PORT_CFG_RX_DLY p)

/-- A gPTP message in class 6. -/
def sendPtp (p kind domain : Nat) (s : State) : State :=
  let bytes := 38 + (if kind = 0 then 44 else if kind = 8 then 76 else if kind = 0xB then 76 else 54)
  let what : Output :=
    if kind = 0xB then .gptp p kind domain (nsNow s) (fget s NET_PTP_CFG_PRIO1) (clockId s) []
    else .gptp p kind domain (nsNow s) 0 0 []
  sendFrame p { cls := 6, bytes, what } s

/-- Messages on both drive ports that have link. -/
def driveMessages (kinds : List Nat) (s : State) : State :=
  forEach ([0, 1].filter (linkUp s)) s fun p s => forEach kinds s fun k s => sendPtp p k (fget s NET_PTP_CFG_DRV_DOMAIN) s

/-- DRIVE_SYNC_SEND (R146): Sync and Follow_Up at the Sync interval. -/
def execDriveSyncSend (s : State) : Host.Outcome State Fault Refusal :=
  .next (if talks s ∧ ptpRuns s then
      let s1 := match s.net.ptp.lastDriveSync with
        | some t => advance (t + secs 1 / 2 ^ fget s NET_PTP_CFG_SYNC_INTERVAL) s
        | none => s
      driveMessages [0, 8] { s1 with net.ptp.lastDriveSync := some s1.now }
    else s)

/-- The module's own Pdelay_Req on its plant ports (R146, R147). -/
def plantRequests (s : State) : State :=
  if fbit s NET_PTP_CFG_PLANT_EN then
    forEach ([2, 3].filter (linkUp s)) s fun p s => sendPtp p 2 (fget s NET_PTP_CFG_PLT_DOMAIN) s
  else s

/-- ANNOUNCE_SEND (R146): every second. The Pdelay interval is the same, and the module's own Pdelay_Req leave with it
(DESIGN CHOICE, log entry 86). -/
def execAnnounceSend (s : State) : Host.Outcome State Fault Refusal :=
  .next (if talks s ∧ ptpRuns s then
      let s1 := match s.net.ptp.lastDriveAnnounce with
        | some t => advance (t + secs 1) s
        | none => s
      plantRequests (driveMessages [0xB, 2] { s1 with net.ptp.lastDriveAnnounce := some s1.now })
    else s)

/-- PDELAY_REQ_RECEIVE (R146, R152): counted (R186), and answered with Pdelay_Resp and Pdelay_Resp_Follow_Up, by a standby too; on a
plant port with PLANT_EN = 1 only (R147). -/
def execPdelayReqReceive (p : Fin 4) (req : PdelayReq) (at_ : Nat) (s : State) : Host.Outcome State Fault Refusal :=
  .next (if !ptpRuns s ∨ !linkUp s p then s
    else
      let s1 := advance at_ s |> bumpWrap (NET_PORT_RX_FRAMES_COUNT p) 1
      if p.val ≥ 2 ∧ !fbit s NET_PTP_CFG_PLANT_EN then s1 else
      let domain := if p.val < 2 then fget s1 NET_PTP_CFG_DRV_DOMAIN else fget s1 NET_PTP_CFG_PLT_DOMAIN
      let stamp := rxStamp s1 p at_
      forEach [3, 0xA] s1 fun kind s =>
        sendFrame p { cls := 6, bytes := 92, what := .gptp p kind domain stamp 0 (req.seq.toNat + 65536 * req.source.toNat) [] } s)

/-- DRIVE_ANNOUNCE_RECEIVE (R146): counted, and sets FOREIGN_GM. -/
def execDriveAnnounceReceive (p : Fin 2) (s : State) : Host.Outcome State Fault Refusal :=
  .next (s |> bumpWrap (NET_PORT_RX_FRAMES_COUNT p) 1 |> raise NET_EVENTS_FOREIGN_GM)

/-! ### gPTP of the plant domain (R147–R150) -/

/-- PLANT_SYNC goes to 0 (R148, R150). -/
def losePlant (s : State) : State :=
  let s1 : State := { s with net.ptp.good := 0 }
  if fbit s NET_STATUS_PLANT_SYNC then s1 |> fput NET_STATUS_PLANT_SYNC 0 |> raise NET_EVENTS_PLANT_LOST else s1

/-- The grandmaster becomes another one (R150). -/
def takeMaster (gm : DWord) (s : State) : State :=
  if s.net.ptp.gm = some gm then s
  else
    let s1 := if s.net.ptp.gm.isSome then
        s |> bumpWrap NET_GM_CHANGES_COUNT 1 |> raise NET_EVENTS_GM_CHANGE |> losePlant
      else s
    { s1 with net.ptp.gm := some gm, net.ptp.good := 0 }

/-- The servo's adjustment after a Sync (R148): free within ±250 ppm, and within 10 ppm per second of the one before. -/
def servo (dt : Nat) (s : State) : State :=
  let (s1, k) := fresh s
  let old := toInt 32 (fget s NET_PTP_FREQ_PPB)
  let span : Int := 10000 * dt / 16000000000
  let v : Int := (Config.freeNat k % 500001 : Nat) - 250000
  fput NET_PTP_FREQ_PPB (ofInt 32 (max (-250000) (min 250000 (max (old - span) (min (old + span) v))))) s1

/-- The alignment step of R149: device time becomes plant time at the arrival of the Sync, with an error of at most 100 ns
that is free. -/
def alignStep (p : Nat) (plantTime : Int) (at_ : Nat) (s : State) : State :=
  let (s1, k) := fresh s
  let e : Int := (Config.freeNat k % 201 : Nat) - 100
  let d := ((plantTime + fget s (NET_PORT_CFG_RX_DLY p) + e) * 16).toNat
  { stepTime d at_ s1 with net.ptp.aligned := true } |> raise NET_EVENTS_ALIGN_STEP

/-- A Sync of the plant domain at the slave port. A standby follows its active's time and only measures the offset (R148,
R202). -/
def plantSync (p : Nat) (gm : DWord) (plantTime : Int) (at_ : Nat) (s : State) : State :=
  let s1 := takeMaster gm s
  let align := !standby s1 && !s1.net.ptp.synced && fbit s1 NET_PTP_CFG_ALIGN && !fbit s1 NET_CYCLE_CFG_RUN
    && !s1.net.ptp.aligned
  let dt := at_ - s1.net.ptp.lastSync.getD at_
  let s2 := if standby s1 then s1 else if align then alignStep p plantTime at_ s1 else servo dt s1
  let offset := plantTime - (devNs s2 at_ - fget s2 (NET_PORT_CFG_RX_DLY p) : Int)
  let s3 := { s2 with
      net.ptp.synced := true
      net.ptp.lastSync := some s2.now
      net.ptp.offsets := (offset :: s2.net.ptp.offsets).take 64 }
    |> fput NET_PLANT_OFFSET_OFFSET (ofInt 64 offset)
  if offset.natAbs > fget s3 NET_PTP_SYNC_LIMIT_NS then losePlant s3
  else
    let s4 : State := { s3 with net.ptp.good := min 8 (s3.net.ptp.good + 1) }
    if s4.net.ptp.good ≥ 8 then fput NET_STATUS_PLANT_SYNC 1 s4 else s4

/-- PLANT_SYNC_RECEIVE (R147–R150): a port with link counts the frame (R186); only the port in the slave role takes it. -/
def execPlantSyncReceive (p : Fin 2) (gm : DWord) (plantTime : Int) (at_ : Nat) (s : State) :
    Host.Outcome State Fault Refusal :=
  .next (if !linkUp s (p.val + 2) then s else
    let s1 := advance at_ s |> bumpWrap (NET_PORT_RX_FRAMES_COUNT (p.val + 2)) 1
    if fbit s NET_PTP_CFG_PLANT_EN ∧ ptpRuns s ∧ fget s NET_STATUS_PLANT_PORT = p.val + 1 then
      plantSync (p.val + 2) gm plantTime at_ s1
    else s1)

/-- PLANT_ANNOUNCE_RECEIVE (R147): the best master clock algorithm puts one P port into the slave role. A smaller rank is the
better master; the slave's own port may change its rank. -/
def execPlantAnnounceReceive (p : Fin 2) (a : Announce) (s : State) : Host.Outcome State Fault Refusal :=
  .next (if !linkUp s (p.val + 2) then s else
    let s1 := advance a.at_ s |> bumpWrap (NET_PORT_RX_FRAMES_COUNT (p.val + 2)) 1
    if fbit s NET_PTP_CFG_PLANT_EN ∧ ptpRuns s ∧ a.domain = fget s NET_PTP_CFG_PLT_DOMAIN then
      let now := fget s1 NET_STATUS_PLANT_PORT
      let better := s1.net.ptp.rank.elim true (fun r => decide (a.rank < r))
      if now = p.val + 1 ∨ now = 0 ∨ better then
        let s2 := takeMaster a.gm s1
        let slave := now ≠ p.val + 1
        { s2 with
          net.ptp.rank := some a.rank
          net.ptp.lastAnnounce := some a.at_
          net.ptp.lastSync := if slave then some a.at_ else s2.net.ptp.lastSync
          net.ptp.synced := s2.net.ptp.synced && !slave } |> fput NET_STATUS_PLANT_PORT (p.val + 1)
      else s1
    else s1)

/-- When three Sync or three Announce intervals without a message end (R148), and whether Announce was the one missing. -/
def plantDeadline (s : State) : Option (Nat × Bool) :=
  let sync := s.net.ptp.lastSync.map (fun t => t + 3 * (secs 1 / 2 ^ fget s NET_PTP_CFG_SYNC_INTERVAL))
  let ann := s.net.ptp.lastAnnounce.map (fun t => t + secs 3)
  match sync, ann with
  | some a, some b => some (if b ≤ a then (b, true) else (a, false))
  | some a, none => some (a, false)
  | none, some b => some (b, true)
  | none, none => none

/-- PLANT_SYNC_TIMEOUT (R148, R150): after three Announce intervals no P port is slave. -/
def execPlantSyncTimeout (s : State) : Host.Outcome State Fault Refusal :=
  .next (match plantDeadline s with
    | some (t, ann) =>
      let s1 := losePlant (advance t s)
      if ann then { s1 with net.ptp.rank := none, net.ptp.lastAnnounce := none, net.ptp.lastSync := none }
        |> fput NET_STATUS_PLANT_PORT 0
      else { s1 with net.ptp.lastSync := none }
    | none => s)

/-! ### The drive cycle (R153, R154) and links (R157) -/

/-- The first boundary at or after a time. -/
def boundaryFrom (s : State) (t : Nat) : Nat :=
  let n := cycleAt s t
  if boundary s n ≥ t then boundary s n else boundary s (n + 1)

/-- DRIVE_CYCLE_START (R153): the first boundary at least 100 µs after the apply point; not in HOLD (R154). -/
def execDriveCycleStart (s : State) : Host.Outcome State Fault Refusal :=
  .next (match s.net.startFrom with
    | some t =>
      if power s ≤ 1 then
        advance (boundaryFrom s t) { s with net.startFrom := none, net.stopFrom := none } |> fput NET_STATUS_CYCLE_RUN 1
      else s
    | none => s)

/-- DRIVE_CYCLE_STOP (R153): the first boundary at or after the apply point. -/
def execDriveCycleStop (s : State) : Host.Outcome State Fault Refusal :=
  .next (match s.net.stopFrom with
    | some t => advance (boundaryFrom s t) { s with net.stopFrom := none } |> fput NET_STATUS_CYCLE_RUN 0
    | none => s)

/-- Drive ports that a template names. -/
def namedPorts (s : State) : List Nat := ((templatesOf s).flatMap (fun t => portsOf t.port)).filter (· < 2)

/-- From when the drive cycle may resume after a return to TRIM at `t0` (R154). -/
def resumeAt (s : State) (t0 : Nat) : Nat :=
  let late := t0 + msec 100
  if (namedPorts s).all (linkUp s) then
    min late ((namedPorts s).foldl (fun m p => max m (lookD s.net.linkAt p 0)) t0 + usec 100)
  else late

/-- DRIVE_CYCLE_RESUME (R154). -/
def execDriveCycleResume (s : State) : Host.Outcome State Fault Refusal :=
  .next (match s.net.resumeFrom with
    | some t0 =>
      if fbit s NET_CYCLE_CFG_RUN ∧ power s ≤ 1 then
        advance (boundaryFrom s (resumeAt s t0)) { s with net.resumeFrom := none } |> fput NET_STATUS_CYCLE_RUN 1
      else s
    | none => s)

/-- Both D ports have lost link while the standby reports link on both of its own: an explicit fault (R201). No message
carries that report, so whether it stands is free. -/
def driveLinksLost (s : State) : State :=
  if pair s = 4 ∧ !linkUp s 0 ∧ !linkUp s 1 then
    let (s1, k) := fresh s
    if (Config.freeBits 1 k) = 1 then explicitFault s1 else s1
  else s

/-- Link of ports 0–3 (R157, R186). -/
def portLink (p : Nat) (up verified : Bool) (s : State) : State :=
  let s1 := s |> fputBit NET_STATUS_LINK p up |> raise NET_EVENTS_LINK_CHANGE
  if up then
    let s2 : State := { s1 with net.linkAt := put p s1.now s1.net.linkAt }
    if fbit s2 (NET_PORT_CFG_PREEMPT_EN p) then
      if verified then fputBit NET_STATUS_PREEMPT p true s2
      else s2 |> fputBit NET_STATUS_PREEMPT p false |> raise NET_EVENTS_PREEMPT_FAIL
    else fputBit NET_STATUS_PREEMPT p false s2
  else
    let s2 := fputBit NET_STATUS_PREEMPT p false s1
    let s3 := if fget s2 NET_STATUS_PLANT_PORT + 1 = p ∧ p ≥ 2 then
        { s2 with net.ptp.rank := none } |> fput NET_STATUS_PLANT_PORT 0 else s2
    if p < 2 then driveLinksLost s3 else s3

/-- PORT_LINK_CHANGE (R157, R186, R201): a port that is not enabled never reports link, and the MACs are down in HOLD and
DORMANT (R154). -/
def execPortLinkChange (p : Fin 5) (up verified : Bool) (s : State) : Host.Outcome State Fault Refusal :=
  .next (
    let now := up && fbit s (NET_PORT_CFG_ENABLE p) && (power s = 0 || power s = 1 || p = 4)
    if p = 4 then
      if fbit s NET_STATUS_SVC_LINK = now then s
      else s |> fput NET_STATUS_SVC_LINK (if now then 1 else 0) |> raise NET_EVENTS_LINK_CHANGE
    else if linkUp s p = now then s
    else portLink p now verified s)

end Sys2Proof.Machine
end

