-- ==== Sys2Proof/Machine/Pair.lean ====
section
/-! DEFINITION. The hot standby pair (chapter 07): agreement (R191–R193), heartbeats and failure (R199–R201), the Hedge
protocol (R196–R198), and the unfit standby (R209). -/

namespace Sys2Proof.Machine

open Reg

/-! ### Entering an active code (R194, R211) -/

/-- The shadow level of a Trellis channel is driven (R139, R211). -/
def driveShadow (n : Nat) (s : State) : State := if trellisOwned s n then driveEdge n (chan s n).edge s else s

/-- Field outputs and loops carry the live Q area, and Trellis drives its shadow levels (R84, R211 step 2). -/
def goLive (s : State) : State :=
  if ctl s = 3 then
    let s1 := openStages { s with fio.explicitSafe := false }
    let s2 := if (fieldWordAt s1).isSome then sendField s1 else s1
    let s3 := forEach [0, 1] s2 fun x s => if (loopWordAt s x).isSome then sendLoop x s else s
    forEach (List.range 16) s3 driveShadow
  else s

def isSnap : Queued → Bool
  | .snap _ => true
  | _ => false

/-- The outputs of a unit in an active code are its own (R211 step 2); complete snapshots that still wait for their tasks run on. -/
def driveOutputs (code : Nat) (s : State) : State :=
  { s with red.takeover := none, red.queued := s.red.queued.filter isSnap } |> setPair code |> goLive

/-- A unit enters an active code from a standby code: E rises, and the outputs are its own (R194). At a takeover E has risen at
the declaration (R211 step 1). -/
def enterActive (code : Nat) (s : State) : State := driveOutputs code (raiseEpoch s)

/-- Release cycles of a SYNC or CYCLIC task before cycle `n` (R63, R64). -/
def releasesBefore (d : TaskDef) (n : Nat) : Nat :=
  if d.kind = .sync then n else (n + max 1 d.period - 1 - d.phase) / max 1 d.period

/-- The number of the next release of a task at cycle `n`: SYNC and CYCLIC numbers follow the cycles, from the last mirrored
snapshot or from where the numbers count; the others go on from the last mirrored snapshot (R211). -/
def resumeNumber (s : State) (n t : Nat) (d : TaskDef) : Nat :=
  let r := run s t
  let from_ := if (look s.red.mirrored t).isSome then r.cycle + 1 else s.seq.numFrom
  match d.kind with
  | .sync | .cyclic => r.nextInst + (releasesBefore d n - releasesBefore d from_)
  | _ => max r.nextInst ((look s.red.mirrored t).elim 0 (·.1 + 1))

/-- The tasks of a unit that becomes active at a boundary: instance numbers, TAKEOVER_FIRST, the instant from which inputs count
as fresh (R496), BACKGROUND tasks (R211 step 3). -/
def ownTasks (s : State) : State :=
  let n := cycleNow s
  forEach (taskIds s) s fun t s =>
    match taskDef s t with
    | some d =>
      let before := (look s.red.mirrored t).elim s.now (fun x => localTime s (x.2 * 16))
      let s1 := setRun t (fun r => { r with
        nextInst := resumeNumber s n t d, takeoverFirst := true, prevAt := some before }) s
      if d.kind = .background ∧ ctl s = 3 then
        let due := if (run s t).phase = .idle then put t ((look s.seq.bgDue t).getD s.now) s1.seq.bgDue
          else del t s1.seq.bgDue
        { s1 with seq.bgDue := due }
      else s1
    | none => s

/-- The unit becomes active at a boundary B or H (R211 steps 2 and 3, R217 step 3); it holds no OPEN transaction (R354). -/
def becomeActive (code : Nat) (s : State) : State :=
  { s with cmd.txns := s.cmd.txns.filter (fun x => x.state ≠ .open_) } |> ownTasks |> driveOutputs code |> fput RED_TAKEOVER_TIME_TIME (nsNow s)

/-- What a commit that changes PAIR_EN does (R191). -/
def pairEnabled (s : State) : State :=
  let s1 : State := { s with red.pairEnAt := s.now, red.paired := false, red.helloAt := none, red.helloOut := false, red.helloIn := none }
  if pair s1 = 0 ∧ ctl s1 ≠ 3 then setPair 1 (allSafe s1) else s1

def pairDisabled (s : State) : State :=
  let was := standby s
  let s1 : State := { s with
    red.xfer := none
    red.queued := []
    red.takeover := none
    red.unacked := []
    red.helloIn := none
    red.faultSent := false }
  let s2 := s1 |> fput RED_STATUS_FIT 0 |> fput RED_STATUS_PARKED 0 |> fput RED_STATUS_INCOMPAT 0
  if was then enterActive 0 s2 else setPair 0 s2

/-! ### HELLO and agreement (R191, R192) -/

/-- The unit seeks a peer: PAIRING, SOLO with PAIR_EN = 1, or DEGRADED. -/
def seeks (s : State) : Bool := fbit s RED_CFG_PAIR_EN ∧ (pair s = 0 ∨ pair s = 6 ∨ pair s = 1)

/-- The HELLO of this unit (R197). -/
def ownHello (s : State) : Hello :=
  { pairId := fget s NET_PAIR_ID_PAIR_ID, side := fget s RED_STATUS_SIDE, code := pair s, ctl := ctl s, epoch := epoch s
    versions := [0, 1, 2, 3].map (fun c => fget s (BOOT_COMP_VER_VERSION c)), fmt := fget s RED_COMPAT_OWN_FMT
    winMin := fget s RED_COMPAT_WIN_MIN, winMax := fget s RED_COMPAT_WIN_MAX, at_ := nsNow s }

/-- Each unit's format lies in the other's window (R192). -/
def formatsFit (s : State) (h : Hello) : Bool :=
  h.winMin ≤ fget s RED_COMPAT_OWN_FMT ∧ fget s RED_COMPAT_OWN_FMT ≤ h.winMax
    ∧ fget s RED_COMPAT_WIN_MIN ≤ h.fmt ∧ h.fmt ≤ fget s RED_COMPAT_WIN_MAX

/-- The units agree: sequence numbers start anew and a transfer begins (R198, R210). RED_RESYNC completes. -/
def agree (source : Bool) (s : State) : State :=
  let s1 := if source ∧ standby s then enterActive 2 s else setPair (if source then 2 else 3) s
  let s2 : State := { s1 with
    red.txSeq := 0
    red.rxSeq := 0
    red.unacked := []
    red.held := []
    red.msgId := 0
    red.paired := true
    red.helloOut := false
    red.helloIn := none
    red.peerFailed := false
    red.ownDigests := []
    red.peerDigests := []
    red.mirrored := []
    red.resyncJob := none }
  let s3 := startTransfer (fput RED_STATUS_PARKED 0 s2)
  match s.red.resyncJob with
  | some jb => ended jb 0 0 0 s3
  | none => s3

/-- The two units have each other's HELLO and their checks hold: the source is chosen (R192). -/
def meetPeer (h : Hello) (s : State) : State :=
  let peerActive := h.code ∉ [1, 3, 5]
  if !standby s ∧ peerActive then
    if epoch s < h.epoch ∨ (epoch s = h.epoch ∧ fget s RED_STATUS_SIDE = 1) then yieldNow s else s
  else if !standby s then agree true s
  else if peerActive then agree false s
  else agree (fget s RED_STATUS_SIDE = 0) s

/-- A unit may agree: it is not parked. An active that knows its standby as parked cannot tell from a HELLO whether RED_RESYNC has
ended that, so whether it agrees is free (DESIGN CHOICE, log entry 90). -/
def mayAgree (s : State) : State × Bool :=
  if !fbit s RED_STATUS_PARKED then (s, true)
  else if standby s then (s, false)
  else
    let (s1, k) := fresh s
    (s1, decide (Config.freeBits 1 k = 1))

/-- A unit may take part in a pair: not at debug level 2 (R406), and not in a life-cycle state in which the controller does not
leave READY, since a joiner takes over the controller state of its peer (R21, R391; DEDUCED, log entry 93). -/
def mayPair (s : State) : Bool := fget s DBG_STATUS_LEVEL ≠ 2 && !serviceOpen s

/-- Each unit has the other's HELLO: this one's has left on a lane that is up (DEDUCED, log entry 54), and the peer's, which passed
its checks, found this unit seeking. -/
def greet (s : State) : State :=
  match s.red.helloIn with
  | none => s
  | some h =>
    if s.red.helloOut ∧ h.code ∈ [0, 1, 6] ∧ mayPair s then
      let (s1, ok) := mayAgree s
      if ok then meetPeer h s1 else s1
    else s

/-- HELLO_SEND (R192): every 10 ms. -/
def execHelloSend (s : State) : Host.Outcome State Fault Refusal :=
  .next (if seeks s then
      let s1 := advance ((s.red.helloAt.map (· + msec 10)).getD s.now) s
      let s2 : State := { s1 with red.helloAt := some s1.now }
      if hedgeUp s2 then
        let m : HedgeMsg := .hello (ownHello s2)
        greet (emit (.hedge m (hedgeFrame 2 false 0 s2.red.rxSeq (epoch s2) 0 0 (hedgePayload m))) { s2 with red.helloOut := true })
      else s2
    else s)

/-- HELLO_RECEIVE. -/
def execHelloReceive (h : Hello) (s : State) : Host.Outcome State Fault Refusal :=
  .next (if !fbit s RED_CFG_PAIR_EN then s
    else
      let s1 := fput RED_COMPAT_PEER_FMT h.fmt { s with red.peer := some h }
      if h.pairId ≠ fget s1 NET_PAIR_ID_PAIR_ID ∨ h.side = fget s1 RED_STATUS_SIDE then
        if seeks s1 then fput RED_STATUS_INCOMPAT 1 s1 else s1
      else
        let s2 := seeEpoch h.epoch s1
        if !seeks s2 then s2
        else if !formatsFit s2 h then s2 |> fput RED_STATUS_INCOMPAT 1 |> fput RED_STATUS_UNFIT_REASON 11
        else
          greet (fput RED_STATUS_INCOMPAT 0 { s2 with red.helloIn := some h }))

/-- The unit in PAIRING is held: a check of its pairing has failed (R188, R192), the peer's heartbeats arrive, or its SETPOINT
frames have within 100 ms (R193). -/
def heldByPeer (s : State) : Bool :=
  fbit s RED_STATUS_INCOMPAT || fbit s RED_STATUS_PATH_A || fbit s RED_STATUS_PATH_B || s.red.setpointAt.elim false (fun t => s.now < t + msec 100)

/-- PAIR_WAIT_EXPIRY (R191, R193). -/
def execPairWaitExpiry (s : State) : Host.Outcome State Fault Refusal :=
  .next (
    let s1 := advance (s.red.pairEnAt + msec (fget s RED_CFG_PAIR_WAIT)) s
    if pair s = 1 ∧ fbit s RED_CFG_PAIR_EN ∧ !s.red.paired ∧ !fbit s RED_STATUS_PARKED ∧ !heldByPeer s1 then
      enterActive 0 (fput RED_STATUS_PEER_SEEN 0 s1)
    else s)

/-! ### Heartbeats (R199, R200) -/

/-- HEARTBEAT_SEND: at the next device time that is a multiple of 15,625 ns. -/
def execHeartbeatSend (s : State) : Host.Outcome State Fault Refusal := .next (if beating s then beatStep s else s)

/-- HEARTBEAT_RECEIVE: a plant port with link counts its frame (R498). -/
def execHeartbeatReceive (path : HbPath) (b : Beat) (at_ : Nat) (s : State) : Host.Outcome State Fault Refusal :=
  .next (beatIn path b at_ (match path with
    | .laneA _ => s
    | .portB p => if linkUp s (p.val + 2) ∧ b.pairId = fget s NET_PAIR_ID_PAIR_ID then
        bumpWrap (NET_PORT_RX_FRAMES_COUNT (p.val + 2)) 1 s else s))

/-- 47,000 ns, in sixteenths of a ns (R200). -/
def pathLimit : Nat := 752000

/-- PATH_LOSS_TIMEOUT. -/
def execPathLossTimeout (pathB : Bool) (s : State) : Host.Outcome State Fault Refusal :=
  .next (
    let up := fbit s (if pathB then RED_STATUS_PATH_B else RED_STATUS_PATH_A)
    match (if pathB then s.red.lastB else s.red.lastA) with
    | some t =>
      if up then
        advance (t + pathLimit) s |> fput (if pathB then RED_STATUS_PATH_B else RED_STATUS_PATH_A) 0
          |> raise (if pathB then RED_EVENTS_PATH_B_LOST else RED_EVENTS_PATH_A_LOST) |> showPeer
      else s
    | none => s)

/-- PEER_FAILURE_TIMEOUT. -/
def execPeerFailureTimeout (s : State) : Host.Outcome State Fault Refusal :=
  .next (
    let last := max (s.red.lastA.getD 0) (s.red.lastB.getD 0)
    if (s.red.lastA.isSome ∨ s.red.lastB.isSome) ∧ !s.red.peerFailed ∧ beating s then declareFailed (advance (last + pathLimit) s)
    else s)

/-! ### The unfit standby (R209) -/

/-- A standby that has declared its active failed is about to become active: what comes from the lost unit, or is said of the
mirror, changes nothing (R211). -/
def takingOver (s : State) : Bool := decide (pair s = 5) && s.red.takeover.isSome

/-- A reason met by this unit, in whichever code of the pair it stands: it reports, stops and resynchronises or parks. -/
def reportUnfit (reason : Nat) (s : State) : State :=
  if pair s = 5 ∨ pair s = 3 then selfUnfit reason s
  else if pair s = 4 ∨ pair s = 2 then ownUnfit reason (hedgeSend (.unfit reason) s)
  else s

/-- A reason of the pair's own traffic. -/
def unfitNow (reason : Nat) (s : State) : State := if takingOver s then s else reportUnfit reason s

/-- The UNFIT message crosses this unit's own for the same cause, which has already started the present transfer (R209). A reliable
message arrives within 10 ms (R198). -/
def crossed (reason : Nat) (s : State) : Bool :=
  s.red.unfitSent = some reason && s.red.xfer.any (fun x => decide (s.now < x.started + msec 10))

/-- UNFIT_RECEIVE. -/
def execUnfitReceive (reason : Nat) (s : State) : Host.Outcome State Fault Refusal :=
  .next (if takingOver s then s
    else if crossed reason s then { s with red.unfitSent := none }
    else if pair s = 4 ∨ pair s = 2 then markUnfit reason s
    else if pair s = 5 ∨ pair s = 3 then markUnfit reason (abortAll s)
    else s)

/-! ### Hedge (R195–R198) -/

/-- HEDGE_LANE_CHANGE: the loss of both lanes while the pair is REDUNDANT makes the standby unfit. -/
def execHedgeLaneChange (lane : Fin 2) (up : Bool) (s : State) : Host.Outcome State Fault Refusal :=
  .next (
    let f := if lane.val = 0 then RED_STATUS_LANE0 else RED_STATUS_LANE1
    let up := up && decide (power s < 2)
    let s1 := fput f (if up then 1 else 0) s
    if up ∨ !fbit s f then s1
    else
      let s2 := raise RED_EVENTS_LANE_DOWN s1
      if !hedgeUp s2 ∧ (pair s2 = 4 ∨ pair s2 = 5) then unfitNow 8 s2 else s2)

/-- A frame of R196 that is discarded. -/
def hedgeBad (raw : List Byte) : Bool :=
  raw.length < 28 ∨ beAt raw 0 1 ≠ 1 ∨ beAt raw 1 1 < 1 ∨ beAt raw 1 1 > 9 ∨ raw.length ≠ 28 + beAt raw 16 2
    ∨ beAt raw 16 2 > 2048 ∨ beAt raw (raw.length - 4) 4 ≠ crc32c (raw.take (raw.length - 4))

/-- Frames that came ahead of their turn follow (R198). -/
def takeHeld : Nat → State → State
  | 0, s => s
  | n + 1, s =>
    if s.red.held.any (fun x => x.1 = s.red.rxSeq + 1) then
      let next := s.red.rxSeq + 1
      takeHeld n { s with red.rxSeq := next, red.held := s.red.held.filter (fun x => x.1 ≠ next) }
    else s

/-- Orders a reliable frame by SEQ. -/
def orderFrame (seq : Nat) (raw : List Byte) (s : State) : State :=
  if seq ≤ s.red.rxSeq ∨ s.red.held.any (fun x => x.1 = seq) then s
  else if seq = s.red.rxSeq + 1 then takeHeld 64 { s with red.rxSeq := seq }
  else if s.red.held.length < 64 then { s with red.held := s.red.held ++ [(seq, raw)] }
  else s

/-- HEDGE_FRAME_RECEIVE: the frame is checked, its ACK and EPOCH are taken, and a reliable one is ordered. What its message
does is that message's own row. -/
def execHedgeFrameReceive (raw : List Byte) (at_ : Nat) (s : State) : Host.Outcome State Fault Refusal :=
  .next (
    let s1 := advance at_ s
    if hedgeBad raw then bump RED_HEDGE_ERR_DISCARDED 1 s1
    else
      let s2 := peerEpoch (beAt raw 12 4) s1
      let s3 : State := { s2 with red.unacked := s2.red.unacked.filter (fun x => x.seq > beAt raw 8 4) }
      if beAt raw 1 1 ≤ 2 then s3 else orderFrame (beAt raw 4 4) raw s3)

/-- HEDGE_REPEAT: 100 µs after the frame was last sent. -/
def execHedgeRepeat (seq : Nat) (s : State) : Host.Outcome State Fault Refusal :=
  .next (match s.red.unacked.find? (fun x => x.seq = seq) with
    | some x =>
      let s1 := advance (x.last + usec 100) s
      let y : HedgeTx := { x with last := s1.now }
      hedgeOut y { s1 with red.unacked := s1.red.unacked.map (fun z => if z.seq = seq then y else z) }
        |> bump RED_HEDGE_ERR_REPEATS 1
    | none => s)

/-- HEDGE_ACK_TIMEOUT: 10 ms after the first sending. The frame stays unacknowledged and is repeated on. -/
def execHedgeAckTimeout (seq : Nat) (s : State) : Host.Outcome State Fault Refusal :=
  .next (match s.red.unacked.find? (fun x => x.seq = seq) with
    | some x => unfitNow 8 (advance (x.first + msec 10) s)
    | none => s)

end Sys2Proof.Machine
end

