-- ==== Sys2Proof/Machine/Configure.lean ====
section
/-! DEFINITION. Items of configuration transactions (R350, R334, R362), the checks that every chapter places on configuration
(R351), and what a change of configuration does at its apply point. -/

namespace Sys2Proof.Machine

open Reg

/-! ### Items (R350) -/

/-- The items of a CFG_PUT buffer as TARGET and data; none when an item is cut short. -/
def parseItems : Nat → List Byte → Option (List (Nat × List Byte))
  | 0, _ => none
  | n + 1, b =>
    if b.isEmpty then some []
    else
      let len := leAt b 4 4
      let size := 8 + (len + 7) / 8 * 8
      if b.length < 8 ∨ b.length < size then none
      else (parseItems n (b.drop size)).map ((leAt b 0 4, (b.drop 8).take len) :: ·)

def itemsOf (b : List Byte) : Option (List (Nat × List Byte)) := parseItems (b.length / 8 + 1) b

/-- The items as CFG_PUT would carry them. -/
def itemBytes (xs : List (Nat × List Byte)) : List Byte :=
  xs.flatMap fun (t, b) => le 4 t ++ le 4 b.length ++ b ++ List.replicate ((8 - b.length % 8) % 8) 0

/-- The register of a target that configuration transactions set. -/
def cfgReg (t : Nat) : Option (RegDef × Nat) :=
  match locate t with
  | some (d, n, false) => if d.cfg then some (d, n) else none
  | _ => none

def knownTarget (t : Nat) : Bool :=
  if t < 0x10000 then (cfgReg t).isSome else t = 0x10000 ∨ (0x10100 ≤ t ∧ t < 0x10104) ∨ t = 0x10200

def structuralTarget (t : Nat) : Bool := (0x3000 ≤ t ∧ t < 0x5000) ∨ 0x10100 ≤ t

/-- Bits of a register that no field covers are 0. -/
def reservedClear (d : RegDef) (n v : Nat) : Bool :=
  v = ((d.fields n).map (fun f => bits v f.lsb f.width * 2 ^ f.lsb)).sum

/-- Port modes that R142 gives (NET_PORTp_CFG). -/
def portModes (p : Nat) : List Nat := if p < 2 then [0, 1, 2] else if p < 4 then [1] else [3]

/-- The fields of register `off`, number `n` of its array, are in their ranges; ranges that other registers decide are
checked at CFG_COMMIT. -/
def fieldsInRange (off n v : Nat) : Bool :=
  match off with
  | 0x2100 => bits v 16 5 ≤ 16 && bits v 8 8 ≤ 15 && bits v 0 3 ≤ 4 && (bits v 0 3 ≠ 4 || bits v 24 4 < n)
  | 0x2108 => bits v 0 16 ≥ 1
  | 0x2124 => !v.testBit 31 || (bits v 0 18 % 4 = 0 && 0x20000 ≤ bits v 0 18 && bits v 0 18 ≤ 0x3FFFC)
  | 0x2600 => bits v 0 17 % 32 = 0
  | 0x3008 => bits v 0 3 ≤ 5
  | 0x3044 => v ≥ 1
  | 0x3100 => (portModes n).contains (bits v 24 4)
  | 0x4008 => bits v 0 16 ≥ 1
  | 0x5040 => bits v 0 16 ≥ 1
  | 0x5100 =>
    let mode := bits v 29 3
    let gang := bits v 25 2
    mode ≤ 5 && ((mode ≠ 3 && mode ≠ 4) || n < 16) && (!v.testBit 27 || mode = 4) && gang ≠ 2 && (gang = 0 || mode = 2)
  | 0x5800 => 5 ≤ bits v 24 5 && bits v 24 5 ≤ 20 && bits v 0 16 ≥ 1
  | 0x5808 => 4000 ≤ bits v 0 16 && bits v 0 16 ≤ 20000
  | 0x7000 => bits v 0 2 ≠ 3
  | 0x7004 => bits v 16 16 ≥ 1
  | 0x7080 => bits v 0 16 ≥ 1
  | 0x8008 => bits v 0 11 ≤ 1440
  | 0x8100 => bits v 28 3 ≤ 5 && bits v 16 5 ≤ 17
  | _ => true

/-- START and LENGTH of the ranges of a publish set (R334). -/
def pubRanges (b : List Byte) : List (Nat × Nat) :=
  (List.range (leAt b 4 1)).map (fun k => (leAt b (8 + 8 * k) 4, leAt b (12 + 8 * k) 4))

/-- A publish set item keeps R334; the kind of its ring is checked at CFG_COMMIT. -/
def pubGood (b : List Byte) : Bool :=
  let n := leAt b 4 1
  1 ≤ n && n ≤ 16 && b.length = 8 + 8 * n && leAt b 0 1 < 128 && leAt b 1 1 < 32 && leAt b 2 2 ≥ 1 && leAt b 5 3 = 0
    && (pubRanges b).all (fun (a, l) => a ≤ 0xFFFFF && 1 ≤ l && a + l ≤ 0x100000)
    && ((pubRanges b).map (·.2)).sum ≤ 65536

/-- A multicast list item keeps R350. -/
def mcastGood (b : List Byte) : Bool := leAt b 0 1 ≤ 32 && leAt b 1 1 = 0 && b.length = 2 + 6 * leAt b 0 1

/-- The value of an item is well formed and in range. -/
def itemGood (t : Nat) (b : List Byte) : Bool :=
  if t < 0x10000 then
    match cfgReg t with
    | some (d, n) => b.length = (if d.wide then 8 else 4) && reservedClear d n (ofLe b) && fieldsInRange d.off n (ofLe b)
    | none => false
  else if t = 0x10000 then pubGood b
  else if t = 0x10200 then b.length = 8
  else mcastGood b

/-! ### The configuration with items in place -/

/-- Fields of configuration registers that a transaction does not set: a measurement, and a bit that is always 1. -/
def notSet (f : Field) : Bool := (f.off = 0x740C ∧ f.lsb = 0) ∨ (f.off = 0x7410 ∧ f.lsb = 0)

def setReg (d : RegDef) (n v : Nat) (s : State) : State :=
  (d.fields n).foldl (fun s f => if notSet f then s else fput f (bits v f.lsb f.width) s) s

def pubOf (b : List Byte) : PubSet := { task := leAt b 1 1, every := leAt b 2 2, ranges := pubRanges b }

def mcastOf (b : List Byte) : List (BitVec 48) :=
  (List.range (leAt b 0 1)).map (fun i => BitVec.ofNat 48 (ofBe ((b.drop (2 + 6 * i)).take 6)))

/-- One target takes a value. A publish set of one byte stands for none on that ring. -/
def setTarget (x : Nat × List Byte) (s : State) : State :=
  let (t, b) := x
  if t < 0x10000 then
    match cfgReg t with
    | some (d, n) => setReg d n (ofLe b) s
    | none => s
  else if t = 0x10000 then
    if b.length < 8 then { s with hif.pubs := del (leAt b 0 1) s.hif.pubs }
    else { s with hif.pubs := put (leAt b 0 1) (pubOf b) s.hif.pubs }
  else if t = 0x10200 then
    { s with cmd.ip := BitVec.ofNat 32 (ofBe (b.take 4)), cmd.mask := BitVec.ofNat 32 (ofBe ((b.drop 4).take 4)) }
  else { s with net.mcast := put (t - 0x10100) (mcastOf b) s.net.mcast }

def setTargets (xs : List (Nat × List Byte)) (s : State) : State := xs.foldl (fun s x => setTarget x s) s

def pubBytes (r : Nat) (p : PubSet) : List Byte :=
  le 1 r ++ le 1 p.task ++ le 2 p.every ++ le 1 p.ranges.length ++ le 3 0 ++ p.ranges.flatMap (fun (a, n) => le 4 a ++ le 4 n)

/-- What the target of an item holds (R353). -/
def heldBy (s : State) (x : Nat × List Byte) : List Byte :=
  let (t, b) := x
  if t < 0x10000 then
    match cfgReg t with
    | some (d, n) => le (if d.wide then 8 else 4) ((d.fields n).map (fun f => fget s f * 2 ^ f.lsb)).sum
    | none => []
  else if t = 0x10000 then (look s.hif.pubs (leAt b 0 1)).elim (b.take 1) (pubBytes (leAt b 0 1))
  else if t = 0x10200 then be 4 s.cmd.ip.toNat ++ be 4 s.cmd.mask.toNat
  else
    let l := lookD s.net.mcast (t - 0x10100) []
    le 1 l.length ++ le 1 0 ++ l.flatMap (fun a => be 6 a.toNat)

/-- Every target of configuration transactions with what it holds: registers and list items by TARGET, and a publish set of each
ring. -/
def configItems (s : State) : List (Nat × List Byte) :=
  let regs := (table.filter (·.cfg)).flatMap (fun d => (List.range d.count).map (fun n => d.off + d.stride * n))
  (regs ++ [0x10100, 0x10101, 0x10102, 0x10103, 0x10200]).map (fun t => (t, heldBy s (t, [])))
    ++ (List.range 128).map (fun r => (0x10000, heldBy s (0x10000, le 1 r)))

/-! ### Checks of a configuration (R351); `s` is in force and `n` would be -/

/-- A field differs. -/
def differs (s n : State) (f : Field) : Bool := fget s f ≠ fget n f

/-- State conditions: R153, R290, R308, R429. -/
def configState (s n : State) : Option (Nat × Nat) :=
  let frozen := (List.range 32).any (fun c =>
      [FIO_CH_CFG_MODE c, FIO_CH_CFG_TYPE c, FIO_CH_CFG_OWNER c, FIO_CH_CFG_GANG c, FIO_CH_CFG_OR_MODE c].any (differs s n))
    || [0, 1].any (fun x => differs s n (LPT_LT_CFG_EN x))
  firstOf [
    (ctl s = 3 && ((fbit s NET_CYCLE_CFG_RUN && !fbit n NET_CYCLE_CFG_RUN) || frozen), 0x01, 0x0010),
    ((power s = 1 || power s = 2) && !fbit s RED_CFG_PAIR_EN && fbit n RED_CFG_PAIR_EN, 0x01, 0x0738)]

/-- The ratio registers hold what an axis's source takes (R115, R117). -/
def ratioGood (n : State) (k : Nat) : Bool :=
  let den := fget n (TRL_AXIS_RATIO_DEN_DEN k)
  let num := fget n (TRL_AXIS_RATIO_NUM_NUM k)
  !axEnabled n k ||
    (match axSource n k with
      | 2 => den = 0
      | 3 => 4 ≤ den && den ≤ 2 ^ 24
      | 4 => den ≠ 0
      | _ => den = 0 && num = 0)

/-- An enabled unit has room in the I area, and a window that is not empty. -/
def captureGood (n : State) (c : Nat) : Bool :=
  !fbit n (TRL_CAP_CFG_ENABLE c) ||
    ((capSlots n c).1 + (capSlots n c).2 ≤ 0x20000
      && (!fbit n (TRL_CAP_CFG_WINDOW c) || fget n (TRL_CAP_WIN_START c) ≠ fget n (TRL_CAP_WIN_END c)))

/-- Gangs keep to their quad, their members are in mode MEMBER, and no other channel is (R275). -/
def gangsGood (n : State) : Bool :=
  (List.range 32).all fun c =>
    let g := fget n (FIO_CH_CFG_GANG c)
    !(g = 1 && c % 4 = 3) && !(g = 3 && c % 4 ≠ 0)
      && (gangOf n c).all (fun m => m = c || chMode n m = 5)
      && (chMode n c ≠ 5 || (List.range 32).any (fun l => l ≠ c && (gangOf n l).contains c))

/-- The channels of an enabled encoder are three different ones in mode FAST_IN (R278). -/
def encoderGood (n : State) (e : Nat) : Bool :=
  let a := fget n (FIO_ENC_CFG_A_CH e)
  let b := fget n (FIO_ENC_CFG_B_CH e)
  let z := fget n (FIO_ENC_CFG_Z_CH e)
  !fbit n (FIO_ENC_CFG_ENABLE e) ||
    (chMode n a = 3 && chMode n b = 3 && a ≠ b && (!fbit n (FIO_ENC_CFG_Z_EN e) || (chMode n z = 3 && z ≠ a && z ≠ b)))

/-- Ranges that several registers decide. -/
def configRanges (n : State) : Bool :=
  decide (fget n NET_CYCLE_PHASE_NS < tSync n) && (List.range 16).all (ratioGood n) && (List.range 16).all (captureGood n)
    && gangsGood n && (List.range 4).all (encoderGood n) && decide (fget n WDG_WINDOW_T_OPEN < fget n WDG_WINDOW_T_CLOSE)
    && n.hif.pubs.all (fun (r, _) => ringKind n r = 2)

/-- An enabled axis changes what R141 keeps, or the encoder of one changes (R278). -/
def axisBusy (s n : State) : Bool :=
  (List.range 16).any fun k => axEnabled s k &&
    ([TRL_AXIS_CFG_SOURCE k, TRL_AXIS_CFG_STREAM k, TRL_AXIS_CFG_ENC k, TRL_AXIS_CFG_MASTER k].any (differs s n)
      || (axSource s k = 3 &&
        (let e := fget s (TRL_AXIS_CFG_ENC k)
         [FIO_ENC_CFG_ENABLE e, FIO_ENC_CFG_Z_EN e, FIO_ENC_CFG_Z_CH e, FIO_ENC_CFG_B_CH e, FIO_ENC_CFG_A_CH e].any (differs s n))))

/-- Two axes name one encoder (R141). -/
def encoderTaken (n : State) : Bool :=
  let es := ((List.range 16).filter (fun k => axEnabled n k && axSource n k = 3)).map (fun k => fget n (TRL_AXIS_CFG_ENC k))
  es.length ≠ es.eraseDups.length

/-- A capture unit takes edges of a channel that is not in mode FAST_IN (R133). -/
def captureChannel (n : State) : Bool :=
  (List.range 16).any fun c =>
    fbit n (TRL_CAP_CFG_ENABLE c) && fget n (TRL_CAP_CFG_EDGE c) ≠ 0 && chMode n (fget n (TRL_CAP_CFG_CHANNEL c)) ≠ 3

/-- A trim word that no output set of a SYNC or CYCLIC task contains (R118). -/
def trimSource (n : State) : Bool :=
  (List.range 16).any fun k =>
    fbit n (TRL_AXIS_TRIM_SRC_EN k) && !(n.prog.cur.tasks.any fun (_, d) =>
      (d.kind = .sync || d.kind = .cyclic)
        && coverTo (outRuns d) (outRuns d).length (8 * fget n (TRL_AXIS_TRIM_SRC_ADDR k)) ≥ 8 * fget n (TRL_AXIS_TRIM_SRC_ADDR k) + 32)

/-- A set takes a task that no window suits (R415). -/
def rollCallWindow (s n : State) : Bool :=
  (List.range 4).any fun k =>
    (differs s n (WDG_RC_CFG_WIN k) || differs s n (WDG_RC_MASK_TASK k)) &&
      n.prog.cur.tasks.any (fun (t, d) => (fget n (WDG_RC_MASK_TASK k)).testBit t
        && (d.kind = .background || (d.kind = .cyclic && d.period > fget n (WDG_RC_CFG_WIN k))))

/-- With PAIR_EN = 1, outputs are fit to be wired together (R289). -/
def pairOutput (n : State) : Bool :=
  fbit n RED_CFG_PAIR_EN && (List.range 32).any (fun c =>
    (chMode n c = 4 && !fbit n (FIO_CH_CFG_OR_MODE c)) || (isOutput n c && fbit n (FIO_CH_CFG_SAFE c)))

/-- Every rule that a chapter places on configuration (R351): ranges, then the conflicts in the order of the chapters. -/
def configRules (s n : State) : Option (Nat × Nat) :=
  (firstOf [
    (!configRanges n, 0x02, 0x0111),
    (outputsShare n.prog.cur.tasks, 0x05, 0x0205),
    (trimSource n, 0x05, 0x020D),
    (captureChannel n, 0x05, 0x020B),
    (captureSource n n.prog.cur, 0x05, 0x0206),
    (axisBusy s n, 0x05, 0x020E),
    (encoderTaken n, 0x05, 0x020F),
    (fbit s NET_CYCLE_CFG_RUN && (differs s n NET_CYCLE_CFG_TSYNC || differs s n NET_CYCLE_PHASE_NS), 0x05, 0x0210)]).or <|
  (scheduleRefusal n).or <|
  (if differs s n NET_RX_CUTOFF_NS || differs s n NET_TX_OPEN_NS then
    (budgetRefusal n n.prog.cur false).or (if fbit n CTL_STATE_SAG2_RT then budgetRefusal n n.prog.cur true else none)
   else none).or <|
  (gatherRefusal n).or <|
  firstOf [
    (fbit n RED_CFG_PAIR_EN && fget n NET_CYCLE_CFG_TSYNC > 3, 0x05, 0x0212),
    (fget n FIO_LINK_CFG_IN_OFS * 10 + 4900 > tSync n, 0x05, 0x0211),
    (pairOutput n, 0x05, 0x0213),
    (rollCallWindow s n, 0x05, 0x073A)]

/-- The checks of a commit, states first (R346). -/
def configRefusal (s : State) (xs : List (Nat × List Byte)) : Option (Nat × Nat) :=
  let n := setTargets xs s
  (configState s n).or (configRules s n)

/-! ### What a change of configuration does -/

/-- A commit that changes the grid. -/
def regrid (s n : State) : State :=
  if differs s n NET_CYCLE_CFG_TSYNC || differs s n NET_CYCLE_PHASE_NS then newGrid n else n

/-- A port that is disabled is held down (R186); one whose PREEMPT_EN is cleared no longer preempts (R157). -/
def portChanged (p : Nat) (n : State) : State :=
  if linkUp n p && !fbit n (NET_PORT_CFG_ENABLE p) then portLink p false false n
  else if !fbit n (NET_PORT_CFG_PREEMPT_EN p) then fputBit NET_STATUS_PREEMPT p false n
  else n

/-- The service port follows its ENABLE (R186). -/
def svcChanged (n : State) : State :=
  if fbit n NET_STATUS_SVC_LINK && !fbit n (NET_PORT_CFG_ENABLE 4) then
    n |> fput NET_STATUS_SVC_LINK 0 |> raise NET_EVENTS_LINK_CHANGE
  else n

/-- RUN starts or stops the drive cycle (R153); in HOLD the cycle waits for the return to TRIM (R154). -/
def runChanged (s n : State) : State :=
  if !fbit s NET_CYCLE_CFG_RUN && fbit n NET_CYCLE_CFG_RUN && decide (power n ≤ 1) then
    { n with net.startFrom := some (n.now + usec 100) }
  else if fbit s NET_CYCLE_CFG_RUN && !fbit n NET_CYCLE_CFG_RUN then
    { n with net.stopFrom := some n.now, net.startFrom := none, net.resumeFrom := none }
  else n

/-- What a commit changes in the network: the grid, the ports, the drive cycle; without PLANT_EN no port is slave (R147). -/
def netChanged (s n : State) : State :=
  let n2 := runChanged s (svcChanged (forEach [0, 1, 2, 3] (regrid s n) portChanged))
  if fbit s NET_PTP_CFG_PLANT_EN && !fbit n NET_PTP_CFG_PLANT_EN then
    losePlant { n2 with net.ptp.rank := none, net.ptp.gm := none, net.ptp.lastSync := none, net.ptp.lastAnnounce := none }
      |> fput NET_STATUS_PLANT_PORT 0
  else n2

/-- The filter of a channel after a change of DEBOUNCE, or as the channel becomes an input: it restarts with the new value and
keeps the accepted level; bypassed, it passes the comparator's level (R271). -/
def filterChanged (s : State) (c : Nat) (n : State) : State :=
  if isInput n c ∧ (differs s n (FIO_CH_CFG_DEBOUNCE c) ∨ !isInput s c) then
    let n1 := setChan c (fun x => { x with filterAt := n.now }) n
    if fget n (FIO_CH_CFG_DEBOUNCE c) = 0 ∧ (chan n c).comp ≠ (chan n c).level then acceptLevel c n1 else n1
  else n

/-- A channel takes its new configuration: the filter, a change of mode, which ends what the old mode had found, and outputs
that follow R287 (R271, R290). A channel that becomes Trellis-owned carries its safe value until its first edge (log entry 101). -/
def channelChanged (s : State) (c : Nat) (n : State) : State :=
  let n1 := filterChanged s c n
  let n2 := if differs s n (FIO_CH_CFG_MODE c) then
      setChan c (fun x => { x with opened := false, active := 0, seen := false, term := none })
        (fput (FIO_CH_STAT_LATCHED c) 0 n1) else n1
  let n3 := if trellisOwned n2 c ∧ !trellisOwned s c then setAtSafe c true (edgeSafe c n2) else n2
  if isOutput n3 c then redrive c n3
  else if isOutput s c then n2 |> fputBit FIO_OUTPUT_LEVEL c false |> fput (FIO_CH_STAT_CMD c) 0
  else n2

/-- A record of the recorder follows its configuration: a new E clears the bins, a new Sieve fills its buckets (R460, R462). -/
def recorderChanged (s n : State) : State :=
  let n1 := forEach (List.range 256) n fun m n =>
    if differs s n (REC_METRIC_CFG_E m) then
      { n with recd.metrics := n.recd.metrics.map (fun (i, r) => if i = m then (i, { r with bins := [] }) else (i, r)) }
    else n
  forEach (List.range 512) n1 fun j n =>
    if [REC_SIEVE_BURST1 j, REC_SIEVE_RATE1 j, REC_SIEVE_BURST0 j, REC_SIEVE_RATE0 j].any (differs s n) then
      { n with recd.codes := n.recd.codes.map (fun (c, r) => if c / 2 = j then (c, { r with bucket := none }) else (c, r)) }
    else n

/-- WIN, MASK and EN of a roll-call set in the registers (R415). -/
def rollCallSet (s : State) (k : Nat) : Nat × Nat × Bool :=
  (fget s (WDG_RC_CFG_WIN k), fget s (WDG_RC_MASK_TASK k), fbit s (WDG_RC_CFG_EN k))

/-- WIN of a set in force in the present cycle. -/
def rollCallWin (s : State) (k : Nat) : Nat :=
  match (s.sup.rcChanged.filter (fun x => x.1 = k ∧ x.2.1 ≤ cycleNow s)).getLast? with
  | some x => x.2.2.1
  | none => (lookD s.sup.inForce k (1, 0, false)).1

/-- In RUN a changed roll-call set takes effect at the start of the set's next window (R415). -/
def rollCallChanged (s n : State) : State :=
  if ctl n ≠ 3 then n
  else forEach (List.range 4) n fun k n =>
    if rollCallSet s k = rollCallSet n k then n
    else
      let w := max 1 (rollCallWin n k)
      let from_ := (cycleNow n / w + 1) * w
      { n with sup.rcChanged :=
          n.sup.rcChanged.filter (fun x => ¬(x.1 = k ∧ x.2.1 > cycleNow n)) ++ [(k, from_, rollCallSet n k)] }

/-- The pair follows PAIR_EN (R191). -/
def pairChanged (s n : State) : State :=
  if !fbit s RED_CFG_PAIR_EN && fbit n RED_CFG_PAIR_EN then pairEnabled n
  else if fbit s RED_CFG_PAIR_EN && !fbit n RED_CFG_PAIR_EN then pairDisabled n
  else n

/-- The loop transmitters: HART that goes off leaves its request unanswered, and targets follow (R293, R303, R308). -/
def loopsChanged (s n : State) : State :=
  noteLoops s (forEach [0, 1] n fun x n => if hartOn s x && !hartOn n x then setLoop x dropRequest n else n)

/-- All targets take their values together; `s` is the state before. -/
def configure (xs : List (Nat × List Byte)) (s : State) : State :=
  let n := setTargets xs s
  let n1 := forEach (List.range 16) n (fun k n => axisConfigured s k n)
  let n2 := forEach (List.range 16) n1 (fun c n => captureConfigured s c n)
  let n3 := netChanged s n2
  let n4 := loopsChanged s (forEach (List.range 4) (forEach (List.range 32) n3 (fun c n => channelChanged s c n))
    (fun e n => encoderConfigured s e n))
  let n5 := rollCallChanged s (recorderChanged s n4)
  let n6 := if xs.any (fun x => x.1 = 0x740C) then writeRecord .pwrHoldup (le 2 (fget n5 PWR_HOLDUP_MIN_MV)) none n5 else n5
  pairChanged s n6

/-! ### Effect points (R352) -/

def fieldTarget (t : Nat) : Bool := 0x5000 ≤ t ∧ t < 0x5800
def timingTarget (t : Nat) : Bool := t = 0x3010 ∨ t = 0x3014 ∨ t = 0x3018 ∨ t = 0x301C

/-- The next sample instant of the field island at or after a time (R280). -/
def nextSample (s : State) (t : Nat) : Nat :=
  let ofs := fget s FIO_LINK_CFG_IN_OFS * 160
  let n := cycleAt s (t - ofs)
  if boundary s n + ofs ≥ t then boundary s n + ofs else boundary s (n + 1) + ofs

/-- The point from a time on at which all items take effect together: field configuration waits for the next sample instant (R290,
R352). -/
def effectPoint (s : State) (xs : List (Nat × List Byte)) (t : Nat) : Nat :=
  if xs.any (fun x => fieldTarget x.1) then nextSample s t else t

/-- The point of an immediate apply: now, or the boundary of cycle N + 2 in pair code 4 (R204) and for the timing of a running
cycle (R153); field items wait for the next sample instant (R290). -/
def immediatePoint (s : State) (xs : List (Nat × List Byte)) : Nat :=
  let far := boundary s (cycleNow s + 2)
  effectPoint s xs (if pair s = 4 ∨ (fbit s NET_CYCLE_CFG_RUN ∧ xs.any (fun x => timingTarget x.1)) then far else s.now)

end Sys2Proof.Machine
end

