-- ==== Sys2Proof/Machine/Transact.lean ====
section
/-! DEFINITION. Configuration transactions (R348–R354): the commands of class 0x03, apply points, confirm windows and
rollbacks, and their mirror in a pair. -/

namespace Sys2Proof.Machine

open Reg

def txn (s : State) (i : DWord) : Option Txn := s.cmd.txns.find? (fun x => x.ident = i)

def setTxn (i : DWord) (f : Txn → Txn) (s : State) : State :=
  { s with cmd.txns := s.cmd.txns.map (fun x => if x.ident = i then f x else x) }

def closeTxn (i : DWord) (s : State) : State := { s with cmd.txns := s.cmd.txns.filter (fun x => x.ident ≠ i) }

/-- The session that a command on the service port runs in; 0 on a ring. -/
def sessionOf (d : Desc) : Nat := if isSvc d then d.session else 0

/-- The command comes on the ring or session of the transaction's CFG_BEGIN (R349). -/
def boundTo (d : Desc) (x : Txn) : Bool := x.origin = d.origin && x.session = sessionOf d

/-- The transaction receives a command (R349). -/
def touchTxn (c : Card) (d : Desc) (s : State) : State :=
  if (gate c d s).isNone then setTxn d.ident (fun x => if boundTo d x then { x with lastAt := s.now } else x) s else s

/-- TXN_STATE, then TXN_ID (R346, R348, R349). A commit or a rollback that waits is not in a state that takes commands. -/
def txnState (states : List TxnState) (d : Desc) (s : State) : Option (Nat × Nat) :=
  match txn s d.ident with
  | some x => if states.contains x.state && x.rollback.isNone then none else some (0x01, 0x0016)
  | none => some (0x01, 0x0016)

def txnBound (d : Desc) (s : State) : Option (Nat × Nat) :=
  match txn s d.ident with
  | some x => if boundTo d x then none else some (0x05, 0x0216)
  | none => none

/-! ### CFG_BEGIN, CFG_PUT -/

def beginCard : Card := { op := 0x0301, opflags := 16, ident := true, active := true }

/-- A STRUCTURAL transaction or Graft is open (R104, R349). -/
def structuralOpen (s : State) : Bool := s.cmd.txns.any (·.structural) || (graftState s ≠ 0 && graftKind s = 2)

def beginChecks (d : Desc) (s : State) : Option (Nat × Nat) :=
  firstOf [((txn s d.ident).isSome, 0x05, 0x0216),
    (decide (s.cmd.txns.length ≥ 8) || (opflag d 4 && structuralOpen s), 0x08, 0)]

/-- CFG_BEGIN. -/
def execCfgBegin (d : Desc) (s : State) : Host.Outcome State Fault Refusal :=
  .next (command beginCard d (beginChecks d)
    (immediate 0x0301 d
      (fun s => { s with cmd.txns := s.cmd.txns ++
        [{ ident := d.ident, structural := opflag d 4, origin := d.origin, session := sessionOf d, lastAt := s.now }] })
      (fun _ => 0) (fun _ => [])) s)

def putCard : Card := { op := 0x0302, ident := true, buf := .reads, active := true }

/-- Refusals of one item (R350). -/
def itemRefusal (s : State) (x : Txn) (i : Nat × List Byte) : Option (Nat × Nat) :=
  firstOf [(!knownTarget i.1, 0x02, 0x0110), (!itemGood i.1 i.2, 0x02, 0x0111),
    (structuralTarget i.1 && !x.structural, 0x05, 0x0217),
    (s.cmd.txns.any (fun y => y.ident ≠ x.ident && y.items.any (fun j => j.1 = i.1)), 0x05, 0x0218)]

/-- Items held after a CFG_PUT: a later item with the same TARGET replaces the earlier one. -/
def mergeItems (old new : List (Nat × List Byte)) : List (Nat × List Byte) :=
  new.foldl (fun m i => m.filter (fun j => j.1 ≠ i.1) ++ [i]) old

def putChecks (d : Desc) (s : State) : Option (Nat × Nat) :=
  (txnState [.open_] d s).or <| (txnBound d s).or <|
  match txn s d.ident, itemsOf d.buf with
  | some x, some is =>
    (is.findSome? (itemRefusal s x)).or
      (let all_ := mergeItems x.items is
       firstOf [(decide (all_.length > 4096) || decide ((all_.map (·.2.length)).sum > 1048576), 0x03, 0x0405)])
  | _, _ => some (0x02, 0x0111)

/-- CFG_PUT. -/
def execCfgPut (d : Desc) (s : State) : Host.Outcome State Fault Refusal :=
  .next (command putCard d (putChecks d)
    (immediate 0x0302 d
      (fun s => setTxn d.ident (fun x => { x with items := mergeItems x.items ((itemsOf d.buf).getD []) }) s)
      (fun s => (txn s d.ident).elim 0 (·.items.length)) (fun _ => []))
    (touchTxn putCard d s))

/-! ### CFG_COMMIT and CFG_APPLY (R351, R352) -/

/-- The state guards apply to a STRUCTURAL transaction. -/
def cfgCommitCard (s : State) (d : Desc) : Card :=
  { op := 0x0303, ident := true, params := [(32, 8), (40, 2), (42, 2)], apply := [0, 1, 2], active := true
    guards := if (txn s d.ident).any (·.structural) then allGuards else [] }

def cfgCommitChecks (d : Desc) (s : State) : Option (Nat × Nat) :=
  let xs := (txn s d.ident).elim [] (·.items)
  let n := setTargets xs s
  (txnState [.open_] d s).or <| (configState s n).or <| (txnBound d s).or <| (applyRefusal d s).or <| configRules s n

/-- A journal entry about a transaction: of the command whose outcome it records, or of the module (R358, R361). -/
def txnEntry (s : State) (type : Nat) (x : Txn) : JEntry :=
  match x.job with
  | some jb => { jcommand s type 0 jb.d with origin := if jb.mirrored then 3 else originCode jb.d.origin }
  | none => { jentry s type with ident := x.ident, ring := originRing x.origin }

/-- The completion of the command whose outcome the last entry records. -/
def txnDone (x : Txn) (status reason result : Nat) (s : State) : State :=
  match x.job with
  | some jb => settle (finish jb status reason result [] s)
  | none => s

/-- The commit ends without an effect, and the transaction returns to OPEN (R351, R352). No outcome type records that, so
the command has a COMPLETED entry. A mirrored commit that cannot be applied makes the standby unfit (R204). -/
def commitRefused (x : Txn) (status reason : Nat) (s : State) : State :=
  match x.job with
  | some jb =>
    if jb.mirrored then unfitNow 5 (closeTxn x.ident s)
    else ended jb status reason 0 (setTxn x.ident (fun x => { x with state := .open_, job := none, lastAt := s.now }) s)
  | none => s

/-- A commit as the active mirrors it: with its items, whether it is STRUCTURAL (byte 44, bit 0) and the cycle of its acceptance (bytes
48–55) beside the command's own parameters (log entry 45). -/
def commitDesc (x : Txn) (d : Desc) : Desc :=
  { d with
    buf := itemBytes x.items
    params := BitVec.ofNat 256 (d.params.toNat % 2 ^ 96 + (if x.structural then 2 ^ 96 else 0) + x.accepted * 2 ^ 128) }

/-- All items take effect (R352); CFG_APPLIED, the completion, and the confirm window if there is one (R353). -/
def applyItems (x : Txn) (s : State) : State :=
  let undo := x.items.map (fun i => (i.1, heldBy s i))
  let n := cycleNow s
  let s1 := configure x.items s
  let s2 := jadd { txnEntry s1 0x0020 x with cycle := n, detailB := x.items.length } s1
  let s3 := if x.sel = 2 then
      x.job.elim s2 (fun jb => if jb.mirrored then s2 else mirrorCmd 0x0303 (commitDesc x jb.d) n s2)
    else s2
  let s4 := if x.confirmS = 0 then closeTxn x.ident s3
    else setTxn x.ident (fun x => { x with
      state := .confirming, job := none, undo, cycle := n, confirmUntil := some (s.now + secs x.confirmS) }) s3
  txnDone x 0 0 n s4

/-- The apply point of a commit: the checks are made again (R351). -/
def applyCommit (x : Txn) (s : State) : State :=
  match (if x.structural then guardRefusal s (some x.ident) allGuards else none).or (configRefusal s x.items) with
  | some (st, rs) => commitRefused x st rs s
  | none => applyItems x s

/-- The commit is accepted: COMMITTING, with its apply point; a point that is the present instant is met at once. -/
def startApply (d : Desc) (s : State) : State :=
  match txn s d.ident with
  | none => s
  | some x =>
    let c := if d.apply = 1 then paramN d 32 8 else cycleNow s + 2
    let due := if d.apply = 0 then immediatePoint s x.items
      else if d.apply = 1 then effectPoint s x.items (boundary s c) else boundary s c
    let effect := if d.apply = 2 then 0 else if d.apply = 1 then c else cycleAt s due
    let gap := if paramN d 40 2 = 0 then 100 else paramN d 40 2
    let (s1, job) := accept 0x0303 d effect s
    let y : Txn := { x with
      state := .committing, job := some job, sel := d.apply, accepted := cycleNow s, cycle := effect, due, gapMs := gap,
      gapUntil := boundary s c + msec gap, confirmS := paramN d 42 2 }
    let s2 := setTxn d.ident (fun _ => y) s1
    if d.apply = 2 then s2
    else if due = s.now then applyCommit y s2
    else mirrorCmd 0x0303 (commitDesc y d) effect s2

/-- CFG_COMMIT. -/
def execCfgCommit (d : Desc) (s : State) : Host.Outcome State Fault Refusal :=
  let c := cfgCommitCard s d
  .next (command c d (cfgCommitChecks d) (startApply d) (touchTxn c d s))

/-- A rollback ends: CFG_ROLLBACK, and the transaction closes (R353, R358). -/
def rollbackEnds (x : Txn) (auto : Bool) (status reason : Nat) (s : State) : State :=
  let e := { txnEntry s 0x0021 x with status, reason, detailA := if auto then 1 else 0 }
  txnDone x status reason 0 (closeTxn x.ident (jadd e s))

/-- A rollback is mirrored, and the standby makes it at the same point (R354): as it is issued, or for selector 2 as it
ends at its quiescence or, with `noGap`, without one. Its descriptor is that of the CFG_ABORT, or of no command; byte 32 says which and
whether the configuration stays, and bytes 48–55 give the cycle of acceptance (log entry 45). -/
def mirrorRollback (x : Txn) (auto noGap : Bool) (cycle : Nat) (s : State) : State :=
  let d : Desc := x.job.elim { origin := x.origin, index := 0, ident := x.ident } (·.d)
  let flags := (if auto then 1 else 0) + (if noGap then 2 else 0)
  mirrorCmd 0x0304 { d with params := BitVec.ofNat 256 (flags + x.accepted * 2 ^ 128) } cycle s

/-- The apply point of a rollback: the targets take back what they held, unless the checks of R351 fail. -/
def applyRollback (x : Txn) (auto : Bool) (s : State) : State :=
  let s1 := if x.sel = 2 then mirrorRollback x auto false (cycleNow s) s else s
  match configRefusal s1 x.undo with
  | some (st, rs) => rollbackEnds x auto st rs s1
  | none => rollbackEnds x auto 0 0 (configure x.undo s1)

/-- The apply point that a waiting transaction has now: a time, or quiescence within its limit. -/
def readyAt (s : State) (x : Txn) : Option Nat :=
  if !waits x then none
  else if x.sel ≠ 2 ∨ x.job.any (·.mirrored) then some x.due
  else
    let s1 := advance x.due s
    if s1.now ≤ x.gapUntil && quiescent s1 (usec 20) then
      some (effectPoint s1 (if x.rollback.isSome then x.undo else x.items) s1.now)
    else none

/-- The place of a waiting transaction among those of one boundary: the JSEQ of its acceptance (R324); a rollback of the module has
none. -/
def turnOfTxn (x : Txn) : Nat := x.job.elim 0 (·.j)

/-- The transaction whose apply point comes first. -/
def nextApply (s : State) : Option (Txn × Nat) :=
  s.cmd.txns.foldl (fun best x => match readyAt s x, best with
    | some t, some (y, u) => if t < u ∨ (t = u ∧ turnOfTxn x < turnOfTxn y) then some (x, t) else some (y, u)
    | some t, none => some (x, t)
    | none, b => b) none

/-- A deferred command accepted earlier takes effect at the same boundary first (R324). -/
def deferredBefore (s : State) (x : Txn) (t : Nat) : Bool :=
  s.cmd.deferred.any fun y => boundary s y.cycle = t && decide (y.job.j < turnOfTxn x)

/-- CFG_APPLY. -/
def execCfgApply (s : State) : Host.Outcome State Fault Refusal :=
  .next (match nextApply s with
    | some (x, t) =>
      if deferredBefore s x t then s
      else (match x.rollback with
        | some auto => applyRollback x auto (advance t s)
        | none => applyCommit x (advance t s))
    | none => s)

/-- The waiting transaction of selector 2 whose GAP_TIMEOUT ends first. -/
def nextGap (s : State) : Option Txn :=
  s.cmd.txns.foldl (fun best x =>
    if waits x && x.sel = 2 && !x.job.any (·.mirrored) then match best with
      | some y => if x.gapUntil < y.gapUntil then some x else some y
      | none => some x
    else best) none

/-- TXN_NO_GAP: no quiescence within GAP_TIMEOUT. -/
def execTxnNoGap (s : State) : Host.Outcome State Fault Refusal :=
  .next (match nextGap s with
    | some x =>
      let s1 := advance x.gapUntil s
      (match x.rollback with
        | some auto => rollbackEnds x auto 0x06 0x0503 (mirrorRollback x auto true (cycleNow s1) s1)
        | none => commitRefused x 0x06 0x0503 s1)
    | none => s)

/-! ### CFG_ABORT, CFG_CONFIRM, windows and time limits (R349, R353) -/

/-- A rollback waits for its apply point: immediate for selectors 0 and 1, the next quiescence for selector 2. An immediate point that
is the present instant is met at once. -/
def startRollback (x : Txn) (job : Option Job) (auto : Bool) (s : State) : State :=
  let due := if x.sel = 2 then s.now else immediatePoint s x.undo
  let y : Txn := { x with
    job, rollback := some auto, confirmUntil := none, due, accepted := cycleNow s, gapUntil := s.now + msec x.gapMs }
  let s1 := setTxn x.ident (fun _ => y) s
  if x.sel = 2 then s1
  else if due = s.now then applyRollback y auto s1
  else mirrorRollback y auto false (cycleAt s due) s1

/-- What a source mirrors of a transaction that waits at instant I for a later boundary (R210 step 4). Selector 2 is mirrored as it
takes effect. -/
def mirrorTxn (x : Txn) (s : State) : State :=
  if !waits x ∨ x.sel = 2 ∨ x.job.any (·.mirrored) then s
  else match x.rollback, x.job with
    | some auto, _ => mirrorRollback x auto false (cycleAt s x.due) s
    | none, some jb => mirrorCmd 0x0303 (commitDesc x jb.d) x.cycle s
    | none, none => s

def cfgAbortCard : Card := { op := 0x0304, ident := true, active := true }

/-- CFG_ABORT in OPEN closes the transaction, and CFG_ABORTED records the outcome; in CONFIRMING it rolls back. -/
def abortTxn (d : Desc) (s : State) : State :=
  match txn s d.ident with
  | none => s
  | some x =>
    let (s1, job) := accept 0x0304 d (if x.state = .open_ ∨ x.sel = 2 then 0 else cycleAt s (immediatePoint s x.undo)) s
    if x.state = .open_ then
      let y : Txn := { x with job := some job }
      txnDone y 0 0 0 (closeTxn x.ident (jadd (txnEntry s1 0x0022 y) s1))
    else startRollback x (some job) false s1

def execCfgAbort (d : Desc) (s : State) : Host.Outcome State Fault Refusal :=
  .next (command cfgAbortCard d (fun s => (txnState [.open_, .confirming] d s).or (txnBound d s)) (abortTxn d)
    (touchTxn cfgAbortCard d s))

def cfgConfirmCard : Card := { op := 0x0305, ident := true, active := true }

/-- CFG_CONFIRM. -/
def execCfgConfirm (d : Desc) (s : State) : Host.Outcome State Fault Refusal :=
  .next (command cfgConfirmCard d (fun s => (txnState [.confirming] d s).or (txnBound d s))
    (immediate 0x0305 d (fun s => mirrorCmd 0x0305 d (cycleNow s) (closeTxn d.ident s)) (fun _ => 0) (fun _ => [])) s)

/-- CFG_CONFIRM_WINDOW_END: the module rolls back. In a standby the window is the active's to end (R354). -/
def execCfgConfirmWindowEnd (ident : DWord) (s : State) : Host.Outcome State Fault Refusal :=
  .next (match txn s ident with
    | some x =>
      (match x.confirmUntil with
        | some t =>
          if x.state = .confirming ∧ !standby s then
            startRollback x none true (advance t s)
          else s
        | none => s)
    | none => s)

/-- An OPEN transaction is aborted by the module (R349, R354). -/
def dropTxn (x : Txn) (reason : Nat) (s : State) : State :=
  jadd { txnEntry s 0x0022 { x with job := none } with status := 0x0A, reason } (closeTxn x.ident s)

/-- TXN_IDLE: 600 s without a command. -/
def execTxnIdle (ident : DWord) (s : State) : Host.Outcome State Fault Refusal :=
  .next (match txn s ident with
    | some x => if x.state = .open_ then dropTxn x 0x0504 (advance (x.lastAt + secs 600) s) else s
    | none => s)

/-- A service session has ended: its OPEN transactions are aborted (R354). -/
def sessionTxns (num : Nat) (s : State) : State :=
  forEach (s.cmd.txns.filter (fun x => x.origin = .svc && x.session = num && x.state = .open_)) s (fun x s => dropTxn x 0x0505 s)

/-! ### CFG_READ -/

/-- 32 bytes of a transaction: IDENT, state from 1 on, origin ring or 0xFF with the session, item count and apply cycle; the
layout is the model's (log entry 45). -/
def txnBytes (x : Txn) : List Byte :=
  let st := match x.state with
    | .open_ => 1
    | .committing => 2
    | .confirming => 3
  le 8 x.ident.toNat ++ le 1 st ++ le 1 (originRing x.origin) ++ le 2 0 ++ le 4 x.items.length ++ le 8 x.cycle
    ++ le 4 x.session ++ le 4 0

def cfgReadCard : Card := { op := 0x0306, buf := .writes, svc := .open_ }

def txnsRead (d : Desc) (s : State) : List Txn := s.cmd.txns.take (d.bufLen / 32)

/-- CFG_READ. -/
def execCfgRead (d : Desc) (s : State) : Host.Outcome State Fault Refusal :=
  .next (command cfgReadCard d (fun _ => none)
    (immediate 0x0306 d id (fun s => (txnsRead d s).length) (fun s => (txnsRead d s).flatMap txnBytes)) s)

/-! ### In the standby (R354) -/

/-- The standby journals a mirrored command with ORIGIN 3 and the active's cycle of acceptance, two before the cycle of its
effect (R361). -/
def acceptMirrored (op : Nat) (d : Desc) (cycle effect : Nat) (s : State) : State × Job :=
  (jadd { jcommand s 0x0001 op d with origin := 3, cycle, detailA := effect } s,
    { op, d, j := nextJseq s, mirrored := true })

/-- A mirrored commit: the transaction as the active holds it in COMMITTING. -/
def mirroredCommit (d : Desc) (cycle : Nat) (s : State) : State :=
  let items := (itemsOf d.buf).getD []
  let (s1, job) := acceptMirrored 0x0303 d (paramN d 48 8) (if d.apply = 2 then 0 else cycle) s
  let x : Txn :=
    { ident := d.ident, structural := (param d 44).testBit 0, origin := d.origin, session := sessionOf d, state := .committing, items
      lastAt := s.now, job := some job, sel := d.apply, accepted := paramN d 48 8, cycle
      due := if d.apply = 2 then s.now else effectPoint s items (boundary s cycle)
      gapMs := if paramN d 40 2 = 0 then 100 else paramN d 40 2, confirmS := paramN d 42 2 }
  { closeTxn d.ident s1 with cmd.txns := (closeTxn d.ident s1).cmd.txns ++ [x] }

/-- A mirrored rollback, of a CFG_ABORT or of the end of a window; one that found no quiescence leaves the configuration as
committed. -/
def mirroredRollback (d : Desc) (cycle : Nat) (s : State) : State :=
  match txn s d.ident with
  | none => s
  | some x =>
    let auto := d.params.getLsbD 0
    let (s1, job) := if auto then (s, { op := 0x0304, d, mirrored := true })
      else acceptMirrored 0x0304 d (paramN d 48 8) (if x.sel = 2 then 0 else cycle) s
    if d.params.getLsbD 1 then rollbackEnds { x with job := some job } auto 0x06 0x0503 s1
    else
      setTxn d.ident (fun x => { x with
        job := some job, rollback := some auto, confirmUntil := none
        due := if x.sel = 2 then s.now else effectPoint s x.undo (boundary s cycle) }) s1

end Sys2Proof.Machine
end

