-- ==== Sys2Proof/Machine/Security.lean ====
section
/-! DEFINITION. The security island (chapter 15): roots and derived keys (R394, R395), blobs and slots (R396–R399),
challenge-response and tokens (R400–R402), attestation (R403), life cycle (R389–R391, R409), the debug level (R404, R407) and
the random bit generator (R393). -/

namespace Sys2Proof.Machine

open Reg

/-! ### Keys (R394, R395) -/

/-- The KDF in counter mode with HMAC-SHA-384, L in bits. -/
def kdf (kin : List Byte) (label : String) (context : List Byte) (l : Nat) : List Byte :=
  ((List.range ((l + 383) / 384)).flatMap
    (fun i => Config.hmac384 kin (be 4 (i + 1) ++ ascii label ++ [0] ++ context ++ be 4 l))).take (l / 8)

def unitIdLe : List Byte := le 8 Config.unitId.toNat

def stateName : Nat → String
  | 0 => "BLANK"
  | 1 => "PROVISIONED"
  | 2 => "OWNED"
  | _ => "RETURNED"

/-- The root of a life-cycle state, or the debug root. -/
def rootOf (life : Nat) (debug : Bool) : List Byte :=
  kdf Config.seed (if debug then "VX4860 ROOT DEBUG" else "VX4860 ROOT " ++ stateName life) (Config.salt ++ unitIdLe) 256

def debugRoot (s : State) : Bool := fbit s SEC_STATUS_ROOT_DEBUG

/-- A key that derives from a root. -/
def derivedKey (root : List Byte) (label : String) (l : Nat) : List Byte := kdf root label unitIdLe l

/-- A key of the root in use; SCRAPPED has no root and no derived key (R395). -/
def islandKey (s : State) (label : String) (l : Nat) : List Byte :=
  if s.sec.life = 4 then [] else derivedKey (rootOf s.sec.life (debugRoot s)) label l

/-- The order of brainpoolP384r1 (RFC 5639; log entry 48). -/
def curveOrder : Nat :=
  0x8CB91E82A3386D280F5D6F7E50E641DF152F7109ED5456B31F166E6CAC0425A7CF3AB6AF6B7FC3103B883202E9046565

/-- The attestation private key of a root, as 48 bytes. -/
def attestKey (root : List Byte) : List Byte := be 48 (ofBe (derivedKey root "ATTEST" 384) % (curveOrder - 1) + 1)

/-! ### OWNER_LOCK (R391) -/

/-- The record SEC_LOCK: the lock and its HMAC under the SEAL key; the layout is the model's (log entry 49). -/
def lockRecord (lock : Bool) (s : State) : List Byte :=
  let b : List Byte := [if lock then 1 else 0]
  b ++ Config.hmac384 (islandKey s "SEAL" 384) b

/-- OWNER_LOCK as the record shows it: 1 in OWNED when no copy is valid; SCRAPPED has no key to check the record with. -/
def lockOf (s : State) : Bool :=
  match recordData s .secLock with
  | some d => if s.sec.life ≠ 4 ∧ d.drop 1 = Config.hmac384 (islandKey s "SEAL" 384) (d.take 1) then d.take 1 ≠ [0] else s.sec.life = 2
  | none => s.sec.life = 2

/-! ### Grants, sessions, slots -/

/-- The ring holds owner challenge-response (R401). -/
def granted (s : State) (d : Desc) : Bool := match d.origin with
  | .ring r => (look s.sec.grants r.val).elim false (fun t => decide (s.now < t))
  | .svc => false

/-- The service-port session ends, with its unlocks and its OPEN transactions (R354, R363, R441). -/
def endSession (s : State) : State :=
  match s.cmd.session with
  | none => s
  | some x => sessionTxns x.num { s with
      cmd.session := none
      nv.unlocks := s.nv.unlocks.filter (fun u => u.1 ≠ .svc) }

/-- Every slot is emptied (R399). -/
def emptySlots (s : State) : State := { s with sec.slots := [] }

/-- The lowest slot of a USAGE that an origin may use (R399). -/
def slotFor (s : State) (usage : Nat) (o : Origin) : Option KeySlot :=
  (s.sec.slots.find? (fun (_, k) => k.usage = usage ∧ k.partners.testBit (match o with
    | .ring _ => 0
    | .svc => 1))).map (·.2)

/-! ### Challenges (R400, R401) -/

/-- The live challenge of an origin. -/
def challengeOf (s : State) (o : Origin) : Option (List Byte) :=
  (s.sec.challenges.find? (fun x => x.1 = o ∧ s.now < x.2.2 + secs 60)).map (·.2.1)

def voidChallenge (o : Origin) (s : State) : State :=
  { s with sec.challenges := s.sec.challenges.filter (fun x => x.1 ≠ o) }

/-- SHA-384 over the header of the running bundle. -/
def firmwareDigest (s : State) : List Byte := Config.sha384 (fit 768 s.boot.header)

/-- What a response authenticates (R400). -/
def responseInput (s : State) (challenge : List Byte) : List Byte :=
  challenge ++ unitIdLe ++ le 1 s.sec.life ++ firmwareDigest s

/-- A lockout of 60 s runs (R401). -/
def crLocked (s : State) : Bool := s.sec.lockUntil.any (fun t => decide (s.now < t))

/-- A response or a token failed: the count, and a lockout at the fifth in a row (R401). -/
def authFailure (s : State) : State :=
  let n := min 5 (fget s SEC_CR_CONSEC + 1)
  let s1 := s |> fput SEC_CR_CONSEC n |> bump SEC_CR_FAILS 1 |> raise SEC_EVENTS_CR_FAIL
  if n = 5 ∧ !crLocked s1 then
    raise SEC_EVENTS_CR_LOCKOUT { s1 with sec.lockUntil := some (s1.now + secs 60) }
  else s1

/-- A success resets the count and consumes the challenge. -/
def authSuccess (o : Origin) (s : State) : State := voidChallenge o (fput SEC_CR_CONSEC 0 s)

/-- The random bit generator passes its health tests (R393). -/
def rbgOk (s : State) : Bool := fbit s SEC_STATUS_RBG_OK

def challengeCard : Card := { op := 0x0A01, buf := .writes, svc := .open_ }

/-- A buffer below 32 bytes cannot take the challenge (log entry 47). -/
def challengeChecks (d : Desc) (s : State) : Option (Nat × Nat) :=
  firstOf [(crLocked s, 0x04, 0x0712), (!rbgOk s, 0x09, 0x071D), (decide (d.bufLen < 32), 0x02, 0x0111)]

/-- SEC_CHALLENGE. -/
def execSecChallenge (d : Desc) (s : State) : Host.Outcome State Fault Refusal :=
  .next (command challengeCard d (challengeChecks d)
    (fun s =>
      let (s1, n) := fresh s
      let c := le 32 (Config.freeBits 256 n).toNat
      immediate 0x0A01 d
        (fun s => { voidChallenge d.origin s with
          sec.challenges := (d.origin, c, s.now) :: (voidChallenge d.origin s).sec.challenges })
        (fun _ => 0) (fun _ => c) s1) s)

/-- CHALLENGE_EXPIRY. -/
def execChallengeExpiry (o : Origin) (s : State) : Host.Outcome State Fault Refusal :=
  .next (match s.sec.challenges.find? (fun x => x.1 = o) with
    | some (_, _, t) => voidChallenge o (advance (t + secs 60) s)
    | none => s)

def responseCard : Card := { op := 0x0A02, buf := .reads, svc := .open_ }

def responseChecks (d : Desc) (s : State) : Option (Nat × Nat) :=
  match challengeOf s d.origin, slotFor s 1 d.origin with
  | none, _ => some (0x04, 0x0710)
  | some _, none => some (0x04, 0x0713)
  | some c, some k => if d.buf = Config.hmac384 k.key (responseInput s c) then none else some (0x04, 0x0711)

/-- A response consumes the challenge, and a wrong one counts. -/
def responseNotes (d : Desc) (r : Nat × Nat) (s : State) : State :=
  if r = (0x04, 0x0711) then authFailure (voidChallenge d.origin s)
  else if r = (0x04, 0x0713) then voidChallenge d.origin s
  else s

/-- A session opens on the service port and ends the one before; its number goes into the key in network byte order (R363). -/
def openSession (secret challenge : List Byte) (s : State) : State :=
  let num := s.cmd.nextSession
  { endSession s with
    cmd.session := some
      { num, key := (Config.hmac384 secret (ascii "SVC" ++ challenge ++ be 4 num)).take 32, lastAt := s.now }
    cmd.nextSession := num + 1 }

/-- A correct response: a grant of 60 s for a ring, a session on the service port. -/
def responseRight (d : Desc) (s : State) : State :=
  let challenge := (challengeOf s d.origin).getD []
  let secret := (slotFor s 1 d.origin).elim [] (·.key)
  match d.origin with
  | .ring r => authSuccess d.origin { s with sec.grants := put r.val (s.now + secs 60) s.sec.grants }
  | .svc => authSuccess d.origin (openSession secret challenge s)

def responseResult (d : Desc) (s : State) : Nat :=
  match d.origin with
  | .ring r => lookD s.sec.grants r.val 0 / 16
  | .svc => s.cmd.session.elim 0 (·.num)

/-- SEC_RESPONSE. -/
def execSecResponse (d : Desc) (s : State) : Host.Outcome State Fault Refusal :=
  .next (judged responseCard d (responseChecks d) (responseNotes d)
    (immediate 0x0A02 d (responseRight d) (responseResult d) (fun _ => [])) s)

/-- GRANT_EXPIRY. -/
def execGrantExpiry (o : Origin) (s : State) : Host.Outcome State Fault Refusal :=
  .next (match o with
    | .ring r =>
      (match look s.sec.grants r.val with
        | some t => advance t { s with sec.grants := del r.val s.sec.grants }
        | none => s)
    | .svc => s)

/-- CR_LOCKOUT_END. -/
def execCrLockoutEnd (s : State) : Host.Outcome State Fault Refusal :=
  .next (match s.sec.lockUntil with
    | some t => advance t { s with sec.lockUntil := none }
    | none => s)

/-! ### Vendor debug tokens (R402) -/

/-- A vendor key is accepted: its hash is in an unrevoked fuse slot (R373). -/
def vendorSlot (s : State) (pub : List Byte) : Option Nat :=
  (List.range 4).find? (fun k => !s.sec.revoked.getLsbD k
    && !(Config.vendorKeyHash k).all (· = 0) && decide (Config.sha384 pub = Config.vendorKeyHash k))

/-- The token in a buffer authorises the requested level or operation. -/
def tokenGood (d : Desc) (what : Nat) (s : State) : Bool :=
  match challengeOf s d.origin with
  | none => false
  | some c => d.buf.length = 193 && (vendorSlot s (d.buf.take 97)).isSome
      && Config.ecdsaVerify (d.buf.take 97) (Config.sha384 (c ++ unitIdLe ++ le 1 what ++ ascii "YARVAN TOKEN")) (d.buf.drop 97)

/-- A token consumes the challenge; a bad one counts as a failure. A good token that authorised `what` is consumed too when a
check after AUTH refuses the command (R402). -/
def tokenNotes (d : Desc) (what : Option Nat) (r : Nat × Nat) (s : State) : State :=
  if r = (0x04, 0x0714) then authFailure (voidChallenge d.origin s)
  else if refusalRank r > 1 ∧ what.any (fun w => tokenGood d w s) then authSuccess d.origin s
  else s

/-! ### Blobs (R396–R399) -/

/-- Key bytes of a USAGE. -/
def keyLen (usage : Nat) : Nat := if usage = 3 then 32 else 48

/-- Bytes 0–23 of a blob are well formed. -/
def blobHead (b : List Byte) : Bool :=
  let usage := leAt b 5 1
  leAt b 0 4 = 0x424B5856 ∧ leAt b 4 1 = 1 ∧ 1 ≤ usage ∧ usage ≤ 3 ∧ leAt b 6 1 < 4 ∧ leAt b 7 1 < 16
    ∧ leAt b 9 1 = keyLen usage ∧ leAt b 10 2 = 0 ∧ leAt b 20 4 = 0

/-- The blob belongs to this unit and to a life-cycle state. -/
def blobBound (b : List Byte) (life : Nat) : Bool :=
  (b.drop 12).take 8 = unitIdLe ∧ leAt b 8 1 = life ∧ (leAt b 7 1).testBit life

/-- The key in a blob under a wrapping key. -/
def unwrap_ (wrapKey b : List Byte) : Option (List Byte) :=
  Config.gcmOpen wrapKey ((b.drop 24).take 12) (b.take 24) ((b.drop 36).take 64)

/-- A blob over a head, a key padded to 48 bytes and an IV. -/
def wrapBlob (wrapKey head padded iv : List Byte) : List Byte := head ++ iv ++ Config.gcmSeal wrapKey iv head padded

/-- The head of a blob with the unit and the wrapping state filled in. -/
def fillHead (b : List Byte) (life : Nat) : List Byte := b.take 8 ++ le 1 life ++ (b.drop 9).take 3 ++ unitIdLe ++ (b.drop 20).take 4

def keyLoadCard (wrap : Bool) : Card :=
  { op := 0x0A03, opflags := 16, params := [(32, 1)], buf := if wrap then .both else .reads, svc := .no }

/-- The checks of R397 in their order. -/
def keyLoadChecks (d : Desc) (s : State) : Option (Nat × Nat) :=
  let b := d.buf
  firstOf [(debugRoot s, 0x01, 0x071C), (decide (b.length ≠ 100) || !blobHead b, 0x02, 0x0111),
    (!blobBound b s.sec.life, 0x05, 0x0717), ((unwrap_ (islandKey s "WRAP" 256) b).isNone, 0x09, 0x0716),
    (decide (param d 32 > 31) || (look s.sec.slots (param d 32)).isSome, 0x05, 0x0718)]

/-- BLOB_REJECT for a refusal under R397. -/
def blobNotes (d : Desc) (s0 : State) (r : Nat × Nat) (s : State) : State :=
  if keyLoadChecks d s0 = some r then raise SEC_EVENTS_BLOB_REJECT s else s

/-- The slot takes the key. -/
def loadSlot (d : Desc) (s : State) : State :=
  let b := d.buf
  let usage := leAt b 5 1
  let key := ((unwrap_ (islandKey s "WRAP" 256) b).getD []).take (keyLen usage)
  { s with sec.slots := put (param d 32) { usage, partners := leAt b 6 1, states := leAt b 7 1, key } s.sec.slots }

/-- SEC_KEY_LOAD without WRAP. -/
def execSecKeyLoad (d : Desc) (s : State) : Host.Outcome State Fault Refusal :=
  .next (if opflag d 4 then s
    else judged (keyLoadCard false) d (keyLoadChecks d) (blobNotes d s)
      (immediate 0x0A03 d (loadSlot d) (fun _ => param d 32) (fun _ => [])) s)

/-- R398; the buffer holds 72 bytes and takes 100 (log entry 47). -/
def keyWrapChecks (d : Desc) (s : State) : Option (Nat × Nat) :=
  let b := d.buf
  let pad := (b.drop (24 + keyLen (leAt b 5 1))).take (48 - keyLen (leAt b 5 1))
  firstOf [(decide (s.sec.life = 2) && !granted s d, 0x04, 0x0715), (decide (s.sec.life ≥ 3), 0x01, 0x0005),
    (debugRoot s, 0x01, 0x071C), (!rbgOk s, 0x09, 0x071D),
    (decide (d.bufLen < 100) || !blobHead b || !pad.all (· = 0), 0x02, 0x0111)]

/-- A blob with a fresh IV; no slot is loaded. -/
def keyWrap (d : Desc) (s : State) : State :=
  let (s1, n) := fresh s
  let head := fillHead d.buf s1.sec.life
  let blob := wrapBlob (islandKey s1 "WRAP" 256) head ((d.buf.drop 24).take 48) (le 12 (Config.freeBits 96 n).toNat)
  immediate 0x0A03 d id (fun _ => 100) (fun _ => blob) s1

/-- SEC_KEY_LOAD with WRAP. -/
def execSecKeyWrap (d : Desc) (s : State) : Host.Outcome State Fault Refusal :=
  .next (if !opflag d 4 then s else command (keyLoadCard true) d (keyWrapChecks d) (keyWrap d) s)

def keyUnloadCard : Card := { op := 0x0A04, params := [(32, 1)], svc := .no }

/-- SEC_KEY_UNLOAD: one slot, or all with 0xFF. -/
def execSecKeyUnload (d : Desc) (s : State) : Host.Outcome State Fault Refusal :=
  .next (command keyUnloadCard d
    (fun _ => firstOf [(decide (param d 32 > 31 ∧ param d 32 ≠ 0xFF), 0x02, 0x0111)])
    (immediate 0x0A04 d
      (fun s => if param d 32 = 0xFF then emptySlots s else { s with sec.slots := del (param d 32) s.sec.slots })
      (fun _ => 0) (fun _ => [])) s)

/-! ### Attestation (R403) -/

def attestCard : Card := { op := 0x0A05, params := [(32, 32)], buf := .writes, svc := .open_ }

/-- In SCRAPPED there is no key to sign with (R395; log entry 50). -/
def attestChecks (d : Desc) (s : State) : Option (Nat × Nat) :=
  firstOf [(decide (s.sec.life = 4), 0x01, 0x0005), (!rbgOk s, 0x09, 0x071D), (decide (d.bufLen < 409), 0x02, 0x0111)]

/-- The task table and the configuration in force in the item layout of R350; a ring without a publish set has no item. -/
def configOctets (s : State) : List Byte :=
  Config.taskTable s.prog.cur ++ itemBytes ((configItems s).filter (fun x => x.1 ≠ 0x10000 ∨ x.2.length ≥ 8))

/-- The report of 216 bytes. -/
def attestReport (d : Desc) (s : State) : List Byte :=
  le 4 0x54545856 ++ le 1 1 ++ le 1 s.sec.life ++ le 1 (fget s DBG_STATUS_LEVEL)
    ++ le 1 ((if debugRoot s then 1 else 0) + (if s.sec.ownerLock then 2 else 0) + (if fbit s SYS_STAT_FORCED then 4 else 0))
    ++ unitIdLe ++ le 4 s.sec.minSvn ++ le 4 (fget s BOOT_SEC_VER_VERSION) ++ le 4 (fget s BOOT_BUNDLE_VER_VERSION)
    ++ le 4 (generation s) ++ le 8 (nsNow s) ++ le 32 (paramN d 32 32) ++ firmwareDigest s
    ++ Config.sha384 (Config.codeBytes s.mem.code s.img.rung) ++ Config.sha384 (configOctets s)

/-- Report, signature and public key. -/
def attestation (d : Desc) (s : State) : List Byte :=
  let k := attestKey (rootOf s.sec.life (debugRoot s))
  let r := attestReport d s
  r ++ Config.ecdsaSign k (Config.sha384 r) ++ Config.ecdsaPublic k

/-- SEC_ATTEST. -/
def execSecAttest (d : Desc) (s : State) : Host.Outcome State Fault Refusal :=
  .next (command attestCard d (attestChecks d) (immediate 0x0A05 d id (fun _ => 409) (attestation d)) s)

/-! ### The debug level (R404, R407) -/

/-- The debugger's holds and breakpoints end when the level falls below 2 (log entry 51). -/
def releaseDebug (s : State) : State :=
  { s with cores := s.cores.map (fun (c, k) => (c, { k with halted := false, stepping := false, breakpoints := [] })) }
    |> fput DBG_STATUS_C_HALTED 0 |> fput DBG_STATUS_S_HALTED 0 |> watchUpdate

/-- Gathered entries that are not written are lost: a record that finds no buffer, or no DMA in SAG2, or the end of level 1 and 2
(R341, R408, R435). -/
def dropTrace (s : State) : State :=
  raise DBG_EVENTS_TRACE_GAP { s with sec.traceLost := s.sec.traceLost + s.sec.trace.length, sec.trace := [] }

/-- The debug level changes; a fall to 0 clears the trace configuration. -/
def setLevelDbg (level : Nat) (s : State) : State :=
  let old := fget s DBG_STATUS_LEVEL
  let s1 := fput DBG_STATUS_LEVEL level s
  let s2 := if old = 2 ∧ level < 2 then releaseDebug s1 else s1
  let s3 := if level = 0 then
      (if s2.sec.trace.isEmpty then s2 else dropTrace s2)
        |> fput DBG_TRACE_CFG_EN 0 |> fput DBG_TRACE_CFG_KINDS 0 |> fput DBG_TRACE_CFG_CORES 0
    else s2
  if old = level then s3 else raise DBG_EVENTS_LEVEL_CHANGE s3

/-- The debug root switch: slots are emptied, and the switch lasts until the next cold or watchdog reset (R407). -/
def switchDebugRoot (s : State) : State :=
  emptySlots s |> fput SEC_STATUS_ROOT_DEBUG 1 |> raise SEC_EVENTS_ROOT_DEBUG

/-- A rise needs a vendor token in PROVISIONED and RETURNED, and owner challenge-response in OWNED (R387). -/
def debugAuth (d : Desc) (s : State) : Option (Nat × Nat) :=
  if param d 32 ≤ fget s DBG_STATUS_LEVEL ∨ param d 32 > 2 then none
  else match s.sec.life with
    | 1 => if tokenGood d (param d 32) s then none else some (0x04, 0x0714)
    | 3 => if tokenGood d (param d 32) s then none else some (0x04, 0x0714)
    | 2 => if granted s d then none else some (0x04, 0x0715)
    | _ => none

def debugCard : Card := { op := 0x0A07, ring0 := true, params := [(32, 1)], buf := .reads, svc := .no }

def debugChecks (d : Desc) (s : State) : Option (Nat × Nat) :=
  (debugAuth d s).or (firstOf [(decide (s.sec.life = 4 ∧ param d 32 ≠ 0), 0x01, 0x0005),
    (decide (param d 32 = 2 ∧ (pair s = 4 ∨ pair s = 5)), 0x01, 0x071B), (decide (param d 32 > 2), 0x02, 0x0111)])

/-- A token was the authorisation. -/
def tokenUsed (d : Desc) (s : State) : Bool := (s.sec.life = 1 ∨ s.sec.life = 3) ∧ param d 32 > fget s DBG_STATUS_LEVEL

def setDebug (d : Desc) (s : State) : State :=
  let s1 := if tokenUsed d s then authSuccess d.origin s else s
  let s2 := if param d 32 = 2 ∧ s1.sec.life = 2 ∧ !debugRoot s1 then switchDebugRoot s1 else s1
  setLevelDbg (param d 32) s2

/-- SEC_DEBUG. -/
def execSecDebug (d : Desc) (s : State) : Host.Outcome State Fault Refusal :=
  .next (judged debugCard d (debugChecks d)
    (tokenNotes d (if tokenUsed d s ∧ param d 32 ≤ 2 then some (param d 32) else none))
    (immediate 0x0A07 d (setDebug d) (fun s => fget s DBG_STATUS_LEVEL) (fun _ => [])) s)

/-! ### Life cycle (R388–R391, R409) -/

def lifeOp (d : Desc) : Nat := param d 32

/-- Operations 7 and 8 take a value, and in RETURNED a token; 1 and 2 use the buffer under R409. -/
def lifeCard (op : Nat) : Card :=
  { op := 0x0A06, ring0 := true, params := if op = 7 ∨ op = 8 then [(32, 1), (36, 4)] else [(32, 1)]
    buf := if op = 1 ∨ op = 2 then .both else if op = 7 ∨ op = 8 then .reads else .none, svc := .no }

/-- The states that an operation starts from. -/
def lifeFrom (op life : Nat) : Bool :=
  match op with
  | 1 => life = 0
  | 2 => life = 1
  | 3 => life = 2
  | 4 => life ≠ 4
  | 5 => life = 2
  | 6 => life = 2
  | _ => life ≠ 4

/-- Authorisation (R389). -/
def lifeAuth (d : Desc) (s : State) : Option (Nat × Nat) :=
  let op := lifeOp d
  if s.sec.life = 2 ∧ op ≥ 3 ∧ !granted s d then some (0x04, 0x0715)
  else if s.sec.life = 3 ∧ op ≥ 7 ∧ !tokenGood d op s then some (0x04, 0x0714)
  else none

/-- The state refusals of R389 and R390. -/
def lifeState (d : Desc) (s : State) : Option (Nat × Nat) :=
  firstOf [(holdupLow s, 0x01, 0x0002), (!lifeFrom (lifeOp d) s.sec.life, 0x01, 0x0005), (decide (ctl s = 3), 0x01, 0x0010)]

/-- Checks that every operation shares, then its own. -/
def lifeChecks (own : State → Option (Nat × Nat)) (d : Desc) (s : State) : Option (Nat × Nat) :=
  if lifeOp d < 1 ∨ lifeOp d > 8 then some (0x02, 0x0111)
  else (lifeAuth d s).or ((lifeState d s).or (own s))

/-- What a refused operation leaves: the challenge of a token is used up, and a write that HOLDUP_LOW refused shows (R402, R446). -/
def lifeNotes (d : Desc) (r : Nat × Nat) (s : State) : State :=
  noteHold r (tokenNotes d (if s.sec.life = 3 ∧ (lifeOp d = 7 ∨ lifeOp d = 8) then some (lifeOp d) else none) r s)

/-- An operation of SEC_LIFECYCLE. -/
def lifeCommand (d : Desc) (own : State → Option (Nat × Nat)) (effect : State → State) (s : State) : State :=
  judged (lifeCard (lifeOp d)) d (lifeChecks own d) (lifeNotes d) effect s

/-- An accepted operation that programs fuses; a fuse that fails to verify, which nothing decides here and is free, ends it
with FUSE (R388, R413). -/
def withFuses (d : Desc) (change : State → State) (result : Nat) (data : List Byte) (s : State) : State :=
  let (s0, n) := fresh s
  let (s1, jb) := accept 0x0A06 d 0 s0
  if Config.freeBits 1 n = 1 then settle (finish jb 0x09 0x071E 0 [] (raise SEC_EVENTS_FUSE_ERR s1))
  else done jb result data (change s1)

/-- Step 5 of R390, with the debug level of R404 and the root of R395. -/
def enterLife (life : Nat) (s : State) : State :=
  let s1 : State := { s with sec.life := life, sec.challenges := [], sec.grants := [] }
  let s2 := endSession (emptySlots s1) |> fput SEC_STATUS_ROOT_DEBUG 0 |> setLevelDbg 0 |> raise SEC_EVENTS_LC_CHANGE
  { s2 with sec.ownerLock := lockOf s2 }

/-- The TRANSPORT key of a slot that the command's ring may use. -/
def transportKey (s : State) (slot : Nat) : Option (List Byte) :=
  (look s.sec.slots slot).bind (fun k => if k.usage = 3 ∧ k.partners.testBit 0 then some k.key else none)

/-- The new FW key under a TRANSPORT key, and the new ATTEST public key. -/
def exportKeys (life : Nat) (transport iv : List Byte) : List Byte :=
  let root := rootOf life false
  iv ++ Config.gcmSeal transport iv (unitIdLe ++ le 1 life) (derivedKey root "FW" 256)
    ++ Config.ecdsaPublic (attestKey root) ++ le 3 0

/-- The 100-byte blobs that a buffer lists from a byte on. -/
def listedBlobs (b : List Byte) (at_ n : Nat) : List (List Byte) := (List.range n).map (fun i => (b.drop (at_ + 100 * i)).take 100)

/-- The refusal of one blob that is to be rewrapped for a state (R397, R409). -/
def rewrapRefusal (s : State) (life : Nat) (b : List Byte) : Option (Nat × Nat) :=
  firstOf [(decide (b.length ≠ 100) || !blobHead b, 0x02, 0x0111),
    (!blobBound b s.sec.life || !(leAt b 7 1).testBit life, 0x05, 0x0717),
    ((unwrap_ (islandKey s "WRAP" 256) b).isNone, 0x09, 0x0716)]

/-- A blob rewrapped for a state under a fresh IV. -/
def rewrap (s : State) (life : Nat) (iv : List Byte) (b : List Byte) : List Byte :=
  wrapBlob (derivedKey (rootOf life false) "WRAP" 256) (fillHead b life)
    ((unwrap_ (islandKey s "WRAP" 256) b).getD []) iv

def provisionChecks (d : Desc) (s : State) : Option (Nat × Nat) :=
  firstOf [(!rbgOk s, 0x09, 0x071D), (decide (d.bufLen < 160) || decide (leAt d.buf 1 3 ≠ 0), 0x02, 0x0111),
    ((transportKey s (leAt d.buf 0 1)).isNone, 0x05, 0x0718)]

/-- LC_PROVISION: op 1; an undefined op is refused here too. -/
def execLcProvision (d : Desc) (s : State) : Host.Outcome State Fault Refusal :=
  .next (if 2 ≤ lifeOp d ∧ lifeOp d ≤ 8 then s
    else lifeCommand d (provisionChecks d)
      (fun s =>
        let (s1, n) := fresh s
        let key := (transportKey s1 (leAt d.buf 0 1)).getD []
        withFuses d (enterLife 1) 160 (exportKeys 1 key (le 12 (Config.freeBits 96 n).toNat)) s1) s)

def ownerHash (d : Desc) : List Byte := d.buf.take 48
def blobCount (d : Desc) : Nat := leAt d.buf 52 4

def takeChecks (d : Desc) (s : State) : Option (Nat × Nat) :=
  let n := blobCount d
  let blobs := listedBlobs d.buf 56 n
  let fused := s.sec.ownerKey
  (firstOf [(!rbgOk s, 0x09, 0x071D),
    (decide (d.buf.length < 56) || decide (n > 31) || decide (d.bufLen < 160 + 100 * n) || decide (leAt d.buf 49 3 ≠ 0),
      0x02, 0x0111)]).or <|
  (blobs.findSome? (rewrapRefusal s 2)).or <|
  firstOf [((transportKey s (leAt d.buf 48 1)).isNone, 0x05, 0x0718),
    (!(ownerHash d).all (· = 0) && !fused.all (· = 0) && decide (fused ≠ ownerHash d), 0x09, 0x071E)]

/-- The owner key hash is fused if one is given; then the life cycle. -/
def takeOwnership (d : Desc) (s : State) : State :=
  enterLife 2 (if (ownerHash d).all (· = 0) then s else { s with sec.ownerKey := ownerHash d })

/-- LC_TAKE_OWNERSHIP. -/
def execLcTakeOwnership (d : Desc) (s : State) : Host.Outcome State Fault Refusal :=
  .next (if lifeOp d = 2 then
      lifeCommand d (takeChecks d)
        (fun s =>
          let k := blobCount d
          let n := s.free
          let s1 : State := { s with free := n + k + 1 }
          let iv := fun i => le 12 (Config.freeBits 96 (n + i)).toNat
          let key := (transportKey s1 (leAt d.buf 48 1)).getD []
          let out := (listedBlobs d.buf 56 k).zipIdx.flatMap (fun (b, i) => rewrap s1 2 (iv (i + 1)) b)
          withFuses d (takeOwnership d) (160 + 100 * k) (exportKeys 2 key (iv 0) ++ out) s1) s
    else s)

/-- LC_RETURN. -/
def execLcReturn (d : Desc) (s : State) : Host.Outcome State Fault Refusal :=
  .next (if lifeOp d = 3 then lifeCommand d (fun _ => none) (withFuses d (enterLife 3) 0 []) s else s)

/-- LC_SCRAP. -/
def execLcScrap (d : Desc) (s : State) : Host.Outcome State Fault Refusal :=
  .next (if lifeOp d = 4 then lifeCommand d (fun _ => none) (withFuses d (enterLife 4) 0 []) s else s)

/-- OWNER_LOCK takes a value, and the record follows. -/
def setLock (lock : Bool) (s : State) : State :=
  writeRecord .secLock (lockRecord lock s) none { s with sec.ownerLock := lock }

/-- LC_LOCK. -/
def execLcLock (d : Desc) (s : State) : Host.Outcome State Fault Refusal :=
  .next (if lifeOp d = 5 then
      lifeCommand d (fun _ => none) (immediate 0x0A06 d (setLock true) (fun _ => 0) (fun _ => [])) s
    else s)

/-- LC_UNLOCK. -/
def execLcUnlock (d : Desc) (s : State) : Host.Outcome State Fault Refusal :=
  .next (if lifeOp d = 6 then
      lifeCommand d (fun _ => none) (immediate 0x0A06 d (setLock false) (fun _ => 0) (fun _ => [])) s
    else s)

def lifeValue (d : Desc) : Nat := paramN d 36 4

/-- A token that authorised the operation is used up. -/
def useToken (d : Desc) (s : State) : State := if s.sec.life = 3 then authSuccess d.origin s else s

/-- LC_RAISE_SVN. -/
def execLcRaiseSvn (d : Desc) (s : State) : Host.Outcome State Fault Refusal :=
  .next (if lifeOp d = 7 then
      lifeCommand d
        (fun s => firstOf [(decide (lifeValue d ≤ s.sec.minSvn ∨ lifeValue d > 64 ∨ lifeValue d > fget s BOOT_SEC_VER_VERSION),
          0x05, 0x071A)])
        (fun s => withFuses d (fun s => { s with sec.minSvn := lifeValue d }) 0 [] (useToken d s)) s
    else s)

/-- LC_REVOKE_VKEY. -/
def execLcRevokeVkey (d : Desc) (s : State) : Host.Outcome State Fault Refusal :=
  .next (if lifeOp d = 8 then
      lifeCommand d
        (fun s => firstOf [(decide (lifeValue d > 3), 0x02, 0x0111), (decide (lifeValue d = s.boot.signer), 0x05, 0x0719)])
        (fun s => withFuses d (fun s => { s with sec.revoked := s.sec.revoked ||| BitVec.ofNat 4 (2 ^ lifeValue d) }) 0 []
          (useToken d s)) s
    else s)

/-! ### The random bit generator (R393) -/

/-- RBG_RESEED: every 1 ms while the health tests pass. -/
def execRbgReseed (s : State) : Host.Outcome State Fault Refusal :=
  .next (if rbgOk s then { s with sec.reseeds := s.sec.reseeds + 1 } else s)

/-- RBG_HEALTH_FAIL. -/
def execRbgHealthFail (s : State) : Host.Outcome State Fault Refusal :=
  .next (s |> fput SEC_STATUS_RBG_OK 0 |> raise SEC_EVENTS_RBG_FAIL)

end Sys2Proof.Machine
end

