-- ==== Sys2Proof/Machine/Recorder.lean ====
section
/-! DEFINITION. The event recorder's copies in the NV store (R464–R468), and the commands REC_READ, REC_CLEAR and
REC_CONSOLIDATE (R469–R471). -/

namespace Sys2Proof.Machine

open Reg

/-! ### Record bytes (R460, R461, R464) -/

/-- A metric record, 104 bytes. -/
def metricBytes (r : Metric) : List Byte :=
  le 8 r.count.toNat ++ le 8 (ofInt 64 r.sum) ++ le 4 (ofInt 32 r.min) ++ le 4 (ofInt 32 r.max) ++ le 8 r.minTime
    ++ le 8 r.maxTime ++ (List.range 16).flatMap (fun k => le 4 (lookD r.bins k 0))

/-- A code record, 24 bytes. -/
def codeBytes (r : CodeRec) : List Byte := le 4 r.count ++ le 4 r.suppressed ++ le 8 r.first ++ le 8 r.last

def metricOf (b : List Byte) : Metric :=
  { count := BitVec.ofNat 64 (leAt b 0 8), sum := toInt 64 (leAt b 8 8), min := toInt 32 (leAt b 16 4)
    max := toInt 32 (leAt b 20 4), minTime := leAt b 24 8, maxTime := leAt b 32 8
    bins := ((List.range 16).map (fun k => (k, leAt b (40 + 4 * k) 4))).filter (fun p => p.2 ≠ 0) }

/-- A code record as a copy holds it; its bucket is full, and its increase starts from this COUNT (R462, R467). -/
def codeOf (b : List Byte) : CodeRec :=
  { count := leAt b 0 4, suppressed := leAt b 4 4, first := leAt b 8 8, last := leAt b 16 8, atSnap := leAt b 0 4 }

/-- The bytes of a consolidation copy of the records as they are. -/
def consolImage (seq reason : Nat) (s : State) : List Byte :=
  let body := le 2 0x4352 ++ le 2 1 ++ le 4 seq ++ le 8 (nsNow s) ++ (timeValues s.rtc.time).flatMap (le 1) ++ le 1 reason
    ++ le 104 0 ++ (List.range 256).flatMap (fun m => metricBytes (lookD s.recd.metrics m {}))
    ++ (List.range 1024).flatMap (fun c => codeBytes (lookD s.recd.codes c {}))
  body ++ le 4 (crc32c body)

def consolBase (toB : Bool) : Nat := if toB then 0x1E000 else 0x10000

/-- A copy in the NV store: its SEQ and bytes when it is valid. -/
def consolCopy (s : State) (b : Bool) : Option (Nat × List Byte) :=
  let a := consolBase b
  if rdN s.nv.mem a 4 ≠ le 2 0x4352 ++ le 2 1 then none
  else
    let bytes := rdN s.nv.mem a 51332
    if leAt bytes 51328 4 = crc32c (bytes.take 51328) then some (leAt bytes 4 4, bytes) else none

/-- The copy in use (R450). -/
def consolInUse (s : State) : Option (Bool × Nat × List Byte) :=
  (selectTwin (consolCopy s false) (consolCopy s true)).1

/-! ### Consolidations (R465, R466) -/

/-- NV writes may go on and the stage is not SAG2. -/
def mayConsolidate (s : State) : Bool := sag s < 2 ∧ !holdupLow s

/-- The next page of the running consolidation is queued, when it may be written and none is on its way. -/
def nextConsolPage (s : State) : State :=
  match s.recd.running with
  | none => s
  | some c =>
    let isPage : PageWrite → Bool := fun w => match w.what with
      | .consol _ _ => true
      | _ => false
    let busy := s.nv.queue.any isPage || s.nv.writing.elim false (fun p => isPage p.1)
    if busy ∨ c.page ≥ 402 ∨ !mayConsolidate s then s
    else queuePage { fw := true, what := .consol (consolBase c.toB + 128 * c.page) ((c.image.drop (128 * c.page)).take 128) } s

/-- CONSOLIDATION_INTERVAL: INTERVAL_MIN minutes of device time after the previous one. -/
def execConsolidationInterval (s : State) : Host.Outcome State Fault Refusal :=
  .next (
    let m := fget s REC_CFG_INTERVAL_MIN
    if m = 0 ∨ boot s ≠ 4 ∨ power s = 3 then s
    else
      let s1 := advance (s.recd.lastAt + secs (60 * m)) s
      { s1 with recd.due := some (s1.recd.due.getD 0), recd.lastAt := s1.now })

/-- The snapshot, and the first page of the copy that is not in use. -/
def startConsolidation (reason : Nat) (s : State) : State :=
  let (toB, seq) := match consolInUse s with
    | none => (false, 1)
    | some (b, n, _) => (!b, (n + 1) % 2 ^ 32)
  nextConsolPage { s with
    recd.due := none
    recd.lastAt := s.now
    recd.running := some { toB, seq, time := nsNow s, image := consolImage seq reason s, codes := s.recd.codes } }

/-- CONSOLIDATION_START. -/
def execConsolidationStart (s : State) : Host.Outcome State Fault Refusal :=
  .next (match s.recd.due with
    | some reason => if s.recd.running.isNone ∧ mayConsolidate s ∧ boot s = 4 ∧ power s ≠ 3 then startConsolidation reason s else s
    | none => s)

/-- A page of a copy has been written. -/
def consolPageDone (s : State) : State :=
  nextConsolPage { s with recd.running := s.recd.running.map (fun c => { c with page := c.page + 1 }) }

/-- The records after a consolidation: each code's increase counts from the snapshot (R467). -/
def rebased (snap codes : SMap CodeRec) : SMap CodeRec :=
  codes.map (fun (c, r) => (c, { r with atSnap := (lookD snap c {}).count }))

/-! ### REC_CLEAR's effect (R470) -/

def originByte (d : Desc) : Nat := originRing d.origin

/-- Zeroes the records that a REC_CLEAR names; the record of REC_CLEARED stays. -/
def zeroRecords (kind first count : Nat) (s : State) : State :=
  let named : Nat → Bool := fun i => kind = 0 || decide (first ≤ i ∧ i < first + count)
  { s with
    recd.metrics := if kind = 2 then s.recd.metrics else s.recd.metrics.filter (fun p => !named p.1)
    recd.codes := if kind = 1 then s.recd.codes else s.recd.codes.filter (fun p => !named p.1 || decide (p.1 = 1)) }

/-- The clear of a REC_CLEAR: the records, REC_CLEARED, the registers, and the consolidation that follows. -/
def clearRecords (jb : Job) (s : State) : State :=
  let kind := param jb.d 32
  let first := paramN jb.d 34 2
  let count := paramN jb.d 36 2
  let s1 := zeroRecords kind first count s
    |> occur 13 1 (originByte jb.d + 256 * kind) (first + 2 ^ 16 * count)
    |> raise REC_EVENTS_CLEARED
    |> fput REC_CLEAR_LAST_ORIGIN (originByte jb.d) |> fput REC_CLEAR_LAST_KIND kind |> fput REC_CLEAR_LAST_VALID 1
    |> fput REC_CLEAR_RANGE_FIRST first |> fput REC_CLEAR_RANGE_COUNT count |> fput REC_CLEAR_TIME_TIME (nsNow s)
  { s1 with recd.due := some (s1.recd.due.getD 3), recd.waiters := s1.recd.waiters ++ [jb] }

/-- The end of a consolidation: its copy is in use, the commands that waited for it complete, and clears that waited run. -/
def endConsolidation (c : Consol) (s : State) : State :=
  let ws := s.recd.waiters
  let cs := s.recd.clearWait
  let s1 := { s with
      recd.running := none
      recd.waiters := []
      recd.clearWait := []
      recd.codes := rebased c.codes s.recd.codes }
    |> raise REC_EVENTS_CONS_DONE |> fput REC_CONS_SEQ_SEQ c.seq |> fput REC_CONS_TIME_TIME c.time |> interrupt 135
  let s2 := forEach ws s1 fun jb s => ended jb 0 0 (if jb.op = 0x0D03 then c.seq else 0) s
  forEach cs s2 clearRecords

/-- A consolidation ends when the 402 pages of its copy have been written. -/
def finishConsolidation (s : State) : State :=
  match s.recd.running with
  | none => s
  | some c => if c.page ≥ 402 then endConsolidation c s else s

/-! ### Emergency records (R467) -/

/-- The codes with the largest increase since the snapshot, lower code first on equal increases. -/
def topIncreases (s : State) : List (Nat × Nat) :=
  ((s.recd.codes.map (fun (c, r) => (c, r.count - r.atSnap))).filter (fun p => p.2 ≠ 0)).mergeSort
    (fun p q => p.2 > q.2 ∨ (p.2 = q.2 ∧ p.1 ≤ q.1)) |>.take 36

def emergencyBytes (s : State) : List Byte :=
  let top := topIncreases s
  let body := le 2 0x4552 ++ le 2 0 ++ le 4 s.recd.eseqNext ++ le 4 (fget s REC_CONS_SEQ_SEQ) ++ le 8 (nsNow s)
    ++ (timeValues s.rtc.time).flatMap (le 1) ++ le 1 (fget s CTL_HALT_CAUSE_CAUSE) ++ le 2 (fget s PWR_VIN_MIN_MV)
    ++ le 1 (pair s) ++ le 1 top.length ++ fit 216 (top.flatMap (fun (c, n) => le 2 c ++ le 4 n)) ++ le 4 0
  body ++ le 4 (crc32c body)

def emergencySlot (i : Nat) : Nat := 0x2C000 + 256 * (i % 64)

/-- The two pages of an emergency record are queued. -/
def writeEmergency (s : State) : State :=
  let b := emergencyBytes s
  let a := emergencySlot s.recd.eseqNext
  { s with recd.eseqNext := (s.recd.eseqNext + 1) % 2 ^ 32 }
    |> queuePage { fw := true, what := .emergency a (b.take 128) }
    |> queuePage { fw := true, what := .emergency (a + 128) (b.drop 128) }

/-- POWERFAIL abandons a consolidation after its page; the commands that waited for it end (R466). -/
def abandonConsolidation (s : State) : State :=
  match s.recd.running with
  | none => s
  | some _ =>
    let isPage : PageWrite → Bool := fun w => match w.what with
      | .consol _ _ => true
      | _ => false
    let s1 := forEach s.recd.waiters
      { s with
        recd.running := none, recd.waiters := []
        nv.queue := s.nv.queue.filter (fun w => !isPage w) }
      fun jb s => ended jb 0x0A 0x0739 0 s
    forEach s1.recd.clearWait { s1 with recd.clearWait := [] } clearRecords

/-- A valid emergency record of a slot: ESEQ and bytes. -/
def emergencyAt (s : State) (i : Nat) : Option (Nat × List Byte) :=
  let a := emergencySlot i
  if rdN s.nv.mem a 2 ≠ le 2 0x4552 then none
  else
    let b := rdN s.nv.mem a 256
    if leAt b 252 4 = crc32c (b.take 252) then some (leAt b 4 4, b) else none

/-- The record with the latest ESEQ of a list. -/
def latestEmergency (l : List (Nat × List Byte)) : Option (Nat × List Byte) :=
  l.foldl (fun best x => match best with
    | none => some x
    | some y => if laterSeq x.1 y.1 then some x else best) none

/-- The increases of an emergency record are added to COUNT. -/
def applyEmergency (b : List Byte) (s : State) : State :=
  forEach (List.range (leAt b 31 1)) s fun i s =>
    { s with recd.codes := upd (leAt b (32 + 6 * i) 2) {} (fun r =>
        { r with count := min 0xFFFFFFFF (r.count + leAt b (34 + 6 * i) 4) }) s.recd.codes }

/-! ### The start of the service firmware (R468) -/

/-- The records of a copy; without one, those of a recorder that starts from zero. -/
def loadCopy (s : State) : State :=
  let fresh_ : Rec := { lastAt := s.now }
  match consolInUse s with
  | none => occur 13 2 0 0 (raise REC_EVENTS_NV_FAIL { s with recd := fresh_ })
  | some (_, seq, b) =>
    { s with recd := { fresh_ with
        metrics := (List.range 256).map (fun m => (m, metricOf ((b.drop (128 + 104 * m)).take 104)))
        codes := (List.range 1024).map (fun c => (c, codeOf ((b.drop (26752 + 24 * c)).take 24))) } }
      |> fput REC_STATUS_LOADED 1 |> fput REC_CONS_SEQ_SEQ seq

/-- RECORDER_LOAD: the copy in use, and the latest emergency record that belongs to it. -/
def recorderLoad (s : State) : State :=
  let s1 := loadCopy (s |> fput REC_STATUS_LOADED 0 |> fput REC_STATUS_EMERG_APPLIED 0)
  let all := (List.range 64).filterMap (emergencyAt s1)
  let mine := if fbit s1 REC_STATUS_LOADED then all.filter (fun x => leAt x.2 8 4 = fget s1 REC_CONS_SEQ_SEQ) else []
  let s2 := match latestEmergency mine with
    | some (_, b) => fput REC_STATUS_EMERG_APPLIED 1 { applyEmergency b s1 with recd.applied := some b }
    | none => s1
  { s2 with recd.eseqNext := (latestEmergency all).elim 1 (fun x => (x.1 + 1) % 2 ^ 32) }

/-! ### REC_READ (R469) -/

def recReadCard : Card := { op := 0x0D01, params := [(32, 1), (34, 2), (36, 2)], buf := .writes, svc := .open_ }

/-- Size of a record and number of records in the table that a WHAT names. -/
def recTable (what first : Nat) : Nat × Nat × Nat :=
  match what with
  | 0 => (108, 256, first)
  | 1 => (24, 1024, first)
  | 2 => if first ≥ 32768 then (32, 256, first - 32768) else (32, 1024, first)
  | _ => (256, 0, 0)

def recReadChecks (d : Desc) : Option (Nat × Nat) :=
  let what := param d 32
  let (size, n, first) := recTable what (paramN d 34 2)
  firstOf [(decide (what > 3) || decide (what < 3 ∧ first + paramN d 36 2 > n) || decide (d.bufLen < size), 0x02, 0x0111)]

/-- A catalogue entry: metrics by number, codes from 0x8000 on in the numbering of `Config`. -/
def catalogueEntry (number key : Nat) : List Byte :=
  le 2 number ++ le 1 (Config.catalogueUnit key) ++ le 1 0 ++ fit 28 (Config.catalogueName key)

/-- Whole records that fit the buffer. -/
def recData (d : Desc) (s : State) : List Byte :=
  let what := param d 32
  let (size, _, first) := recTable what (paramN d 34 2)
  let ids := (List.range (min (paramN d 36 2) (d.bufLen / size))).map (first + ·)
  match what with
  | 0 => ids.flatMap (fun m => metricBytes (lookD s.recd.metrics m {}) ++ le 4 (regWord s (0x8100 + 4 * m)).toNat)
  | 1 => ids.flatMap (fun c => codeBytes (lookD s.recd.codes c {}))
  | 2 => ids.flatMap (fun i => if paramN d 34 2 ≥ 32768 then catalogueEntry i i else catalogueEntry i (0x8000 + i))
  | _ => s.recd.applied.getD []

/-- REC_READ. -/
def execRecRead (d : Desc) (s : State) : Host.Outcome State Fault Refusal :=
  .next (command recReadCard d (fun _ => recReadChecks d)
    (immediate 0x0D01 d id (fun s => (recData d s).length) (recData d)) s)

/-! ### REC_CLEAR (R470) -/

def recClearCard : Card := { op := 0x0D02, params := [(32, 1), (34, 2), (36, 2)], buf := .reads }

/-- The token that clears records. -/
def clearToken (d : Desc) (key challenge : List Byte) : List Byte :=
  Config.hmac384 key (challenge ++ unitIdLe ++ le 6 (paramN d 32 6) ++ ascii "REC CLEAR")

def recClearForm (d : Desc) : Bool :=
  let kind := param d 32
  let n := paramN d 34 2 + paramN d 36 2
  kind > 2 ∨ (kind = 0 ∧ (paramN d 34 2 ≠ 0 ∨ paramN d 36 2 ≠ 0)) ∨ (kind = 1 ∧ n > 256) ∨ (kind = 2 ∧ n > 1024)

def recClearAuth (d : Desc) (s : State) : Option (Nat × Nat) :=
  match challengeOf s d.origin, slotFor s 2 d.origin with
  | none, _ => some (0x04, 0x0710)
  | some _, none => some (0x04, 0x0770)
  | some c, some k => if d.buf = clearToken d k.key c then none else some (0x04, 0x0771)

def recClearChecks (d : Desc) (s : State) : Option (Nat × Nat) :=
  (recClearAuth d s).or (firstOf [(holdupLow s, 0x01, 0x0002), (recClearForm d, 0x02, 0x0111)])

/-- The command consumes the challenge, and a wrong token counts as a failure. -/
def recClearNotes (d : Desc) (r : Nat × Nat) (s : State) : State :=
  if r = (0x04, 0x0771) then authFailure (voidChallenge d.origin s)
  else if r = (0x04, 0x0770) then voidChallenge d.origin s
  else if r = (0x01, 0x0002) ∨ r = (0x02, 0x0111) then noteHold r (authSuccess d.origin s)
  else s

/-- An accepted clear waits for a running consolidation. -/
def recClearEffect (d : Desc) (s : State) : State :=
  let (s1, jb) := accept 0x0D02 d 0 (authSuccess d.origin s)
  if s1.recd.running.isSome then { s1 with recd.clearWait := s1.recd.clearWait ++ [jb] } else clearRecords jb s1

/-- REC_CLEAR. -/
def execRecClear (d : Desc) (s : State) : Host.Outcome State Fault Refusal :=
  .next (judged recClearCard d (recClearChecks d) (recClearNotes d) (recClearEffect d) s)

/-! ### REC_CONSOLIDATE (R471) -/

def recConsolidateCard : Card := { op := 0x0D03 }

/-- REC_CONSOLIDATE. -/
def execRecConsolidate (d : Desc) (s : State) : Host.Outcome State Fault Refusal :=
  .next (judged recConsolidateCard d
    (fun s => firstOf [(holdupLow s, 0x01, 0x0002), (s.recd.running.isSome, 0x08, 0)]) noteHold
    (fun s =>
      let (s1, jb) := accept 0x0D03 d 0 s
      { s1 with recd.due := some (s1.recd.due.getD 1), recd.waiters := s1.recd.waiters ++ [jb] }) s)

end Sys2Proof.Machine
end

