-- ==== Sys2Proof/Machine/Reset.lean ====
section
/-! DEFINITION. Cold and watchdog resets (R12, R425, R427): what they clear, what they keep, the START entry (R356, R358);
power-up, RESET_N, loss of VIN and of the reference clock. -/

namespace Sys2Proof.Machine

open Reg

/-- Kinds of SYS_RESET_CAUSE: 1 power-up, 2 RESET_N, 3 FW_RESET, 4 watchdog, 5 CLOCK. -/
def isWatchdog (kind : Nat) : Bool := kind = 4

/-- Register fields that a reset keeps, by bit address: the RTC block always, with the ordering code of SYS_ID (R2) and the side
that PAIR_SEL straps (R188), which the board and the part fix (log entry 71); the NV controller's lockouts, failure counts
and page writes unless power was lost; the capture of a watchdog reset (R12, R423, R443). -/
def keptField (kind k : Nat) : Bool :=
  let a := k / 8
  (0x7C00 ≤ a ∧ a < 0x8000) ∨ k = 0 ∨ k = 8 * 0x4000 + 3
    ∨ (kind ≠ 1 ∧ (k = 8 * 0x7800 + 12 ∨ a = 0x780C ∨ a = 0x7810))
    ∨ (isWatchdog kind ∧ 0x7020 ≤ a ∧ a < 0x7080)

/-- An entry rebuilt from its summary (R357): ORIGIN[7] is set, and what a summary does not carry is 0. -/
def rebuilt (j : Nat) (b : List Byte) : JEntry :=
  { jseq := j, time := 0, type := leAt b 0 1, opcode := leAt b 9 2, origin := leAt b 1 1 % 4 + 0x80, ring := leAt b 2 1
    index := leAt b 3 2, tag := BitVec.ofNat 32 (leAt b 5 4), status := leAt b 11 1, reason := leAt b 12 2, ident := 0
    cycle := 0, detailA := 0, detailB := 0 }

/-- The entries that `n` summaries from a slot on give, oldest first, when the first has JSEQ `j`. A summary whose JCHK
differs ends the list (R357). -/
def readTail (s : State) : Nat → Nat → Nat → List JEntry
  | 0, _, _ => []
  | n + 1, slot, j =>
    let b := summaryAt s slot
    if leAt b 14 1 ≠ j % 256 then []
    else rebuilt j b :: readTail s n (slot + 1) (jseqAfter j (summaryAt s (slot + 1)))

/-- The entries that bank 0 holds, oldest first (R357). -/
def tailHeld (s : State) : List JEntry :=
  let h := tailHead s
  readTail s h.count (h.next + 4096 - h.count) h.oldest

/-- The start count of the next start: the record's plus 1, else the highest in bank 0 plus 1, else 1 (R356). A start whose record a
reset has overtaken stands in bank 0 already, so that JSEQ increases strictly there too (DEDUCED, log entry 103). -/
def nextStart (kind : Nat) (s : State) : Nat :=
  let held := if kind = 1 then 0 else ((tailHeld s).map (·.jseq / 2 ^ 40)).foldl max 0
  (max ((recordData s .jrnlStart).elim 0 (leAt · 0 4)) held + 1) % 2 ^ 24

/-- The count of watchdog resets after a reset (R423). -/
def resetsAfter (kind : Nat) (s : State) : Nat :=
  if kind = 1 then 0
  else if isWatchdog kind ∧ fget s WDG_CFG_EVIDENCE ≠ 1 then min 65535 (s.sup.resets + 1)
  else s.sup.resets

/-- The clock after a module reset, which changes nothing of it but what the Reset column returns to 0: the freeze and the
staged time of the BAR0 port (R12 beside R451; DEDUCED, log entry 96). The commands that waited for a commit end with the reset. The clock of
`now` starts again, `shift` later. -/
def rtcKept (shift : Nat) (r : Rtc) : Rtc :=
  { r with
    prescaler := r.prescaler.map (· - shift)
    bar0 := {}
    fw := { r.fw with shadow := r.fw.shadow.map (fun (t, k) => (t, k - shift)), jobs := [] } }

/-- The state that a reset leaves before the next start is counted: the retained banks, the fuses, the NV store, the RTC and
what the lands show stay; the rest is as at reset. Data SRAM and the other memories read 0 from then on (log entry 52). -/
def wiped (kind : Nat) (s : State) : State :=
  { regs := s.regs.filter (fun p => keptField kind p.1)
    mem := { data := if kind = 1 then [] else s.mem.data.filter (fun c => 0x30000000 ≤ c.1 ∧ c.1 < 0x30100000) }
    fio := { ch := (s.fio.ch.map (fun (n, c) => (n, ({ comp := c.comp } : Channel)))).filter (fun p => p.2.comp) }
    lpt := (s.lpt.map (fun (x, l) => (x, ({ powered := l.powered } : Loop)))).filter (fun p => p.2.powered)
    sec := { life := s.sec.life, ownerKey := s.sec.ownerKey, revoked := s.sec.revoked, minSvn := s.sec.minSvn
             ownerLock := s.sec.ownerLock }
    sup := { resets := resetsAfter kind s }
    nv := { mem := s.nv.mem, twins := s.nv.twins, writing := s.nv.writing.map (fun p => ({ p.1 with job := none }, p.2 - s.now)) }
    rtc := rtcKept s.now s.rtc
    out := s.out
    free := s.free
    pending := s.pending }

/-- Open-drain outputs that the module was driving are let go. -/
def releasePins (s n : State) : State :=
  n |> (fun n => if s.img.forces.isEmpty then n else emit (.forceN false) n)
    |> (fun n => if s.sup.wakeN then emit (.wakeN false) n else n)

/-- The explicit safe command goes first while the logic side runs (R287, R425). -/
def safeFirst (kind : Nat) (s : State) : State :=
  if kind = 1 ∨ s.sup.clockLost ∨ power s ≥ 3 then s else islandDown s

/-- A cold or watchdog reset (R425): ROM_INIT follows, and the journal's first entry is START (R358). -/
def coldReset (kind : Nat) (s : State) : State :=
  let n := nextStart kind s
  let s1 := releasePins s (wiped kind (safeFirst kind s))
  { s1 with cmd.startCount := n, cmd.nextJ := 1 }
    |> fput SYS_RESET_CAUSE_KIND kind
    |> noteConflict .jrnlStart
    |> jnote 0x0040 (if isWatchdog kind then 1 else 0) 0
    |> writeRecord .jrnlStart (le 4 n) none

/-- POWER_UP: power good. -/
def execPowerUp (s : State) : Host.Outcome State Fault Refusal :=
  .next { coldReset 1 s with rtc.onVbat := false }

/-- RESET_N_ASSERT: low for at least 1 µs; without a clock or without VIN the module is in reset already. -/
def execResetNAssert (s : State) : Host.Outcome State Fault Refusal :=
  .next (if s.sup.clockLost ∨ s.rtc.onVbat then s else coldReset 2 s)

/-- A byte of a page write that lost its power: its old value, its new value, 0xFF, or the new value with some of its 1 bits
still cleared, which is free (R447). -/
def spoiltByte (k : Nat) (old new : Byte) : Byte :=
  match (Config.freeBits 2 k).toNat with
  | 0 => old
  | 1 => new
  | 2 => 0xFF
  | _ => new &&& Config.freeBits 8 k

/-- A page that was being written when power was lost: its bytes follow R447, and the CHECK of a twin record's copy says whether
it is valid still. -/
def spoilPage (w : PageData) (s : State) : State :=
  let spoil := fun a (data : List Byte) =>
    data.zipIdx.foldl (fun (s : State) (b, i) =>
      let x := a / 128 * 128 + (a + i) % 128
      { s with nv.mem := wr s.nv.mem x (spoiltByte (s.free + i) (rd s.nv.mem x) b) }) s
      |> fun s => { s with free := s.free + data.length }
  match w with
  | .bytes a data => spoil a data
  | .consol a data => spoil a data
  | .emergency a data => spoil a data
  | .record id toB seq data =>
    let new := copyBytes id seq data
    let old := if toB then (twinOf s id).b else (twinOf s id).a
    setTwin id toB
      (new.zipIdx.map (fun (b, i) => spoiltByte (s.free + i) (old.getD i (Config.nvByte i)) b) ++ old.drop new.length)
      { s with free := s.free + new.length }

/-- VIN_POWER_ON_RESET (R480): VIN is below 8.5 V and the RTC runs on VBAT; the logic starts at the next power good. -/
def execVinPowerOnReset (s : State) : Host.Outcome State Fault Refusal :=
  .next (
    let s1 := match s.nv.writing with
      | some (w, _) => spoilPage w.what { s with nv.writing := none }
      | none => s
    let s2 := releasePins s1 (wiped 1 s1)
    { s2 with rtc.onVbat := true } |> fput SYS_RESET_CAUSE_KIND 1)

/-- The reference clock is lost: the logic side is in reset, and the islands go on with what they hold (R427). -/
def clockReset (s : State) : State :=
  let held := forEach [0, 1] s fun x s => setLoop x (fun l => { l with word := (loopTarget s x).1, frame := none, trim := none }) s
  let n := releasePins s (wiped 5 held)
  { n with
    now := s.now
    regs := s.regs.filter (fun p => keptField 5 p.1 || decide (8 * 0x5000 ≤ p.1 ∧ p.1 < 8 * 0x6000))
    fio := { held.fio with outFrame := none, outNext := false, inFrame := none }
    lpt := held.lpt
    rtc := rtcKept 0 s.rtc
    nv.writing := s.nv.writing.map (fun p => ({ p.1 with job := none }, p.2))
    sup.clockLost := true }

/-- REFERENCE_CLOCK_LOSS. -/
def execReferenceClockLoss (s : State) : Host.Outcome State Fault Refusal :=
  .next (if s.sup.clockLost ∨ s.rtc.onVbat then s else clockReset s)

/-- REFERENCE_CLOCK_VALID: 1 ms of a valid reference, then a cold reset of cause CLOCK. -/
def execReferenceClockValid (s : State) : Host.Outcome State Fault Refusal :=
  .next (if s.sup.clockLost then coldReset 5 s else s)

end Sys2Proof.Machine
end

