-- ==== Sys2Proof/Machine/Boot.lean ====
section
/-! DEFINITION. The boot ROM (chapter 14): ROM_INIT (R366, R392), the staging window and BOOT_CTRL (R367, R368), the checks
of a Porori bundle (R369–R377), loading (R378–R381), failures (R382), FW_RESET and FW_READ (R384, R386). -/

namespace Sys2Proof.Machine

open Reg

/-! ### Boot states (R365) -/

/-- A change of the boot ROM's state. -/
def setBoot (st : Nat) (s : State) : State :=
  s |> fput BOOT_STATUS_STATE st |> raise BOOT_EVENTS_STATE_CHANGE |> interrupt 129

/-- FAILED (R382): the cause, the component that failed or 0, and the components that had started stop. The islands return to
their power-up states. -/
def failBoot (cause comp : Nat) (s : State) : State :=
  let s1 := forEach (List.range 4) s fun c s =>
    fput (BOOT_COMP_STAT_STATE c) (if c + 1 = comp then 3 else 0) s
  let s2 := if s1.fio.powerUp then s1 else islandDown s1
  let s3 := forEach [0, 1] s2 fun x s => if (loop s x).powerUp then s else loopDown x s
  s3 |> fput BOOT_STATUS_CAUSE cause |> fput BOOT_STATUS_COMPONENT comp |> setBoot 5

/-- What the ROM and the firmware do not do: run without a clock or without VIN. -/
def powered (s : State) : Bool := !s.sup.clockLost && !s.rtc.onVbat

/-! ### ROM_INIT (R366, R392, R437) -/

/-- The seed is reconstructed: at most 9,830 cells differ and the check value matches. -/
def seedGood (flips : Nat) (checkOk : Bool) : Bool := flips ≤ 9830 && checkOk

/-- The Seedbed is read, save in SCRAPPED; the random bit generator starts. -/
def readSeedbed (flips : Nat) (checkOk : Bool) (s : State) : State :=
  let s1 := if s.sec.life = 4 then fput SEC_STATUS_SEED_OK 0 s
    else s |> fput SEC_SEEDBED_FLIPS (min flips 65535) |> fput SEC_SEEDBED_VALID 1
          |> fput SEC_STATUS_SEED_OK (if seedGood flips checkOk then 1 else 0)
  let s2 := noteConflict .secLock (fput SEC_STATUS_RBG_OK 1 s1)
  { s2 with sec.ownerLock := lockOf s2 }

/-- HOLDUP_MIN from its record, or 2,000 mV. -/
def loadHoldup (s : State) : State :=
  fput PWR_HOLDUP_MIN_MV ((recordData s .pwrHoldup).elim 2000 (fun d => leAt d 0 2)) (noteConflict .pwrHoldup s)

/-- ROM_INIT_DONE: self-test, LPDDR5X training and the seed, after `ms` ms, at most 120 (R366). -/
def execRomInitDone (selfTest training : Bool) (flips : Nat) (checkOk : Bool) (ms : Nat) (s : State) :
    Host.Outcome State Fault Refusal :=
  .next (if boot s ≠ 0 ∨ !powered s then s
    else
      let ms := min ms 120
      let s1 := advance (s.boot.poweredAt + msec ms) s |> fput BOOT_TIME_INIT_MS (min ms 1023)
      let s2 := loadHoldup (readSeedbed flips checkOk s1)
      if selfTest ∧ training ∧ (s.sec.life = 4 ∨ seedGood flips checkOk) then setBoot 1 s2
      else failBoot 16 0 { s2 with boot.selfTestFailed := true })

/-! ### BOOT_CTRL and the staging window (R367, R368, R382) -/

def ctrlIgnored (s : State) : State := raise BOOT_EVENTS_CTRL_IGNORED s

/-- START is acted on. -/
def beginVerify (s : State) : State :=
  forEach (List.range 4) { s with boot.startAt := s.now, boot.stepAt := s.now, boot.started := 0, boot.waking := false }
    (fun c s => s |> fput (BOOT_COMP_STAT_STATE c) 0 |> fput (BOOT_COMP_STAT_START_MS c) 0)
    |> bump BOOT_STATUS_ATTEMPTS 1 |> fput BOOT_STATUS_CAUSE 0 |> fput BOOT_STATUS_COMPONENT 0 |> setBoot 2

/-- A write of BOOT_CTRL: RETRY acts when both bits are written. -/
def bootCtrl (w : Word) (s : State) : State :=
  if w.getLsbD 1 then
    let s1 := if w.getLsbD 0 then ctrlIgnored s else s
    if boot s = 5 ∧ !s.boot.selfTestFailed ∧ sag s ≠ 3 then setBoot 1 s1 else ctrlIgnored s1
  else if w.getLsbD 0 then (if boot s = 1 then beginVerify s else ctrlIgnored s)
  else s

/-- BOOT_START. -/
def execBootStart (w : Word) (s : State) : Host.Outcome State Fault Refusal := .next (bootCtrl w s)

/-- BOOT_RETRY. -/
def execBootRetry (w : Word) (s : State) : Host.Outcome State Fault Refusal := .next (bootCtrl w s)

/-- STAGING_WINDOW_WRITE: a host write to BAR4, of 64 MiB. -/
def execStagingWindowWrite (off : Nat) (data : List Byte) (s : State) : Host.Outcome State Fault Refusal :=
  .next (if boot s = 1 then { s with boot.staging := wrN s.boot.staging off (data.take (Config.barSize .bar4 - off)) }
    else raise BOOT_EVENTS_WINDOW_WRITE s)

/-! ### Bundles (R369–R373) -/

/-- Little-endian field of a bundle in the staging window. -/
def staged (s : State) (o n : Nat) : Nat := ofLe (rdN s.boot.staging o n)

def stagedZero (s : State) (o n : Nat) : Bool := (rdN s.boot.staging o n).all (· = 0)

def bundleLen (s : State) : Nat := staged s 8 4
def manifestOfs (s : State) : Nat := staged s 12 4
def sigOfs (s : State) : Nat := staged s 20 4
def sigCount (s : State) : Nat := staged s 24 2
def unitCount (s : State) : Nat := staged s 31 1

/-- Manifest entry `i`. -/
def entryOfs (s : State) (i : Nat) : Nat := manifestOfs s + 128 * i
def manifestEntry (s : State) (i : Nat) : List Byte := rdN s.boot.staging (entryOfs s i) 128

/-- Limit of LENGTH in the load order (R372). -/
def compMax (i : Nat) : Nat := [58720256, 8388608, 2097152, 131072].getD i 0

def compRange (s : State) (i : Nat) : Nat × Nat := (staged s (entryOfs s i + 8) 4, staged s (entryOfs s i + 12) 4)

/-- The ranges of the manifest, the components and the signature block (R369, R371–R373). -/
def rangesGood (s : State) : Bool :=
  let mo := manifestOfs s
  let comps := (List.range 4).map (compRange s)
  mo % 64 = 0 ∧ mo ≥ 768 ∧ mo + 512 ≤ sigOfs s ∧ sigOfs s + 200 * sigCount s = bundleLen s
    ∧ comps.zipIdx.all (fun (c, i) => c.1 % 4096 = 0 ∧ 1 ≤ c.2 ∧ c.2 ≤ compMax i ∧ mo + 512 ≤ c.1 ∧ c.1 + c.2 ≤ sigOfs s)
    ∧ comps.zipIdx.all (fun (c, i) => comps.zipIdx.all (fun (e, j) => i = j ∨ c.1 + c.2 ≤ e.1 ∨ e.1 + e.2 ≤ c.1))

/-- The reserved bytes 1–3 and 101–103 of a signature entry (R373) are 0 (R18). -/
def sigReserved (s : State) (i : Nat) : Bool := stagedZero s (sigOfs s + 200 * i + 1) 3 && stagedZero s (sigOfs s + 200 * i + 101) 3

/-- Check 2 of R374; a second signature entry must be an OWNER entry (R373). The rule of R18 on reserved fields is judged here
for the signature entries too (DEDUCED, log entry 63). -/
def headerGood (s : State) : Bool :=
  staged s 0 4 = 0x49524F50 && staged s 4 2 = 1 && staged s 6 2 = 768 && staged s 16 2 = 4
    && (sigCount s = 1 || sigCount s = 2) && stagedZero s 18 2 && stagedZero s 88 168 && decide (staged s 30 1 < 16)
    && decide (unitCount s ≤ 64) && stagedZero s (256 + 8 * unitCount s) (512 - 8 * unitCount s) && rangesGood s
    && (sigCount s = 1 || staged s (sigOfs s + 200) 1 = 2) && (List.range (sigCount s)).all (sigReserved s)

/-- ROLE, public key and signature of a signature entry. -/
def sigRole (s : State) (i : Nat) : Nat := staged s (sigOfs s + 200 * i) 1
def sigKey (s : State) (i : Nat) : List Byte := rdN s.boot.staging (sigOfs s + 200 * i + 4) 97
def sigBytes (s : State) (i : Nat) : List Byte := rdN s.boot.staging (sigOfs s + 200 * i + 104) 96

def stagedHeader (s : State) : List Byte := rdN s.boot.staging 0 768

def sigGood (s : State) (i : Nat) : Bool := Config.ecdsaVerify (sigKey s i) (Config.sha384 (stagedHeader s)) (sigBytes s i)

/-- Check 5 of R374. -/
def ownerGood (s : State) : Bool :=
  s.sec.life ≠ 2 || s.sec.ownerKey.all (· = 0)
    || (sigCount s = 2 && sigRole s 1 = 2 && decide (Config.sha384 (sigKey s 1) = s.sec.ownerKey) && sigGood s 1)

/-- Check 9 of R374. -/
def unitGood (s : State) : Bool :=
  unitCount s = 0 || (List.range (unitCount s)).any (fun k => staged s (256 + 8 * k) 8 = Config.unitId.toNat)

/-! ### Formats (R377, R378) -/

/-- The four format slots of a manifest entry: KIND, OWN, MIN, MAX. -/
def formats (e : List Byte) : List (Nat × Nat × Nat × Nat) :=
  (List.range 4).map (fun j => (leAt e (16 + 4 * j) 1, leAt e (17 + 4 * j) 1, leAt e (18 + 4 * j) 1, leAt e (19 + 4 * j) 1))

/-- Kinds that a component must name, each once. -/
def kindsOf (i : Nat) : List Nat := [[1, 2, 3, 4], [2], [3], [4]].getD i []

def formatsGood (i : Nat) (e : List Byte) : Bool :=
  (formats e).all (fun (k, own, lo, hi) => if k = 0 then own = 0 ∧ lo = 0 ∧ hi = 0 else k ≤ 4 ∧ 1 ≤ lo ∧ lo ≤ hi)
    && ((formats e).filter (fun f => f.1 ≠ 0)).length = (kindsOf i).length
    && (kindsOf i).all (fun k => ((formats e).filter (fun f => f.1 = k)).length = 1)

/-- The slot of a kind. -/
def formatOf (e : List Byte) (k : Nat) : Option (Nat × Nat × Nat) := ((formats e).find? (fun f => f.1 = k)).map (·.2)

/-- Two components agree on every kind that both name, STATE apart (R378). -/
def agreeOn (x y : List Byte) : Bool :=
  [2, 3, 4].all fun k => match formatOf x k, formatOf y k with
    | some (xo, xl, xh), some (yo, yl, yh) => yl ≤ xo ∧ xo ≤ yh ∧ xl ≤ yo ∧ yo ≤ xh
    | _, _ => true

/-- Check 11 of R374. -/
def manifestGood (s : State) : Bool :=
  decide (Config.sha384 (rdN s.boot.staging (manifestOfs s) 512) = rdN s.boot.staging 40 48)
    && (List.range 4).all (fun i =>
      let e := manifestEntry s i
      leAt e 0 1 = i + 1 && decide (leAt e 1 1 < 2) && leAt e 2 2 = 0 && leAt e 108 20 = 0
        && (leAt e 1 1 = 1 || leAt e 80 28 = 0) && formatsGood i e)

/-! ### Components (R374, R376) -/

/-- The bytes that run: decrypted under the firmware key when ENCRYPTED; none when the digest or the tag is wrong. -/
def component (s : State) (i : Nat) : Option (List Byte) :=
  let e := manifestEntry s i
  let raw := rdN s.boot.staging (compRange s i).1 (compRange s i).2
  if Config.sha384 raw ≠ (e.drop 32).take 48 then none
  else if leAt e 1 1 = 1 then
    Config.gcmOpen (islandKey s "FW" 256) ((e.drop 80).take 12) (e.take 80) (raw ++ (e.drop 92).take 16)
  else some raw

def components (s : State) : List (Option (List Byte)) := (List.range 4).map (component s)

/-- The cause of the first check of R374 that fails. -/
def verifyCause (s : State) : Option Nat :=
  let len := bundleLen s
  if fget s BOOT_LEN_BYTES ≠ len ∨ len < 1168 ∨ len > 67108864 then some 1
  else if !headerGood s then some 2
  else if sigRole s 0 ≠ 1 ∨ (vendorSlot s (sigKey s 0)).isNone then some 3
  else if !sigGood s 0 then some 4
  else if !ownerGood s then some 5
  else if staged s 26 2 ≠ fget s SYS_ID_FAMILY then some 6
  else if !(staged s 28 2).testBit (fget s SYS_ID_STEPPING) then some 7
  else if s.sec.life = 4 ∨ !(staged s 30 1).testBit s.sec.life then some 8
  else if !unitGood s then some 9
  else if staged s 32 4 < s.sec.minSvn then some 10
  else if !manifestGood s then some 11
  else if (components s).any Option.isNone then some 12
  else none

/-! ### Loading (R379–R381) -/

/-- The entry of a component in the manifest of the firmware region. -/
def regionEntry (s : State) (i : Nat) : List Byte := (s.boot.manifest.drop (128 * i)).take 128

/-- Loop islands that have loop power. -/
def poweredLoops (s : State) : List Nat := [0, 1].filter (fun x => (loop s x).powered)

/-- Step 2 of R379: the image goes to the cores' local memories, or over the link to the field island, or to the loop islands
that have loop power. -/
def copyComponent (i : Nat) (s : State) : State :=
  let image := s.boot.region.getD i []
  match i with
  | 0 => { s with boot.targets := put 0 image s.boot.targets }
  | 1 => { s with boot.targets := put 1 image s.boot.targets }
  | 2 => emit (.islandImage 2 image) s
  | _ => forEach (poweredLoops s) s fun x s => emit (.islandImage (3 + x) image) s

/-- A component's turn begins: R378 against those that run, the copy, and its bound runs. -/
def beginComponent (i : Nat) (s : State) : State :=
  let x := regionEntry s i
  if (List.range i).all (fun j => agreeOn x (regionEntry s j)) then
    copyComponent i { s with boot.stepAt := s.now, boot.started := i }
      |> fput BOOT_STATUS_COMPONENT (i + 1) |> fput (BOOT_COMP_VER_VERSION i) (leAt x 4 4)
  else failBoot 13 (i + 1) s

/-- VERIFYING has passed: the verified components are in the firmware region, and LOADING begins. -/
def beginLoading (s : State) : State :=
  { s with
    boot.header := stagedHeader s
    boot.manifest := rdN s.boot.staging (manifestOfs s) 512
    boot.region := (components s).map (·.getD [])
    boot.signer := (vendorSlot s (sigKey s 0)).getD 4 }
    |> setBoot 3 |> beginComponent 0

/-- The component that check 12 of R374 finds wrong, from 1. -/
def wrongComponent (s : State) : Nat := ((components s).findIdx? Option.isNone).elim 0 (· + 1)

/-- The bound of VERIFYING in whole ms (R375). -/
def verifyBound (s : State) : Nat := 2 + 60 * bundleLen s / 67108864

/-- VERIFY_COMPLETE, `ms` ms after START, within the bound of R375; an uncorrectable memory error ends it with COMPONENT, and
which component the read belonged to is free (R382). -/
def execVerifyComplete (memOk : Bool) (ms : Nat) (s : State) : Host.Outcome State Fault Refusal :=
  .next (if boot s ≠ 2 then s
    else
      let ms := min ms (verifyBound s)
      let s1 := advance (s.boot.startAt + msec ms) s |> fput BOOT_TIME_VERIFY_MS (min ms 2047)
      if !memOk then
        let (s2, k) := fresh s1
        failBoot 12 (1 + Config.freeNat k % 4) s2
      else match verifyCause s1 with
        | some c => failBoot c (if c = 12 then wrongComponent s1 else 0) s1
        | none => beginLoading s1)

/-- The bound of a component in sixteenths of a ns. -/
def startBound (s : State) (i : Nat) : Nat :=
  let len := leAt (regionEntry s i) 12 4
  match i with
  | 0 => msec 400
  | 1 => msec 100
  | 2 => msec 50 + len * 1600
  | _ => msec 50 + len * 80000

/-- Records that the ROM has read, whose conflicts the event recorder logs once it runs, and the passwords, which the service
firmware reads. -/
def logConflicts (s : State) : State :=
  let s1 := forEach [RecId.jrnlStart, RecId.secLock, RecId.pwrHoldup] s (fun id s => logConflict id s)
  forEach ((List.range 4).flatMap (fun u => [RecId.readPw (Fin.ofNat 4 u), RecId.writePw (Fin.ofNat 4 u)])) s1
    (fun id s => (loadRecord id s).1)

/-- The service firmware starts: the recorder's records, E from its record (R194), and the state-transfer format of R378. -/
def serviceStart (s : State) : State :=
  let s1 := logConflicts (recorderLoad s)
  let (s2, data) := loadRecord .pairEpoch s1
  let f := (formatOf (regionEntry s2 0) 1).getD (0, 0, 0)
  s2 |> fput RED_EPOCH_EPOCH (data.elim 0 (fun d => leAt d 0 4))
     |> fput RED_COMPAT_OWN_FMT f.1 |> fput RED_COMPAT_WIN_MIN f.2.1 |> fput RED_COMPAT_WIN_MAX f.2.2

/-- A loop transmitter at the end of LOADING: configured, or deferred without loop power (R380). -/
def startLoop (x : Nat) (s : State) : State :=
  if (loop s x).powered then configureLoop x s else setLoop x (fun l => { l with deferred := true }) s

/-- A change of power state. -/
def setPower (st : Nat) (s : State) : State :=
  s |> fput PWR_STATUS_STATE st |> raise PWR_EVENTS_STATE_CHANGE |> interrupt 132

/-- From HOLD to TRIM: the drive cycle resumes under R154 (R428). -/
def leaveHold (s : State) : State :=
  let s1 := setPower 1 s
  if fbit s1 NET_CYCLE_CFG_RUN then { s1 with net.resumeFrom := some s1.now } else s1

/-- The firmware runs: the watchdog takes a new reference after a reset, and after a wake its count goes on (R421). -/
def watchBegin (s : State) : State := watchUpdate (if fget s SYS_RESET_CAUSE_KIND = 6 then s else newReference s)

/-- A page write of the start count. -/
def isStartPage (w : PageWrite) : Bool := match w.what with
  | .record .jrnlStart _ _ _ => true
  | _ => false

/-- A page write ends, after a t_WR that is free (R445). -/
def endPage (w : PageWrite) (t0 : Nat) (s : State) : State := pageDone w t0 (Config.freeNat s.free % 4001) { s with free := s.free + 1 }

/-- The record of the start count is written before the first command is accepted (R356): a page write that runs ends, and that of the
record follows (log entry 103). -/
def finishStart (s : State) : State :=
  if holdupLow s ∨ !((s.nv.writing.map (·.1)).toList ++ s.nv.queue).any isStartPage then s
  else
    let s1 := match s.nv.writing with
      | some (w, t0) => endPage w t0 s
      | none => s
    match s1.nv.queue.find? isStartPage with
    | some w => endPage { w with what := aimRecord s1 w.what } s1.now { s1 with nv.queue := s1.nv.queue.erase w }
    | none => s1

/-- RUNNING (R381, R500): the islands receive their first configuration as the controller enters READY, or STOP when a wake has
left a task table in force, with another START between or without (R79, R80; DESIGN CHOICE, log entry 97); after a wake the module enters
TRIM (R434). -/
def bootRunning (s0 : State) : State :=
  let s := finishStart s0
  let ms := (s.now - s.boot.startAt) / msec 1
  let st := if s.prog.cur.tasks.isEmpty then 1 else 2
  let s1 := s |> fput BOOT_STATUS_COMPONENT 0 |> fput BOOT_TIME_LOAD_MS (min ms 2047)
    |> fput BOOT_BUNDLE_VER_VERSION (leAt s.boot.header 36 4) |> fput BOOT_SEC_VER_VERSION (leAt s.boot.header 32 4)
    |> setBoot 4 |> setCtl st |> fput HIF_STATUS_FW_UP 1 |> configureIsland
  let s2 := forEach [0, 1] s1 startLoop
  let s3 := watchBegin { s2 with boot.waking := false }
  if power s3 = 2 then leaveHold s3 else s3

/-- The next component's turn; without loop power on either island the LOOP component is DEFERRED at once, and the boot is
RUNNING (R380). -/
def nextComponent (i : Nat) (s : State) : State :=
  let s1 := beginComponent i s
  if i = 3 ∧ boot s1 = 3 ∧ poweredLoops s1 = [] then bootRunning (fput (BOOT_COMP_STAT_STATE 3) 2 s1) else s1

/-- COMPONENT_STARTED: a component reports, `ms` ms after the turn of the one that the ROM waits for began; a report of another is
not the awaited one and has no effect (DEDUCED, log entry 63). The LOOP component is DEFERRED while an island has no loop power. -/
def execComponentStarted (c : Fin 4) (ms : Nat) (s : State) : Host.Outcome State Fault Refusal :=
  .next (if boot s ≠ 3 ∨ c.val ≠ s.boot.started then s
    else
      let i := s.boot.started
      if msec ms > startBound s i then failBoot 14 (i + 1) (advance (s.boot.stepAt + startBound s i) s)
      else
        let s1 := advance (s.boot.stepAt + msec ms) s
        let late := i = 3 ∧ (poweredLoops s1).length < 2
        let s3 := s1 |> fput (BOOT_COMP_STAT_STATE i) (if late then 2 else 1)
          |> fput (BOOT_COMP_STAT_START_MS i) (min 65535 ((s1.now - s.boot.poweredAt) / msec 1))
        let s4 := if i = 0 then serviceStart s3 else s3
        if i ≥ 3 then bootRunning s4 else nextComponent (i + 1) s4)

/-- COMPONENT_START_TIMEOUT: the bound passes, or the field island reports a load error. -/
def execComponentStartTimeout (islandLoad : Bool) (s : State) : Host.Outcome State Fault Refusal :=
  .next (if boot s ≠ 3 then s
    else
      let i := s.boot.started
      if islandLoad ∧ i = 2 then failBoot 15 3 s
      else failBoot 14 (i + 1) (advance (s.boot.stepAt + startBound s i) s))

/-! ### FW_RESET and FW_READ (R384, R386) -/

/-- A parked unit in pair code 1 is the one standby that FW_RESET serves. -/
def fwResetCard (s : State) : Card :=
  { op := 0x0F02, ring0 := true, svc := .no, guards := [2, 6, 7]
    active := !(pair s = 1 && fbit s RED_STATUS_PARKED) }

def fwResetChecks (s : State) : Option (Nat × Nat) :=
  firstOf [(decide (ctl s = 3) && !standby s, 0x01, 0x0010), (decide (fget s CTL_GRAFT_STATUS_STATE ≠ 0), 0x08, 0)]

/-- A page of an emergency record waits. -/
def emergencyWaits (s : State) : Bool :=
  s.nv.queue.any (fun w => match w.what with
    | .emergency _ _ => true
    | _ => false)

/-- The module goes on with a FW_RESET when the recorder and the NV store have finished: the consolidation that it asked for, which
waits in SAG2 and while HOLDUP_LOW is true, the page in progress, and an emergency record (R384, R466, R467). -/
def carryReset (s : State) : State :=
  if s.sup.fwReset ∧ s.recd.due.isNone ∧ s.recd.running.isNone ∧ s.nv.writing.isNone ∧ !emergencyWaits s then coldReset 3 s
  else s

/-- FW_RESET: completes, then consolidates, waits for the page write in progress and resets. -/
def execFwReset (d : Desc) (s : State) : Host.Outcome State Fault Refusal :=
  .next (command (fwResetCard s) d fwResetChecks
    (fun s =>
      let s1 := immediate 0x0F02 d id (fun _ => 0) (fun _ => []) s
      carryReset { s1 with sup.fwReset := true, recd.due := some (s1.recd.due.getD 2) }) s)

/-- The firmware record of 1,344 bytes. -/
def firmwareRecord (s : State) : List Byte :=
  fit 768 s.boot.header ++ fit 512 s.boot.manifest
    ++ (List.range 4).flatMap (fun c => le 1 (c + 1) ++ le 1 (fget s (BOOT_COMP_STAT_STATE c)) ++ le 2 0
        ++ le 4 (fget s (BOOT_COMP_VER_VERSION c)) ++ le 4 (fget s (BOOT_COMP_STAT_START_MS c)) ++ le 4 0)

def fwReadCard : Card := { op := 0x0F01, params := [(32, 4)], buf := .writes, svc := .open_ }

def fwReadData (d : Desc) (s : State) : List Byte := ((firmwareRecord s).drop (paramN d 32 4)).take d.bufLen

/-- FW_READ. -/
def execFwRead (d : Desc) (s : State) : Host.Outcome State Fault Refusal :=
  .next (command fwReadCard d (fun _ => firstOf [(decide (paramN d 32 4 > 1343), 0x02, 0x0111)])
    (immediate 0x0F01 d id (fun s => (fwReadData d s).length) (fwReadData d)) s)

end Sys2Proof.Machine
end

