-- ==== Sys2Proof/Machine/Flags.lean ====
section
/-! DEFINITION. The sticky flags of STAT (R223) and the integer results that set them (R250–R253), with the shifts, bit
counts, bit fields and permutation of R253–R256. -/

namespace Sys2Proof.Machine

/-! ### STAT (R223) -/

def flagOV : Word := 1
def flagDZ : Word := 2
def flagNX : Word := 4

/-- Sets a sticky flag when a condition holds. -/
def setFlag (f : Word) (b : Bool) (x : Ctx) : Ctx := if b then { x with stat := x.stat ||| f } else x

/-- DZTRAP and FTZ. -/
def dzTrap (x : Ctx) : Bool := x.stat.getLsbD 8
def ftz (x : Ctx) : Bool := x.stat.getLsbD 9

/-- The bits of STAT that can be written. -/
def statMask : Word := 0x307

/-! ### Overflow (R250) -/

/-- A signed result lies outside −2^31 to 2^31 − 1. -/
def overflows (i : Int) : Bool := i < -(2 : Int) ^ 31 ∨ i > 2 ^ 31 - 1

def addOverflows (a b : Word) : Bool := overflows (a.toInt + b.toInt)
def subOverflows (a b : Word) : Bool := overflows (a.toInt - b.toInt)
def mulOverflows (a b : Word) : Bool := overflows (a.toInt * b.toInt)

/-! ### Division (R251) -/

/-- Signed quotient, truncated toward zero, with its edge results. -/
def divS (a b : Word) : Word :=
  if b = 0 then (if a.msb then 0x80000000 else 0x7FFFFFFF) else BitVec.ofInt 32 (a.toInt.tdiv b.toInt)

/-- Signed remainder with the sign of the dividend. -/
def remS (a b : Word) : Word := if b = 0 then a else BitVec.ofInt 32 (a.toInt.tmod b.toInt)

def divU (a b : Word) : Word := if b = 0 then 0xFFFFFFFF else BitVec.ofNat 32 (a.toNat / b.toNat)

def remU (a b : Word) : Word := if b = 0 then a else BitVec.ofNat 32 (a.toNat % b.toNat)

/-- The signed case that sets OV. -/
def divOverflows (a b : Word) : Bool := a = 0x80000000 ∧ b = 0xFFFFFFFF

/-- Flags of a division (R251). -/
def divFlags (signed : Bool) (a b : Word) (x : Ctx) : Ctx :=
  setFlag flagDZ (b = 0) (setFlag flagOV (signed && divOverflows a b) x)

/-! ### Shifts and rotates (R253) -/

def shlW (a : Word) (n : Nat) : Word := if n < 32 then a <<< n else 0
def shrW (a : Word) (n : Nat) : Word := if n < 32 then a >>> n else 0
def sarW (a : Word) (n : Nat) : Word := a.sshiftRight (min n 31)
def rolW (a : Word) (n : Nat) : Word := a.rotateLeft (n % 32)
def rorW (a : Word) (n : Nat) : Word := a.rotateRight (n % 32)

/-- KIND of SHI (R254). -/
def shiW (kind : Nat) (a : Word) (n : Nat) : Word :=
  match kind with
  | 0 => shlW a n
  | 1 => shrW a n
  | 2 => sarW a n
  | 3 => rolW a n
  | _ => rorW a n

/-! ### Bit counts (R250) -/

/-- Number of leading 0 bits. -/
def clzW (a : Word) : Nat := if a = 0 then 32 else 31 - Nat.log2 a.toNat

/-- Number of trailing 0 bits. -/
def ctzW (a : Word) : Nat := ((List.range 32).find? a.getLsbD).getD 32

/-- Number of 1 bits. -/
def popcW (a : Word) : Nat := ((List.range 32).filter a.getLsbD).length

/-! ### Bit fields (R255) -/

/-- Effective length. -/
def bfLen (w : Word) : Nat := min (evLen w) (32 - evPos w)

/-- The field of a value, zero-extended. -/
def bfGet (w : Word) (a : Word) : Nat := bits a.toNat (evPos w) (bfLen w)

/-- The field of a value, sign-extended. -/
def bfGetS (w : Word) (a : Word) : Word := BitVec.ofInt 32 (toInt (bfLen w) (bfGet w a))

/-- Inserts the low bits of `a` into `d`. -/
def bfPut (w : Word) (d a : Word) : Word :=
  let m := (2 ^ bfLen w - 1) * 2 ^ evPos w
  BitVec.ofNat 32 (d.toNat - (d.toNat &&& m) + bits a.toNat 0 (bfLen w) * 2 ^ evPos w)

/-! ### PERM (R256) -/

/-- One byte of the result: the pool byte that a selector names, 0 for 8–15. -/
def permByte (a b : Word) (sel : Nat) : Nat :=
  if sel < 4 then bits a.toNat (8 * sel) 8 else if sel < 8 then bits b.toNat (8 * (sel - 4)) 8 else 0

def permW (a b sel : Word) : Word :=
  BitVec.ofNat 32 ((List.range 4).map (fun k => permByte a b (bits sel.toNat (4 * k) 4) * 2 ^ (8 * k))).sum

end Sys2Proof.Machine
end

