-- ==== Sys2Proof/Machine/Evmen.lean ====
section
/-! DEFINITION. How a cycle core runs one instruction (R221, R231, R234–R242): the decode traps, the guard, the advance of
the PC inside and outside a repeat, taking a trap or an interrupt, the return from one, and what the runtime does with a
trap of task code (R237, R247). -/

namespace Sys2Proof.Machine

open Reg

/-! ### Taking a trap or an interrupt (R235, R238) -/

/-- What every entry does: EPC, CAUSE, RUNTIME mode with interrupts masked, and the handler's address. -/
def entered (cause vector : Nat) (x : Ctx) : Ctx :=
  { x with
    epc := x.pc
    cause := BitVec.ofNat 32 ((if x.mode = .runtime then 2 ^ 31 else 0) + (if x.rep then 2 ^ 30 else 0) + cause)
    mode := .runtime
    masked := true
    rep := false
    pc := BitVec.ofNat 32 vector }

/-- The context after the entry of a trap (R235, R236). -/
def trapped (code : Nat) (word vbase : Word) (x : Ctx) : Ctx :=
  { entered code (vbase.toNat + 64 * code) x with causeWord := word }

/-- CORE_RANGE records IMAGE_RANGE and LANE_CONFLICT (R37). -/
def noteImageTrap (code : Nat) (s : State) : State := if code = 0x0A ∨ code = 0x0B then raise IMG_FAULT_CORE_RANGE s else s

/-- Takes a trap: the entry, its trace, and CORE_RANGE for the two image traps. -/
def takeTrap (c code : Nat) (word : Word) (s : State) : State :=
  let k := core s c
  let s1 := setCtx c (trapped code word k.vbase k.ctx) s |> traceNote c 3 code k.ctx.pc.toNat
  noteImageTrap code s1

/-- ERET: back to EPC in the mode of PREV_MODE, with interrupts unmasked; a repeat goes on (R236, R242). -/
def eret (x : Ctx) : Ctx :=
  { x with pc := x.epc, mode := if x.cause.getLsbD 31 then .runtime else .task, masked := false,
           rep := x.cause.getLsbD 30 }

/-- ERETN: as ERET behind the instruction; inside a repeat the iteration counts as done (R236, R242). -/
def eretn (x : Ctx) : Ctx :=
  let y := eret x
  if !y.rep then { y with pc := x.epc + 4 }
  else if x.rc.toNat > 1 then { y with rc := x.rc - 1 }
  else { y with pc := x.epc + 4, rc := 0, rep := false }

/-! ### The runtime and the traps of task code (R237) -/

/-- The runtime ends the instance of an unresolved trap: recorded, aborted without commit, and the controller halts with
cause TRAP or the standby becomes unfit (R78, R83). -/
def unresolved (c code : Nat) (s : State) : State :=
  match (core s c).task with
  | none => s
  | some t =>
    let x := (core s c).ctx
    s |> logEarly 1 .trap (code + 256 * t.val) (x.epc.toNat + 2 ^ 32 * x.causeWord.toNat)
      |> setCore c (fun k => { k with task := none, laneWait := false, ctx := { k.ctx with rs := leaveRs k } })
      |> abort t.val
      |> programFault 2 t.val
      |> logLate 1 .trap (code + 256 * t.val) (x.epc.toNat + 2 ^ 32 * x.causeWord.toNat)

/-- The accesses of an emulation, at most `n` more, under the rules of the task: the values loaded, and the first access
that is refused, which is the task's fault (R247). -/
def emulateAccesses (c : Nat) (x : Ctx) (i : Config.EmuIn) : Nat → List Nat → State → State × List Nat × Option Trap
  | 0, got, s => (s, got, none)
  | n + 1, got, s =>
    match Config.emuAccess i got with
    | none => (s, got, none)
    | some k =>
      let len := 2 ^ k.size.val
      match place s c { x with mode := .task } k.addr len k.value.isSome false with
      | .error t => (s, got, some t)
      | .ok p =>
        match k.value with
        | some v => emulateAccesses c x i n got (storeAt c p k.addr.toNat len v s)
        | none => emulateAccesses c x i n (got ++ [(loadAt s c p k.addr.toNat len).2]) s

/-- What an emulation reads of the saved context: the iteration index is count − RC (R247). -/
def emuIn (c : Nat) (w : Word) (x : Ctx) : Config.EmuIn :=
  { word := w, core := c, g := x.g, p := x.p, stat := x.stat, ds := x.ds, epc := x.epc
    iteration := if x.cause.getLsbD 30 then x.repCount - x.rc.toNat else 0 }

/-- UNIMPLEMENTED from task code (R247): the guard, the bundle's emulation, and ERETN. -/
def emulate (c : Nat) (w : Word) (s : State) : State :=
  let x := (core s c).ctx
  if !guardHolds x w then setCtx c (eretn x) s
  else match Config.emulates w with
    | none => unresolved c 1 s
    | some n =>
      match emulateAccesses c x (emuIn c w x) n [] s with
      | (s1, got, none) =>
        let (g, p, st) := Config.emuResult (emuIn c w x) got
        setCtx c (eretn { x with g := g.filter (fun r => r.1 ≠ 0), p := p ||| 1, stat := st &&& statMask }) s1
      | (s1, _, some t) => unresolved c t.1 (noteImageTrap t.1 (setCtx c { x with
          cause := BitVec.ofNat 32 (x.cause.toNat - x.cause.toNat % 256 + t.1), causeWord := t.2 } s1))

/-- BREAK at debug level 2: the runtime holds the core for the debugger (R237, R405), at the instruction after BREAK or
at the breakpoint. -/
def holdCore (c : Nat) (hard : Bool) (s : State) : State :=
  let x := (core s c).ctx
  s |> setCore c (fun k => { k with ctx := if hard then eret x else eretn x, halted := true, passBreak := hard })
    |> fputBit DBG_STATUS_C_HALTED c true |> raise DBG_EVENTS_HALT
    |> traceNote c 5 0 x.epc.toNat

/-- A trap: its entry, and for task code what the runtime makes of it. A trap of the runtime itself, whose handlers the
manual does not give, is a runtime fault and ends as a forced WARNING (R237, R422; log entry 18). -/
def evTrap (c code : Nat) (word : Word) (hard : Bool) (s : State) : State :=
  let wasTask := (core s c).ctx.mode = .task
  let s1 := takeTrap c code word s
  if !wasTask then forceWarning 4 s1
  else if code = 1 then emulate c word s1
  else if code = 0x11 ∧ fget s DBG_STATUS_LEVEL = 2 then holdCore c hard s1
  else unresolved c code s1

/-! ### One instruction -/

/-- The context after an instruction that transfers no control (R241, R242). -/
def nextCtx (x : Ctx) : Ctx :=
  if !x.rep then { x with pc := x.pc + 4 }
  else if x.rc.toNat > 1 then { x with rc := x.rc - 1 }
  else { x with pc := x.pc + 4, rc := 0, rep := false }

def evNext (c : Nat) (s : State) : State := setCtx c (nextCtx (core s c).ctx) s

/-- The core can issue: clocked (R428: cycle cores are clock-gated outside power state RUN), not held by the debugger, not
stopped at a memory error, not waiting for lanes. -/
def issues (s : State) (c : Nat) : Bool :=
  let k := core s c
  power s = 0 && !k.halted && !k.stopped && !k.laneWait

/-- A hardware breakpoint stands at the instruction (R405). -/
def atBreakpoint (s : State) (c : Nat) : Bool :=
  let k := core s c
  fget s DBG_STATUS_LEVEL = 2 && k.breakpoints.contains k.ctx.pc.toNat && !k.passBreak

/-- The iteration of a repeat, counted from 0 (R241). -/
def iteration (x : Ctx) : Nat := if x.rep then x.repCount - x.rc.toNat else 0

/-- The decode traps of a word whose function is assigned, whatever its guard (R221, R234): `form` is the REPEAT_FORM check
of REP, `priv` the PRIVILEGE check. -/
def decodeTrap (s : State) (c : Nat) (w : Word) (form : Option Trap) (priv : Bool) : Option Trap :=
  let x := (core s c).ctx
  if !canFetch s c x.mode x.pc then some (5, x.pc)
  else if evIllegal w then some (2, w)
  else match form with
    | some t => some t
    | none => if priv then some (4, w) else none

/-- A core that the debugger steps is held again behind this instruction (R405). -/
def afterStep (c : Nat) (s : State) : State :=
  if (core s c).stepping then
    setCore c (fun k => { k with halted := true, stepping := false }) s |> fputBit DBG_STATUS_C_HALTED c true
  else s

/-- Runs a word of a row on a core: decode traps, the guard, the effect and a breakpoint, which has the lowest priority.
`skip` is what a false guard does. -/
def evRun (c : Nat) (w : Word) (form : Option Trap) (priv : Bool) (skip : State → State) (act : EvAct)
    (after : State → State) (s0 : State) : State :=
  let s := afterStep c s0
  let x := (core s c).ctx
  match decodeTrap s c w form priv with
  | some (code, word) => evTrap c code word false s
  | none =>
    if !guardHolds x w then skip s
    else match act { c, w, x, i := iteration x } s with
      | (s1, some (code, word)) => evTrap c code word false s1
      | (s1, none) =>
        if atBreakpoint s c then evTrap c 0x11 w true s
        else after (setCore c (fun k => { k with passBreak := false }) s1)

/-- The word belongs to major opcode `op` with function code `fn`, and the core can issue. -/
def isFn (op fn : Nat) (c : Nat) (w : Word) (s : State) : Bool := issues s c && evOp w = op && evFn w = fn

/-- The word belongs to major opcode `op`. -/
def isOp (op : Nat) (c : Nat) (w : Word) (s : State) : Bool := issues s c && evOp w = op

/-- A row whose instruction goes on to the next. -/
def evRow (mine : Bool) (c : Nat) (w : Word) (act : EvAct) (s : State) : State :=
  if mine then evRun c w none false (evNext c) act (evNext c) s else s

/-- A row whose instruction sets the PC itself. -/
def evJump (mine : Bool) (c : Nat) (w : Word) (priv : Bool) (act : EvAct) (s : State) : State :=
  if mine then evRun c w none priv (evNext c) act id s else s

end Sys2Proof.Machine
end

