-- ==== Sys2Proof/Machine/Debug.lean ====
section
/-! DEFINITION. The JTAG port and the trace (R405, R408, R410). -/

namespace Sys2Proof.Machine

open Reg

/-- JTAG_ATTACHED: a TCK clock is present. -/
def attached (s : State) : State := fput DBG_STATUS_JTAG_ATTACHED 1 s

/-- The states in which boundary scan acts (R410). -/
def scanOpen (s : State) : Bool := boot s = 0 ∨ boot s = 1 ∨ boot s = 5

/-- JTAG_BOUNDARY_SCAN: SAMPLE captures the pins, whose levels are free here; PRELOAD loads the boundary-scan register, and
EXTEST drives it to the lands; in any other boot state the instruction acts as BYPASS. -/
def execJtagBoundaryScan (i : ScanInstr) (s : State) : Host.Outcome State Fault Refusal :=
  .next (
    let s1 := attached s
    if !scanOpen s then raise DBG_EVENTS_JTAG_REFUSED (emit (.jtag [0]) { s1 with sec.extest := false })
    else match i with
      | .sample =>
        let (s2, n) := fresh { s1 with sec.extest := false }
        emit (.jtag [Config.freeBits 8 n]) s2
      | .preload cells => { s1 with sec.boundary := cells, sec.extest := false }
      | .extest => emit (.scan s1.sec.boundary) { s1 with sec.extest := true })

/-- The debugger may hold a core: level 2, and for a service core the life cycle. -/
def mayHold (s : State) (c : Nat) : Bool := fget s DBG_STATUS_LEVEL = 2 && (decide (c < 8) || serviceOpen s)

/-- A byte of LPDDR5X that the debugger reads: the staging window, and elsewhere a byte that is free until it is known. The
firmware region is a secret. -/
def lpddrByte (a : Nat) (s : State) : Option (State × Byte) :=
  if Config.firmwareRegion a then none
  else if a < 0x4000000 then some (s, rd s.boot.staging a)
  else match look s.mem.lpddr a with
    | some b => some (s, b)
    | none =>
      let (s1, n) := fresh s
      some ({ s1 with mem.lpddr := put a (Config.freeBits 8 n) s1.mem.lpddr }, Config.freeBits 8 n)

/-- A byte of LPDDR5X that the debugger writes. -/
def lpddrPut (a : Nat) (v : Byte) (s : State) : State :=
  if Config.firmwareRegion a then s
  else if a < 0x4000000 then { s with boot.staging := wr s.boot.staging a v }
  else { s with mem.lpddr := put a v s.mem.lpddr }

/-- A byte of a memory at a byte offset within it; `none` for what no level reaches (R405). -/
def jtagRead (m : DbgMem) (a : Nat) (s : State) : Option (State × Byte) :=
  match m with
  | .data => some (s, sramByte s (0x10000000 + a))
  | .image => some (s, rd s.img.live a)
  | .retained => some (s, rd s.mem.data (0x30000000 + a))
  | .code => some (s, rd s.mem.code a)
  | .rung => some (s, BitVec.ofNat 8 (bits (lookD s.img.rung (a / 4) 0).toNat (8 * (a % 4)) 8))
  | .lpddr => lpddrByte a s
  | .bar0 => if 0x6000 ≤ a ∧ a < 0x7000 then none else some (s, BitVec.ofNat 8 (bits (regWord s (a / 4 * 4)).toNat (8 * (a % 4)) 8))
  | .service => if !serviceOpen s then none
      else match look s.mem.service a with
        | some b => some (s, b)
        | none => some ((fresh s).1, Config.freeBits 8 (fresh s).2)
  | .secret => none

/-- Tag of a retained line that the debugger wrote. -/
def tagDebug : Nat := 35

/-- A rung word with one byte replaced. -/
def rungByte (w : Word) (k : Nat) (v : Byte) : Word :=
  BitVec.ofNat 32 (w.toNat - bits w.toNat (8 * k) 8 * 2 ^ (8 * k) + v.toNat * 2 ^ (8 * k))

/-- A byte written to a memory; BAR0 and the secrets are not written (R405), and that of the service cores only in BLANK and
RETURNED (R21). -/
def jtagWrite (m : DbgMem) (a : Nat) (v : Byte) (s : State) : State :=
  match m with
  | .data => sramPut (0x10000000 + a) v s
  | .image => { s with img.live := wr s.img.live a v }
  | .retained => touch (0x30000000 + a) tagDebug { s with mem.data := wr s.mem.data (0x30000000 + a) v }
  | .code => { s with mem.code := wr s.mem.code a v }
  | .rung => { s with img.rung := put (a / 4) (rungByte (lookD s.img.rung (a / 4) 0) (a % 4) v) s.img.rung }
  | .lpddr => lpddrPut a v s
  | .bar0 => s
  | .service => if serviceOpen s then { s with mem.service := put a v s.mem.service } else s
  | .secret => s

/-- DBG_STATUS shows what the debugger holds. -/
def showHold (c : Nat) (on : Bool) (s : State) : State :=
  if c < 8 then fputBit DBG_STATUS_C_HALTED c on s else fputBit DBG_STATUS_S_HALTED (c - 8) on s

/-- The debugger halts a core; a halted service core suspends the system watchdog (R406, R421). -/
def holdBy (c : Nat) (s : State) : State :=
  if (core s c).halted then s
  else
    s |> setCore c (fun k => { k with halted := true }) |> showHold c true |> raise DBG_EVENTS_HALT
      |> traceNote c 5 0 (core s c).ctx.pc.toNat |> watchUpdate

/-- The debugger lets a core run, or run one instruction. A service core's instructions are not part of the manual, and a
step leaves it held. -/
def letRun (c : Nat) (once : Bool) (s : State) : State :=
  if !(core s c).halted ∨ (once ∧ c ≥ 8) then s
  else
    s |> setCore c (fun k => { k with halted := false, passBreak := true, stepping := once }) |> showHold c false |> watchUpdate

/-- JTAG_DEBUG_ACCESS: an access beyond the debug level does nothing. -/
def execJtagDebugAccess (a : JtagAccess) (s0 : State) : Host.Outcome State Fault Refusal :=
  .next (
    let s : State := attached { s0 with sec.extest := false }
    match a with
    | .idcode => emit (.jtag (le 4 0x2486036B)) s
    | .bypass => emit (.jtag [0]) s
    | .read m addr =>
      if fget s DBG_STATUS_LEVEL = 0 then s
      else match jtagRead m addr s with
        | some (s1, b) => emit (.jtag [b]) s1
        | none => s
    | .write m addr v => if fget s DBG_STATUS_LEVEL = 2 then jtagWrite m addr v s else s
    | .halt c => if mayHold s c then holdBy c s else s
    | .resume c => if mayHold s c then letRun c false s else s
    | .step c => if mayHold s c then letRun c true s else s
    | .breakpoint c addr =>
      if mayHold s c then setCore c (fun k => { k with breakpoints := addr :: k.breakpoints.filter (· ≠ addr) }) s else s)

/-! ### Trace (R408, R341) -/

/-- The 16 bytes of an entry. -/
def traceEntry (x : Nat × Nat × Nat × Nat × Nat) : List Byte :=
  let (c, kind, arg, addr, time) := x
  le 1 c ++ le 1 kind ++ le 1 arg ++ le 1 0 ++ le 4 addr ++ le 8 time

/-- One trace record with the entries that fit the buffer. -/
def writeTrace (r : Nat) (e : BufEntry) (s : State) : State :=
  let number := (ring s r).records
  match badBuffer e with
  | some reason => bufferError r reason number s
  | none =>
    let now_ := s.sec.trace.take ((e.len - 32) / 16)
    let time := ((now_.head?).map (fun x => x.2.2.2.2)).getD 0
    let bytes := le 8 number ++ le 8 time ++ le 4 now_.length ++ le 4 (min 0xFFFFFFFF s.sec.traceLost) ++ le 8 0
      ++ now_.flatMap traceEntry
    { s with sec.trace := s.sec.trace.drop ((e.len - 32) / 16), sec.traceLost := 0 }
      |> setRing r (fun g => { g with records := number + 1 }) |> postRecord r e number (nsNow s) bytes

/-- TRACE_RECORD_WRITE. -/
def execTraceRecordWrite (e : BufEntry) (s : State) : Host.Outcome State Fault Refusal :=
  .next (match traceRing s with
    | some r =>
      if s.sec.trace.isEmpty ∨ !traceOn s then s
      else if entryReady s r ∧ sag s < 2 then writeTrace r e s
      else dropTrace s
    | none => s)

end Sys2Proof.Machine
end

