-- ==== Sys2Proof/Machine/EvmenAlu.lean ====
section
/-! DEFINITION. Integer register operations, immediates, bit fields, comparisons and predicates (R250–R258). -/

namespace Sys2Proof.Machine

/-- An ALU result of g[RA] and g[RB] into g[RD]. -/
def alu (f : Word → Word → Word) (w : Word) (x : Ctx) : Ctx := setG (evRd w) (f (gReg x (evRa w)) (gReg x (evRb w))) x

/-- As `alu`, with OV when the operands overflow. -/
def aluV (f : Word → Word → Word) (ov : Word → Word → Bool) (w : Word) (x : Ctx) : Ctx :=
  setFlag flagOV (ov (gReg x (evRa w)) (gReg x (evRb w))) (alu f w x)

/-- A row of major opcode 0x00. -/
def aluRow (fn : Nat) (c : Fin 8) (w : Word) (f : Word → Ctx → Ctx) (s : State) :
    Host.Outcome State Fault Refusal :=
  .next (evRow (isFn 0x00 fn c.val w s) c.val w (evPure f) s)

/-- ADD (R250): the sum wraps and sets no flag. -/
def execEvAdd (c : Fin 8) (w : Word) (s : State) : Host.Outcome State Fault Refusal :=
  aluRow 0x00 c w (alu (· + ·)) s

/-- SUB (R250). -/
def execEvSub (c : Fin 8) (w : Word) (s : State) : Host.Outcome State Fault Refusal :=
  aluRow 0x01 c w (alu (· - ·)) s

/-- ADDV (R250): OV when the signed sum leaves the range. -/
def execEvAddv (c : Fin 8) (w : Word) (s : State) : Host.Outcome State Fault Refusal :=
  aluRow 0x02 c w (aluV (· + ·) addOverflows) s

/-- SUBV (R250): OV when the signed difference leaves the range. -/
def execEvSubv (c : Fin 8) (w : Word) (s : State) : Host.Outcome State Fault Refusal :=
  aluRow 0x03 c w (aluV (· - ·) subOverflows) s

/-- NEG (R250): OV for 0x8000_0000. -/
def execEvNeg (c : Fin 8) (w : Word) (s : State) : Host.Outcome State Fault Refusal :=
  aluRow 0x04 c w (aluV (fun a _ => 0 - a) (fun a _ => a = 0x80000000)) s

/-- AND (R250). -/
def execEvAnd (c : Fin 8) (w : Word) (s : State) : Host.Outcome State Fault Refusal :=
  aluRow 0x08 c w (alu (· &&& ·)) s

/-- OR (R250). -/
def execEvOr (c : Fin 8) (w : Word) (s : State) : Host.Outcome State Fault Refusal :=
  aluRow 0x09 c w (alu (· ||| ·)) s

/-- XOR (R250). -/
def execEvXor (c : Fin 8) (w : Word) (s : State) : Host.Outcome State Fault Refusal :=
  aluRow 0x0A c w (alu (· ^^^ ·)) s

/-- ANDN (R250). -/
def execEvAndn (c : Fin 8) (w : Word) (s : State) : Host.Outcome State Fault Refusal :=
  aluRow 0x0B c w (alu (fun a b => a &&& ~~~b)) s

/-- NOT (R250). -/
def execEvNot (c : Fin 8) (w : Word) (s : State) : Host.Outcome State Fault Refusal :=
  aluRow 0x0C c w (alu (fun a _ => ~~~a)) s

/-- SHL (R250, R253). -/
def execEvShl (c : Fin 8) (w : Word) (s : State) : Host.Outcome State Fault Refusal :=
  aluRow 0x10 c w (alu (fun a b => shlW a b.toNat)) s

/-- SHR (R250, R253). -/
def execEvShr (c : Fin 8) (w : Word) (s : State) : Host.Outcome State Fault Refusal :=
  aluRow 0x11 c w (alu (fun a b => shrW a b.toNat)) s

/-- SAR (R250, R253). -/
def execEvSar (c : Fin 8) (w : Word) (s : State) : Host.Outcome State Fault Refusal :=
  aluRow 0x12 c w (alu (fun a b => sarW a b.toNat)) s

/-- ROL (R250, R253). -/
def execEvRol (c : Fin 8) (w : Word) (s : State) : Host.Outcome State Fault Refusal :=
  aluRow 0x13 c w (alu (fun a b => rolW a b.toNat)) s

/-- ROR (R250, R253). -/
def execEvRor (c : Fin 8) (w : Word) (s : State) : Host.Outcome State Fault Refusal :=
  aluRow 0x14 c w (alu (fun a b => rorW a b.toNat)) s

/-- CLZ (R250). -/
def execEvClz (c : Fin 8) (w : Word) (s : State) : Host.Outcome State Fault Refusal :=
  aluRow 0x18 c w (alu (fun a _ => BitVec.ofNat 32 (clzW a))) s

/-- CTZ (R250). -/
def execEvCtz (c : Fin 8) (w : Word) (s : State) : Host.Outcome State Fault Refusal :=
  aluRow 0x19 c w (alu (fun a _ => BitVec.ofNat 32 (ctzW a))) s

/-- POPC (R250). -/
def execEvPopc (c : Fin 8) (w : Word) (s : State) : Host.Outcome State Fault Refusal :=
  aluRow 0x1A c w (alu (fun a _ => BitVec.ofNat 32 (popcW a))) s

/-- MIN (R250), signed. -/
def execEvMin (c : Fin 8) (w : Word) (s : State) : Host.Outcome State Fault Refusal :=
  aluRow 0x20 c w (alu (fun a b => if a.slt b then a else b)) s

/-- MAX (R250), signed. -/
def execEvMax (c : Fin 8) (w : Word) (s : State) : Host.Outcome State Fault Refusal :=
  aluRow 0x21 c w (alu (fun a b => if a.slt b then b else a)) s

/-- MINU (R250), unsigned. -/
def execEvMinu (c : Fin 8) (w : Word) (s : State) : Host.Outcome State Fault Refusal :=
  aluRow 0x22 c w (alu (fun a b => if a < b then a else b)) s

/-- MAXU (R250), unsigned. -/
def execEvMaxu (c : Fin 8) (w : Word) (s : State) : Host.Outcome State Fault Refusal :=
  aluRow 0x23 c w (alu (fun a b => if a < b then b else a)) s

/-- MUL (R250): low word of the product. -/
def execEvMul (c : Fin 8) (w : Word) (s : State) : Host.Outcome State Fault Refusal :=
  aluRow 0x30 c w (alu (· * ·)) s

/-- MULH (R250): high word of the signed product. -/
def execEvMulh (c : Fin 8) (w : Word) (s : State) : Host.Outcome State Fault Refusal :=
  aluRow 0x31 c w (alu (fun a b => BitVec.ofInt 32 (a.toInt * b.toInt / 2 ^ 32))) s

/-- MULHU (R250): high word of the unsigned product. -/
def execEvMulhu (c : Fin 8) (w : Word) (s : State) : Host.Outcome State Fault Refusal :=
  aluRow 0x32 c w (alu (fun a b => BitVec.ofNat 32 (a.toNat * b.toNat / 2 ^ 32))) s

/-- MULV (R250): OV when the signed product leaves the range. -/
def execEvMulv (c : Fin 8) (w : Word) (s : State) : Host.Outcome State Fault Refusal :=
  aluRow 0x33 c w (aluV (· * ·) mulOverflows) s

/-! ### Division (R251, R252) -/

/-- A division: its result and flags, and DIVZERO after them when DZTRAP is 1. -/
def division (signed : Bool) (f : Word → Word → Word) : EvAct := fun e s =>
  let a := gReg e.x (evRa e.w)
  let b := gReg e.x (evRb e.w)
  (setCtx e.c (divFlags signed a b (setG (evRd e.w) (f a b) e.x)) s,
    if b = 0 ∧ dzTrap e.x then some (0x0F, e.w) else none)

def divRow (fn : Nat) (c : Fin 8) (w : Word) (signed : Bool) (f : Word → Word → Word) (s : State) :
    Host.Outcome State Fault Refusal :=
  .next (evRow (isFn 0x00 fn c.val w s) c.val w (division signed f) s)

/-- DIV (R250–R252). -/
def execEvDiv (c : Fin 8) (w : Word) (s : State) : Host.Outcome State Fault Refusal :=
  divRow 0x38 c w true divS s

/-- DIVU (R250–R252). -/
def execEvDivu (c : Fin 8) (w : Word) (s : State) : Host.Outcome State Fault Refusal :=
  divRow 0x39 c w false divU s

/-- REM (R250–R252). -/
def execEvRem (c : Fin 8) (w : Word) (s : State) : Host.Outcome State Fault Refusal :=
  divRow 0x3A c w true remS s

/-- REMU (R250–R252). -/
def execEvRemu (c : Fin 8) (w : Word) (s : State) : Host.Outcome State Fault Refusal :=
  divRow 0x3B c w false remU s

/-! ### Predicates and registers (R250) -/

/-- MFPR (R250): bit k takes pk, so bit 0 reads 1. -/
def execEvMfpr (c : Fin 8) (w : Word) (s : State) : Host.Outcome State Fault Refusal :=
  aluRow 0x40 c w (fun w x => setG (evRd w)
    (BitVec.ofNat 32 ((List.range 8).map (fun k => if pReg x k then 2 ^ k else 0)).sum) x) s

/-- MTPR (R250): p1–p7 from bits 7:1. -/
def execEvMtpr (c : Fin 8) (w : Word) (s : State) : Host.Outcome State Fault Refusal :=
  aluRow 0x41 c w (fun w x => { x with p := BitVec.ofNat 8 ((gReg x (evRa w)).toNat) ||| 1 }) s

/-! ### Immediates (R254) -/

/-- A row of a major opcode whose instruction changes only the context. -/
def opRow (op : Nat) (c : Fin 8) (w : Word) (f : Word → Ctx → Ctx) (s : State) : Host.Outcome State Fault Refusal :=
  .next (evRow (isOp op c.val w s) c.val w (evPure f) s)

/-- A result of g[RA] and the word into g[RD]. -/
def imm (f : Word → Word → Word) (w : Word) (x : Ctx) : Ctx := setG (evRd w) (f (gReg x (evRa w)) w) x

/-- IMM12 without sign. -/
def uimm (w : Word) : Word := BitVec.ofNat 32 (evImm12 w)

/-- ADDI (R254). -/
def execEvAddi (c : Fin 8) (w : Word) (s : State) : Host.Outcome State Fault Refusal :=
  opRow 0x01 c w (imm (fun a w => a + evSimm w)) s

/-- ANDI (R254). -/
def execEvAndi (c : Fin 8) (w : Word) (s : State) : Host.Outcome State Fault Refusal :=
  opRow 0x02 c w (imm (fun a w => a &&& uimm w)) s

/-- ORI (R254). -/
def execEvOri (c : Fin 8) (w : Word) (s : State) : Host.Outcome State Fault Refusal :=
  opRow 0x03 c w (imm (fun a w => a ||| uimm w)) s

/-- XORI (R254). -/
def execEvXori (c : Fin 8) (w : Word) (s : State) : Host.Outcome State Fault Refusal :=
  opRow 0x04 c w (imm (fun a w => a ^^^ uimm w)) s

/-- SHI (R254): KIND in IMM12[11:9], amount in IMM12[4:0]. KIND 5–7 is a reserved function (RESERVED_ENCODING). -/
def execEvShi (c : Fin 8) (w : Word) (s : State) : Host.Outcome State Fault Refusal :=
  .next (evRow (isOp 0x05 c.val w s && !evReserved w) c.val w
    (evPure (imm (fun a w => shiW (bits w.toNat 9 3) a (bits w.toNat 0 5)))) s)

/-- LUI (R254): g[RD] moves up by 17 bits and takes IMM17 below. -/
def execEvLui (c : Fin 8) (w : Word) (s : State) : Host.Outcome State Fault Refusal :=
  opRow 0x06 c w (fun w x => setG (evRd w) (gReg x (evRd w) * 0x20000 ||| BitVec.ofNat 32 (evImm17 w)) x) s

/-- MULI (R254). -/
def execEvMuli (c : Fin 8) (w : Word) (s : State) : Host.Outcome State Fault Refusal :=
  opRow 0x07 c w (imm (fun a w => a * evSimm w)) s

/-! ### Bit fields and permutation (R255, R256) -/

/-- BFX (R255). -/
def execEvBfx (c : Fin 8) (w : Word) (s : State) : Host.Outcome State Fault Refusal :=
  opRow 0x08 c w (imm (fun a w => BitVec.ofNat 32 (bfGet w a))) s

/-- BFXS (R255). -/
def execEvBfxs (c : Fin 8) (w : Word) (s : State) : Host.Outcome State Fault Refusal :=
  opRow 0x09 c w (imm (fun a w => bfGetS w a)) s

/-- BFI (R255): the other bits of g[RD] keep their values. -/
def execEvBfi (c : Fin 8) (w : Word) (s : State) : Host.Outcome State Fault Refusal :=
  opRow 0x0A c w (fun w x => setG (evRd w) (bfPut w (gReg x (evRd w)) (gReg x (evRa w))) x) s

/-- PERM (R256). -/
def execEvPerm (c : Fin 8) (w : Word) (s : State) : Host.Outcome State Fault Refusal :=
  opRow 0x11 c w (fun w x => setG (evRd w) (permW (gReg x (evRa w)) (gReg x (evRb w)) (gReg x (evRs w))) x) s

/-! ### Comparisons (R257) -/

/-- A comparison of g[RA] and g[RB] into PD. -/
def cmpRow (fn : Nat) (c : Fin 8) (w : Word) (f : Word → Word → Bool) (s : State) :
    Host.Outcome State Fault Refusal :=
  .next (evRow (isFn 0x0B fn c.val w s) c.val w
    (evPure (fun w x => setCmp w (f (gReg x (evRa w)) (gReg x (evRb w))) x)) s)

/-- A comparison of g[RA] with an immediate into PD. -/
def cmpiRow (op : Nat) (c : Fin 8) (w : Word) (f : Word → Word → Bool) (s : State) :
    Host.Outcome State Fault Refusal :=
  opRow op c w (fun w x => setCmp w (f (gReg x (evRa w)) (evSimm w)) x) s

/-- CMPEQ (R257). -/
def execEvCmpeq (c : Fin 8) (w : Word) (s : State) : Host.Outcome State Fault Refusal :=
  cmpRow 0x00 c w (fun a b => a = b) s

/-- CMPNE (R257). -/
def execEvCmpne (c : Fin 8) (w : Word) (s : State) : Host.Outcome State Fault Refusal :=
  cmpRow 0x01 c w (fun a b => a ≠ b) s

/-- CMPLT (R257), signed. -/
def execEvCmplt (c : Fin 8) (w : Word) (s : State) : Host.Outcome State Fault Refusal :=
  cmpRow 0x02 c w (fun a b => a.slt b) s

/-- CMPGE (R257), signed. -/
def execEvCmpge (c : Fin 8) (w : Word) (s : State) : Host.Outcome State Fault Refusal :=
  cmpRow 0x03 c w (fun a b => !a.slt b) s

/-- CMPLTU (R257), unsigned. -/
def execEvCmpltu (c : Fin 8) (w : Word) (s : State) : Host.Outcome State Fault Refusal :=
  cmpRow 0x04 c w (fun a b => a.ult b) s

/-- CMPGEU (R257), unsigned. -/
def execEvCmpgeu (c : Fin 8) (w : Word) (s : State) : Host.Outcome State Fault Refusal :=
  cmpRow 0x05 c w (fun a b => !a.ult b) s

/-- CMPTST (R257). -/
def execEvCmptst (c : Fin 8) (w : Word) (s : State) : Host.Outcome State Fault Refusal :=
  cmpRow 0x06 c w (fun a b => a &&& b ≠ 0) s

/-- CMPIEQ (R257). -/
def execEvCmpieq (c : Fin 8) (w : Word) (s : State) : Host.Outcome State Fault Refusal :=
  cmpiRow 0x0C c w (fun a b => a = b) s

/-- CMPINE (R257). -/
def execEvCmpine (c : Fin 8) (w : Word) (s : State) : Host.Outcome State Fault Refusal :=
  cmpiRow 0x0D c w (fun a b => a ≠ b) s

/-- CMPILT (R257), signed. -/
def execEvCmpilt (c : Fin 8) (w : Word) (s : State) : Host.Outcome State Fault Refusal :=
  cmpiRow 0x0E c w (fun a b => a.slt b) s

/-- CMPILTU (R257), unsigned against the sign-extended immediate. -/
def execEvCmpiltu (c : Fin 8) (w : Word) (s : State) : Host.Outcome State Fault Refusal :=
  cmpiRow 0x0F c w (fun a b => a.ult b) s

/-! ### Predicate operations (R258) -/

/-- Operand a of PRED. -/
def predA (w : Word) (x : Ctx) : Bool := pReg x (bits w.toNat 16 3) ^^ w.getLsbD 12
/-- Operand b of PRED. -/
def predB (w : Word) (x : Ctx) : Bool := pReg x (bits w.toNat 13 3) ^^ w.getLsbD 11

def predRow (pfn : Nat) (c : Fin 8) (w : Word) (f : Bool → Bool → Bool) (s : State) :
    Host.Outcome State Fault Refusal :=
  .next (evRow (isOp 0x10 c.val w s && evPfn w = pfn) c.val w
    (evPure (fun w x => setP (evPd w) (f (predA w x) (predB w x)) x)) s)

/-- PAND (R258). -/
def execEvPand (c : Fin 8) (w : Word) (s : State) : Host.Outcome State Fault Refusal :=
  predRow 0 c w (· && ·) s

/-- POR (R258). -/
def execEvPor (c : Fin 8) (w : Word) (s : State) : Host.Outcome State Fault Refusal :=
  predRow 1 c w (· || ·) s

/-- PXOR (R258). -/
def execEvPxor (c : Fin 8) (w : Word) (s : State) : Host.Outcome State Fault Refusal :=
  predRow 2 c w (· ^^ ·) s

/-- PMOV (R258). -/
def execEvPmov (c : Fin 8) (w : Word) (s : State) : Host.Outcome State Fault Refusal :=
  predRow 3 c w (fun a _ => a) s

end Sys2Proof.Machine
end

