-- ==== Sys2Proof/Machine/EvmenMem.lean ====
section
/-! DEFINITION. Image bits, loads, stores, the data stack and atomics (R259–R262). -/

namespace Sys2Proof.Machine

/-! ### Image bits (R259) -/

/-- Bit address of an IBIT or IBSET word: (g[RA] + BOFS + i) mod 2^23. -/
def bitAddr (e : Ev) : Nat := ((gReg e.x (evRa e.w)).toNat + evImm12 e.w + e.i) % 2 ^ 23

/-- Judges an image bit by R37 and R59 for the task in service. -/
def bitPlace (s : State) (c b : Nat) (store : Bool) : Except Trap Nat :=
  let cause := BitVec.ofNat 32 (0x20000000 + b / 8)
  match serving s c, servingDef s c with
  | some t, some d =>
    let may := if store then (outRanges d).any (fun r => inRange r b)
      else d.ranges.any (fun r => inRange r b) || decide (8 * sBase ≤ b)
    if !may then .error (0x0A, cause)
    else if laneBars s t (b / 8) store then .error (0x0B, cause)
    else .ok t
  | _, _ => .error (0x0A, cause)

/-- An IBIT word: PD from PD and the bit. -/
def ibit (f : Bool → Bool → Bool) : EvAct := fun e s =>
  match bitPlace s e.c (bitAddr e) false with
  | .error t => (s, some t)
  | .ok t =>
    let v := rdBit (run s t).view (bitAddr e)
    (setCtx e.c (setP (evPd e.w) (f (pReg e.x (evPd e.w)) v) e.x) s, none)

/-- An IBSET word: the bit from pPD; none leaves it. -/
def ibset (f : Bool → Option Bool) : EvAct := fun e s =>
  match bitPlace s e.c (bitAddr e) true with
  | .error t => (s, some t)
  | .ok t =>
    match f (pReg e.x (evPd e.w)) with
    | some v => (setRun t (fun r => { r with view := wrBit r.view (bitAddr e) v }) s, none)
    | none => (s, none)

def bitRow (op kfn : Nat) (c : Fin 8) (w : Word) (act : EvAct) (s : State) : Host.Outcome State Fault Refusal :=
  .next (evRow (isOp op c.val w s && evMode w = kfn) c.val w act s)

/-- IBLD (R259). -/
def execEvIbld (c : Fin 8) (w : Word) (s : State) : Host.Outcome State Fault Refusal :=
  bitRow 0x12 0 c w (ibit (fun _ v => v)) s

/-- IBLDN (R259). -/
def execEvIbldn (c : Fin 8) (w : Word) (s : State) : Host.Outcome State Fault Refusal :=
  bitRow 0x12 1 c w (ibit (fun _ v => !v)) s

/-- IBAND (R259). -/
def execEvIband (c : Fin 8) (w : Word) (s : State) : Host.Outcome State Fault Refusal :=
  bitRow 0x12 2 c w (ibit (fun p v => p && v)) s

/-- IBOR (R259). -/
def execEvIbor (c : Fin 8) (w : Word) (s : State) : Host.Outcome State Fault Refusal :=
  bitRow 0x12 3 c w (ibit (fun p v => p || v)) s

/-- IBST (R259). -/
def execEvIbst (c : Fin 8) (w : Word) (s : State) : Host.Outcome State Fault Refusal :=
  bitRow 0x13 0 c w (ibset some) s

/-- IBSTN (R259). -/
def execEvIbstn (c : Fin 8) (w : Word) (s : State) : Host.Outcome State Fault Refusal :=
  bitRow 0x13 1 c w (ibset (fun p => some (!p))) s

/-- IBS1 (R259): sets the bit when pPD is 1. -/
def execEvIbs1 (c : Fin 8) (w : Word) (s : State) : Host.Outcome State Fault Refusal :=
  bitRow 0x13 2 c w (ibset (fun p => if p then some true else none)) s

/-- IBS0 (R259): clears the bit when pPD is 1. -/
def execEvIbs0 (c : Fin 8) (w : Word) (s : State) : Host.Outcome State Fault Refusal :=
  bitRow 0x13 3 c w (ibset (fun p => if p then some false else none)) s

/-! ### Loads and stores (R260, R241) -/

/-- Address of an access of `n` bytes: g[RA] + OFS12 + i × n. -/
def memAddr (e : Ev) (n : Nat) : Word := gReg e.x (evRa e.w) + evSimm e.w + BitVec.ofNat 32 (e.i * n)

/-- A load of `n` bytes: `f` puts the value into the context. -/
def loadBytes (n : Nat) (f : Nat → Ctx → Ctx) : EvAct := fun e s =>
  let a := memAddr e n
  match place s e.c e.x a n false false with
  | .error t => (s, some t)
  | .ok p =>
    let (s1, v) := loadAt s e.c p a.toNat n
    (setCtx e.c (f v e.x) s1, none)

/-- A store of `n` bytes of a value. -/
def storeBytes (n : Nat) (v : Ctx → Nat) : EvAct := fun e s =>
  let a := memAddr e n
  match place s e.c e.x a n true false with
  | .error t => (s, some t)
  | .ok p => (storeAt e.c p a.toNat n (v e.x % 2 ^ (8 * n)) s, none)

def memRow (op : Nat) (c : Fin 8) (w : Word) (act : EvAct) (s : State) : Host.Outcome State Fault Refusal :=
  .next (evRow (isOp op c.val w s) c.val w act s)

/-- A value of `b` bits sign-extended into g[RD]. -/
def intoS (w : Word) (b v : Nat) (x : Ctx) : Ctx := setG (evRd w) (BitVec.ofInt 32 (toInt b v)) x
/-- A value zero-extended into g[RD]. -/
def intoU (w : Word) (v : Nat) (x : Ctx) : Ctx := setG (evRd w) (BitVec.ofNat 32 v) x

/-- LDB (R260). -/
def execEvLdb (c : Fin 8) (w : Word) (s : State) : Host.Outcome State Fault Refusal :=
  memRow 0x14 c w (loadBytes 1 (intoS w 8)) s

/-- LDBU (R260). -/
def execEvLdbu (c : Fin 8) (w : Word) (s : State) : Host.Outcome State Fault Refusal :=
  memRow 0x15 c w (loadBytes 1 (intoU w)) s

/-- LDH (R260). -/
def execEvLdh (c : Fin 8) (w : Word) (s : State) : Host.Outcome State Fault Refusal :=
  memRow 0x16 c w (loadBytes 2 (intoS w 16)) s

/-- LDHU (R260). -/
def execEvLdhu (c : Fin 8) (w : Word) (s : State) : Host.Outcome State Fault Refusal :=
  memRow 0x17 c w (loadBytes 2 (intoU w)) s

/-- LDW (R260). -/
def execEvLdw (c : Fin 8) (w : Word) (s : State) : Host.Outcome State Fault Refusal :=
  memRow 0x18 c w (loadBytes 4 (intoU w)) s

/-- LDD (R260): with RD 0 the low word is discarded and the high word goes to g1. -/
def execEvLdd (c : Fin 8) (w : Word) (s : State) : Host.Outcome State Fault Refusal :=
  memRow 0x1C c w (loadBytes 8 (setD (evRd w))) s

/-- STB (R260). -/
def execEvStb (c : Fin 8) (w : Word) (s : State) : Host.Outcome State Fault Refusal :=
  memRow 0x19 c w (storeBytes 1 (fun x => (gReg x (evRd w)).toNat)) s

/-- STH (R260). -/
def execEvSth (c : Fin 8) (w : Word) (s : State) : Host.Outcome State Fault Refusal :=
  memRow 0x1A c w (storeBytes 2 (fun x => (gReg x (evRd w)).toNat)) s

/-- STW (R260). -/
def execEvStw (c : Fin 8) (w : Word) (s : State) : Host.Outcome State Fault Refusal :=
  memRow 0x1B c w (storeBytes 4 (fun x => (gReg x (evRd w)).toNat)) s

/-- STD (R260): the low word goes to the lower address. -/
def execEvStd (c : Fin 8) (w : Word) (s : State) : Host.Outcome State Fault Refusal :=
  memRow 0x1D c w (storeBytes 8 (fun x => dReg x (evRd w))) s

/-! ### The data stack (R232, R261) -/

/-- Address of a stack access: DS + OFS12 + 4 × i. -/
def stackAddr (e : Ev) : Word := e.x.ds + evSimm e.w + BitVec.ofNat 32 (4 * e.i)

/-- A task's stack access stays within its slice (R232). -/
def offStack (x : Ctx) (a : Word) : Bool :=
  x.mode = .task ∧ (a.toNat < x.dsLo.toNat ∨ x.dsHi.toNat < a.toNat + 4)

/-- Judges a stack access (R234): a trap of the data map that has a lower priority number or, at the priority of STACK, a
lower code comes first. -/
def stackPlace (s : State) (e : Ev) (store : Bool) : Except Trap Place :=
  let a := stackAddr e
  match place s e.c e.x a 4 store false with
  | .error t => .error t
  | .ok p => if offStack e.x a then .error (0x0C, a) else .ok p

/-- LDSW (R261). -/
def loadStack : EvAct := fun e s =>
  match stackPlace s e false with
  | .error t => (s, some t)
  | .ok p =>
    let (s1, v) := loadAt s e.c p (stackAddr e).toNat 4
    (setCtx e.c (intoU e.w v e.x) s1, none)

def execEvLdsw (c : Fin 8) (w : Word) (s : State) : Host.Outcome State Fault Refusal :=
  memRow 0x20 c w loadStack s

/-- STSW (R261). -/
def storeStack : EvAct := fun e s =>
  match stackPlace s e true with
  | .error t => (s, some t)
  | .ok p => (storeAt e.c p (stackAddr e).toNat 4 (gReg e.x (evRd e.w)).toNat s, none)

def execEvStsw (c : Fin 8) (w : Word) (s : State) : Host.Outcome State Fault Refusal :=
  memRow 0x21 c w storeStack s

/-- A new DS within [DS_LO, DS_HI], or STACK in TASK mode (R232, R264). -/
def moveDs (v : Word) : EvAct := fun e s =>
  if e.x.mode = .task ∧ (v < e.x.dsLo ∨ e.x.dsHi < v) then (s, some (0x0C, v))
  else (setCtx e.c { e.x with ds := v } s, none)

/-- DSADJ (R261). -/
def execEvDsadj (c : Fin 8) (w : Word) (s : State) : Host.Outcome State Fault Refusal :=
  memRow 0x1F c w (fun e s => moveDs (e.x.ds + evSimm e.w) e s) s

/-! ### Atomics (R262, R228) -/

/-- An atomic on the word at g[RA] + 4 × i: g[RD] takes the old word, memory what `f` makes of it and g[RB]. -/
def atomic (f : Word → Word → Word) : EvAct := fun e s =>
  let a := gReg e.x (evRa e.w) + BitVec.ofNat 32 (4 * e.i)
  match place s e.c e.x a 4 true true with
  | .error t => (s, some t)
  | .ok p =>
    let old := BitVec.ofNat 32 (loadAt s e.c p a.toNat 4).2
    let s1 := storeAt e.c p a.toNat 4 (f old (gReg e.x (evRb e.w))).toNat s
    (setCtx e.c (setG (evRd e.w) old e.x) s1, none)

def amoRow (fn : Nat) (c : Fin 8) (w : Word) (act : EvAct) (s : State) : Host.Outcome State Fault Refusal :=
  .next (evRow (isFn 0x1E fn c.val w s) c.val w act s)

/-- AMOSWAP (R262). -/
def execEvAmoswap (c : Fin 8) (w : Word) (s : State) : Host.Outcome State Fault Refusal :=
  amoRow 0x00 c w (atomic (fun _ b => b)) s

/-- AMOADD (R262). -/
def execEvAmoadd (c : Fin 8) (w : Word) (s : State) : Host.Outcome State Fault Refusal :=
  amoRow 0x01 c w (atomic (· + ·)) s

end Sys2Proof.Machine
end

