-- ==== Sys2Proof/Machine/EvmenCtl.lean ====
section
/-! DEFINITION. Control transfer and system instructions (R263, R264), the repeat prefix (R240), reserved encodings (R244,
R245, R247), interrupts (R238) and the runtime's services to task code (R237, R226, R239, R416, R459, R461). -/

namespace Sys2Proof.Machine

open Reg

/-! ### Branches, calls and returns (R263, R233) -/

/-- The target of BR and CALL. -/
def branchTarget (e : Ev) : Word := BitVec.ofInt 32 ((e.x.pc.toNat + evDisp e.w) % 2 ^ 24)

/-- Moves to a target, or FETCH. -/
def jumpTo (a : Word) : EvAct := fun e s =>
  if badTarget s e.c e.x a then (s, some (5, a))
  else (setCtx e.c { e.x with pc := a } s |> traceNote e.c 2 0 a.toNat, none)

/-- Pushes PC + 4 and moves to a target; the overflow of the task's frames comes first (R233). -/
def callTo (a : Word) : EvAct := fun e s =>
  if e.x.mode = .task ∧ e.x.rs ≥ e.x.rsHi then (s, some (0x0D, e.w))
  else if badTarget s e.c e.x a then (s, some (5, a))
  else
    (setCore e.c (fun k => { k with
        rstack := put e.x.rs (e.x.pc + 4) k.rstack
        ctx := { e.x with pc := a, rs := e.x.rs + 1 } }) s |> traceNote e.c 2 0 a.toNat, none)

/-- BR. -/
def execEvBr (c : Fin 8) (w : Word) (s : State) : Host.Outcome State Fault Refusal :=
  .next (evJump (isOp 0x22 c.val w s) c.val w false (fun e s => jumpTo (branchTarget e) e s) s)

/-- CALL. -/
def execEvCall (c : Fin 8) (w : Word) (s : State) : Host.Outcome State Fault Refusal :=
  .next (evJump (isOp 0x23 c.val w s) c.val w false (fun e s => callTo (branchTarget e) e s) s)

/-- The task return (R239): RUNTIME mode with interrupts masked at the popped address; the core has returned (R70). An ABORT or
PREEMPT raised for the task that has left the core is void (DEDUCED, log entry 75). -/
def taskReturn (c : Nat) (x : Ctx) (s : State) : State :=
  let a := lookD (core s c).rstack (x.rs - 1) 0
  let s1 := setCore c (fun k => { k with
    task := none
    lines := k.lines &&& 0b1100
    ctx := { x with pc := a, rs := min (x.rs - 1) (entriesLeft k), mode := .runtime, masked := true } }) s
  match (core s c).task with
  | none => s1
  | some t => s1 |> traceNote c 1 t.val a.toNat
    |> setRun t.val (fun r => { r with coresLeft := r.coresLeft &&& ~~~(BitVec.ofNat 8 (2 ^ c)) })
    |> endCheck t.val

/-- RET (R233, R239). -/
def ret : EvAct := fun e s =>
  if e.x.mode = .task ∧ e.x.rs ≤ e.x.rsLo then (s, some (0x0E, e.w))
  else if e.x.mode = .task ∧ e.x.rs = e.x.rsLo + 1 then (taskReturn e.c e.x s, none)
  else jumpTo (lookD (core s e.c).rstack (e.x.rs - 1) 0) { e with x := { e.x with rs := e.x.rs - 1 } } s

def execEvRet (c : Fin 8) (w : Word) (s : State) : Host.Outcome State Fault Refusal :=
  .next (evJump (isFn 0x24 0x00 c.val w s) c.val w false ret s)

/-- JR. -/
def execEvJr (c : Fin 8) (w : Word) (s : State) : Host.Outcome State Fault Refusal :=
  .next (evJump (isFn 0x24 0x01 c.val w s) c.val w false (fun e s => jumpTo (gReg e.x (evRa e.w)) e s) s)

/-- CALLR. -/
def execEvCallr (c : Fin 8) (w : Word) (s : State) : Host.Outcome State Fault Refusal :=
  .next (evJump (isFn 0x24 0x02 c.val w s) c.val w false (fun e s => callTo (gReg e.x (evRa e.w)) e s) s)

/-! ### The repeat prefix (R240) -/

/-- The word behind a REP in the code store. -/
def prefixed (s : State) (x : Ctx) : Word := BitVec.ofNat 32 (ofLe (rdN s.mem.code (x.pc.toNat + 4) 4))

/-- The count that REP latches. -/
def repCount (w : Word) (x : Ctx) : Nat :=
  if w.getLsbD 21 then (gReg x (bits w.toNat 16 5)).toNat else bits w.toNat 0 16 + 1

/-- REPEAT_FORM, or ILLEGAL where the prefixed word is illegal as well (R234, R240). -/
def repForm (s : State) (c : Nat) (w : Word) : Option Trap :=
  let x := (core s c).ctx
  let n := prefixed s x
  if evNoRepeat n ∨ x.pc.toNat / 4096 ≠ (x.pc.toNat + 4) / 4096 ∨ repCount w x = 0 ∨ repCount w x > 65536 then
    some (if !evReserved n && evIllegal n then 2 else 3, n)
  else none

/-- REP; a false guard skips the prefixed instruction too. -/
def execEvRep (c : Fin 8) (w : Word) (s : State) : Host.Outcome State Fault Refusal :=
  .next (if isOp 0x25 c.val w s then
      evRun c.val w (repForm s c.val w) false
        (fun s => setCtx c.val { (core s c.val).ctx with pc := (core s c.val).ctx.pc + 8 } s)
        (fun e s => (setCtx e.c { e.x with
          rc := BitVec.ofNat 32 (repCount e.w e.x), repCount := repCount e.w e.x, rep := true, pc := e.x.pc + 4 } s, none))
        id s
    else s)

/-! ### System instructions (R264, R222) -/

/-- BREAK. -/
def execEvBreak (c : Fin 8) (w : Word) (s : State) : Host.Outcome State Fault Refusal :=
  .next (evJump (isOp 0x2D c.val w s) c.val w false (fun e s => (s, some (0x11, e.w))) s)

/-- A special register (R222). -/
def srRead (s : State) (e : Ev) : Word :=
  let x := e.x
  match evRa e.w with
  | 0 => x.pc
  | 1 => x.ds
  | 2 => x.dsLo
  | 3 => x.dsHi
  | 4 => BitVec.ofNat 32 x.rs
  | 5 => BitVec.ofNat 32 x.rsLo
  | 6 => BitVec.ofNat 32 x.rsHi
  | 7 => x.rc
  | 8 => x.stat
  | 9 => x.cause
  | 10 => x.causeWord
  | 11 => x.epc
  | 12 => (core s e.c).vbase
  | _ => BitVec.ofNat 32 e.c

/-- MFSR; SR 9–12 need RUNTIME mode (R222, R224). -/
def execEvMfsr (c : Fin 8) (w : Word) (s : State) : Host.Outcome State Fault Refusal :=
  let priv := decide ((core s c.val).ctx.mode = .task ∧ 9 ≤ evRa w ∧ evRa w ≤ 12)
  .next (if isFn 0x2B 0x00 c.val w s then
      evRun c.val w none priv (evNext c.val)
        (fun e s => (setCtx e.c (setG (evRd e.w) (srRead s e) e.x) s, none)) (evNext c.val) s
    else s)

/-- Writes a special register; DS and STAT in both modes, the others in RUNTIME mode (R222, R223, R235, R264). -/
def srWrite (v : Word) : EvAct := fun e s =>
  let x := e.x
  match evRd e.w with
  | 1 => moveDs v e s
  | 2 => (setCtx e.c { x with dsLo := v } s, none)
  | 3 => (setCtx e.c { x with dsHi := v } s, none)
  | 4 => (setCtx e.c { x with rs := v.toNat } s, none)
  | 5 => (setCtx e.c { x with rsLo := v.toNat } s, none)
  | 6 => (setCtx e.c { x with rsHi := v.toNat } s, none)
  | 7 => (setCtx e.c { x with rc := v } s, none)
  | 8 => (setCtx e.c { x with stat := v &&& statMask } s, none)
  | 9 => (setCtx e.c { x with cause := v &&& 0xE00000FF } s, none)
  | 10 => (setCtx e.c { x with causeWord := v } s, none)
  | 11 => (setCtx e.c { x with epc := v } s, none)
  | 12 => (setCore e.c (fun k => { k with vbase := v &&& 0xFFFFF800 }) s, none)
  | _ => (s, none)

/-- MTSR to PC or CORE_ID is ILLEGAL in RUNTIME mode; in TASK mode only DS and STAT may be written (R222, R224). -/
def mtsrForm (s : State) (c : Nat) (w : Word) : Option Trap :=
  if (core s c).ctx.mode = .runtime ∧ (evRd w = 0 ∨ evRd w = 13) then some (2, w) else none

/-- MTSR. -/
def execEvMtsr (c : Fin 8) (w : Word) (s : State) : Host.Outcome State Fault Refusal :=
  let priv := decide ((core s c.val).ctx.mode = .task ∧ evRd w ≠ 1 ∧ evRd w ≠ 8)
  .next (if isFn 0x2B 0x01 c.val w s then
      evRun c.val w (mtsrForm s c.val w) priv (evNext c.val)
        (fun e s => srWrite (gReg e.x (evRa e.w)) e s) (evNext c.val) s
    else s)

/-- ERET and ERETN raise PRIVILEGE in TASK mode (R224). -/
def xretRow (fn : Nat) (c : Fin 8) (w : Word) (f : Ctx → Ctx) (s : State) : Host.Outcome State Fault Refusal :=
  .next (evJump (isFn 0x2C fn c.val w s) c.val w (decide ((core s c.val).ctx.mode = .task))
    (fun e s => (setCtx e.c (f e.x) s, none)) s)

/-- ERET (R236, R242). -/
def execEvEret (c : Fin 8) (w : Word) (s : State) : Host.Outcome State Fault Refusal := xretRow 0x00 c w eret s

/-- ERETN (R236, R242). -/
def execEvEretn (c : Fin 8) (w : Word) (s : State) : Host.Outcome State Fault Refusal := xretRow 0x01 c w eretn s

/-- NOP. -/
def execEvNop (c : Fin 8) (w : Word) (s : State) : Host.Outcome State Fault Refusal :=
  .next (evRow (isFn 0x2E 0x00 c.val w s) c.val w (fun _ s => (s, none)) s)

/-- MFENCE: with stores visible in program order it only moves on. -/
def execEvMfence (c : Fin 8) (w : Word) (s : State) : Host.Outcome State Fault Refusal :=
  .next (evRow (isFn 0x2E 0x01 c.val w s) c.val w (fun _ s => (s, none)) s)

/-! ### Escape and reserved words (R227, R244, R245, R247) -/

/-- ESCAPE_SERVICE_INSTRUCTION: XOP 0x00–0x0F raise FENCE. -/
def execEvEscapeServiceInstruction (c : Fin 8) (w : Word) (s : State) : Host.Outcome State Fault Refusal :=
  .next (evJump (isOp 0x3F c.val w s && decide (evXop w < 0x10)) c.val w false (fun e s => (s, some (6, e.w))) s)

/-- RESERVED_ENCODING: UNIMPLEMENTED whatever the guard; FETCH comes first. -/
def execEvReservedEncoding (c : Fin 8) (w : Word) (s : State) : Host.Outcome State Fault Refusal :=
  .next (if issues s c.val && evReserved w then
      let s := afterStep c.val s
      let x := (core s c.val).ctx
      if !canFetch s c.val x.mode x.pc then evTrap c.val 5 x.pc false s else evTrap c.val 1 w false s
    else s)

/-! ### Interrupts (R238) -/

/-- The lowest line that is raised. -/
def lowestLine (k : Core) : Option Nat := (List.range 4).find? k.lines.getLsbD

/-- The context after the entry of an interrupt. -/
def interrupted (line : Nat) (vbase : Word) (x : Ctx) : Ctx :=
  entered (2 ^ 29 + line) (vbase.toNat + 0x600 + 64 * line) x

/-- The entry, with the line acknowledged. -/
def takeLine (c line : Nat) (s : State) : State :=
  let k := core s c
  s |> setCore c (fun k => { k with lines := k.lines &&& ~~~(BitVec.ofNat 4 (2 ^ line)),
                                    ctx := interrupted line k.vbase k.ctx })
    |> traceNote c 4 line k.ctx.pc.toNat

/-- ABORT: the core leaves the instance (R76, R82, R83). A PREEMPT for it is void; LANE_DONE and PEER stay pending (log entry 75). -/
def abortCore (c : Nat) (s : State) : State :=
  startReady (setCore c (fun k => { k with
    task := none, laneWait := false, lines := k.lines &&& 0b1100, ctx := { k.ctx with rs := leaveRs k } }) s)

/-- PREEMPT: the runtime saves the context of the suspended task (R73). -/
def saveCore (c : Nat) (s : State) : State :=
  match (core s c).task with
  | none => s
  | some t =>
    if (run s t.val).phase = .suspended then
      startReady (setCore c (fun k => { k with task := none, laneWait := false, saved := put t.val k.ctx k.saved }) s)
    else setCtx c (eret (core s c).ctx) s

/-- LANE_DONE: a core that waits in SYS service 0x0001 goes on (R239). -/
def laneDone (c : Nat) (s : State) : State :=
  let k := core s c
  let free := (k.task).elim false (fun t => (run s t.val).lanesLeft = 0)
  setCore c (fun k => { k with
    laneWait := k.laneWait && !free
    ctx := if k.laneWait && free then eretn (eret k.ctx |> fun x => { k.ctx with cause := k.ctx.cause &&& 0x7FFFFFFF, epc := x.pc })
      else eret k.ctx }) s

/-- INTERRUPT_TAKEN: the lowest raised line, while interrupts are not masked and the core is clocked (R428). -/
def execInterruptTaken (c : Fin 8) (s : State) : Host.Outcome State Fault Refusal :=
  let k := core s c.val
  .next (if power s ≠ 0 ∨ k.ctx.masked ∨ k.halted ∨ k.stopped then s
    else match lowestLine k with
      | some 0 => abortCore c.val (takeLine c.val 0 s)
      | some 1 => saveCore c.val (takeLine c.val 1 s)
      | some 2 => laneDone c.val (takeLine c.val 2 s)
      | some l => setCtx c.val (eret (core (takeLine c.val l s) c.val).ctx) (takeLine c.val l s)
      | none => s)

/-! ### Services (R237) -/

/-- Service numbers that the runtime defines. -/
def services : List Nat := [0x0001, 0x0010, 0x0020, 0x0030, 0x0031]

/-- CODE of SYS. -/
def sysCode (w : Word) : Nat := bits w.toNat 0 16

/-- The word is a SYS of the service, or of one that the runtime does not define, which every service row answers alike. -/
def isSys (n : Nat) (c : Nat) (w : Word) (s : State) : Bool :=
  isOp 0x2A c w s && (sysCode w = n || sysCode w ∉ services)

/-- A SYS row: the trap, and from TASK mode the service, which answers the state after it, or none where the request is
unresolved. -/
def sysRow (n : Nat) (c : Fin 8) (w : Word) (service : Nat → Ctx → State → Option State) (s : State) :
    Host.Outcome State Fault Refusal :=
  .next (if !isSys n c.val w s then s
    else
      let s := afterStep c.val s
      let x := (core s c.val).ctx
      match decodeTrap s c.val w none false with
      | some (code, word) => evTrap c.val code word false s
      | none =>
        if !guardHolds x w then evNext c.val s
        else
          let s1 := takeTrap c.val 0x10 w s
          if x.mode = .runtime then s1
          else match (core s c.val).task with
            | none => s1
            | some t =>
              if sysCode w ≠ n then unresolved c.val 0x10 s1
              else (service t.val (core s1 c.val).ctx s1).getD (unresolved c.val 0x10 s1))

/-- The runtime returns behind the SYS. -/
def served (c : Nat) (s : State) : State := setCtx c (eretn (core s c).ctx) s

/-- SYS_LANE_WAIT (R239): returns at once when the lanes are done, or waits unmasked for LANE_DONE. -/
def execSysLaneWait (c : Fin 8) (w : Word) (s : State) : Host.Outcome State Fault Refusal :=
  sysRow 0x0001 c w (fun t x s =>
    if (run s t).lanesLeft = 0 then some (served c.val s)
    else some (setCore c.val (fun k => { k with laneWait := true, ctx := { x with pc := x.epc, masked := false } }) s)) s

/-- The timer or counter entry that a request names: g3 the index, g4 0 for a timer and 1 for a counter (log entry 17). -/
def entryAsked (t : Nat) (x : Ctx) (s : State) : Option (List Byte) :=
  let i := (gReg x 3).toNat
  let owns := fun (m : SMap TcDecl) => (look m i).elim false (fun d => d.task.val = t)
  if gReg x 4 = 0 ∧ owns s.prog.cur.timers then some (timerBytes s i)
  else if gReg x 4 = 1 ∧ owns s.prog.cur.counters then some (counterBytes s i)
  else none

/-- SYS_TIMER_COUNTER_READ (R226): the four words of the entry in g4–g7; an index of another task is unresolved. -/
def execSysTimerCounterRead (c : Fin 8) (w : Word) (s : State) : Host.Outcome State Fault Refusal :=
  sysRow 0x0010 c w (fun t x s => (entryAsked t x s).map fun b =>
    let y := (List.range 4).foldl (fun y k => setG (4 + k) (BitVec.ofNat 32 (leAt b (4 * k) 4)) y) x
    setCtx c.val (eretn y) s) s

/-- ROLL_CALL_CHECK_IN (R416): task and SYNC_CYCLE of the instance's S area. -/
def checkIn (t : Nat) (s : State) : State :=
  { s with sup.checkIns := s.sup.checkIns ++ [(t, ofLe (rdN (run s t).view (sBase + 0x10) 8))] }

def execRollCallCheckIn (c : Fin 8) (w : Word) (s : State) : Host.Outcome State Fault Refusal :=
  sysRow 0x0020 c w (fun t _ s => some (served c.val (checkIn t s))) s

/-- SYS_APPLICATION_EVENT (R461, R462): code in g3, PARAM_A in g4; a code outside 0x200–0x3FF is rejected. -/
def appEvent (x : Ctx) (s : State) : State :=
  let code := (gReg x 3).toNat
  if 0x200 ≤ code ∧ code < 0x400 then occur 13 code (gReg x 4).toNat 0 s else raise REC_EVENTS_APP_REJ s

def execSysApplicationEvent (c : Fin 8) (w : Word) (s : State) : Host.Outcome State Fault Refusal :=
  sysRow 0x0030 c w (fun _ x s => some (served c.val (appEvent x s))) s

/-- SYS_APPLICATION_METRIC (R459, R460): number in g3, signed value in g4; a disabled metric or a number outside 128–255
is discarded. -/
def appMetric (x : Ctx) (s : State) : State :=
  let m := (gReg x 3).toNat
  if 128 ≤ m ∧ m < 256 ∧ fbit s (REC_METRIC_CFG_EN m) then measure m (gReg x 4).toInt s
  else raise REC_EVENTS_APP_REJ s

def execSysApplicationMetric (c : Fin 8) (w : Word) (s : State) : Host.Outcome State Fault Refusal :=
  sysRow 0x0031 c w (fun _ x s => some (served c.val (appMetric x s))) s

end Sys2Proof.Machine
end

