-- ==== Sys2Proof/Machine/Float.lean ====
section
/-! DEFINITION. Floating point on bit patterns (R265–R268): exact arithmetic on naturals, rounded once to nearest even,
with the flags OV, DZ and NX of R223 as a number (1, 2, 4). -/

namespace Sys2Proof.Machine

/-- A binary format: exponent and fraction bits. -/
structure Fmt where
  e : Nat
  m : Nat
  deriving DecidableEq, Repr

def f32 : Fmt := ⟨8, 23⟩
def f64 : Fmt := ⟨11, 52⟩

namespace Fmt

/-- Total bits. -/
def size (f : Fmt) : Nat := f.e + f.m + 1
/-- Bit pattern of +∞. -/
def inf (f : Fmt) : Nat := (2 ^ f.e - 1) * 2 ^ f.m
/-- The canonical quiet NaN (R265). -/
def nan (f : Fmt) : Nat := f.inf + 2 ^ (f.m - 1)
/-- Exponent of the last place of a subnormal. -/
def low (f : Fmt) : Int := 2 - (2 : Int) ^ (f.e - 1) - f.m
/-- The sign bit as a number. -/
def signBit (f : Fmt) (b : Bool) : Nat := if b then 2 ^ (f.e + f.m) else 0

end Fmt

/-- Sign, exponent field and fraction of a pattern. -/
def fsign (f : Fmt) (v : Nat) : Bool := v.testBit (f.e + f.m)
def fexp (f : Fmt) (v : Nat) : Nat := bits v f.m f.e
def ffrac (f : Fmt) (v : Nat) : Nat := bits v 0 f.m
def fmag (f : Fmt) (v : Nat) : Nat := bits v 0 (f.e + f.m)

def isNan (f : Fmt) (v : Nat) : Bool := fmag f v > f.inf
def isSnan (f : Fmt) (v : Nat) : Bool := isNan f v && !v.testBit (f.m - 1)
def isInf (f : Fmt) (v : Nat) : Bool := fmag f v = f.inf
def isZero (f : Fmt) (v : Nat) : Bool := fmag f v = 0
def isSub (f : Fmt) (v : Nat) : Bool := fexp f v = 0 ∧ ffrac f v ≠ 0

/-- The operand as read: with FTZ a subnormal is a zero of its sign (R265). -/
def operand (f : Fmt) (z : Bool) (v : Nat) : Nat := if z && isSub f v then f.signBit (fsign f v) else v % 2 ^ f.size

/-- Significand of a finite pattern. -/
def fsig (f : Fmt) (v : Nat) : Nat := if fexp f v = 0 then ffrac f v else 2 ^ f.m + ffrac f v

/-- Exponent of the last place of a finite pattern. -/
def flast (f : Fmt) (v : Nat) : Int := f.low + (max (fexp f v) 1 - 1 : Nat)

/-- A result: pattern and flags. -/
abbrev FRes := Nat × Nat

/-- Rounds `n × 2^e`, increased by less than one unit of its last place when `sticky`, to nearest even (R265). With
FTZ a subnormal result becomes a zero of its sign and sets NX. -/
def fround (f : Fmt) (z neg : Bool) (n : Nat) (e : Int) (sticky : Bool) : FRes :=
  if n = 0 ∧ !sticky then (f.signBit neg, 0)
  else
    let len : Int := if n = 0 then 0 else Nat.log2 n + 1
    let q := max (e + len - (f.m + 1)) f.low
    let sh := (q - e).toNat
    let exact := n * 2 ^ (e - q).toNat
    let keep := exact / 2 ^ sh
    let rest := exact % 2 ^ sh
    let half := 2 ^ sh / 2
    let up := decide (sh ≠ 0) && (decide (rest > half) || (decide (rest = half) && (sticky || keep % 2 = 1)))
    let r := (q - f.low).toNat * 2 ^ f.m + keep + (if up then 1 else 0)
    if r ≥ f.inf then (f.signBit neg + f.inf, 5)
    else if z ∧ r < 2 ^ f.m ∧ r ≠ 0 then (f.signBit neg, 4)
    else (f.signBit neg + r, if rest ≠ 0 ∨ sticky then 4 else 0)

/-- NaN and OV when an operand is a NaN: OV only for a signalling one (R265). -/
def nan2 (f : Fmt) (a b : Nat) : Option FRes :=
  if isSnan f a ∨ isSnan f b then some (f.nan, 1) else if isNan f a ∨ isNan f b then some (f.nan, 0) else none

/-- FADD on operands as read. -/
def faddBits (f : Fmt) (z : Bool) (a b : Nat) : FRes :=
  match nan2 f a b with
  | some r => r
  | none =>
    if isInf f a then (if isInf f b ∧ fsign f a ≠ fsign f b then (f.nan, 1) else (a, 0))
    else if isInf f b then (b, 0)
    else
      let e := min (flast f a) (flast f b)
      let part := fun v => (if fsign f v then -1 else 1) * ((fsig f v * 2 ^ (flast f v - e).toNat : Nat) : Int)
      let sum := part a + part b
      if sum = 0 then (f.signBit (fsign f a && fsign f b), 0)
      else fround f z (decide (sum < 0)) sum.natAbs e false

/-- A pattern with the other sign. -/
def fneg (f : Fmt) (v : Nat) : Nat := v ^^^ 2 ^ (f.e + f.m)

/-- FSUB. -/
def fsubBits (f : Fmt) (z : Bool) (a b : Nat) : FRes :=
  match nan2 f a b with
  | some r => r
  | none => faddBits f z a (fneg f b)

/-- FMUL. -/
def fmulBits (f : Fmt) (z : Bool) (a b : Nat) : FRes :=
  let neg := fsign f a != fsign f b
  match nan2 f a b with
  | some r => r
  | none =>
    if isInf f a ∨ isInf f b then
      if isZero f a ∨ isZero f b then (f.nan, 1) else (f.signBit neg + f.inf, 0)
    else fround f z neg (fsig f a * fsig f b) (flast f a + flast f b) false

/-- FDIV (R266). -/
def fdivBits (f : Fmt) (z : Bool) (a b : Nat) : FRes :=
  let neg := fsign f a != fsign f b
  match nan2 f a b with
  | some r => r
  | none =>
    if isInf f a then (if isInf f b then (f.nan, 1) else (f.signBit neg + f.inf, 0))
    else if isInf f b then (f.signBit neg, 0)
    else if isZero f b then (if isZero f a then (f.nan, 1) else (f.signBit neg + f.inf, 2))
    else
      let k := 2 * f.m + 6
      let n := fsig f a * 2 ^ k
      fround f z neg (n / fsig f b) (flast f a - flast f b - k) (decide (n % fsig f b ≠ 0))

/-- The integer square root, bit by bit from bit `n`. -/
def isqrt (x : Nat) : Nat → Nat → Nat
  | 0, r => r
  | n + 1, r => isqrt x n (if (r + 2 ^ n) * (r + 2 ^ n) ≤ x then r + 2 ^ n else r)

/-- FSQRT (R266). -/
def fsqrtBits (f : Fmt) (z : Bool) (a : Nat) : FRes :=
  match nan2 f a a with
  | some r => r
  | none =>
    if isZero f a then (a, 0)
    else if fsign f a then (f.nan, 1)
    else if isInf f a then (a, 0)
    else
      let odd := if flast f a % 2 = 0 then 0 else 1
      let k := f.m + 4
      let n := fsig f a * 2 ^ (odd + 2 * k)
      let r := isqrt n (f.m + k + 4) 0
      fround f z false r ((flast f a - odd) / 2 - k) (decide (r * r ≠ n))

/-- The order of FMIN and FMAX: −0 below +0 (R266). -/
def fkey (f : Fmt) (v : Nat) : Int := if fsign f v then -(fmag f v : Int) - 1 else fmag f v

/-- FMIN and FMAX: the number when one operand is a quiet NaN, the canonical NaN for two or for a signalling one. -/
def fpick (f : Fmt) (max_ : Bool) (a b : Nat) : FRes :=
  if isSnan f a ∨ isSnan f b then (f.nan, 1)
  else if isNan f a ∧ isNan f b then (f.nan, 0)
  else if isNan f a then (b, 0)
  else if isNan f b then (a, 0)
  else (if (fkey f a ≤ fkey f b) != max_ then a else b, 0)

/-! ### Comparisons (R267) -/

/-- The numeric order: +0 and −0 are equal. -/
def fnum (f : Fmt) (v : Nat) : Int := if fsign f v then -(fmag f v : Int) else fmag f v

/-- A comparison: false with a NaN, OV for a signalling NaN, or for any NaN when not `quiet`. -/
def fcmpBits (f : Fmt) (quiet : Bool) (r : Int → Int → Bool) (a b : Nat) : Bool × Nat :=
  let anyNan := isNan f a || isNan f b
  let snan := isSnan f a || isSnan f b
  (!anyNan && r (fnum f a) (fnum f b), if snan ∨ (anyNan ∧ !quiet) then 1 else 0)

/-- Unordered. -/
def funBits (f : Fmt) (a b : Nat) : Bool × Nat :=
  (isNan f a || isNan f b, if isSnan f a ∨ isSnan f b then 1 else 0)

/-! ### Conversions (R268) -/

/-- An integer to a format. -/
def ofIntBits (f : Fmt) (z : Bool) (i : Int) : FRes := fround f z (decide (i < 0)) i.natAbs 0 false

/-- The magnitude of a finite pattern as an integer, toward zero or to nearest even, and whether it is exact. -/
def magInt (f : Fmt) (nearest : Bool) (v : Nat) : Nat × Bool :=
  let e := flast f v
  if e ≥ 0 then (fsig f v * 2 ^ e.toNat, true)
  else
    let d := 2 ^ (-e).toNat
    let q := fsig f v / d
    let r := fsig f v % d
    let up := nearest && (decide (2 * r > d) || (decide (2 * r = d) && decide (q % 2 = 1)))
    (q + (if up then 1 else 0), r = 0)

/-- A conversion to an integer of 32 bits, saturating (R268). -/
def toIntBits (f : Fmt) (signed nearest : Bool) (v : Nat) : FRes :=
  let lo : Int := if signed then -(2 : Int) ^ 31 else 0
  let hi : Int := if signed then 2 ^ 31 - 1 else 2 ^ 32 - 1
  if isNan f v then (0, 1)
  else
    let (n, exact) := if isInf f v then (2 ^ 40, true) else magInt f nearest v
    let i : Int := if fsign f v then -(n : Int) else n
    if i > hi then (ofInt 32 hi, 1)
    else if i < lo then (ofInt 32 lo, 1)
    else (ofInt 32 i, if exact then 0 else 4)

/-- A conversion between formats. -/
def convBits (g f : Fmt) (z : Bool) (v : Nat) : FRes :=
  match nan2 g v v with
  | some (_, fl) => (f.nan, fl)
  | none =>
    if isInf g v then (f.signBit (fsign g v) + f.inf, 0)
    else fround f z (fsign g v) (fsig g v) (flast g v) false

end Sys2Proof.Machine
end

