-- ==== Sys2Proof/Machine/EvmenFp.lean ====
section
/-! DEFINITION. The floating-point instructions (R265–R268). -/

namespace Sys2Proof.Machine

/-- Flags of a floating-point result. -/
def setFlags (fl : Nat) (x : Ctx) : Ctx := { x with stat := x.stat ||| BitVec.ofNat 32 fl }

/-- The value of a register field in a format: one register, or a pair. -/
def fReg (f : Fmt) (x : Ctx) (n : Nat) : Nat := if f = f64 then dReg x n else (gReg x n).toNat

/-- An operand of a register field, as FTZ reads it. -/
def fOp (f : Fmt) (x : Ctx) (n : Nat) : Nat := operand f (ftz x) (fReg f x n)

/-- Writes a register field in a format. -/
def setF (f : Fmt) (n v : Nat) (x : Ctx) : Ctx := if f = f64 then setD n v x else setG n (BitVec.ofNat 32 v) x

/-- An operation on RA and RB into RD. -/
def fpOp (f : Fmt) (op : Fmt → Bool → Nat → Nat → FRes) (w : Word) (x : Ctx) : Ctx :=
  let r := op f (ftz x) (fOp f x (evRa w)) (fOp f x (evRb w))
  setFlags r.2 (setF f (evRd w) r.1 x)

/-- An operation on the bits of RA that FTZ does not touch (FABS, FNEG). -/
def fpBits (f : Fmt) (op : Nat → Nat) (w : Word) (x : Ctx) : Ctx := setF f (evRd w) (op (fReg f x (evRa w))) x

def fpRow (op fn : Nat) (c : Fin 8) (w : Word) (f : Word → Ctx → Ctx) (s : State) : Host.Outcome State Fault Refusal :=
  .next (evRow (isFn op fn c.val w s) c.val w (evPure f) s)

/-! ### binary32 arithmetic (R266) -/

/-- FADD. -/
def execEvFp32Fadd (c : Fin 8) (w : Word) (s : State) : Host.Outcome State Fault Refusal :=
  fpRow 0x26 0x00 c w (fpOp f32 faddBits) s

/-- FSUB. -/
def execEvFp32Fsub (c : Fin 8) (w : Word) (s : State) : Host.Outcome State Fault Refusal :=
  fpRow 0x26 0x01 c w (fpOp f32 fsubBits) s

/-- FMUL. -/
def execEvFp32Fmul (c : Fin 8) (w : Word) (s : State) : Host.Outcome State Fault Refusal :=
  fpRow 0x26 0x02 c w (fpOp f32 fmulBits) s

/-- FDIV. -/
def execEvFp32Fdiv (c : Fin 8) (w : Word) (s : State) : Host.Outcome State Fault Refusal :=
  fpRow 0x26 0x03 c w (fpOp f32 fdivBits) s

/-- FSQRT. -/
def execEvFp32Fsqrt (c : Fin 8) (w : Word) (s : State) : Host.Outcome State Fault Refusal :=
  fpRow 0x26 0x04 c w (fpOp f32 (fun f z a _ => fsqrtBits f z a)) s

/-- FMIN. -/
def execEvFp32Fmin (c : Fin 8) (w : Word) (s : State) : Host.Outcome State Fault Refusal :=
  fpRow 0x26 0x05 c w (fpOp f32 (fun f _ => fpick f false)) s

/-- FMAX. -/
def execEvFp32Fmax (c : Fin 8) (w : Word) (s : State) : Host.Outcome State Fault Refusal :=
  fpRow 0x26 0x06 c w (fpOp f32 (fun f _ => fpick f true)) s

/-- FABS. -/
def execEvFp32Fabs (c : Fin 8) (w : Word) (s : State) : Host.Outcome State Fault Refusal :=
  fpRow 0x26 0x07 c w (fpBits f32 (fmag f32)) s

/-- FNEG. -/
def execEvFp32Fneg (c : Fin 8) (w : Word) (s : State) : Host.Outcome State Fault Refusal :=
  fpRow 0x26 0x08 c w (fpBits f32 (fneg f32)) s

/-! ### binary64 arithmetic (R266) -/

/-- FADD. -/
def execEvFp64Fadd (c : Fin 8) (w : Word) (s : State) : Host.Outcome State Fault Refusal :=
  fpRow 0x27 0x00 c w (fpOp f64 faddBits) s

/-- FSUB. -/
def execEvFp64Fsub (c : Fin 8) (w : Word) (s : State) : Host.Outcome State Fault Refusal :=
  fpRow 0x27 0x01 c w (fpOp f64 fsubBits) s

/-- FMUL. -/
def execEvFp64Fmul (c : Fin 8) (w : Word) (s : State) : Host.Outcome State Fault Refusal :=
  fpRow 0x27 0x02 c w (fpOp f64 fmulBits) s

/-- FDIV. -/
def execEvFp64Fdiv (c : Fin 8) (w : Word) (s : State) : Host.Outcome State Fault Refusal :=
  fpRow 0x27 0x03 c w (fpOp f64 fdivBits) s

/-- FSQRT. -/
def execEvFp64Fsqrt (c : Fin 8) (w : Word) (s : State) : Host.Outcome State Fault Refusal :=
  fpRow 0x27 0x04 c w (fpOp f64 (fun f z a _ => fsqrtBits f z a)) s

/-- FMIN. -/
def execEvFp64Fmin (c : Fin 8) (w : Word) (s : State) : Host.Outcome State Fault Refusal :=
  fpRow 0x27 0x05 c w (fpOp f64 (fun f _ => fpick f false)) s

/-- FMAX. -/
def execEvFp64Fmax (c : Fin 8) (w : Word) (s : State) : Host.Outcome State Fault Refusal :=
  fpRow 0x27 0x06 c w (fpOp f64 (fun f _ => fpick f true)) s

/-- FABS. -/
def execEvFp64Fabs (c : Fin 8) (w : Word) (s : State) : Host.Outcome State Fault Refusal :=
  fpRow 0x27 0x07 c w (fpBits f64 (fmag f64)) s

/-- FNEG. -/
def execEvFp64Fneg (c : Fin 8) (w : Word) (s : State) : Host.Outcome State Fault Refusal :=
  fpRow 0x27 0x08 c w (fpBits f64 (fneg f64)) s

/-! ### Comparisons (R267) -/

/-- A comparison of RA and RB into PD. -/
def fpCmp (f : Fmt) (op : Fmt → Nat → Nat → Bool × Nat) (w : Word) (x : Ctx) : Ctx :=
  let r := op f (fOp f x (evRa w)) (fOp f x (evRb w))
  setFlags r.2 (setCmp w r.1 x)

/-- FEQS, quiet. -/
def execEvFeqs (c : Fin 8) (w : Word) (s : State) : Host.Outcome State Fault Refusal :=
  fpRow 0x28 0x00 c w (fpCmp f32 (fun f => fcmpBits f true (fun a b => a = b))) s

/-- FLTS, OV for any NaN. -/
def execEvFlts (c : Fin 8) (w : Word) (s : State) : Host.Outcome State Fault Refusal :=
  fpRow 0x28 0x01 c w (fpCmp f32 (fun f => fcmpBits f false (fun a b => a < b))) s

/-- FLES, OV for any NaN. -/
def execEvFles (c : Fin 8) (w : Word) (s : State) : Host.Outcome State Fault Refusal :=
  fpRow 0x28 0x02 c w (fpCmp f32 (fun f => fcmpBits f false (fun a b => a ≤ b))) s

/-- FUNS, quiet. -/
def execEvFuns (c : Fin 8) (w : Word) (s : State) : Host.Outcome State Fault Refusal :=
  fpRow 0x28 0x03 c w (fpCmp f32 funBits) s

/-- FEQD, quiet. -/
def execEvFeqd (c : Fin 8) (w : Word) (s : State) : Host.Outcome State Fault Refusal :=
  fpRow 0x28 0x10 c w (fpCmp f64 (fun f => fcmpBits f true (fun a b => a = b))) s

/-- FLTD, OV for any NaN. -/
def execEvFltd (c : Fin 8) (w : Word) (s : State) : Host.Outcome State Fault Refusal :=
  fpRow 0x28 0x11 c w (fpCmp f64 (fun f => fcmpBits f false (fun a b => a < b))) s

/-- FLED, OV for any NaN. -/
def execEvFled (c : Fin 8) (w : Word) (s : State) : Host.Outcome State Fault Refusal :=
  fpRow 0x28 0x12 c w (fpCmp f64 (fun f => fcmpBits f false (fun a b => a ≤ b))) s

/-- FUND, quiet. -/
def execEvFund (c : Fin 8) (w : Word) (s : State) : Host.Outcome State Fault Refusal :=
  fpRow 0x28 0x13 c w (fpCmp f64 funBits) s

/-! ### Conversions (R268) -/

/-- A signed or unsigned integer in g[RA] into a format. -/
def intTo (f : Fmt) (v : Word → Int) (w : Word) (x : Ctx) : Ctx :=
  let r := ofIntBits f (ftz x) (v (gReg x (evRa w)))
  setFlags r.2 (setF f (evRd w) r.1 x)

/-- A format into an integer in g[RD]. -/
def toWord (f : Fmt) (signed nearest : Bool) (w : Word) (x : Ctx) : Ctx :=
  let r := toIntBits f signed nearest (fOp f x (evRa w))
  setFlags r.2 (setG (evRd w) (BitVec.ofNat 32 r.1) x)

/-- One format into the other. -/
def convert (g f : Fmt) (w : Word) (x : Ctx) : Ctx :=
  let r := convBits g f (ftz x) (fOp g x (evRa w))
  setFlags r.2 (setF f (evRd w) r.1 x)

/-- SFW. -/
def execEvSfw (c : Fin 8) (w : Word) (s : State) : Host.Outcome State Fault Refusal :=
  fpRow 0x29 0x00 c w (intTo f32 (fun v => v.toInt)) s

/-- SFWU. -/
def execEvSfwu (c : Fin 8) (w : Word) (s : State) : Host.Outcome State Fault Refusal :=
  fpRow 0x29 0x01 c w (intTo f32 (fun v => (v.toNat : Int))) s

/-- WFS. -/
def execEvWfs (c : Fin 8) (w : Word) (s : State) : Host.Outcome State Fault Refusal :=
  fpRow 0x29 0x02 c w (toWord f32 true false) s

/-- WUFS. -/
def execEvWufs (c : Fin 8) (w : Word) (s : State) : Host.Outcome State Fault Refusal :=
  fpRow 0x29 0x03 c w (toWord f32 false false) s

/-- WFSR. -/
def execEvWfsr (c : Fin 8) (w : Word) (s : State) : Host.Outcome State Fault Refusal :=
  fpRow 0x29 0x04 c w (toWord f32 true true) s

/-- DFW. -/
def execEvDfw (c : Fin 8) (w : Word) (s : State) : Host.Outcome State Fault Refusal :=
  fpRow 0x29 0x08 c w (intTo f64 (fun v => v.toInt)) s

/-- DFWU. -/
def execEvDfwu (c : Fin 8) (w : Word) (s : State) : Host.Outcome State Fault Refusal :=
  fpRow 0x29 0x09 c w (intTo f64 (fun v => (v.toNat : Int))) s

/-- WFD. -/
def execEvWfd (c : Fin 8) (w : Word) (s : State) : Host.Outcome State Fault Refusal :=
  fpRow 0x29 0x0A c w (toWord f64 true false) s

/-- WUFD. -/
def execEvWufd (c : Fin 8) (w : Word) (s : State) : Host.Outcome State Fault Refusal :=
  fpRow 0x29 0x0B c w (toWord f64 false false) s

/-- WFDR. -/
def execEvWfdr (c : Fin 8) (w : Word) (s : State) : Host.Outcome State Fault Refusal :=
  fpRow 0x29 0x0C c w (toWord f64 true true) s

/-- DFS. -/
def execEvDfs (c : Fin 8) (w : Word) (s : State) : Host.Outcome State Fault Refusal :=
  fpRow 0x29 0x10 c w (convert f32 f64) s

/-- SFD. -/
def execEvSfd (c : Fin 8) (w : Word) (s : State) : Host.Outcome State Fault Refusal :=
  fpRow 0x29 0x11 c w (convert f64 f32) s

end Sys2Proof.Machine
end

