-- ==== Sys2Proof/Machine/Supervise.lean ====
section
/-! DEFINITION. Roll call (R415–R417), the system watchdog (R418–R422) and memory errors (R424). -/

namespace Sys2Proof.Machine

open Reg

/-! ### Roll call -/

/-- A change of a set takes over at the start of the window from which it is in force (R415). -/
def takeChange (k : Nat) (s : State) : State :=
  let (w, _, en) := lookD s.sup.inForce k (1, 0, false)
  match s.sup.rcChanged.find? (fun x => x.1 = k) with
  | none => s
  | some x =>
    let from_ := x.2.1
    let w1 := max 1 x.2.2.1
    if from_ ≤ lookD s.sup.nextWin k 0 * w ∨ (!en ∧ from_ ≤ cycleNow s) then
      { s with
        sup.rcChanged := s.sup.rcChanged.erase x
        sup.inForce := put k x.2.2 s.sup.inForce
        sup.nextWin := put k ((from_ + w1 - 1) / w1) s.sup.nextWin }
    else s

/-- Check-ins of a task in the cycles of a window (R416). -/
def checkInsIn (s : State) (t lo hi : Nat) : Nat :=
  (s.sup.checkIns.filter (fun c => c.1 = t ∧ lo ≤ c.2 ∧ c.2 < hi)).length

/-- An instance of a member released in the cycles of a window has not ended. -/
def windowOpen (s : State) (mask lo hi : Nat) : Bool :=
  (setBits 32 mask).any fun t =>
    ((run s t).phase ≠ .idle || (run s t).committing.isSome) && decide (lo ≤ (run s t).cycle ∧ (run s t).cycle < hi)

/-- Check-ins that no set needs any more are dropped, a set that is still to come into force among them. -/
def dropCheckIns (s : State) : State :=
  let starts := (List.range 4).filterMap (fun k =>
    match look s.sup.inForce k with
    | some (w, _, true) => some (lookD s.sup.nextWin k 0 * w)
    | _ => none)
  let coming := s.sup.rcChanged.filterMap (fun (_, from_, _, _, en) => if en then some from_ else none)
  { s with sup.checkIns := s.sup.checkIns.filter (fun c => (starts ++ coming).any (· ≤ c.2)) }

/-- The verdict on a window (R417). -/
def judgeWindow (k mask lo hi : Nat) (s : State) : State :=
  let members := setBits 32 mask
  let missing := members.filter (fun t => checkInsIn s t lo hi = 0)
  let double := members.filter (fun t => checkInsIn s t lo hi ≥ 2)
  let s1 := bumpWrap (WDG_RC_STAT_WINDOWS k) 1 s
  let s2 := forEach double s1 (fun t s => log 9 .doubleCheckIn t k s)
  let s3 := match double with
    | t :: _ => s2 |> raise WDG_EVENTS_DOUBLE |> fput (WDG_RC_STAT_DOUBLE_TASK k) t
    | [] => s2
  match missing with
  | t :: _ => s3 |> raise WDG_EVENTS_ROLLCALL |> fput (WDG_RC_STAT_MISS_TASK k) t |> programFault 4 t
  | [] => s3

/-- ROLL_CALL_EVALUATION: the next window of a set, when its cycles and its members' instances have ended, at the latest at
the end of the window after it. -/
def execRollCallEvaluation (k : Fin 4) (s : State) : Host.Outcome State Fault Refusal :=
  .next (if ctl s ≠ 3 then s
    else
      let s1 := takeChange k.val s
      match look s1.sup.inForce k.val with
      | some (w, mask, true) =>
        let n := lookD s1.sup.nextWin k.val 0
        let s2 := toBoundary ((n + 1) * w) s1
        let s3 := if windowOpen s2 mask (n * w) ((n + 1) * w) then toBoundary ((n + 2) * w) s2 else s2
        dropCheckIns (judgeWindow k.val mask (n * w) ((n + 1) * w) { s3 with sup.nextWin := put k.val (n + 1) s3.sup.nextWin })
      | _ => s1)

/-! ### The system watchdog -/

/-- A bound of WDG_WINDOW in force, in sixteenths of a ns. -/
def windowTime (n : Nat) : Nat := n * 1600000

/-- The watchdog does not count (R421). -/
def watchIdle (s : State) : Bool := watchSuspended s || s.sup.suspAt.isSome

/-- T_close has passed: a WARNING, or a watchdog reset after one (R419, R422). -/
def closeExpiry (s : State) : State :=
  let s1 := advance (s.sup.ref + s.sup.notCounted + windowTime s.sup.tClose) s
  if fbit s1 WDG_STATUS_WARNING then coldReset 4 s1 else warning 1 s1

/-- WATCHDOG_CLOSE_EXPIRY. -/
def execWatchdogCloseExpiry (s : State) : Host.Outcome State Fault Refusal :=
  .next (if watchIdle s then s else closeExpiry s)

/-- A valid serve: the new reference, and the window of the registers is in force (R418, R419). -/
def validServe (s : State) : State :=
  let s1 := newReference s |> fput WDG_SERVE_TIME_TIME (nsNow s) |> fput WDG_STATUS_WARNING 0
  { s1 with sup.tOpen := fget s WDG_WINDOW_T_OPEN, sup.tClose := fget s WDG_WINDOW_T_CLOSE }

/-- A serve before T_close. -/
def timelyServe (s : State) : State :=
  if elapsedAt s s.now ≥ windowTime s.sup.tOpen then validServe s
  else if fbit s WDG_STATUS_WARNING then coldReset 4 s
  else raise WDG_EVENTS_EARLY (warning 2 s)

/-- A serve at a time: one that comes when T_close has passed finds the WARNING or the reset of that instant, and one exactly
then has no further effect. -/
def serve (at_ : Nat) (s : State) : State :=
  let late := fun (s : State) => decide (elapsedAt s (max s.now at_) ≥ windowTime s.sup.tClose)
  if !late s then timelyServe (advance at_ s)
  else
    let s1 := closeExpiry s
    if watchIdle s1 ∨ s1.now ≥ at_ then s1
    else if late s1 then closeExpiry s1
    else timelyServe (advance at_ s1)

/-- The service firmware runs and can serve: not during a boot, in DORMANT or without a reference clock. -/
def servable (s : State) : Bool := decide (boot s = 4) && decide (power s < 3) && !s.sup.clockLost

/-- WATCHDOG_SERVE, judged by the elapsed time at its arrival, in a suspension too (R419, R421); after a forced WARNING the
module ignores every serve (R422). -/
def execWatchdogServe (at_ : Nat) (s : State) : Host.Outcome State Fault Refusal :=
  .next (if !servable s ∨ fbit s WDG_STATUS_FORCED then s else serve at_ s)

/-! ### Memory errors (R424) -/

/-- The core or lane stops at the access. -/
def stopAgent : Option Agent → State → State
  | none, s => s
  | some (.core c), s => setCore c.val (fun k => { k with stopped := true }) s
  | some (.service n), s => setCore (8 + n.val) (fun k => { k with stopped := true }) s
  | some (.lane l), s => setLane l.val (fun k => { k with stopped := true }) s
  | some .boot, s => s

/-- An error outside the reads of a boot. -/
def memoryError (mem off : Nat) (who : Option Agent) (s : State) : State :=
  s |> stopAgent who |> raise SYS_EVENTS_UE |> bump SYS_ECC_UE 1 |> fput SYS_STAT_UE_SEEN 1
    |> fput SYS_UE_ADDR_MEM mem |> fput SYS_UE_ADDR_OFFSET (off / 8) |> interrupt 128 |> forceWarning 3

/-- UNCORRECTABLE_ERROR in memory 1–8 of SYS_UE_ADDR at a byte offset; a boot that reads the window or the firmware region
fails, and in VERIFYING the component that the read belonged to is free (R382). -/
def execUncorrectableError (mem off : Nat) (who : Option Agent) (s : State) : Host.Outcome State Fault Refusal :=
  .next (if mem = 8 ∧ who = some .boot ∧ boot s = 2 then
      let (s1, k) := fresh s
      failBoot 12 (1 + Config.freeNat k % 4) s1
    else if mem = 8 ∧ who = some .boot ∧ boot s = 3 then failBoot (if s.boot.started ≥ 2 then 15 else 14) (s.boot.started + 1) s
    else memoryError mem off who s)

/-- CORRECTABLE_ERROR. -/
def execCorrectableError (s : State) : Host.Outcome State Fault Refusal :=
  .next (s |> bump SYS_ECC_CE 1 |> raise SYS_EVENTS_CE)

end Sys2Proof.Machine
end

