-- ==== Sys2Proof/Machine/Power.lean ====
section
/-! DEFINITION. Power states (R428–R434), the sag governor (R435, R436), hold-up (R437), the power commands (R438), and the ends
of page writes and consolidations, which a reset or a DORMANT entry may wait for (R384, R432, R445, R465). -/

namespace Sys2Proof.Machine

open Reg

/-! ### Refusers (R430, R431) -/

/-- A ring other than ring 0 holds an outstanding entry (R318), in ERROR too. -/
def ringPending (s : State) (r : Nat) : Bool :=
  (ringKind s r = 0 || ringKind s r = 5) && (ringState s r = 1 || ringState s r = 2)
    && (fget s (HIF_RING_STATUS_SQ_HEAD r) != (ring s r).sqTail || !(ring s r).slots.isEmpty
        || (ring s r).cqTail != (ring s r).cqHead)

/-- A page write of a command is in progress or queued. -/
def commandWrite (s : State) : Bool :=
  s.nv.writing.any (fun p => p.1.job.isSome) || s.nv.queue.any (fun w => w.job.isSome)

/-- Refuser `k` is true: CONTROLLER_RUN, PAIR_ACTIVE, NV_BUSY, DEBUG, HOST_RINGS_PENDING, LINE_MOVING, CFG_TXN_OPEN,
GRAFT_OPEN. -/
def refuser (s : State) (k : Nat) : Bool :=
  match k with
  | 0 => ctl s = 3
  | 1 => fbit s RED_CFG_PAIR_EN
  | 2 => commandWrite s
  | 3 => fget s DBG_STATUS_LEVEL = 1 ∨ fget s DBG_STATUS_LEVEL = 2
  | 4 => (List.range 127).any (fun r => ringPending s (r + 1))
  | 5 => moving s
  | 6 => !s.cmd.txns.isEmpty
  | _ => fget s CTL_GRAFT_STATUS_STATE ≠ 0

/-- The shallowest state that a refuser keeps the module out of. -/
def refuserFrom (k : Nat) : Nat := [1, 1, 3, 3, 2, 2, 2, 1].getD k 3

/-- The refusers of a move to a deeper state. -/
def refusers (s : State) (target : Nat) : List Nat :=
  if target ≤ power s then [] else (List.range 8).filter (fun k => decide (refuserFrom k ≤ target) && refuser s k)

/-- An entry that is refused: counts, the latched cause and the flag. -/
def noteRefused (target : Nat) (s : State) : State :=
  forEach (refusers s target) s (fun k s => bump (PWR_REFUSE_REFUSED k) 1 s)
    |> fput PWR_STATUS_LAST ((refusers s target).headD 15) |> fput PWR_STATUS_LAST_ABORTED 0 |> raise PWR_EVENTS_REFUSED

/-! ### Moves between RUN, TRIM and HOLD -/

/-- Time that a transition takes, which is free up to its bound. -/
def transitionTime (bound : Nat) (s : State) : State :=
  let (s1, n) := fresh s
  advance (s1.now + Config.freeNat n % (bound + 1)) s1

/-- HOLD: outputs and loops safe, MACs and Hedge down, the drive cycle suspended (R154, R428). -/
def enterHold (s : State) : State :=
  let s1 := allSafe s
  let s2 := forEach [0, 1, 2, 3] s1 fun p s => if linkUp s p then portLink p false false s else s
  { s2 with net.startFrom := none, net.stopFrom := none, net.resumeFrom := none }
    |> fput RED_STATUS_LANE0 0 |> fput RED_STATUS_LANE1 0 |> fput NET_STATUS_CYCLE_RUN 0 |> setPower 2

/-- One step of a move, up to HOLD: to the next state on the way, within the bound of R434. -/
def hop (target : Nat) (s : State) : State :=
  match power s, decide (target > power s), decide (target < power s) with
  | 0, true, _ => setPower 1 (transitionTime (usec 50) s)
  | 1, true, _ => enterHold (transitionTime (msec 2) s)
  | 2, _, true => leaveHold (transitionTime (msec 1) s)
  | 1, _, true => setPower 0 (transitionTime (usec 50) s)
  | _, _, _ => s

/-- The way back of an entry that is aborted: at most two steps. -/
def moveBack (target : Nat) (s : State) : State := hop target (hop target s)

/-! ### DORMANT (R432) -/

/-- Configuration that is copied into LPDDR5X. -/
def sealedField (k : Nat) : Bool :=
  let a := k / 8
  (locate (a / 4 * 4)).elim false (fun x => x.1.cfg)
    && decide ((0x1000 ≤ a ∧ a < 0x2000) ∨ (0x3000 ≤ a ∧ a < 0x6000) ∨ (0x8000 ≤ a ∧ a < 0x9000))

/-- Fields that show the tables of the generation in force: the maps of the channels and loops, and the view sizes (R36, R94). -/
def mapFields : List Field :=
  [FIO_MAP_IN_EN, FIO_MAP_IN_ADDR, FIO_MAP_OUT_EN, FIO_MAP_OUT_ADDR, IMG_VIEW_USE_BYTES]
    ++ [0, 1].flatMap (fun x => [LPT_LT_MAP_OUT_EN x, LPT_LT_MAP_OUT_OFS x, LPT_LT_MAP_IN_EN x, LPT_LT_MAP_IN_ADDR x])

def mapField (k : Nat) : Bool := mapFields.any (fun f => k = 8 * f.off + f.lsb)

/-- Register fields that stay through DORMANT, by bit address: the strapped side, supervision, power, NV, RTC, security, debug and
boot always, and the configuration, the generation and what shows its tables with LPDDR5X retained; Trellis is cleared (R140;
log entry 53). -/
def dormantField (sr : Bool) (k : Nat) : Bool :=
  let a := k / 8
  a < 0x0400 ∨ (0x6000 ≤ a ∧ a < 0x8000) ∨ (0x9000 ≤ a ∧ a < 0xA100) ∨ k = 8 * 0x1000 + 9 ∨ k = 8 * 0x4000 + 3
    ∨ (sr ∧ (sealedField k ∨ mapField k ∨ k = 8 * 0x1000 + 8 ∨ k = 8 * CTL_GRAFT_GEN_GEN.off + CTL_GRAFT_GEN_GEN.lsb))

/-- A retained bank that keeps its contents. -/
def bankKept (s : State) (a : Nat) : Bool :=
  let b := (a - 0x30000000) / 0x10000
  0x30000000 ≤ a ∧ a < 0x30100000 ∧ (b = 0 ∨ (fget s PWR_RETAIN_BANKS).testBit (b - 1))

/-- What the sealed digest covers: the stores, the configuration and the firmware region (R383, R432). -/
def sealedBytes (s : State) : List Byte :=
  Config.codeBytes s.mem.code s.img.rung ++ Config.configBytes s.prog.cur (s.regs.filter (fun p => sealedField p.1))
    ++ s.boot.region.flatten

def sealTag (s : State) : List Byte := Config.hmac384 (islandKey s "SEAL" 384) (sealedBytes s)

/-- The rails are off: what is volatile is lost (R428, R432, R434). -/
def railsOff (s : State) : State :=
  let sr := fbit s PWR_RETAIN_LPDDR_SR
  let n : State :=
    { s with
      regs := s.regs.filter (fun p => dormantField sr p.1)
      hiLatch := []
      loStage := []
      img := { rung := if sr then s.img.rung else [] }
      seq := {}
      prog := if sr then { cur := s.prog.cur } else {}
      trl := {}
      net := { mcast := if sr then s.net.mcast else [], ptp := { step := s.net.ptp.step, aligned := s.net.ptp.aligned } }
      red := {}
      cores := []
      lanes := []
      mem := { data := s.mem.data.filter (fun c => bankKept s c.1), code := if sr then s.mem.code else [] }
      fio := { ch := (s.fio.ch.map (fun (i, c) => (i, ({ comp := c.comp } : Channel)))).filter (fun p => p.2.comp) }
      lpt := s.lpt.map (fun (x, l) => (x, { l with frame := none, trim := none, req := none }))
      hif := {}
      cmd := { s.cmd with jrnl := if sr then s.cmd.jrnl else [], deferred := [], haltJobs := [], svc := none, svcWait := [] }
      sec := { s.sec with slots := [], challenges := [], trace := [], traceLost := 0 }
      boot := { s.boot with
        staging := if sr then s.boot.staging else []
        region := if sr then s.boot.region else []
        targets := []
        sealed := sr }
      nv := { s.nv with queue := [], unlocks := [] }
      recd := {}
      sup := { s.sup with checkIns := [], nextWin := [], inForce := [], rcChanged := [], powerJob := none, dormantAt := s.now } }
  n |> fput BOOT_STATUS_STATE 6 |> fput PWR_STATUS_SAG 0 |> fput PWR_STATUS_ENTERING 0

/-- Steps 4 to 7 of R432. -/
def enterDormant (jb : Job) (s : State) : State :=
  let s1 := islandDown s
  let s2 := if fbit s1 PWR_RETAIN_LPDDR_SR then { s1 with boot.sealTag := sealTag s1 } else s1
  let s3 := transitionTime (msec 10 + (if fbit s2 PWR_RETAIN_LPDDR_SR then (sealedBytes s2).length * msec 60 / 67108864 else 0)) s2
  let s4 := ended jb 0 0 3 s3
  let s5 := hifReset 3 { endSession s4 with sec.slotsLost := !s4.sec.slots.isEmpty }
  let s6 := setPower 3 (setLevelDbg 0 (emptySlots s5))
  let s7 := watchUpdate (showForces (railsOff (releasePins s6 s6)))
  match s7.sup.wakeHeld with
  | some source => wake source { s7 with sup.wakeHeld := none }
  | none => s7

/-- An entry, a move to a deeper state, is aborted: the module returns to the state it started from (R431). Cause 8 is
POWERFAIL. -/
def abortEntry (cause : Nat) (s : State) : State :=
  match s.sup.powerJob with
  | none => s
  | some (jb, target, from_) =>
    if target < from_ then s
    else
      let s1 := watchUpdate (moveBack from_ { s with sup.powerJob := none, sup.wakeHeld := none })
      let s2 := if cause < 8 then bump (PWR_REFUSE_ABORTED cause) 1 s1 else s1
      s2 |> fput PWR_STATUS_LAST cause |> fput PWR_STATUS_LAST_ABORTED 1 |> raise PWR_EVENTS_ABORTED
        |> fput PWR_STATUS_ENTERING 0 |> ended jb 0x0A (if cause < 8 then 0x0730 + cause else 0x0739) 0

/-- A refuser of the target, whatever the state on the way. -/
def entryRefuser (target : Nat) (s : State) : Option Nat :=
  (List.range 8).find? (fun k => decide (refuserFrom k ≤ target) && refuser s k)

/-- In HOLD on the way to DORMANT the recorder consolidates (step 3 of R432). -/
def holdReached (target : Nat) (s : State) : State :=
  if target = 3 ∧ power s = 2 then { s with recd.due := some (s.recd.due.getD 2) } else s

/-- The next step of a move: on the way; at the target; or in HOLD into DORMANT when the recorder and the NV store have
finished. -/
def moveOn (jb : Job) (target : Nat) (s : State) : State :=
  if power s ≠ min target 2 then holdReached target (hop target s)
  else if target < 3 then ended jb 0 0 target (fput PWR_STATUS_ENTERING 0 { s with sup.powerJob := none })
  else if s.recd.due.isNone ∧ s.recd.running.isNone ∧ s.nv.writing.isNone ∧ s.nv.queue.isEmpty then enterDormant jb s
  else s

/-- A PWR_STATE transition goes on: a refuser of a deeper target that has become true aborts it (R430, R431). It is looked at
while no command waits, and as page writes and consolidations end (DESIGN CHOICE, log entry 98). -/
def carryPower (s : State) : State :=
  match s.sup.powerJob with
  | none => s
  | some (jb, target, from_) =>
    match if target < from_ then none else entryRefuser target s with
    | some k => abortEntry k s
    | none => moveOn jb target s

/-- What waits for the recorder and the NV store goes on. -/
def carryOn (s : State) : State := carryPower (carryReset s)

/-! ### PWR_STATE and PWR_READ (R438) -/

def pwrStateCard : Card := { op := 0x0E01, ring0 := true, params := [(32, 1)], svc := .no }

/-- A transition that runs refuses a further one with BUSY. In SCRAPPED, DORMANT is not reachable (R411); the refusal’s reason LIFECYCLE
is a DESIGN CHOICE (log entry 114). -/
def pwrStateChecks (d : Desc) (s : State) : Option (Nat × Nat) :=
  let t := param d 32
  (if t = 3 ∧ s.sec.life = 4 then some (0x01, 0x0005) else none).or <| (if t > 3 then none else (refusers s t).head?.map (fun k => (0x01, 0x0730 + k))).or
    (firstOf [(decide (t > 3), 0x02, 0x0111), (s.sup.powerJob.isSome, 0x08, 0)])

def pwrStateNotes (d : Desc) (r : Nat × Nat) (s : State) : State :=
  if r.1 = 0x01 ∧ 0x0730 ≤ r.2 ∧ r.2 ≤ 0x0737 then noteRefused (param d 32) s else s

/-- An accepted move: it passes through the states between one by one (`carryPower`). -/
def pwrStateEffect (d : Desc) (s : State) : State :=
  let t := param d 32
  if t = power s then immediate 0x0E01 d id (fun _ => t) (fun _ => []) s
  else
    let (s1, jb) := accept 0x0E01 d 0 s
    watchUpdate (fput PWR_STATUS_ENTERING 1 (holdReached t { s1 with sup.powerJob := some (jb, t, power s) }))

/-- PWR_STATE. -/
def execPwrState (d : Desc) (s : State) : Host.Outcome State Fault Refusal :=
  .next (judged pwrStateCard d (pwrStateChecks d) (pwrStateNotes d) (pwrStateEffect d) s)

def pwrReadCard : Card := { op := 0x0E02, buf := .writes, svc := .open_ }

/-- Offsets of the SYS, WDG and PWR registers. -/
def pwrReadOffsets : List Nat :=
  (((List.range 256).map (4 * ·)) ++ (List.range 512).map (fun i => 0x7000 + 4 * i)).filter (fun o => (locate o).isSome)

def pwrReadData (d : Desc) (s : State) : List Byte :=
  (pwrReadOffsets.flatMap (fun o => le 4 (regWord s o).toNat)).take d.bufLen

/-- PWR_READ. -/
def execPwrRead (d : Desc) (s : State) : Host.Outcome State Fault Refusal :=
  .next (command pwrReadCard d (fun _ => none)
    (immediate 0x0E02 d id (fun s => (pwrReadData d s).length) (pwrReadData d)) s)

/-! ### Waking (R383, R433, R434) -/

/-- WAKE_PERST_N: a rising edge on PERST_N. -/
def execWakePerstN (s : State) : Host.Outcome State Fault Refusal := .next (wake 3 s)

/-- What the firmware region and the stores were is lost when they cannot be resumed. -/
def loseProgram (s : State) : State :=
  { s with prog := {}, mem.code := [], img.rung := [], boot.region := [], boot.sealed := false }
    |> fput CTL_GRAFT_GEN_GEN 0 |> fun s => forEach mapFields s (fun f => fput f 0)

/-- WAKING (R383): the sealed region is resumed when it was retained and its digest matches; its check takes a free time. -/
def waking (s : State) : State :=
  if s.boot.sealed ∧ s.boot.sealTag = sealTag s then
    let s1 := transitionTime (msec 2 + (sealedBytes s).length * msec 60 / 67108864) s
    { s1 with boot.waking := true, boot.startAt := s1.now, boot.stepAt := s1.now, boot.started := 0 }
      |> (fun s => forEach (List.range 4) s (fun c s => s |> fput (BOOT_COMP_STAT_STATE c) 0 |> fput (BOOT_COMP_STAT_START_MS c) 0))
      |> setBoot 3 |> beginComponent 0
  else setBoot 1 (loseProgram s)

/-- The end of the wake sequence: HOLD, 6.4 ms after the wake event; device time is right within 100 µs (R428). -/
def wakeUp (t flips : Nat) (checkOk : Bool) (s : State) : State :=
  let (s0, n) := fresh s
  let s1 := advance (t + usec 6300 + Config.freeNat n % (usec 200 + 1)) { s0 with sup.wakeAt := none }
  let s2 := setPower 2 s1 |> raise PWR_EVENTS_WAKE |> fput SYS_RESET_CAUSE_KIND 6 |> jnote 0x0040 3 0
  let s3 := readSeedbed flips checkOk { s2 with hif.msixPend := put 132 true s2.hif.msixPend }
  let s4 := if s3.sec.slotsLost then raise SEC_EVENTS_SLOTS_LOST { s3 with sec.slotsLost := false } else s3
  let source := fget s4 PWR_WAKE_SOURCE
  let s5 := if source = 1 ∨ source = 2 then emit (.wakeN true) { s4 with sup.wakeN := true } else s4
  let s6 := setBoot 6 { s5 with boot.poweredAt := s5.now }
  if s6.sec.life ≠ 4 ∧ !seedGood flips checkOk then failBoot 16 0 { s6 with boot.selfTestFailed := true } else waking s6

/-- WAKE_SEQUENCE_DONE. -/
def execWakeSequenceDone (flips : Nat) (checkOk : Bool) (s : State) : Host.Outcome State Fault Refusal :=
  .next (match s.sup.wakeAt with
    | some t => if power s = 3 then wakeUp t flips checkOk s else s
    | none => s)

/-! ### The sag governor (R435, R436) -/

/-- Thresholds of the stages in mV. -/
def sagBelow (k : Nat) : Nat := [0, 10400, 10000, 9600].getD k 0
def sagAbove (k : Nat) : Nat := [0, 10600, 10200, 9800].getD k 0

/-- A measurement of VIN. -/
def noteVin (mv : Nat) (s : State) : State :=
  s |> fput PWR_VIN_MV (min mv 65535) |> fput PWR_VIN_MIN_MV (min (fget s PWR_VIN_MIN_MV) mv)

/-- In SAG2 the running instances keep BUDGET_SAG (R89). -/
def sagBudgets (s : State) : State :=
  if fbit s CTL_STATE_SAG2_RT then
    { s with seq.runs := s.seq.runs.map (fun (t, r) => (t, if r.phase = .idle then r else { r with sagBudget := true })) }
  else s

/-- POWERFAIL (R436). A commit in COMMITTING ends and a switch stops in every controller state (R109). -/
def powerFail (s : State) : State :=
  let s1 := halt 5 0 (endCommit 0x0A 0x0739 s)
  let s2 := if boot s1 = 2 ∨ boot s1 = 3 then failBoot 17 (fget s1 BOOT_STATUS_COMPONENT) s1 else s1
  let s3 := abandonConsolidation (abortWrites s2)
  let s4 := if boot s3 = 4 then writeEmergency s3 else s3
  carryReset (abortEntry 8 s4)

/-- A stage is entered. -/
def enterSag (k : Nat) (s : State) : State :=
  let s1 := fput PWR_STATUS_SAG k s
  (match k with
    | 1 => s1 |> raise PWR_EVENTS_SAG1 |> bump PWR_SAG_COUNT_SAG1 1 |> interrupt 132
    | 2 => s1 |> raise PWR_EVENTS_SAG2 |> bump PWR_SAG_COUNT_SAG2 1 |> interrupt 132 |> sagBudgets
    | _ => s1 |> raise PWR_EVENTS_POWERFAIL |> bump PWR_SAG_COUNT_POWERFAIL 1 |> interrupt 132 |> powerFail)

/-- VIN_THRESHOLD_CROSS: the stages that VIN has fallen through are entered in order; in DORMANT the governor is inactive. -/
def execVinThresholdCross (mv : Nat) (s : State) : Host.Outcome State Fault Refusal :=
  .next (if power s = 3 then s
    else forEach [1, 2, 3] (noteVin mv s) fun k s => if sag s < k ∧ mv < sagBelow k then enterSag k s else s)

/-- SAG_STAGE_LEAVE: VIN has stayed above the leaving threshold for 100 µs; one stage is left. -/
def execSagStageLeave (mv : Nat) (s : State) : Host.Outcome State Fault Refusal :=
  .next (
    let k := sag s
    if power s = 3 ∨ k = 0 then s
    else
      let s1 := noteVin mv s
      if mv ≤ sagAbove k then s1
      else nextConsolPage (s1 |> fput PWR_STATUS_SAG (k - 1) |> raise PWR_EVENTS_SAG_LEAVE |> interrupt 132))

/-- HOLDUP_SENSE_CROSSING (R437, R446). -/
def execHoldupSenseCrossing (mv : Nat) (s : State) : Host.Outcome State Fault Refusal :=
  .next (nextConsolPage (abortWrites (fput PWR_HOLDUP_SENSE_MV (min mv 65535) { s with sup.measured := true })))

/-! ### Ends of page writes and consolidations -/

/-- NV_PAGE_WRITE_DONE. -/
def execNvPageWriteDone (us : Nat) (s : State) : Host.Outcome State Fault Refusal :=
  .next (match s.nv.writing with
    | none => s
    | some (w, t0) =>
      let s1 := pageDone w t0 us s
      carryOn (match w.what with
        | .consol _ _ => consolPageDone s1
        | _ => s1))

/-- CONSOLIDATION_DONE. -/
def execConsolidationDone (s : State) : Host.Outcome State Fault Refusal :=
  .next (if s.recd.running.any (fun c => c.page ≥ 402) then carryOn (finishConsolidation s) else s)

/-! ### Status pins (R490, R491) -/

/-- STAT_N: how long it is low and how long it is off in turn, in ms; (0, 1) for off, (1, 0) for low. In DORMANT the pin is off. -/
def statPattern (s : State) : Nat × Nat :=
  if power s = 3 then (0, 1)
  else if boot s = 5 then (250, 250)
  else match ctl s with
    | 0 => (0, 1)
    | 3 => if standby s then (900, 100) else (1, 0)
    | 4 => (125, 125)
    | _ => (500, 500)

end Sys2Proof.Machine
end

