-- ==== Sys2Proof/Machine/Journal.lean ====
section
/-! DEFINITION. Reading the journal: the entries held in full and those rebuilt from retained bank 0 (R355–R359). -/

namespace Sys2Proof.Machine

/-- The 64 bytes of an entry (R355). -/
def jentryBytes (e : JEntry) : List Byte :=
  let b := le 8 e.jseq ++ le 8 e.time ++ le 2 e.type ++ le 2 e.opcode ++ le 1 e.origin ++ le 1 e.ring ++ le 2 e.index
    ++ le 4 e.tag.toNat ++ le 2 e.status ++ le 2 e.reason ++ le 8 e.ident.toNat ++ le 8 e.cycle ++ le 8 e.detailA
    ++ le 4 e.detailB
  b ++ le 4 (crc32c b)

/-- The entries held, oldest first: those of earlier starts by their summaries, the others in full. -/
def journalHeld (s : State) : List JEntry :=
  let full := s.cmd.jrnl.reverse
  let tail := tailHeld s
  match full with
  | [] => tail
  | e :: _ => tail.filter (fun x => x.jseq < e.jseq) ++ full

def jrnlReadCard : Card :=
  { op := 0x0110, opflags := 16, params := [(32, 8), (40, 4)], buf := .writes, svc := .open_ }

def jrnlMax (d : Desc) : Nat := paramN d 40 4

def jrnlReadChecks (d : Desc) : Option (Nat × Nat) :=
  firstOf [(jrnlMax d = 0 ∨ jrnlMax d > 16384 ∨ d.bufLen < 64 * jrnlMax d, 0x02, 0x0111)]

/-- The named JSEQ is older than the oldest entry held. -/
def journalGap (d : Desc) (held : List JEntry) : Bool :=
  !opflag d 4 && held.head?.any (fun e => paramN d 32 8 < e.jseq)

/-- The entries that JRNL_READ returns. -/
def jrnlPicked (d : Desc) (held : List JEntry) : List JEntry :=
  ((if opflag d 4 then held else held.filter (fun e => paramN d 32 8 ≤ e.jseq))).take (jrnlMax d)

/-- The JSEQ after the last entry returned; without one, the first named. -/
def jrnlNext (d : Desc) (picked : List JEntry) : Nat :=
  match picked.getLast? with
  | some e => e.jseq + 1
  | none => paramN d 32 8

/-- JRNL_READ returns the journal as it stands before its own ACCEPTED entry (R359). -/
def jrnlReadEffect (d : Desc) (s : State) : State :=
  let held := journalHeld s
  let picked := jrnlPicked d held
  let (s1, jb) := accept 0x0110 d 0 s
  settle (finish jb 0 (if journalGap d held then 0x30 else 0) (jrnlNext d picked) (picked.flatMap jentryBytes) s1)

/-- JRNL_READ. -/
def execJrnlRead (d : Desc) (s : State) : Host.Outcome State Fault Refusal :=
  .next (command jrnlReadCard d (fun _ => jrnlReadChecks d) (jrnlReadEffect d) s)

end Sys2Proof.Machine
end

