-- ==== Sys2Proof/Machine/NetRx.lean ====
section
/-! DEFINITION. What the line network receives (chapter 06): the classification of Flany frames (R172, R498), template writes
(R166, R171, R179), misses (R173), seamless redundancy (R159), master samples (R178), the mailbox (R175–R177), the NIC path
(R160, R181–R183) and the network's reading commands (R185). -/

namespace Sys2Proof.Machine

open Reg

/-! ### The Flany header of a received frame -/

def fKind (f : RxFrame) : Nat := beAt f.payload 1 1
def fPairId (f : RxFrame) : Nat := beAt f.payload 2 2
def fEpoch (f : RxFrame) : Nat := beAt f.payload 4 4
def fCycle (f : RxFrame) : Nat := beAt f.payload 8 8
def fSender (f : RxFrame) : Nat := beAt f.payload 16 2
def fMore (f : RxFrame) : Bool := (beAt f.payload 18 2).testBit 8
def fLength (f : RxFrame) : Nat := beAt f.payload 20 2
/-- The payload after the header, without padding. -/
def fData (f : RxFrame) : List Byte := (f.payload.drop 24).take (fLength f)

/-- The header row of R172 and R498. -/
def headerBad (f : RxFrame) : Bool :=
  f.payload.length < 24 ∨ beAt f.payload 0 1 ≠ 1 ∨ crc16 (f.payload.take 22) ≠ beAt f.payload 22 2

def isFlany (s : State) (f : RxFrame) : Bool := f.etherType.toNat = fget s NET_FLANY_CFG_ETHERTYPE

/-- The length is not the template's frame length (R160, R172). -/
def sizeBad (t : Template) (f : RxFrame) : Bool := fLength f ≠ t.payloadLen ∨ f.payload.length ≠ 24 + t.payloadLen

/-- The receive template of a port that a frame's kind and SENDER match. -/
def matchTpl (s : State) (p : Nat) (f : RxFrame) : Option (Nat × Template) :=
  s.prog.cur.templates.find? fun (_, t) =>
    !t.tx && (portsOf t.port).contains p && t.kind = fKind f && t.sender = fSender f

/-! ### The NIC path (R160, R181) -/

/-- MAC address of a port (R143). -/
def portMac (p : Nat) : BitVec 48 := Config.baseMac + BitVec.ofNat 48 p

/-- The NIC path accepts the destination address. -/
def nicAddress (s : State) (p : Nat) (dst : BitVec 48) : Bool :=
  dst = portMac p || dst = BitVec.allOnes 48 || (lookD s.net.mcast p []).contains dst

/-- A gPTP frame of a configured domain: EtherType 0x88F7 and the domain number in byte 4. -/
def ownPtp (s : State) (f : RxFrame) : Bool :=
  f.etherType = 0x88F7 && (leAt f.payload 4 1 = fget s NET_PTP_CFG_DRV_DOMAIN
    || (fbit s NET_PTP_CFG_PLANT_EN && leAt f.payload 4 1 = fget s NET_PTP_CFG_PLT_DOMAIN))

/-- The frame as the host gets it, without FCS. -/
def nicBytes (f : RxFrame) : List Byte :=
  be 6 f.dst.toNat ++ be 6 f.src.toNat
    ++ (match f.vlan with
      | some v => be 2 0x8100 ++ be 2 v.toNat
      | none => [])
    ++ (match f.rtag with
      | some v => be 2 0xF1C1 ++ be 2 0 ++ be 2 v.toNat
      | none => [])
    ++ be 2 f.etherType.toNat ++ f.payload

/-- Flow meter of a port (R160): whether a frame of `n` bytes passes now, and the meter after it. CIR = 0 blocks the path. -/
def meterStep (s : State) (p n : Nat) : Bool × Meter :=
  let cir := fget s (NET_PORT_METER_CIR p)
  let full := fget s (NET_PORT_METER_CBS p) * 8192 * 16000
  let level := match look s.net.meters p with
    | some m => min full (m.tokens + cir * (s.now - m.at_))
    | none => full
  let need := n * 8 * 16000
  if cir ≠ 0 ∧ need ≤ level then (true, { tokens := level - need, at_ := s.now }) else (false, { tokens := level, at_ := s.now })

/-- The running NIC_RX ring of a port. -/
def nicRing (s : State) (p : Nat) : Option Nat :=
  (List.range 128).find? (fun r => ringKind s r = 6 ∧ ringState s r = 1 ∧ fget s (HIF_RING_CFG_PORT r) = p)

def nicDrop (p : Nat) (s : State) : State := s |> bump (NET_PORT_NIC_DROP_COUNT p) 1 |> raise NET_EVENTS_NIC_DROP

/-- NIC DMA runs: not in SAG2 and POWERFAIL (R435). -/
def nicRuns (s : State) : Bool := sag s < 2

/-- Places a frame on the ring of its port, in the oldest buffer fetched, or drops it. -/
def nicPlace (p : Nat) (f : RxFrame) (bytes : List Byte) (s : State) : State :=
  match nicRing s p with
  | none => nicDrop p s
  | some r =>
    if !nicRuns s then nicDrop p s else
    match lookD s.net.nicBuf r [] with
    | [] => nicDrop p s
    | b :: rest =>
      if cqFull s r then nicDrop p s
      else
        let ahead := rest.length + 1 + (if (look s.net.nicBad r).isSome then 1 else 0)
        let idx := (fget s (HIF_RING_STATUS_SQ_HEAD r) + ringN s r - ahead % ringN s r) % ringN s r
        { s with net.nicBuf := put r rest s.net.nicBuf }
          |> dma (.hostWrite b.addr bytes)
          |> postCq r (le 4 idx ++ le 2 bytes.length ++ le 1 p ++ le 1 0
              ++ le 8 (rxStamp s p f.at_)) false
          |> endNic r

/-- A frame that Flany and gPTP do not consume (R181). -/
def nicReceive (p : Nat) (f : RxFrame) (s : State) : State :=
  if ownPtp s f ∨ !nicAddress s p f.dst then s
  else
    let bytes := nicBytes f
    let (ok, m) := meterStep s p bytes.length
    let s1 : State := { s with net.meters := put p m s.net.meters }
    if ok then nicPlace p f bytes s1 else bump (NET_PORT_QCI_DROP_COUNT p) 1 s1

/-! ### Templates (R163, R166, R171, R173, R179) -/

/-- A COLLECT slot is current: VALID is 1 and SLOT_CYC matches (R171). -/
def slotOk (t : Template) (n : Nat) (data : List Byte) (j : Nat) : Bool :=
  let o := (j + 1) * t.slotSize - 2
  (leAt data o 1).testBit 0 && leAt data (o + 1) 1 = n % 256

def slotCount (t : Template) : Nat := if t.slotSize = 0 then 0 else t.payloadLen / t.slotSize

/-- A field covers the trailer of a slot. -/
def coversTrailer (t : Template) (f : TplField) (j : Nat) : Bool :=
  f.frameOfs < (j + 1) * t.slotSize ∧ (j + 1) * t.slotSize - 2 < f.frameOfs + f.length

/-- Frame offset from which byte `i` of a field's image run comes (R162). -/
def swapIndex (g i : Nat) : Nat := if g = 0 then i else i / g * g + (g - 1 - i % g)

/-- The image bytes that a frame writes through one field: those of current slots, and of the other slots only when the
field covers the slot's trailer. -/
def fieldWrites (t : Template) (n : Nat) (data : List Byte) (f : TplField) : List (Nat × List Byte) :=
  (List.range f.length).filterMap fun i =>
    let o := f.frameOfs + swapIndex f.swap i
    let j := if t.slotSize = 0 then 0 else o / t.slotSize
    if t.slotSize = 0 ∨ slotOk t n data j ∨ coversTrailer t f j then some (f.imgAddr + i, [data.getD o 0]) else none

/-- Slots of the frame that are not current. -/
def badSlots (t : Template) (n : Nat) (data : List Byte) : Nat :=
  ((List.range (slotCount t)).filter (fun j => !slotOk t n data j)).length

/-- A template writes its fields as one write unit (R166); the frame clears the miss bit and LOST (R173). -/
def writeTemplate (i : Nat) (t : Template) (n : Nat) (data : List Byte) (s : State) : State :=
  s |> setTpl i (fun r => { r with
        seen := n + 1, since := true, misses := 0, onTime := r.onTime + 1, lost := false
        slotFaults := r.slotFaults + badSlots t n data })
    |> fputBit (NET_TPL_MISS_MISS (i / 32)) (i % 32) false
    |> writeBytes (fun m img => { img with tplAt := put i m img.tplAt }) (t.fields.flatMap (fieldWrites t n data))

/-- A template has missed a due cycle (R173). -/
def missTemplate (i : Nat) (t : Template) (s : State) : State :=
  let r := tplRun s i
  let lost := decide (r.misses + 1 ≥ max 1 t.lostLimit)
  let s1 := s
    |> setTpl i (fun r => { r with misses := r.misses + 1, missTotal := r.missTotal + 1, lost := r.lost || lost })
    |> fputBit (NET_TPL_MISS_MISS (i / 32)) (i % 32) true
  if lost && !r.lost then s1 |> raise NET_EVENTS_LOST |> log 4 .templateLost i 0 else s1

/-- The receive templates of a kind that are due in a cycle. -/
def dueRx (s : State) (kind n : Nat) : List (Nat × Template) :=
  s.prog.cur.templates.filter (fun (_, t) => !t.tx ∧ t.kind = kind ∧ n % max 1 t.every = t.everyPhase)

/-- RX_CUTOFF (R173): while the drive cycle runs, COLLECT templates that are due and have no on-time frame have missed. -/
def execRxCutoff (s : State) : Host.Outcome State Fault Refusal :=
  .next (if !cycleRuns s then s else
    let n := max s.net.cutCycle (cycleNow s)
    let s1 := advance (boundary s n + fget s NET_RX_CUTOFF_NS * 16) { s with net.cutCycle := n + 1 }
    forEach (dueRx s1 kCollect n) s1 fun (i, t) s => if (tplRun s i).seen = n + 1 then s else missTemplate i t s)

/-- SYNC_CYCLE_BOUNDARY (R145, R179): cycle n begins, and the PLANT_DATA templates due in it are judged. -/
def execSyncCycleBoundary (s : State) : Host.Outcome State Fault Refusal :=
  .next (
    let n := max s.seq.cycles (cycleNow s)
    let s1 := toBoundary n { s with seq.cycles := n + 1 }
    forEach (dueRx s1 kPlantData n) s1 fun (i, t) s =>
      if (tplRun s i).since then setTpl i (fun r => { r with since := false }) s else missTemplate i t s)

/-! ### Seamless redundancy (R159) -/

/-- The frame belongs to the redundant stream of a template: destination MAC address and VLAN; the sender has matched. -/
def inStream (t : Template) (f : RxFrame) : Bool :=
  paired t && f.dst = t.dstMac && f.vlan.map (fun v => v.toNat % 4096) = t.vlan.map (fun v => v.toNat % 4096)

/-- A copy whose sequence number the recovery function has taken. -/
def eliminated (s : State) (i : Nat) (t : Template) (f : RxFrame) : Bool :=
  inStream t f && f.rtag.elim false (fun q => (tplRun s i).history.contains q)

/-- The recovery function takes the first copy that passes R172. -/
def takeCopy (p i : Nat) (t : Template) (f : RxFrame) (s : State) : State :=
  match f.rtag with
  | some q =>
    if inStream t f then
      setTpl i (fun r => { r with history := (q :: r.history).take 32, frerAt := f.at_, frerPort := p }) s
    else s
  | none => s

/-- A second copy: FRER_ELIM counts it. When it arrived in the clock of the first one, at the lower-numbered port, it is the one
used, and the other port's copy is the one eliminated (R159). -/
def secondCopy (p i : Nat) (t : Template) (n : Nat) (f : RxFrame) (s : State) : State :=
  let r := tplRun s i
  if p < r.frerPort ∧ f.at_ / 10 = r.frerAt / 10 ∧ r.history.head? = f.rtag then
    s |> bumpWrap (NET_PORT_RX_FRAMES_COUNT p) 1 |> bumpWrap (NET_PORT_FRER_ELIM_COUNT r.frerPort) 1
      |> bumpWrap (NET_PORT_RX_FRAMES_COUNT r.frerPort) (2 ^ 32 - 1)
      |> setTpl i (fun r => { r with frerPort := p })
      |> writeBytes (fun m img => { img with tplAt := put i m img.tplAt }) (t.fields.flatMap (fieldWrites t n (fData f)))
  else bumpWrap (NET_PORT_FRER_ELIM_COUNT p) 1 s

/-- FRER_RECOVERY_RESET (R159): 10 ms without a frame. -/
def execFrerRecoveryReset (t : Nat) (s : State) : Host.Outcome State Fault Refusal :=
  .next (if (tplRun s t).history.isEmpty then s
    else advance ((tplRun s t).frerAt + msec 10) s |> setTpl t (fun r => { r with history := [] }))

/-! ### The mailbox (R175–R177) -/

/-- The longest message, and the data bytes of one fragment. -/
def mailboxMax : Nat := 4096
def fragmentMax : Nat := 1468

/-- The frames of a request. -/
def mailboxFrames (m : Mailbox) (s : State) : List (List Byte) :=
  (List.range (max 1 ((m.request.length + fragmentMax - 1) / fragmentMax))).map fun k =>
    let o := k * fragmentMax
    let data := (m.request.drop o).take fragmentMax
    flanyHeader s 3 0 (8 + data.length) false (o + fragmentMax < m.request.length)
      ++ be 2 m.dest ++ be 2 m.txn.toNat ++ be 1 m.service ++ be 1 0 ++ be 2 o ++ data

/-- Sends a request in class 5; only an active unit sends (R180). -/
def mailboxSend (m : Mailbox) (s : State) : State :=
  if standby s then s
  else forEach (mailboxFrames m s) s fun raw s =>
    sendFrame m.port { cls := 5, bytes := raw.length + 38
                       what := .frame m.port (Config.endpointMac m.dest) none none raw } s

/-- Sends the first request of every endpoint that none is outstanding to. -/
def mailboxStart (s : State) : State :=
  forEach s.net.mailbox s fun m s =>
    if m.sent.isSome ∨ s.net.mailbox.any (fun x => x.dest = m.dest ∧ x.sent.isSome) then s
    else mailboxSend m { s with net.mailbox := s.net.mailbox.map (fun x => if x = m then { x with sent := some s.now } else x) }

def mailboxCard : Card := { op := 0x0701, params := [(32, 2), (34, 1), (35, 1), (36, 4)], buf := .both, active := true }

def mailboxChecks (d : Desc) : Option (Nat × Nat) :=
  let dest := paramN d 32 2
  let n := paramN d 36 4
  firstOf [(dest = 0 ∨ dest ≥ 0xFFF0 ∨ param d 34 = 0 ∨ param d 34 > 4 ∨ param d 35 > 1 ∨ n > mailboxMax ∨ n > d.buf.length,
    0x02, 0x0111)]

/-- A mailbox transaction is accepted, and starts when its endpoint is free. -/
def mailboxEffect (d : Desc) (s : State) : State :=
  let (s1, job) := accept 0x0701 d 0 s
  let m : Mailbox := { dest := paramN d 32 2, port := param d 35, service := param d 34, txn := s1.net.nextTxn
                       request := d.buf.take (paramN d 36 4), job }
  mailboxStart { s1 with net.mailbox := s1.net.mailbox ++ [m], net.nextTxn := s1.net.nextTxn + 1 }

/-- NET_MAILBOX (R177). -/
def execNetMailbox (d : Desc) (s : State) : Host.Outcome State Fault Refusal :=
  .next (command mailboxCard d (fun _ => mailboxChecks d) (mailboxEffect d) s)

/-- A transaction leaves the list with an outcome, and the next one to its endpoint starts. -/
def mailboxEnd (m : Mailbox) (status reason : Nat) (data : List Byte) (s : State) : State :=
  mailboxStart (settle (conclude m.job status reason data.length data { s with net.mailbox := s.net.mailbox.erase m }))

/-- MAILBOX_RETRY (R177): 10 ms without a complete response; sent again at most twice, then TIMEOUT. -/
def execMailboxRetry (dest : Nat) (s : State) : Host.Outcome State Fault Refusal :=
  .next (match s.net.mailbox.find? (fun m => m.dest = dest ∧ m.sent.isSome) with
    | some m =>
      let s1 := advance (m.sent.getD 0 + msec 10) s
      if m.tries < 2 then
        let again := { m with tries := m.tries + 1, sent := some s1.now, response := [] }
        mailboxSend again { s1 with net.mailbox := s1.net.mailbox.map (fun x => if x = m then again else x) }
      else mailboxEnd m 0x06 0 [] s1
    | none => s)

/-- An MBX_RSP fragment that passed the rows of R172. Fragments come in order; the last one completes the transaction with
the endpoint's STATUS. -/
def mailboxResponse (f : RxFrame) (s : State) : State :=
  let h := fData f
  let o := beAt h 6 2
  match s.net.mailbox.find? (fun m => m.sent.isSome ∧ m.dest = fSender f ∧ m.txn.toNat = beAt h 2 2
      ∧ m.service = beAt h 4 1) with
  | some m =>
    if h.length < 8 ∨ beAt h 0 2 ≠ fget s NET_FLANY_CFG_CTRL_ADDR ∨ (o ≠ m.response.length ∧ o ≠ 0) then s
    else
      let all := ((if o = 0 then [] else m.response) ++ h.drop 8).take mailboxMax
      if fMore f then
        { s with net.mailbox := s.net.mailbox.map (fun x => if x = m then { x with response := all } else x) }
      else mailboxEnd m 0 (beAt h 5 1) (all.take m.job.d.bufLen) s
  | none => s

/-! ### Frames on drive ports (R172, R174) -/

/-- The last byte arrived by the clock of the cut-off. -/
def onTime (s : State) (f : RxFrame) (n : Nat) : Bool := f.at_ / 10 ≤ (boundary s n + fget s NET_RX_CUTOFF_NS * 16) / 10

/-- The rows of R172 for a frame whose template is known. -/
def judgeDrive (p i : Nat) (t : Template) (f : RxFrame) (s : State) : State :=
  let n := cycleAt s f.at_
  if sizeBad t f then bump (NET_PORT_MISC_ERR_SIZE_ERR p) 1 s
  else if fEpoch f > epoch s then bump (NET_PORT_MISC_ERR_EPOCH_HIGH p) 1 s
  else if fCycle f < n then bump (NET_PORT_SEQ_ERR_STALE p) 1 s
  else if fCycle f > n ∨ beforeGrid s f.at_ then bump (NET_PORT_MISC_ERR_FUTURE p) 1 s
  else if eliminated s i t f then secondCopy p i t n f s
  else if (tplRun s i).seen = n + 1 then bump (NET_PORT_SEQ_ERR_DUP p) 1 s
  else if !onTime s f n then
    s |> bump (NET_PORT_LATE_COUNT p) 1 |> raise NET_EVENTS_LATE
      |> setTpl i (fun r => { r with late := r.late + 1 }) |> log 4 .late i p
  else s |> bumpWrap (NET_PORT_RX_FRAMES_COUNT p) 1 |> takeCopy p i t f |> writeTemplate i t n (fData f)

/-- A SETPOINT frame of another unit with this PAIR_ID keeps a unit in PAIRING (R193). -/
def foreignSetpoint (f : RxFrame) (s : State) : State :=
  if fKind f = kSetpoint ∧ pair s = 1 then showPeer { s with red.setpointAt := some s.now } else s

/-- A Flany frame on a drive port. What R174 reports, it reports after the row that decides the outcome. -/
def flanyDrive (p : Nat) (f : RxFrame) (s : State) : State :=
  if headerBad f then s |> bump (NET_PORT_FORM_ERR_HDR_ERR p) 1 |> raise NET_EVENTS_HDR_ERR
  else if fPairId f ≠ fget s NET_PAIR_ID_PAIR_ID then bump (NET_PORT_FORM_ERR_UNMATCHED p) 1 s
  else
    let higher := decide (fEpoch f > epoch s) && fKind f ∉ [6, 7, 8]
    let s1 := match matchTpl s p f with
      | some (i, t) => judgeDrive p i t f s
      | none =>
        if fKind f ≠ 4 then bump (NET_PORT_FORM_ERR_UNMATCHED p) 1 s
        else if fEpoch f > epoch s then bump (NET_PORT_MISC_ERR_EPOCH_HIGH p) 1 s
        else s |> bumpWrap (NET_PORT_RX_FRAMES_COUNT p) 1 |> mailboxResponse f
    let s2 := foreignSetpoint f s1
    if higher then epochReport (fEpoch f) s2 else s2

/-- A frame at a port, which has link: an error, a Flany frame, or one for the NIC path. -/
def receive (p : Nat) (f : RxFrame) (flany : State → State) (s : State) : State :=
  if !linkUp s p then s
  else
    let s1 := advance f.at_ s
    if !f.fcsOk then bump (NET_PORT_RX_ERR_COUNT p) 1 s1
    else if isFlany s1 f then flany s1
    else nicReceive p f (bumpWrap (NET_PORT_RX_FRAMES_COUNT p) 1 s1)

/-- DRIVE_FRAME_RECEIVE (R172, R174, R166, R171, R181). -/
def execDriveFrameReceive (p : Fin 2) (f : RxFrame) (s : State) : Host.Outcome State Fault Refusal :=
  .next (receive p f (flanyDrive p f) s)

/-- MBX_RSP_RECEIVE (R172, R175, R177): a frame of kind MBX_RSP. -/
def execMbxRspReceive (p : Fin 2) (f : RxFrame) (s : State) : Host.Outcome State Fault Refusal :=
  .next (if fKind f = 4 then receive p f (flanyDrive p f) s else s)

/-! ### Frames on plant ports (R498, R178, R179, R174) -/

/-- An enabled PLANT axis names the stream. -/
def streamNamed (s : State) (stream : Nat) : Bool :=
  (List.range 16).any (fun k => axEnabled s k && axSource s k = 1 && fget s (TRL_AXIS_CFG_STREAM k) = stream)

/-- Sample numbers skipped between two samples of a stream. Numbers wrap; one that repeats or goes back skips none (DESIGN CHOICE,
log entry 87). -/
def skipped (last num : Nat) : Nat :=
  let d := (num + 2 ^ 32 - last) % 2 ^ 32
  if d < 2 ^ 31 then d - 1 else 0

/-- An accepted MASTER_SAMPLE (R178): skipped sample numbers count, and Trellis takes the sample. -/
def masterSample (f : RxFrame) (s : State) : State :=
  let d := fData f
  let stream := beAt d 0 1
  let num := beAt d 4 4
  let gap := match look s.net.sampleNo stream with
    | some m => skipped m num
    | none => 0
  { s with net.sampleNo := put stream num s.net.sampleNo }
    |> bump NET_PLANT_GAPS_COUNT gap
    |> sampleToAxes stream { angle := beAt d 16 8, vel := toInt 64 (beAt d 24 8), acc := toInt 64 (beAt d 32 8)
                             time := toInt 64 (beAt d 8 8) }

/-- The heartbeat in a Flany frame of kind HEARTBEAT (R199). -/
def beatOf (f : RxFrame) : Beat :=
  let d := fData f
  { sendTime := beAt d 0 8, echoTime := beAt d 8 8, echoRx := beAt d 16 8, beat := beAt d 24 4, code := beAt d 28 1
    ctl := beAt d 29 1, fault := (beAt d 30 1).testBit 0, side := bits (beAt d 30 1) 1 1, unfit := beAt d 31 1
    epoch := fEpoch f, pairId := fPairId f }

/-- The rows of R498 from the coordinator's on. -/
def judgePlant (p : Nat) (f : RxFrame) (s : State) : State :=
  let sample := decide (fKind f = 6)
  let unmatched := bump (NET_PORT_FORM_ERR_UNMATCHED p) 1
  let sized := bump (NET_PORT_MISC_ERR_SIZE_ERR p) 1
  let tpl := matchTpl s p f
  if fSender f ≠ fget s NET_PAIR_ID_COORD_ADDR then unmatched s
  else if (sample && !streamNamed s (beAt (fData f) 0 1)) || (!sample && tpl.isNone) then unmatched s
  else if (sample && (fLength f ≠ 40 || decide (f.payload.length ≠ 64))) || (!sample && tpl.any (fun x => sizeBad x.2 f)) then
    sized s
  else if fEpoch f < s.net.coordEpoch then bump (NET_PORT_SEQ_ERR_STALE p) 1 s
  else
    let s1 := { s with net.coordEpoch := fEpoch f } |> bumpWrap (NET_PORT_RX_FRAMES_COUNT p) 1
    match sample, tpl with
    | true, _ => masterSample f s1
    | false, some (i, t) =>
      if eliminated s1 i t f then secondCopy p i t (cycleAt s1 f.at_) f { s with net.coordEpoch := fEpoch f }
      else writeTemplate i t (cycleAt s1 f.at_) (fData f) (takeCopy p i t f s1)
    | false, none => s1

/-- A Flany frame on plant port `p` (2 or 3). -/
def flanyPlant (p : Nat) (f : RxFrame) (s : State) : State :=
  if headerBad f then s |> bump (NET_PORT_FORM_ERR_HDR_ERR p) 1 |> raise NET_EVENTS_HDR_ERR
  else if fPairId f ≠ fget s NET_PAIR_ID_PAIR_ID then bump (NET_PORT_FORM_ERR_UNMATCHED p) 1 s
  else if fKind f = 8 then
    s |> bumpWrap (NET_PORT_RX_FRAMES_COUNT p) 1 |> beatIn (.portB (Fin.ofNat 2 (p - 2))) (beatOf f) f.at_
  else
    let s1 := if fKind f ≠ 6 ∧ fKind f ≠ 7 then bump (NET_PORT_FORM_ERR_UNMATCHED p) 1 s else judgePlant p f s
    if fEpoch f > epoch s ∧ fKind f ≠ 6 ∧ fKind f ≠ 7 then epochReport (fEpoch f) s1 else s1

/-- PLANT_FRAME_RECEIVE (R498, R178, R179, R181). -/
def execPlantFrameReceive (p : Fin 2) (f : RxFrame) (s : State) : Host.Outcome State Fault Refusal :=
  .next (receive (p.val + 2) f (flanyPlant (p.val + 2) f) s)

/-! ### Reading commands (R185) -/

/-- A template in the form of R161. -/
def tplBytes (t : Template) : List Byte :=
  le 1 (t.port + if t.tx then 128 else 0) ++ le 1 t.kind ++ le 2 t.sender ++ be 6 t.dstMac.toNat
    ++ le 4 (t.vlan.elim 0 BitVec.toNat) ++ le 1 (if t.vlan.isSome then 1 else 0) ++ le 1 t.fields.length
    ++ le 2 t.payloadLen ++ le 2 t.slotSize ++ le 2 t.every ++ le 2 t.everyPhase ++ le 1 t.lostLimit ++ le 7 0
    ++ t.fields.flatMap (fun f => le 2 f.frameOfs ++ le 2 f.length
        ++ le 4 (f.imgAddr + (if f.swap = 0 then 0 else 2 ^ 24 + 2 ^ 25 * (if f.swap = 8 then 2 else f.swap / 4))))
    ++ (if t.tx then fit ((t.payloadLen + 7) / 8 * 8) (fit t.payloadLen t.safe) else [])

/-- A template with its counts and its LOST state (R185); the layout of the counts is the model's (log entry 41). -/
def tplEntry (s : State) (i : Nat) (t : Template) : List Byte :=
  let r := tplRun s i
  tplBytes t ++ le 4 r.onTime ++ le 4 r.missTotal ++ le 4 r.late ++ le 4 r.slotFaults
    ++ le 4 (if r.lost then 1 else 0) ++ le 4 0

/-- The entries of a list that fit a buffer, in order. -/
def fitEntries (room : Nat) : List (List Byte) → List (List Byte)
  | [] => []
  | b :: bs => if b.length ≤ room then b :: fitEntries (room - b.length) bs else []

def tplEntries (d : Desc) (s : State) : List (List Byte) :=
  let first := paramN d 32 2
  fitEntries d.bufLen ((s.prog.cur.templates.filter
    (fun (i, _) => first ≤ i ∧ i < first + paramN d 34 2)).map (fun (i, t) => tplEntry s i t))

def tplReadCard : Card := { op := 0x0702, params := [(32, 2), (34, 2)], buf := .writes, svc := .open_ }

/-- NET_TPL_READ. -/
def execNetTplRead (d : Desc) (s : State) : Host.Outcome State Fault Refusal :=
  .next (command tplReadCard d (fun _ => firstOf [(paramN d 32 2 > 255 ∨ paramN d 34 2 = 0, 0x02, 0x0111)])
    (immediate 0x0702 d id (fun s => (tplEntries d s).length) (fun s => (tplEntries d s).flatten)) s)

/-- Role of a port: 0 disabled, 1 master, 2 slave, 3 passive. -/
def portRole (s : State) (p : Nat) : Nat :=
  if !linkUp s p then 0 else if p < 2 then (if standby s then 3 else 1)
  else if !fbit s NET_PTP_CFG_PLANT_EN then 0
  else if fget s NET_STATUS_PLANT_PORT + 1 = p then 2 else 3

/-- What NET_PTP_READ returns (R185), in the model's layout (log entry 41): four roles, four bytes reserved, the plant
grandmaster, the mean path delay of each port, which is measured and free, and 64 offsets of the plant and of the drive
domain, newest first. -/
def ptpBytes (n : Nat) (s : State) : List Byte :=
  (List.range 4).flatMap (fun p => le 1 (portRole s p)) ++ le 4 0 ++ le 8 (s.net.ptp.gm.elim 0 BitVec.toNat)
    ++ (List.range 4).flatMap (fun p => le 4 (Config.freeNat (n + p)))
    ++ (List.range 64).flatMap (fun i => le 8 (ofInt 64 (s.net.ptp.offsets.getD i 0)))
    ++ (List.range 64).flatMap (fun i => le 8 (ofInt 64 (s.net.ptp.driveOffsets.getD i 0)))

def ptpReadCard : Card := { op := 0x0703, buf := .writes, svc := .open_ }

/-- NET_PTP_READ. -/
def execNetPtpRead (d : Desc) (s : State) : Host.Outcome State Fault Refusal :=
  .next (command ptpReadCard d (fun _ => none)
    (immediate 0x0703 d (fun s => { s with free := s.free + 4 }) (fun s => ((ptpBytes (s.free - 4) s).take d.bufLen).length)
      (fun s => (ptpBytes (s.free - 4) s).take d.bufLen)) s)

def mcastBytes (s : State) (p : Nat) : List Byte :=
  let l := lookD s.net.mcast p []
  le 1 l.length ++ le 1 0 ++ fit 192 (l.flatMap (fun a => be 6 a.toNat))

def mcastReadCard : Card := { op := 0x0704, buf := .writes, svc := .open_ }

/-- NET_MCAST_READ. -/
def execNetMcastRead (d : Desc) (s : State) : Host.Outcome State Fault Refusal :=
  .next (command mcastReadCard d (fun _ => firstOf [(d.bufLen < 776, 0x02, 0x0111)])
    (immediate 0x0704 d id (fun _ => 776) (fun s => (List.range 4).flatMap (mcastBytes s))) s)

/-! ### NIC rings (R182, R183, R321, R326) -/

/-- A malformed NIC_TX descriptor, as a reason, in the order of R321. -/
def nicMalformed (raw : List Byte) : Option Nat :=
  if leAt raw 11 1 > 1 ∨ leAt raw 16 16 ≠ 0 ∨ leAt raw 10 1 > 3 then some 0x0104
  else if leAt raw 8 2 < 14 ∨ leAt raw 8 2 > 1518 then some 0x0105
  else none

/-- EtherType of a frame from its destination address on, the tag control of an 802.1Q tag, and whether the frame carries
an R-TAG. -/
def etherOf (frame : List Byte) : Nat × Option Nat :=
  if beAt frame 12 2 = 0x8100 then (beAt frame 16 2, some (beAt frame 14 2)) else (beAt frame 12 2, none)

/-- The class of a NIC frame (R182). -/
def nicClass (frame : List Byte) : Nat := match (etherOf frame).2 with
  | none => 0
  | some v => if v / 8192 ≥ 6 then 5 else v / 8192

/-- A frame that R182 refuses. -/
def nicRefused (s : State) (frame : List Byte) : Bool :=
  let e := (etherOf frame).1
  e = 0x88F7 ∨ e = fget s NET_FLANY_CFG_ETHERTYPE ∨ e = 0xF1C1

/-- The frame check sequence of a frame, as it goes on the wire (PRESUMED IEEE 802.3, log entry 88). -/
def fcs (frame : List Byte) : List Byte := le 4 (crc32 frame)

/-- Takes the NIC_TX entry at the SQ head, with a slot for its completion. -/
def nicTake (r : Nat) (s : State) : State :=
  let idx := fget s (HIF_RING_STATUS_SQ_HEAD r)
  s |> takeEntry r |> setRing r (fun g => { g with slots := g.slots ++ [{ index := idx, irqNow := false }] })

/-- The error completion of a malformed NIC_TX entry that has been taken; the ring enters ERROR with it (R321, R326). -/
def nicError (r idx : Nat) (tag : Word) (reason : Nat) (s : State) : State :=
  nicComplete r idx tag 0x02 reason 0
    (setRing r (fun g => { g with slots := g.slots.map (fun x => { x with err := some reason }) }) s)

/-- One NIC_TX descriptor: the malformed ones end the ring, the refused ones complete with CONFLICT. -/
def nicSend (r : Nat) (raw frame : List Byte) (s : State) : State :=
  let idx := fget s (HIF_RING_STATUS_SQ_HEAD r)
  let tag : Word := BitVec.ofNat 32 (leAt raw 12 4)
  let p := leAt raw 10 1
  let s1 := nicTake r s
  match nicMalformed raw with
  | some reason => nicError r idx tag reason s1
  | none =>
    if nicRefused s1 frame then nicComplete r idx tag 0x05 0x021E 0 s1
    else
      let bytes := fit (max 60 frame.length) frame
      sendFrame p { cls := nicClass frame, bytes := bytes.length + 24, what := .nic p (nicClass frame) (bytes ++ fcs bytes)
                    done := some (r, idx, tag, (leAt raw 11 1).testBit 0) } s1

/-- NIC_TX_DESCRIPTOR (R182, R183, R318, R324): the descriptor at the SQ head, with the frame in its buffer. An entry does not
start before the completion of the one before it, and none is fetched while NIC DMA stands still (R435). `raw` is what its read gave,
none for an error. -/
def execNicTxDescriptor (r : Fin 128) (raw : Option (List Byte)) (frame : List Byte) (s : State) :
    Host.Outcome State Fault Refusal :=
  .next (if ringKind s r = 5 ∧ entryReady s r ∧ nicRuns s ∧ (ring s r).slots.isEmpty then
      match raw with
      | some b => nicSend r b (frame.take (leAt b 8 2)) s
      | none => nicError r (fget s (HIF_RING_STATUS_SQ_HEAD r)) 0 0x0101
          (nicTake r (interrupt 128 (raise HIF_EVENTS_HOST_DMA_ERR s)))
    else s)

/-- NIC_RX_BUFFER_ENTRY (R183, R326): the entry at the SQ head is fetched, or ends the ring when it is malformed and the entries
before it have completed; nothing is fetched behind it. -/
def execNicRxBufferEntry (r : Fin 128) (raw : List Byte) (s : State) : Host.Outcome State Fault Refusal :=
  .next (if ringKind s r = 6 ∧ entryReady s r ∧ nicRuns s ∧ (look s.net.nicBad r).isNone then
      let e : BufEntry := { addr := leAt raw 0 8, len := leAt raw 8 4, reserved := BitVec.ofNat 32 (leAt raw 12 4) }
      let idx := fget s (HIF_RING_STATUS_SQ_HEAD r)
      let bad := if e.reserved ≠ 0 then some 0x0104 else if e.addr % 64 ≠ 0 ∨ e.len < 1536 then some 0x0105 else none
      let s1 := takeEntry r s
      match bad with
      | some reason => endNic r { s1 with net.nicBad := put r (idx, reason) s1.net.nicBad }
      | none => { s1 with net.nicBuf := upd r [] (· ++ [e]) s1.net.nicBuf }
    else s)

end Sys2Proof.Machine
end

