-- ==== Sys2Proof/Machine/PairMirror.lean ====
section
/-! DEFINITION. Shadow execution and its supervision (R203–R208), mirrored commands (R204, R107, R354), state transfer (R210),
takeover (R211), handover (R217) and the commands of class 0x08 (R219). -/

namespace Sys2Proof.Machine

open Reg

/-! ### Mirrored commands (R204, R205, R361) -/

/-- What a mirrored command with an effect at a boundary does there. -/
def mirroredAct (op : Nat) (d : Desc) : Option DefAct :=
  match op with
  | 0x0101 => some (.start (opflag d 4))
  | 0x0102 => some .stop
  | 0x0106 => some (.trigger (param d 32))
  | 0x0402 => some .imgWrite
  | 0x0501 => some .force
  | 0x0502 => some .forceClear
  | 0x0601 => some .entryBatch
  | 0x0603 => some .axisSet
  | 0x0604 => some .trimSet
  | 0x0605 => some .rearm
  | 0x0901 => some .clearLatch
  | 0x0902 => some .release
  | _ => none

/-- What a mirrored command that takes effect on receipt does. -/
def mirroredNow (op : Nat) (d : Desc) : Option (State → State) :=
  match op with
  | 0x0104 => some clearHalt
  | 0x0201 => some (graftOpen d)
  | 0x0202 => some (graftLoad d)
  | 0x0203 => some standbyCheck
  | 0x0205 => some closeGraft
  | 0x0305 => some (closeTxn d.ident)
  | 0x0410 => some (restore d)
  | _ => none

/-- The active has switched to a new generation at cycle N_s by a command (R108). A standby in RUN switches with the first instance
that carries the generation; outside RUN no instance does, and it switches at once. -/
def switchTold (d : Desc) (cycle : Nat) (s : State) : State :=
  let s1 : State := { s with prog.told := some (cycle, d) }
  if ctl s1 = 3 then s1 else (standbySwitch cycle s1).getD (unfitNow 6 s1)

/-- The command of an active unit, by the kind of its effect point. -/
def takeMirrored (op : Nat) (d : Desc) (cycle : Nat) (s : State) : State :=
  match mirroredAct op d, mirroredNow op d with
  | some act, _ =>
    let (s1, job) := acceptMirrored op d (cycle - 2) cycle s
    { s1 with cmd.deferred := queueDeferred { act, cycle, job } s1.cmd.deferred }
  | none, some f => f (acceptMirrored op d cycle 0 s).1
  | none, none =>
    if op = 0x0303 then mirroredCommit d cycle s
    else if op = 0x0304 then mirroredRollback d cycle s
    else if op = 0x0204 ∨ op = 0x0207 then switchTold d cycle s
    else s

/-- The command has an effect boundary, and that boundary has passed. -/
def mirrorLate (op : Nat) (d : Desc) (cycle : Nat) (s : State) : Bool :=
  ((mirroredAct op d).isSome ∨ (op = 0x0303 ∧ d.apply ≠ 2)) ∧ boundary s cycle < s.now

/-! ### Mirrored snapshots (R34, R69, R108, R203) -/

/-- Tasks that a switch to the generation of a snapshot affects. -/
def switchMask (s : State) : Nat := if graftState s = 2 then affected s else revertMask s

/-- A task can take a mirrored instance now: none of it runs or is pending. One that only awaits its commit does neither (R82). -/
def mirrorReady (s : State) (t : Nat) : Bool := (run s t).phase = .idle

/-- The release of an instance on its mirrored snapshot. The release time is the active's (R33); the budget is that of the unit's
own sag stage (R89). An instance of an older generation runs on the code that the task still has. -/
def mirroredRelease (m : SnapMsg) (s : State) : State :=
  let t := m.task.val
  let s1 := if m.gen = generation s then codeSwitch t s else s
  let s2 := setRun t (fun r => { r with
    inst := m.inst
    nextInst := if standby s then m.inst + 1 else max r.nextInst (m.inst + 1)
    releaseAt := localTime s (leAt m.sArea 8 8 * 16)
    cycle := m.cycle
    gen := m.gen
    mirror := some m
    sagBudget := sag s = 2 ∧ fbit s CTL_STATE_SAG2_RT }) s1
  if blocked s2 t then setPhase t .pending s2 else startRelease t s2

/-- One mirrored snapshot. Outside RUN nothing is released (R82, R83). An instance that carries a newer generation waits until
the older instances of the affected tasks have ended, and the unit then switches; a switch that fails is GRAFT, and an instance
that finds its task busy is an overrun (R76, R78, R108). -/
def takeSnapshot (m : SnapMsg) (s : State) : State :=
  let t := m.task.val
  if ctl s ≠ 3 then s
  else if m.gen > generation s then
    if allIdle s (switchMask s) then
      match standbySwitch m.cycle s with
      | some s1 => if (taskDef s1 t).isSome then mirroredRelease m s1 else unfitNow 6 s1
      | none => unfitNow 6 s
    else { s with red.queued := s.red.queued ++ [.snap m] }
  else if (taskDef s t).isNone then unfitNow 6 s
  else if mirrorReady s t then mirroredRelease m s
  else overrun t s

/-- Works through the queue in its order, as far as the tasks are free (R108, R210). -/
def drainQueue : Nat → State → State
  | 0, s => s
  | n + 1, s =>
    match s.red.queued with
    | .snap m :: rest =>
      if ctl s ≠ 3 ∨ (mirrorReady s m.task.val ∧ (m.gen ≤ generation s ∨ allIdle s (switchMask s))) then
        drainQueue n (takeSnapshot m { s with red.queued := rest })
      else s
    | .cmd op d cycle :: rest => drainQueue n (takeMirrored op d cycle { s with red.queued := rest })
    | [] => s

/-- Everything in the queue that can run. -/
def drain (s : State) : State := drainQueue s.red.queued.length s

/-- Something that a joiner must keep until its final round is installed (R210). -/
def enqueueJoiner (x : Queued) (s : State) : State :=
  let s1 : State := { s with red.queued := s.red.queued ++ [x] }
  if s1.red.xfer.any (·.complete) then drain s1 else s1

/-- SNAPSHOT_MESSAGE_RECEIVE: from the declaration of a failed active on, mirror traffic is not accepted (R211). -/
def execSnapshotMessageReceive (m : SnapMsg) (s : State) : Host.Outcome State Fault Refusal :=
  .next (
    if pair s = 5 ∧ s.red.takeover.isNone then
      let s2 := drain { s with red.mirrored := put m.task.val (m.inst, m.at_) s.red.mirrored }
      if s2.red.queued.isEmpty then takeSnapshot m s2 else { s2 with red.queued := s2.red.queued ++ [.snap m] }
    else if pair s = 3 then
      enqueueJoiner (.snap m) { s with red.mirrored := put m.task.val (m.inst, m.at_) s.red.mirrored }
    else s)

/-- MIRROR_CMD_RECEIVE: a standby in code 5 that finds the effect boundary passed becomes unfit with APPLY; a joiner keeps
the command behind its transfer. -/
def execMirrorCmdReceive (opcode : Nat) (d : Desc) (cycle : Nat) (s : State) : Host.Outcome State Fault Refusal :=
  .next (if pair s = 5 ∧ s.red.takeover.isNone then
      if mirrorLate opcode d cycle s then unfitNow 5 s else takeMirrored opcode d cycle s
    else if pair s = 3 then enqueueJoiner (.cmd opcode d cycle) s
    else s)

/-- SNAPSHOT_TIMEOUT (R206): the message with this SNAP_TIME is not complete 2 × T_sync after it. -/
def execSnapshotTimeout (t : Fin 32) (snapTime : Nat) (s : State) : Host.Outcome State Fault Refusal :=
  .next (
    let have_ := (look s.red.mirrored t.val).elim false (fun x => snapTime ≤ x.2)
    if pair s = 5 ∧ s.red.takeover.isNone ∧ !have_ then unfitNow 3 (advance (localTime s ((snapTime + 2 * tSync s) * 16)) s) else s)

/-! ### Digests (R208) -/

/-- DIGEST_RECEIVE; the end of an instance may let queued ones start. -/
def execDigestReceive (m : Digest) (s : State) : Host.Outcome State Fault Refusal :=
  .next (if twinned s ∧ !takingOver s then drain (compareDigests { s with red.peerDigests := s.red.peerDigests ++ [m] }) else s)

/-- DIGEST_TIMEOUT: the active's digest of an instance has no partner 2 × T_sync after the active's commit. -/
def execDigestTimeout (t : Fin 32) (inst : Nat) (s : State) : Host.Outcome State Fault Refusal :=
  .next (
    let ds := if pair s = 4 then s.red.ownDigests else if pair s = 5 ∧ !takingOver s then s.red.peerDigests else []
    match ds.find? (fun m => m.task = t ∧ m.inst = inst) with
    | some m =>
      let s1 := advance (localTime s ((m.time + 2 * tSync s) * 16))
        { s with red.ownDigests := s.red.ownDigests.erase m, red.peerDigests := s.red.peerDigests.erase m }
      s1 |> raise RED_EVENTS_DIGEST_MISMATCH
         |> fput RED_MISMATCH_VALID 1 |> fput RED_MISMATCH_TASK t.val |> fput RED_MISMATCH_INSTANCE inst
         |> unfitNow 1
    | none => s)

/-! ### State transfer (R210) -/

/-- Lines of 64 bytes in `[lo, hi)` in which two memories differ. -/
def changedLines (old new : Mem) (lo hi : Nat) : List Nat :=
  (((old ++ new).filter (fun c => lo ≤ c.1 ∧ c.1 < hi)).map (·.1 / 64)).eraseDups.filter
    (fun l => rdN old (64 * l) 64 ≠ rdN new (64 * l) 64)

def lineItems (type region base lo hi : Nat) (old new : Mem) : List XferItem :=
  (changedLines old new lo hi).map fun l => { type, region, offset := 64 * l - base, body := .bytes (rdN new (64 * l) 64) }

/-- Address of retained bank `b`. -/
def bankBase (b : Nat) : Nat := 0x30000000 + 0x10000 * b

/-- Items of types 5, 6 and 7 for the lines written since a round; a line counts as written when its bytes differ (DESIGN CHOICE,
log entry 46). Bank 0 holds the unit's own journal and stays behind. -/
def dirtyItems (s : State) (data live : Mem) : List XferItem :=
  lineItems 5 0 0x10000000 0x10000000 0x10800000 data s.mem.data
    ++ (List.range 15).flatMap (fun b => lineItems 6 (b + 1) (bankBase (b + 1)) (bankBase (b + 1)) (bankBase (b + 2)) data s.mem.data)
    ++ lineItems 7 0 0 0x20000 0xF0000 live s.img.live

/-- Items of types 5, 6 and 7 with everything. -/
def allItems (s : State) : List XferItem :=
  { type := 5, region := 0, offset := 0, body := .bytes (rdN s.mem.data 0x10000000 0x800000) }
    :: (List.range 15).map (fun b => { type := 6, region := b + 1, offset := 0, body := .bytes (rdN s.mem.data (bankBase (b + 1)) 0x10000) })
    ++ [{ type := 7, region := 0, offset := 0x20000, body := .bytes (rdN s.img.live 0x20000 0xD0000) }]

/-- Items of types 8, 9 and 10. -/
def tableItems (s : State) : List XferItem :=
  [{ type := 8, region := 0, offset := 0, body := .timers s.img.timers s.img.counters },
   { type := 9, region := 0, offset := 0, body := .forces s.img.forces },
   { type := 10, region := 0, offset := 0
     body := .trellis s.trl.entries ((List.range 16).map (fun k => (k, fget s (TRL_AXIS_TRIM_TRIM k)))) }]

/-- The configuration that a state transfer carries: every item but the address of the unit's own peer (R187). -/
def sharedItems (s : State) : List (Nat × List Byte) := (configItems s).filter (·.1 ≠ 0x400C)

/-- Items of types 1–4 and 11, which round 0 sends. -/
def programItems (s : State) : List XferItem :=
  [{ type := 1, region := 0, offset := 0, body := .bytes (rdN s.mem.code 0 0x1000000) },
   { type := 2, region := 0, offset := 0
     body := .bytes ((List.range 0x100000).flatMap (fun i => le 4 (lookD s.img.rung i 0).toNat)) },
   { type := 3, region := 0, offset := 0, body := .tables (latest s) }]
  ++ s.prog.kept.toList.map (fun k => { type := 3, region := 0, offset := 0, body := .kept k })
  ++ [
   { type := 4, region := 0, offset := 0, body := .config (sharedItems s) },
   { type := 11, region := 0, offset := 0
     body := .identity (generation s) (s.prog.kept.map (fun _ => generation s - 1)) (epoch s) (clockId s)
       ((taskIds s).map (fun t => (t, (run s t).nextInst))) }]

/-- KiB of items. -/
def itemsKib (items : List XferItem) : Nat := (items.map (fun i => 12 + (itemData i).length)).sum / 1024

/-- A round goes out. -/
def sendRound (x : Xfer) (round : Nat) (items : List XferItem) (s : State) : State :=
  { s with red.xfer := some { x with round, sent := some (s.mem.data, s.img.live) } }
    |> fput RED_XFER_ROUND (min 15 round) |> bump RED_XFER_KIB (itemsKib items) |> hedgeSend (.state items)

/-- Round 0 goes out. -/
def sendZero (x : Xfer) (s : State) : State :=
  { s with red.xfer := some { x with zero := true } }
    |> bump RED_XFER_KIB (itemsKib (programItems s)) |> hedgeSend (.state (programItems s))

/-- The opcode of a command that waits for a boundary, and its descriptor, as the active mirrors them. -/
def mirrorBehind (x : Deferred) (s : State) : State :=
  if x.job.mirrored ∨ boundary s x.cycle < s.now then s else mirrorCmd x.job.op x.job.d x.cycle s

/-- Instant I: the commands already accepted whose effect boundary lies after it are mirrored (R210 step 4), in the order of their
boundaries and acceptance, then the configuration changes that wait for theirs. -/
def mirrorWaiting (s : State) : State :=
  forEach s.cmd.txns (forEach s.cmd.deferred s mirrorBehind) mirrorTxn

/-- The next step of a source: round 0, then round 1; a further round while the lines written since the last one exceed 1 MiB, at
most 16 rounds; and from the round that qualified on, instant I once the controller is quiescent. The final round carries the state
as it stands at I, and from then on instances and commands are mirrored. -/
def transferStep (x : Xfer) (s : State) : State :=
  match x.sent with
  | none => if x.zero then sendRound x 1 (allItems s ++ tableItems s) s else sendZero x s
  | some (data, live) =>
    let dirty := dirtyItems s data live
    if x.qualified.isNone ∧ dirty.length > 16384 then
      if x.round ≥ 16 then unfitNow 12 s else sendRound x (x.round + 1) (dirty ++ tableItems s) s
    else
      let y : Xfer := { x with qualified := some (x.qualified.getD s.now) }
      if quiescent s 32000 then mirrorWaiting (sendRound { y with instant := some s.now } (x.round + 1) (dirty ++ tableItems s) s)
      else { s with red.xfer := some y }

/-- TRANSFER_QUIESCENT_POINT: the source goes on with its rounds, and chooses instant I (log entry 46). -/
def execTransferQuiescentPoint (s : State) : Host.Outcome State Fault Refusal :=
  .next (match s.red.xfer with
    | some x => if pair s = 2 ∧ x.instant.isNone then transferStep x s else s
    | none => s)

/-- When a transfer fails: 100 ms after the round that qualified without an instant I, and 10 s after its start. -/
def transferLimit (x : Xfer) : Nat :=
  match x.qualified, x.instant with
  | some q, none => min (q + msec 100) (x.started + secs 10)
  | _, _ => x.started + secs 10

/-- TRANSFER_TIMEOUT. -/
def execTransferTimeout (s : State) : Host.Outcome State Fault Refusal :=
  .next (match s.red.xfer with
    | some x => if pair s = 2 ∨ pair s = 3 then unfitNow 12 (advance (transferLimit x) s) else s
    | none => s)

/-- The pair is REDUNDANT. -/
def transferDone (code : Nat) (s : State) : State :=
  setPair code { s with red.xfer := none } |> fput RED_XFER_RESULT 2 |> fput RED_STATUS_FIT 1

/-- The final round is installed: the joiner's controller state is the active's, and it works through its queue. -/
def joinerInstalled (x : Xfer) (s : State) : State :=
  let s1 : State := { s with red.xfer := some { x with complete := true } }
  drain (match s1.red.peerBeat with
    | some b => if ctl s1 ≠ b.ctl ∧ !x.complete then setCtl b.ctl s1 else s1
    | none => s1)

/-- TRANSFER_COMPLETE: the pair becomes REDUNDANT when the joiner has worked through its queue and its lag is within T_sync. -/
def execTransferComplete (s : State) : Host.Outcome State Fault Refusal :=
  .next (match s.red.xfer with
    | some x =>
      if pair s = 2 ∧ x.instant.isSome then transferDone 4 s
      else if pair s = 3 then
        let s1 := joinerInstalled x s
        if pair s1 = 3 ∧ s1.red.queued.isEmpty ∧ allIdle s1 (2 ^ 32 - 1) ∧ s1.red.lags.headD 0 ≤ tSync s1 then transferDone 5 s1 else s1
      else s
    | none => s)

/-- 4-byte words of an item. -/
def itemWords (b : List Byte) : List Word := (List.range (b.length / 4)).map (fun i => BitVec.ofNat 32 (leAt b (4 * i) 4))

/-- The bytes of a memory item. Addresses of data SRAM and retained banks are those of R226. -/
def installBytes (x : XferItem) (b : List Byte) (s : State) : State :=
  match x.type with
  | 1 => { s with mem.code := wrN s.mem.code x.offset b }
  | 2 => { s with img.rung := (itemWords b).zipIdx.foldl (fun m (w, i) => put (x.offset / 4 + i) w m) s.img.rung }
  | 5 => { s with mem.data := wrN s.mem.data (0x10000000 + x.offset) b }
  | 6 => if x.region = 0 then s else { s with mem.data := wrN s.mem.data (bankBase x.region + x.offset) b }
  | 7 => { s with img.live := wrN s.img.live x.offset b }
  | _ => s

/-- One item of a STATE message; code and rung words come as items of their own beside the tables. -/
def installItem (s : State) (x : XferItem) : State :=
  match x.body with
  | .bytes b => installBytes x b s
  | .kept k => setKept (some k) s
  | .tables p => showMaps p { s with prog.cur := p, seq.runs := [], seq.bgDue := [], prog.codePending := 0, prog.pendTasks := [] }
  | .config xs => configure xs s
  | .timers ts cs => { s with img.timers := ts, img.counters := cs }
  | .forces es => showForces { s with img.forces := es }
  | .trellis es trims => trims.foldl (fun s (k, v) => fput (TRL_AXIS_TRIM_TRIM k) v s) { s with trl.entries := es }
  | .identity gen kept e clk nums =>
    let s1 := { (if kept.isNone then setKept none s else s) with seq.numFrom := cycleNow s } |> fput CTL_GRAFT_GEN_GEN gen |> seeEpoch e |> fput NET_PTP_CLKID_CLKID clk
    nums.foldl (fun s (t, n) => setRun t (fun r => { r with nextInst := n }) s) s1

/-- STATE_MESSAGE_RECEIVE: the joiner installs the items. A parked standby whose active starts a transfer joins it (R219). -/
def execStateMessageReceive (items : List XferItem) (s : State) : Host.Outcome State Fault Refusal :=
  .next (
    let s1 := if pair s = 1 ∧ fbit s RED_CFG_PAIR_EN ∧ fbit s RED_STATUS_PARKED ∧ mayPair s ∧ s.red.peer.any (formatsFit s)
      then agree false s else s
    if pair s1 = 3 ∧ s1.red.xfer.isSome then bump RED_XFER_KIB (itemsKib items) (items.foldl installItem s1) else s)

/-! ### Takeover and handover (R201, R211, R217) -/

/-- The first boundary later than a time. -/
def boundaryAfter (s : State) (t : Nat) : Nat := if boundary s 0 > t then 0 else cycleAt s t + 1

/-- TAKEOVER_BOUNDARY: the standby, whose complete snapshots have all started, becomes active in code 6; a unit that sent an explicit fault behaves as yielded from
here on. -/
def execTakeoverBoundary (s : State) : Host.Outcome State Fault Refusal :=
  .next (match s.red.takeover with
    | some td =>
      if pair s = 5 then
        toBoundary (boundaryAfter s td) s |> drain |> fput RED_STATUS_FIT 0 |> becomeActive 6
          |> raise RED_EVENTS_TAKEOVER |> bump RED_COUNTS_TAKEOVERS 1 |> remember 0
      else { s with red.takeover := none }
    | none => if s.red.faultSent ∧ !standby s then yieldNow (toBoundary (boundaryAfter s s.now) s) else s)

/-- Limit of the lag for a handover in ns (R217). -/
def handoverLagLimit (s : State) : Nat := tSync s + fget s NET_RX_CUTOFF_NS - fget s NET_TX_OPEN_NS

/-- The two units run different firmware component versions. -/
def versionsDiffer (s : State) : Bool :=
  s.red.peer.elim false (fun h => h.versions ≠ [0, 1, 2, 3].map (fun c => fget s (BOOT_COMP_VER_VERSION c)))

def handoverCard (s : State) : Card :=
  { op := 0x0801, active := true, guards := if versionsDiffer s then allGuards else [2, 6, 7] }

def handoverChecks (s : State) : Option (Nat × Nat) :=
  firstOf [(pair s ≠ 4 ∨ !fbit s RED_STATUS_FIT ∨ s.red.lags.any (· > handoverLagLimit s), 0x01, 0x0004),
    (graftState s = 3 ∨ graftState s = 4 ∨ s.red.handover.isSome, 0x08, 0)]

/-- RED_HANDOVER: accepted in cycle N with H the boundary of cycle N + 2. -/
def execRedHandover (d : Desc) (s : State) : Host.Outcome State Fault Refusal :=
  .next (command (handoverCard s) d handoverChecks
    (fun s =>
      let h := cycleNow s + 2
      let (s1, job) := accept 0x0801 d h s
      hedgeSend (.handover .request h 0 0)
        { s1 with red.handover := some { h, source := true, accepted := false, job := some job, outputsAt := none } }) s)

/-- The standby answers a request; it refuses while it is not fit to take over. -/
def answerHandover (h : Nat) (s : State) : State :=
  if pair s = 5 ∧ s.red.takeover.isNone ∧ fbit s RED_STATUS_FIT then
    hedgeSend (.handover .acceptance h 0 0)
      { s with red.handover := some { h, source := false, accepted := true, job := none, outputsAt := none } }
  else hedgeSend (.handover .refusal h 0x01 0x0004) s

/-- HANDOVER_RECEIVE: a request at the standby; the reply at the active, where a refusal completes the command. -/
def execHandoverReceive (k : HandoverMsg) (h status reason : Nat) (s : State) : Host.Outcome State Fault Refusal :=
  .next (match k with
    | .request => answerHandover h s
    | .acceptance => { s with red.handover := s.red.handover.map (fun x => if x.source then { x with accepted := true } else x) }
    | .refusal => match s.red.handover with
      | some x =>
        let s1 : State := { s with red.handover := none }
        (match x.job with
          | some jb => ended jb status reason 0 s1
          | none => s1)
      | none => s)

/-- The role of the old active at H: it executes in shadow, its instances in flight run on, and its mailbox transactions
end with ABORTED (R177). -/
def becomeStandby (x : Handover) (s : State) : State :=
  remember 2 (setPair 5 (abortMailbox
    { s with red.handover := some { x with outputsAt := some (s.now + usec 10) }, red.peerDigests := [] }))

/-- The state conditions of RED_HANDOVER, judged again at H (R497). -/
def handoverAgain (s : State) : Option Nat :=
  let t : State := { s with red.handover := none }
  let g := (guardRefusal t none (handoverCard t).guards).or (powerRefusal (handoverCard t) t)
  match g, handoverChecks t with
  | some r, own => some (firstRefusal r own).2
  | none, own => own.map (·.2)

/-- HANDOVER_BOUNDARY. A request that has no answer at H ends the command (log entry 42), and so does a state condition that fails at
H; the standby hears of that by a refusal of its own (log entry 100). -/
def execHandoverBoundary (s : State) : Host.Outcome State Fault Refusal :=
  .next (match s.red.handover with
    | some x =>
      let s1 := toBoundary x.h s
      if x.outputsAt.isSome then s
      else if !x.accepted then
        let s2 : State := { s1 with red.handover := none }
        match x.job with
        | some jb => ended jb 0x0A 0x0004 0 s2
        | none => s2
      else if x.source ∧ pair s = 4 then
        (match handoverAgain s1, x.job with
          | some reason, some jb => ended jb 0x0A reason 0 (hedgeSend (.handover .refusal x.h 0x0A reason) { s1 with red.handover := none })
          | _, _ => becomeStandby x s1)
      else if !x.source ∧ pair s = 5 then remember 2 (becomeActive 4 (raiseEpoch s1))
      else s
    | none => s)

/-- HANDOVER_OUTPUT_RELEASE: at H + 10 µs the field outputs go to safe values; the shadow levels of Trellis stay (R139, R215). -/
def execHandoverOutputRelease (s : State) : Host.Outcome State Fault Refusal :=
  .next (match s.red.handover with
    | some x =>
      (match x.outputsAt with
        | some t =>
          let rest := if x.job.isSome then some { x with outputsAt := none } else none
          islandSafe (advance t { s with red.handover := rest })
        | none => s)
    | none => s)

/-! ### RED_RESYNC, RED_PARK, RED_READ (R219) -/

def resyncCard : Card := { op := 0x0802 }

/-- RED_RESYNC: on the active the transfer starts at once, unless the unit may not pair or the formats do not fit (R192, R385,
R406); then it waits for a HELLO that agrees. A standby seeks its peer again, and the command completes when
the transfer starts. -/
def resyncEffect (d : Desc) (s : State) : State :=
  let (s1, job) := accept 0x0802 d 0 s
  let s2 := fput RED_STATUS_PARKED 0 { s1 with red.resyncJob := some job }
  if pair s2 = 6 ∧ mayPair s2 ∧ s2.red.peer.any (formatsFit s2) then agree true s2 else s2

def execRedResync (d : Desc) (s : State) : Host.Outcome State Fault Refusal :=
  .next (command resyncCard d
    (fun s => firstOf [(!fbit s RED_CFG_PAIR_EN ∨ (pair s ≠ 1 ∧ pair s ≠ 6) ∨ s.red.peer.isNone, 0x01, 0x0004),
      (s.red.resyncJob.isSome, 0x08, 0)]) (resyncEffect d) s)

def parkCard : Card := { op := 0x0803 }

/-- RED_PARK. -/
def execRedPark (d : Desc) (s : State) : Host.Outcome State Fault Refusal :=
  .next (command parkCard d (fun s => firstOf [(pair s < 2 ∨ pair s > 5, 0x01, 0x0004)])
    (immediate 0x0803 d (reportUnfit 10) (fun _ => 0) (fun _ => [])) s)

/-- The bytes of a HELLO's content; the layout is the model's (log entry 41). -/
def helloBytes (h : Hello) : List Byte :=
  le 2 h.pairId ++ le 1 h.side ++ le 1 h.code ++ le 1 h.ctl ++ le 1 h.fmt ++ le 1 h.winMin ++ le 1 h.winMax ++ le 4 h.epoch
    ++ le 4 0 ++ (fit 4 (h.versions.map (BitVec.ofNat 32))).flatMap (fun w => le 4 w.toNat)
where
  fit (n : Nat) (l : List Word) : List Word := l.take n ++ List.replicate (n - l.length) 0

/-- What RED_READ returns. -/
def redBytes (s : State) : List Byte :=
  helloBytes (ownHello s) ++ (s.red.peer.elim (List.replicate 32 0) helloBytes)
    ++ s.red.history.flatMap (fun (k, t) => le 8 k ++ le 8 t)

def redReadCard : Card := { op := 0x0804, buf := .writes, svc := .open_ }

/-- RED_READ. -/
def execRedRead (d : Desc) (s : State) : Host.Outcome State Fault Refusal :=
  .next (command redReadCard d (fun _ => none)
    (immediate 0x0804 d id (fun s => ((redBytes s).take d.bufLen).length) (fun s => (redBytes s).take d.bufLen)) s)

end Sys2Proof.Machine
end

