-- ==== Sys2Proof/Machine/Fetch.lean ====
section
/-! DEFINITION. The fetch of command descriptors (R316, R318, R320–R326): which command an opcode names, and the next entry
of a COMMAND ring. -/

namespace Sys2Proof.Machine

open Reg

/-- A descriptor whose opcode is not assigned (R321). -/
def unknownOpcode (op : Nat) (d : Desc) (s : State) : State := refuse op d 0x02 0x0102 (openSlot d s)

/-- LPT_TRIM by its step (R306). -/
def runTrim (d : Desc) (s : State) : Host.Outcome State Fault Refusal :=
  match param d 33 with
  | 0 => execTrimBegin d s
  | 1 => execTrimPoint d s
  | 2 => execTrimApply d s
  | _ => execTrimCancel d s

/-- SEC_LIFECYCLE by its operation (R389). -/
def runLifecycle (d : Desc) (s : State) : Host.Outcome State Fault Refusal :=
  match param d 32 with
  | 2 => execLcTakeOwnership d s
  | 3 => execLcReturn d s
  | 4 => execLcScrap d s
  | 5 => execLcLock d s
  | 6 => execLcUnlock d s
  | 7 => execLcRaiseSvn d s
  | 8 => execLcRevokeVkey d s
  | _ => execLcProvision d s

/-- NVS_UNLOCK by its operation (R457). -/
def runUnlock (d : Desc) (s : State) : Host.Outcome State Fault Refusal :=
  match param d 33 with
  | 1 => execUnlockRead d s
  | 2 => execUnlockWrite d s
  | 3 => execSetReadPw d s
  | 4 => execSetWritePw d s
  | _ => execNvsLock d s

/-- Opcodes of classes 0x00 to 0x03. -/
def runLow (op : Nat) (d : Desc) (s : State) : Host.Outcome State Fault Refusal :=
  match op with
  | 0x0001 => execRingNop d s
  | 0x0002 => execFence d s
  | 0x0101 => execCtlStart d s
  | 0x0102 => execCtlStop d s
  | 0x0103 => execCtlHalt d s
  | 0x0104 => execCtlClearHalt d s
  | 0x0105 => execCtlWarmRestart d s
  | 0x0106 => execCtlTrigger d s
  | 0x0110 => execJrnlRead d s
  | 0x0201 => execGraftOpen d s
  | 0x0202 => execGraftLoad d s
  | 0x0203 => execGraftCheck d (Config.sections (rdN s.prog.image 0 s.prog.length)) s
  | 0x0204 => execGraftCommit d s
  | 0x0205 => execGraftAbort d s
  | 0x0206 => execGraftConfirm d s
  | 0x0207 => execGraftRevert d s
  | 0x0301 => execCfgBegin d s
  | 0x0302 => execCfgPut d s
  | 0x0303 => execCfgCommit d s
  | 0x0304 => execCfgAbort d s
  | 0x0305 => execCfgConfirm d s
  | 0x0306 => execCfgRead d s
  | _ => .next (unknownOpcode op d s)

/-- Opcodes of classes 0x04 to 0x09. -/
def runMiddle (op : Nat) (d : Desc) (s : State) : Host.Outcome State Fault Refusal :=
  match op with
  | 0x0401 => execImgRead d s
  | 0x0402 => execImgWrite d s
  | 0x0410 => execRetainRestore d s
  | 0x0501 => execForceWrite d s
  | 0x0502 => execForceClear d s
  | 0x0503 => execForceRead d s
  | 0x0601 => execTrlEntryWrite d s
  | 0x0602 => execTrlEntryRead d s
  | 0x0603 => execTrlAxisSet d s
  | 0x0604 => execTrlTrimSet d s
  | 0x0605 => execTrlAxisRearm d s
  | 0x0701 => execNetMailbox d s
  | 0x0702 => execNetTplRead d s
  | 0x0703 => execNetPtpRead d s
  | 0x0704 => execNetMcastRead d s
  | 0x0801 => execRedHandover d s
  | 0x0802 => execRedResync d s
  | 0x0803 => execRedPark d s
  | 0x0804 => execRedRead d s
  | 0x0901 => execFioClearLatch d s
  | 0x0902 => execFioRelease d s
  | 0x0903 => execFioRead d s
  | 0x0911 => runTrim d s
  | 0x0912 => execLptHartFetch d s
  | 0x0913 => execLptHartReply d s
  | 0x0914 => execLptRead d s
  | _ => .next (unknownOpcode op d s)

/-- Opcodes of classes 0x0A to 0x0F. -/
def runHigh (op : Nat) (d : Desc) (s : State) : Host.Outcome State Fault Refusal :=
  match op with
  | 0x0A01 => execSecChallenge d s
  | 0x0A02 => execSecResponse d s
  | 0x0A03 => if opflag d 4 then execSecKeyWrap d s else execSecKeyLoad d s
  | 0x0A04 => execSecKeyUnload d s
  | 0x0A05 => execSecAttest d s
  | 0x0A06 => runLifecycle d s
  | 0x0A07 => execSecDebug d s
  | 0x0B01 => execNvsRead d s
  | 0x0B02 => execNvsWrite d s
  | 0x0B03 => runUnlock d s
  | 0x0C01 => execRtcRead d s
  | 0x0C02 => execRtcSet d s
  | 0x0C03 => execRtcAlarm d s
  | 0x0D01 => execRecRead d s
  | 0x0D02 => execRecClear d s
  | 0x0D03 => execRecConsolidate d s
  | 0x0E01 => execPwrState d s
  | 0x0E02 => execPwrRead d s
  | 0x0F01 => execFwRead d s
  | 0x0F02 => execFwReset d s
  | _ => .next (unknownOpcode op d s)

/-- Runs the command that an opcode names. -/
def runOpcode (op : Nat) (d : Desc) (s : State) : Host.Outcome State Fault Refusal :=
  if op < 0x0400 then runLow op d s else if op < 0x0A00 then runMiddle op d s else runHigh op d s

/-- The ring waits: a FENCE that holds one of its slots has not completed (R325; a reset of its own ring drops the slot,
R327), or a malformed entry waits for its error completion (R326). -/
def ringHolds (s : State) (r : Fin 128) : Bool :=
  s.hif.fences.any (fun x => x.job.d.origin = .ring r && (ring s r).slots.any (fun g => g.key = x.job.j))
    || (ring s r).slots.any (fun x => x.err.isSome)

/-- The descriptor of 64 bytes at an SQ index (R320), little-endian, with the bytes of the host buffer. -/
def ringDesc (r : Fin 128) (index : Nat) (b buf : List Byte) : Desc :=
  { origin := .ring r, index, tag := BitVec.ofNat 32 (leAt b 4 4), flags := BitVec.ofNat 8 (leAt b 2 1)
    byte3 := BitVec.ofNat 8 (leAt b 3 1), ident := BitVec.ofNat 64 (leAt b 8 8)
    bufAddr := BitVec.ofNat 64 (leAt b 16 8), bufLen := leAt b 24 4, apply := leAt b 28 4
    params := BitVec.ofNat 256 (leAt b 32 32), buf }

/-- The read of the descriptor ended in error (R321, R329). -/
def fetchLost (r : Fin 128) (index : Nat) (s : State) : State :=
  let d : Desc := { origin := .ring r, index }
  refuse 0 d 0x02 0x0101 (openSlot d (interrupt 128 (raise HIF_EVENTS_HOST_DMA_ERR s)))

/-- DESCRIPTOR_FETCH: the next entry of a COMMAND ring; `raw` is what its read gave, none for an error, and `buf` what a
read of its buffer gives. -/
def execDescriptorFetch (r : Fin 128) (raw : Option (List Byte)) (buf : List Byte) (s : State) :
    Host.Outcome State Fault Refusal :=
  if entryReady s r ∧ ringKind s r = 0 ∧ !ringHolds s r then
    let index := fget s (HIF_RING_STATUS_SQ_HEAD r)
    match raw with
    | none => .next (fetchLost r index (takeEntry r s))
    | some b => runOpcode (leAt b 0 2) (ringDesc r index b buf) (takeEntry r s)
  else .next s

end Sys2Proof.Machine
end

