-- ==== Sys2Proof/Machine/Registers.lean ====
section
/-! DEFINITION. Host accesses to BAR0 (R11–R16). Every command acts at one instant and the queue gives their order: what R16
says of a coincidence is what the order software first gives for a W1C flag, an RC field and a counter, and the order
hardware first for a W1S bit (log entry 6). -/

namespace Sys2Proof.Machine

open Reg

/-- A write of a time register of the RTC's BAR0 port (R454): field `i` in the registers' order; SEC asks for the commit. -/
def writeTimeReg (i : Nat) (v : Word) (s : State) : State :=
  let r := stage (s.rtc.bar0.staging.getD s.rtc.time) i (v.toNat % 256)
  { s with rtc.bar0.staging := some r, rtc.bar0.commit := s.rtc.bar0.commit || i = 0 }

/-- A host write of a word (R11, R13, R14): the registers whose writes have rows of their own act as those rows do. -/
def writeRegWord (off width : Nat) (v : Word) (s : State) : State :=
  if width ≠ 4 ∨ off % 4 ≠ 0 then s
  else if 0x0500 ≤ off ∧ off < 0x0D00 ∧ off % 16 = 8 then writeRingCfg ((off - 0x0500) / 16) v s
  else if off = 0xA004 then bootCtrl v s
  else if 0x7C00 ≤ off ∧ off ≤ 0x7C18 then writeTimeReg ((off - 0x7C00) / 4) v s
  else hostWrite off width v s

/-- A read of a time register of the RTC's BAR0 port (R453). -/
def readTimeReg (off : Nat) (s : State) : State :=
  let (r, t) := s.rtc.bar0.shadow.getD (s.rtc.time, (s.now : Int))
  emit (.read off (BitVec.ofNat 32 (rtcField r ((off - 0x7C00) / 4))))
    { s with rtc.bar0.shadow := if off = 0x7C18 then none else some (r, t) }

/-- A host read of a word; a time register freezes the shadows. -/
def readRegWord (off width : Nat) (s : State) : State :=
  if width = 4 ∧ off % 4 = 0 ∧ 0x7C00 ≤ off ∧ off ≤ 0x7C18 then readTimeReg off s else hostRead off width s

/-- REGISTER_WRITE (R11, R13, R14): each field of the word by its access type. -/
def execRegisterWrite (off width : Nat) (v : Word) (s : State) : Host.Outcome State Fault Refusal :=
  .next (writeRegWord off width v s)

/-- A host read of the staging window (R367): its contents in AWAITING_BUNDLE, 0 in other states. -/
def readWindow (off width : Nat) (s : State) : State :=
  let n := min width (Config.barSize .bar4 - off)
  emit (.window off (if boot s = 1 then rdN s.boot.staging off n else List.replicate n 0)) s

/-- READ_CLEAR_FIELD (R11): a read of BAR0 returns the fields, then clears those that a read clears. A read of BAR2 returns 0 (R312),
and one of BAR4 what R367 says. -/
def execReadClearField (place : BarAt) (width : Nat) (s : State) : Host.Outcome State Fault Refusal :=
  .next (match place.bar with
    | .bar0 => readRegWord place.off width s
    | .bar2 => emit (.window place.off (List.replicate width 0)) s
    | .bar4 => readWindow place.off width s)

/-- READ_64BIT_LOW_WORD (R15): the read of the low word latches the high word. -/
def execRead64bitLowWord (off width : Nat) (s : State) : Host.Outcome State Fault Refusal :=
  .next (readRegWord off width s)

/-- WRITE_64BIT_HIGH_WORD (R15): applies the high word and the low word written before it together. -/
def execWrite64bitHighWord (off width : Nat) (v : Word) (s : State) : Host.Outcome State Fault Refusal :=
  .next (writeRegWord off width v s)

/-- RTC_TIME_REGISTER_READ: a read of a time register on BAR0 freezes the shadows; the read of RTC_YEAR releases them. -/
def execRtcTimeRegisterRead (off : Nat) (s : State) : Host.Outcome State Fault Refusal :=
  .next (if 0x7C00 ≤ off ∧ off ≤ 0x7C18 ∧ off % 4 = 0 then readTimeReg off s else s)

/-- RTC_STAGING_WRITE: a write to a time register other than RTC_SEC. -/
def execRtcStagingWrite (off : Nat) (v : Word) (s : State) : Host.Outcome State Fault Refusal :=
  .next (if 0x7C04 ≤ off ∧ off ≤ 0x7C18 ∧ off % 4 = 0 then writeTimeReg ((off - 0x7C00) / 4) v s else s)

/-- RTC_SEC_WRITE: stores SEC and asks for the commit. -/
def execRtcSecWrite (v : Word) (s : State) : Host.Outcome State Fault Refusal := .next (writeTimeReg 0 v s)

end Sys2Proof.Machine
end

