-- ==== Sys2Proof/Machine/Service.lean ====
section
/-! DEFINITION. The service port (R362–R364), and what the block does when no command waits. -/

namespace Sys2Proof.Machine

open Reg

/-- The service port answers: it has link, and the module is RUNNING (R365) and not in DORMANT. -/
def svcServes (s : State) : Bool := fbit s NET_STATUS_SVC_LINK && decide (boot s = 4 ∧ power s < 3)

/-- Fields of more than one byte that a command of the service port takes in PARAMS, in network byte order (R362). -/
def wideParams (op : Nat) : List (Nat × Nat) :=
  match op with
  | 0x0110 => [(32, 8), (40, 4)]
  | 0x0303 => [(32, 8), (40, 2), (42, 2)]
  | 0x0401 => [(32, 4), (36, 4)]
  | 0x0602 => [(32, 2), (34, 2)]
  | 0x0603 => [(40, 8)]
  | 0x0604 => [(36, 4)]
  | 0x0605 => [(40, 8)]
  | 0x0701 => [(32, 2), (36, 4)]
  | 0x0702 => [(32, 2), (34, 2)]
  | 0x0901 => [(32, 4)]
  | 0x0911 => [(36, 4)]
  | 0x0B01 => [(32, 4), (36, 4)]
  | 0x0B02 => [(32, 4), (36, 4)]
  | 0x0D01 => [(34, 2), (36, 2)]
  | 0x0D02 => [(34, 2), (36, 2)]
  | 0x0F01 => [(32, 4)]
  | _ => []

/-- The 32 PARAMS bytes with their wide fields turned to the order that a ring has. -/
def turnParams (op : Nat) (b : List Byte) : List Byte :=
  (wideParams op).foldl (fun b (o, n) =>
    b.take (o - 32) ++ ((b.drop (o - 32)).take n).reverse ++ b.drop (o - 32 + n)) b

/-- The descriptor of a request body (R362). -/
def svcDesc (session seq : Nat) (tagOk : Bool) (b : List Byte) : Desc :=
  { origin := .svc, index := seq % 65536, tag := BitVec.ofNat 32 (beAt b 4 4), flags := BitVec.ofNat 8 (beAt b 2 1)
    byte3 := BitVec.ofNat 8 (beAt b 3 1), ident := BitVec.ofNat 64 (beAt b 8 8)
    bufAddr := BitVec.ofNat 64 (beAt b 16 8), bufLen := beAt b 24 4, apply := beAt b 28 4
    params := BitVec.ofNat 256 (ofLe (turnParams (beAt b 0 2) ((b.drop 32).take 32))), buf := b.drop 64
    session, tagOk }

/-- The header checks: MAGIC, VERSION, KIND and length (R362). -/
def svcHeaderOk (raw : List Byte) : Bool :=
  beAt raw 0 2 = 0x5653 ∧ beAt raw 2 1 = 1 ∧ beAt raw 3 1 = 0 ∧ beAt raw 12 2 ≤ 1120 ∧ 64 ≤ beAt raw 12 2
    ∧ raw.length = 32 + beAt raw 12 2

/-- TAG16 of a request is right under a key (R363). -/
def svcTagOk (key raw : List Byte) : Bool := (raw.drop 16).take 16 = svcTag key (raw.take 16) (raw.drop 32)

/-- The open session, when the request names it. -/
def namedSession (s : State) (raw : List Byte) : Option Session :=
  s.cmd.session.filter (fun x => decide (beAt raw 4 4 ≠ 0 ∧ x.num = beAt raw 4 4))

/-- The descriptor of a request; a reserved header byte that is not 0 counts as a reserved byte of the descriptor (R18). -/
def svcRequest (raw : List Byte) (tagOk : Bool) : Desc :=
  let d := svcDesc (beAt raw 4 4) (beAt raw 8 4) tagOk (raw.drop 32)
  if beAt raw 14 2 = 0 then d else { d with byte3 := d.byte3 ||| 1 }

/-- Executes a request; its response goes to its source. -/
def svcRun (ip port : Nat) (raw : List Byte) (tagOk valid : Bool) (s : State) : Host.Outcome State Fault Refusal :=
  let session := beAt raw 4 4
  let seq := beAt raw 8 4
  runOpcode (beAt raw 32 2) (svcRequest raw tagOk)
    { s with cmd.svc := some { ip, port, session, seq, valid } }

/-- Serves one request that passed the header checks (R363): the tag, then SEQ against the last accepted one. -/
def svcServe (ip port : Nat) (raw : List Byte) (s : State) : Host.Outcome State Fault Refusal :=
  let seq := beAt raw 8 4
  match namedSession s raw with
  | none => svcRun ip port raw true false s
  | some x =>
    if !svcTagOk x.key raw then svcRun ip port raw false false s
    else if x.lastSeq.any (fun q => seq < q) then .next s
    else
      let s1 : State := { s with cmd.session := some { x with lastSeq := some seq, lastAt := s.now } }
      if x.lastSeq = some seq then .next (svcOut (.svc ip port x.cached) s1) else svcRun ip port raw true true s1

/-- Serves waiting requests in the order of arrival until one of them waits for a later effect (R364). -/
def svcDrain : Nat → State → Host.Outcome State Fault Refusal
  | 0, s => .next s
  | n + 1, s =>
    match s.cmd.svc, s.cmd.svcWait with
    | none, (ip, port, raw) :: rest =>
      match svcServe ip port raw { s with cmd.svcWait := rest } with
      | .next s1 => svcDrain n s1
      | o => o
    | _, _ => .next s

/-- Serves what waits on the service port. -/
def svcTurn (s : State) : Host.Outcome State Fault Refusal := svcDrain s.cmd.svcWait.length s

/-- A frame arrives on the service port, and its RX_FRAMES counts it (R186). -/
def svcFrame (s : State) : State :=
  if fbit s NET_STATUS_SVC_LINK then bumpWrap (NET_PORT_RX_FRAMES_COUNT 4) 1 s else s

/-- A frame with an FCS or PHY error arrives there: RX_ERR counts it (R186). -/
def svcError (s : State) : State := if fbit s NET_STATUS_SVC_LINK then bump (NET_PORT_RX_ERR_COUNT 4) 1 s else s

/-- SVC_DATAGRAM. -/
def execSvcDatagram (srcIp srcPort : Nat) (d : Datagram) (s : State) : Host.Outcome State Fault Refusal :=
  let s1 := svcFrame s
  if !d.fcsOk then .next (svcError s)
  else if svcServes s1 ∧ svcHeaderOk d.raw then
    svcTurn { s1 with cmd.svcWait := s1.cmd.svcWait ++ [(srcIp, srcPort, d.raw)] }
  else .next s1

/-- The ARP reply for the port's address, from its MAC address of R143. -/
def arpReply (s : State) (senderIp : Nat) (senderMac : BitVec 48) : Output :=
  .frame 4 senderMac none none (be 2 1 ++ be 2 0x0800 ++ be 1 6 ++ be 1 4 ++ be 2 2 ++ be 6 (portMac 4).toNat
    ++ be 4 s.cmd.ip.toNat ++ be 6 senderMac.toNat ++ be 4 senderIp)

/-- The Internet checksum of a message: the complement of the sum of its 16-bit words with end-around carry (PRESUMED, RFC 792, log
entry 59). -/
def inetSum (bs : List Byte) : Nat :=
  let words := (List.range ((bs.length + 1) / 2)).map (fun i => beAt (bs ++ [0]) (2 * i) 2)
  65535 - words.foldl (fun a w => let x := a + w; if x ≥ 65536 then x - 65535 else x) 0

/-- The ICMP echo reply: type 0, code 0, checksum, and the identifier, sequence number and data of the request. -/
def echoReply (rest : List Byte) : List Byte :=
  be 2 0 ++ be 2 (inetSum (be 4 0 ++ rest)) ++ rest

/-- SVC_ARP_ICMP (R362). -/
def execSvcArpIcmp (q : Query) (s : State) : Host.Outcome State Fault Refusal :=
  .next (if !q.fcsOk then svcError s else match q.q with
    | .arp target ip mac =>
      if svcServes s ∧ target = s.cmd.ip.toNat then svcOut (arpReply s ip mac) (svcFrame s) else svcFrame s
    | .echo target ip data =>
      if svcServes s ∧ target = s.cmd.ip.toNat then svcOut (.echo ip (echoReply data)) (svcFrame s) else svcFrame s)

/-- SVC_SESSION_TIMEOUT (R363). -/
def execSvcSessionTimeout (s : State) : Host.Outcome State Fault Refusal :=
  .next (match s.cmd.session with
    | some x => endSession (advance (x.lastAt + secs 600) s)
    | none => s)

/-- What the block does with no command waiting: requests that waited behind one with a later effect are served once that
one is answered (R364), the complete snapshots that a new active still holds run as their tasks become free (R211), and a power transition goes on (R431);
otherwise it idles (DESIGN CHOICE, log entries 2 and 98). -/
def idle (s : State) : Host.Outcome State Fault Refusal :=
  match svcTurn s with
  | .next s1 => .next (carryPower (if standby s1 then s1 else drain s1))
  | o => o

end Sys2Proof.Machine
end

