-- ==== Sys2Proof/Machine/Dispatch.lean ====
section
/-! DEFINITION. One arm for each row of spec/opcode_table.json: the command's meaning. -/

namespace Sys2Proof.Machine

def exec (i : Instr) (s : State) : Host.Outcome State Fault Refusal :=
  match i with
  | .registerWrite off width v => Sys2Proof.Machine.execRegisterWrite off width v s
  | .readClearField place width => Sys2Proof.Machine.execReadClearField place width s
  | .read64bitLowWord off width => Sys2Proof.Machine.execRead64bitLowWord off width s
  | .write64bitHighWord off width v => Sys2Proof.Machine.execWrite64bitHighWord off width v s
  | .syncCycleBoundary => Sys2Proof.Machine.execSyncCycleBoundary s
  | .syncRelease => Sys2Proof.Machine.execSyncRelease s
  | .cyclicRelease t => Sys2Proof.Machine.execCyclicRelease t s
  | .backgroundRelease t => Sys2Proof.Machine.execBackgroundRelease t s
  | .pendingReleaseStart => Sys2Proof.Machine.execPendingReleaseStart s
  | .snapshot => Sys2Proof.Machine.execSnapshot s
  | .snapshotComplete t => Sys2Proof.Machine.execSnapshotComplete t s
  | .commit t => Sys2Proof.Machine.execCommit t s
  | .budgetOverrun t => Sys2Proof.Machine.execBudgetOverrun t s
  | .hostImageWriteApply => Sys2Proof.Machine.execHostImageWriteApply s
  | .forceChangeApply => Sys2Proof.Machine.execForceChangeApply s
  | .rungNop l w => Sys2Proof.Machine.execRungNop l w s
  | .rungRng l w => Sys2Proof.Machine.execRungRng l w s
  | .rungEnd l w => Sys2Proof.Machine.execRungEnd l w s
  | .rungLd l w => Sys2Proof.Machine.execRungLd l w s
  | .rungAnd l w => Sys2Proof.Machine.execRungAnd l w s
  | .rungOr l w => Sys2Proof.Machine.execRungOr l w s
  | .rungXor l w => Sys2Proof.Machine.execRungXor l w s
  | .rungAndb l w => Sys2Proof.Machine.execRungAndb l w s
  | .rungOrb l w => Sys2Proof.Machine.execRungOrb l w s
  | .rungXorb l w => Sys2Proof.Machine.execRungXorb l w s
  | .rungNot l w => Sys2Proof.Machine.execRungNot l w s
  | .rungDup l w => Sys2Proof.Machine.execRungDup l w s
  | .rungPop l w => Sys2Proof.Machine.execRungPop l w s
  | .rungOut l w => Sys2Proof.Machine.execRungOut l w s
  | .rungSet l w => Sys2Proof.Machine.execRungSet l w s
  | .rungRst l w => Sys2Proof.Machine.execRungRst l w s
  | .rungRedge l w => Sys2Proof.Machine.execRungRedge l w s
  | .rungFedge l w => Sys2Proof.Machine.execRungFedge l w s
  | .rungTon l w => Sys2Proof.Machine.execRungTon l w s
  | .rungTof l w => Sys2Proof.Machine.execRungTof l w s
  | .rungTp l w => Sys2Proof.Machine.execRungTp l w s
  | .rungCtu l w => Sys2Proof.Machine.execRungCtu l w s
  | .rungCtd l w => Sys2Proof.Machine.execRungCtd l w s
  | .rungTcres l w => Sys2Proof.Machine.execRungTcres l w s
  | .rungSkz l w => Sys2Proof.Machine.execRungSkz l w s
  | .rungSknz l w => Sys2Proof.Machine.execRungSknz l w s
  | .ctlStart d => Sys2Proof.Machine.execCtlStart d s
  | .runBegin => Sys2Proof.Machine.execRunBegin s
  | .ctlStop d => Sys2Proof.Machine.execCtlStop d s
  | .stopBegin => Sys2Proof.Machine.execStopBegin s
  | .ctlHalt d => Sys2Proof.Machine.execCtlHalt d s
  | .ctlClearHalt d => Sys2Proof.Machine.execCtlClearHalt d s
  | .ctlWarmRestart d => Sys2Proof.Machine.execCtlWarmRestart d s
  | .warmRestartDone => Sys2Proof.Machine.execWarmRestartDone s
  | .ctlTrigger d => Sys2Proof.Machine.execCtlTrigger d s
  | .hostEventRelease => Sys2Proof.Machine.execHostEventRelease s
  | .pairHalt cause t => Sys2Proof.Machine.execPairHalt cause t s
  | .graftOpen d => Sys2Proof.Machine.execGraftOpen d s
  | .graftLoad d => Sys2Proof.Machine.execGraftLoad d s
  | .graftCheck d p => Sys2Proof.Machine.execGraftCheck d p s
  | .graftCommit d => Sys2Proof.Machine.execGraftCommit d s
  | .graftAbort d => Sys2Proof.Machine.execGraftAbort d s
  | .graftConfirm d => Sys2Proof.Machine.execGraftConfirm d s
  | .graftRevert d => Sys2Proof.Machine.execGraftRevert d s
  | .codeGraftApply => Sys2Proof.Machine.execCodeGraftApply s
  | .graftSwitchStart => Sys2Proof.Machine.execGraftSwitchStart s
  | .graftSwitchEnd fault => Sys2Proof.Machine.execGraftSwitchEnd fault s
  | .graftNoGap => Sys2Proof.Machine.execGraftNoGap s
  | .confirmWindowEnd => Sys2Proof.Machine.execConfirmWindowEnd s
  | .trellisTick => Sys2Proof.Machine.execTrellisTick s
  | .edgeIssue => Sys2Proof.Machine.execEdgeIssue s
  | .pulseEnd ch => Sys2Proof.Machine.execPulseEnd ch s
  | .encoderEdge e k => Sys2Proof.Machine.execEncoderEdge e k s
  | .sampleTimeout k => Sys2Proof.Machine.execSampleTimeout k s
  | .coastLimit k => Sys2Proof.Machine.execCoastLimit k s
  | .fastInputEdge ch rising at_ => Sys2Proof.Machine.execFastInputEdge ch rising at_ s
  | .trimSourceApply => Sys2Proof.Machine.execTrimSourceApply s
  | .trlEntryWrite d => Sys2Proof.Machine.execTrlEntryWrite d s
  | .entryBatchApply => Sys2Proof.Machine.execEntryBatchApply s
  | .trlEntryRead d => Sys2Proof.Machine.execTrlEntryRead d s
  | .trlAxisSet d => Sys2Proof.Machine.execTrlAxisSet d s
  | .axisSetApply => Sys2Proof.Machine.execAxisSetApply s
  | .trlTrimSet d => Sys2Proof.Machine.execTrlTrimSet d s
  | .trimSetApply => Sys2Proof.Machine.execTrimSetApply s
  | .trlAxisRearm d => Sys2Proof.Machine.execTrlAxisRearm d s
  | .axisRearmApply => Sys2Proof.Machine.execAxisRearmApply s
  | .driveFrameReceive p f => Sys2Proof.Machine.execDriveFrameReceive p f s
  | .rxCutoff => Sys2Proof.Machine.execRxCutoff s
  | .plantFrameReceive p f => Sys2Proof.Machine.execPlantFrameReceive p f s
  | .txGather => Sys2Proof.Machine.execTxGather s
  | .txWindowOpen => Sys2Proof.Machine.execTxWindowOpen s
  | .statusGather => Sys2Proof.Machine.execStatusGather s
  | .plantWindowOpen => Sys2Proof.Machine.execPlantWindowOpen s
  | .collectHeadSend t => Sys2Proof.Machine.execCollectHeadSend t s
  | .driveSyncSend => Sys2Proof.Machine.execDriveSyncSend s
  | .announceSend => Sys2Proof.Machine.execAnnounceSend s
  | .pdelayReqReceive p req at_ => Sys2Proof.Machine.execPdelayReqReceive p req at_ s
  | .driveAnnounceReceive p => Sys2Proof.Machine.execDriveAnnounceReceive p s
  | .plantSyncReceive p gm plantTime at_ => Sys2Proof.Machine.execPlantSyncReceive p gm plantTime at_ s
  | .plantAnnounceReceive p a => Sys2Proof.Machine.execPlantAnnounceReceive p a s
  | .plantSyncTimeout => Sys2Proof.Machine.execPlantSyncTimeout s
  | .driveCycleStart => Sys2Proof.Machine.execDriveCycleStart s
  | .driveCycleStop => Sys2Proof.Machine.execDriveCycleStop s
  | .driveCycleResume => Sys2Proof.Machine.execDriveCycleResume s
  | .portLinkChange p up verified => Sys2Proof.Machine.execPortLinkChange p up verified s
  | .frerRecoveryReset t => Sys2Proof.Machine.execFrerRecoveryReset t s
  | .netMailbox d => Sys2Proof.Machine.execNetMailbox d s
  | .mailboxRetry dest => Sys2Proof.Machine.execMailboxRetry dest s
  | .mbxRspReceive p f => Sys2Proof.Machine.execMbxRspReceive p f s
  | .netTplRead d => Sys2Proof.Machine.execNetTplRead d s
  | .netPtpRead d => Sys2Proof.Machine.execNetPtpRead d s
  | .netMcastRead d => Sys2Proof.Machine.execNetMcastRead d s
  | .nicTxDescriptor r raw frame => Sys2Proof.Machine.execNicTxDescriptor r raw frame s
  | .nicRxBufferEntry r raw => Sys2Proof.Machine.execNicRxBufferEntry r raw s
  | .helloSend => Sys2Proof.Machine.execHelloSend s
  | .helloReceive h => Sys2Proof.Machine.execHelloReceive h s
  | .pairWaitExpiry => Sys2Proof.Machine.execPairWaitExpiry s
  | .heartbeatSend => Sys2Proof.Machine.execHeartbeatSend s
  | .heartbeatReceive path b at_ => Sys2Proof.Machine.execHeartbeatReceive path b at_ s
  | .pathLossTimeout pathB => Sys2Proof.Machine.execPathLossTimeout pathB s
  | .peerFailureTimeout => Sys2Proof.Machine.execPeerFailureTimeout s
  | .hedgeLaneChange lane up => Sys2Proof.Machine.execHedgeLaneChange lane up s
  | .hedgeFrameReceive raw at_ => Sys2Proof.Machine.execHedgeFrameReceive raw at_ s
  | .hedgeRepeat seq => Sys2Proof.Machine.execHedgeRepeat seq s
  | .hedgeAckTimeout seq => Sys2Proof.Machine.execHedgeAckTimeout seq s
  | .snapshotMessageReceive m => Sys2Proof.Machine.execSnapshotMessageReceive m s
  | .snapshotTimeout t snapTime => Sys2Proof.Machine.execSnapshotTimeout t snapTime s
  | .mirrorCmdReceive opcode d cycle => Sys2Proof.Machine.execMirrorCmdReceive opcode d cycle s
  | .digestReceive m => Sys2Proof.Machine.execDigestReceive m s
  | .digestTimeout t inst => Sys2Proof.Machine.execDigestTimeout t inst s
  | .unfitReceive reason => Sys2Proof.Machine.execUnfitReceive reason s
  | .stateMessageReceive items => Sys2Proof.Machine.execStateMessageReceive items s
  | .transferQuiescentPoint => Sys2Proof.Machine.execTransferQuiescentPoint s
  | .transferTimeout => Sys2Proof.Machine.execTransferTimeout s
  | .transferComplete => Sys2Proof.Machine.execTransferComplete s
  | .takeoverBoundary => Sys2Proof.Machine.execTakeoverBoundary s
  | .epochRecordWrite => Sys2Proof.Machine.execEpochRecordWrite s
  | .redHandover d => Sys2Proof.Machine.execRedHandover d s
  | .handoverReceive k h status reason => Sys2Proof.Machine.execHandoverReceive k h status reason s
  | .handoverBoundary => Sys2Proof.Machine.execHandoverBoundary s
  | .handoverOutputRelease => Sys2Proof.Machine.execHandoverOutputRelease s
  | .redResync d => Sys2Proof.Machine.execRedResync d s
  | .redPark d => Sys2Proof.Machine.execRedPark d s
  | .redRead d => Sys2Proof.Machine.execRedRead d s
  | .evAdd c w => Sys2Proof.Machine.execEvAdd c w s
  | .evSub c w => Sys2Proof.Machine.execEvSub c w s
  | .evAddv c w => Sys2Proof.Machine.execEvAddv c w s
  | .evSubv c w => Sys2Proof.Machine.execEvSubv c w s
  | .evNeg c w => Sys2Proof.Machine.execEvNeg c w s
  | .evAnd c w => Sys2Proof.Machine.execEvAnd c w s
  | .evOr c w => Sys2Proof.Machine.execEvOr c w s
  | .evXor c w => Sys2Proof.Machine.execEvXor c w s
  | .evAndn c w => Sys2Proof.Machine.execEvAndn c w s
  | .evNot c w => Sys2Proof.Machine.execEvNot c w s
  | .evShl c w => Sys2Proof.Machine.execEvShl c w s
  | .evShr c w => Sys2Proof.Machine.execEvShr c w s
  | .evSar c w => Sys2Proof.Machine.execEvSar c w s
  | .evRol c w => Sys2Proof.Machine.execEvRol c w s
  | .evRor c w => Sys2Proof.Machine.execEvRor c w s
  | .evClz c w => Sys2Proof.Machine.execEvClz c w s
  | .evCtz c w => Sys2Proof.Machine.execEvCtz c w s
  | .evPopc c w => Sys2Proof.Machine.execEvPopc c w s
  | .evMin c w => Sys2Proof.Machine.execEvMin c w s
  | .evMax c w => Sys2Proof.Machine.execEvMax c w s
  | .evMinu c w => Sys2Proof.Machine.execEvMinu c w s
  | .evMaxu c w => Sys2Proof.Machine.execEvMaxu c w s
  | .evMul c w => Sys2Proof.Machine.execEvMul c w s
  | .evMulh c w => Sys2Proof.Machine.execEvMulh c w s
  | .evMulhu c w => Sys2Proof.Machine.execEvMulhu c w s
  | .evMulv c w => Sys2Proof.Machine.execEvMulv c w s
  | .evDiv c w => Sys2Proof.Machine.execEvDiv c w s
  | .evDivu c w => Sys2Proof.Machine.execEvDivu c w s
  | .evRem c w => Sys2Proof.Machine.execEvRem c w s
  | .evRemu c w => Sys2Proof.Machine.execEvRemu c w s
  | .evMfpr c w => Sys2Proof.Machine.execEvMfpr c w s
  | .evMtpr c w => Sys2Proof.Machine.execEvMtpr c w s
  | .evAddi c w => Sys2Proof.Machine.execEvAddi c w s
  | .evAndi c w => Sys2Proof.Machine.execEvAndi c w s
  | .evOri c w => Sys2Proof.Machine.execEvOri c w s
  | .evXori c w => Sys2Proof.Machine.execEvXori c w s
  | .evShi c w => Sys2Proof.Machine.execEvShi c w s
  | .evLui c w => Sys2Proof.Machine.execEvLui c w s
  | .evMuli c w => Sys2Proof.Machine.execEvMuli c w s
  | .evBfx c w => Sys2Proof.Machine.execEvBfx c w s
  | .evBfxs c w => Sys2Proof.Machine.execEvBfxs c w s
  | .evBfi c w => Sys2Proof.Machine.execEvBfi c w s
  | .evPerm c w => Sys2Proof.Machine.execEvPerm c w s
  | .evCmpeq c w => Sys2Proof.Machine.execEvCmpeq c w s
  | .evCmpne c w => Sys2Proof.Machine.execEvCmpne c w s
  | .evCmplt c w => Sys2Proof.Machine.execEvCmplt c w s
  | .evCmpge c w => Sys2Proof.Machine.execEvCmpge c w s
  | .evCmpltu c w => Sys2Proof.Machine.execEvCmpltu c w s
  | .evCmpgeu c w => Sys2Proof.Machine.execEvCmpgeu c w s
  | .evCmptst c w => Sys2Proof.Machine.execEvCmptst c w s
  | .evCmpieq c w => Sys2Proof.Machine.execEvCmpieq c w s
  | .evCmpine c w => Sys2Proof.Machine.execEvCmpine c w s
  | .evCmpilt c w => Sys2Proof.Machine.execEvCmpilt c w s
  | .evCmpiltu c w => Sys2Proof.Machine.execEvCmpiltu c w s
  | .evPand c w => Sys2Proof.Machine.execEvPand c w s
  | .evPor c w => Sys2Proof.Machine.execEvPor c w s
  | .evPxor c w => Sys2Proof.Machine.execEvPxor c w s
  | .evPmov c w => Sys2Proof.Machine.execEvPmov c w s
  | .evIbld c w => Sys2Proof.Machine.execEvIbld c w s
  | .evIbldn c w => Sys2Proof.Machine.execEvIbldn c w s
  | .evIband c w => Sys2Proof.Machine.execEvIband c w s
  | .evIbor c w => Sys2Proof.Machine.execEvIbor c w s
  | .evIbst c w => Sys2Proof.Machine.execEvIbst c w s
  | .evIbstn c w => Sys2Proof.Machine.execEvIbstn c w s
  | .evIbs1 c w => Sys2Proof.Machine.execEvIbs1 c w s
  | .evIbs0 c w => Sys2Proof.Machine.execEvIbs0 c w s
  | .evLdb c w => Sys2Proof.Machine.execEvLdb c w s
  | .evLdbu c w => Sys2Proof.Machine.execEvLdbu c w s
  | .evLdh c w => Sys2Proof.Machine.execEvLdh c w s
  | .evLdhu c w => Sys2Proof.Machine.execEvLdhu c w s
  | .evLdw c w => Sys2Proof.Machine.execEvLdw c w s
  | .evLdd c w => Sys2Proof.Machine.execEvLdd c w s
  | .evStb c w => Sys2Proof.Machine.execEvStb c w s
  | .evSth c w => Sys2Proof.Machine.execEvSth c w s
  | .evStw c w => Sys2Proof.Machine.execEvStw c w s
  | .evStd c w => Sys2Proof.Machine.execEvStd c w s
  | .evLdsw c w => Sys2Proof.Machine.execEvLdsw c w s
  | .evStsw c w => Sys2Proof.Machine.execEvStsw c w s
  | .evDsadj c w => Sys2Proof.Machine.execEvDsadj c w s
  | .evAmoswap c w => Sys2Proof.Machine.execEvAmoswap c w s
  | .evAmoadd c w => Sys2Proof.Machine.execEvAmoadd c w s
  | .evBr c w => Sys2Proof.Machine.execEvBr c w s
  | .evCall c w => Sys2Proof.Machine.execEvCall c w s
  | .evRet c w => Sys2Proof.Machine.execEvRet c w s
  | .evJr c w => Sys2Proof.Machine.execEvJr c w s
  | .evCallr c w => Sys2Proof.Machine.execEvCallr c w s
  | .evRep c w => Sys2Proof.Machine.execEvRep c w s
  | .evBreak c w => Sys2Proof.Machine.execEvBreak c w s
  | .evMfsr c w => Sys2Proof.Machine.execEvMfsr c w s
  | .evMtsr c w => Sys2Proof.Machine.execEvMtsr c w s
  | .evEret c w => Sys2Proof.Machine.execEvEret c w s
  | .evEretn c w => Sys2Proof.Machine.execEvEretn c w s
  | .evNop c w => Sys2Proof.Machine.execEvNop c w s
  | .evMfence c w => Sys2Proof.Machine.execEvMfence c w s
  | .evFp32Fadd c w => Sys2Proof.Machine.execEvFp32Fadd c w s
  | .evFp32Fsub c w => Sys2Proof.Machine.execEvFp32Fsub c w s
  | .evFp32Fmul c w => Sys2Proof.Machine.execEvFp32Fmul c w s
  | .evFp32Fdiv c w => Sys2Proof.Machine.execEvFp32Fdiv c w s
  | .evFp32Fsqrt c w => Sys2Proof.Machine.execEvFp32Fsqrt c w s
  | .evFp32Fmin c w => Sys2Proof.Machine.execEvFp32Fmin c w s
  | .evFp32Fmax c w => Sys2Proof.Machine.execEvFp32Fmax c w s
  | .evFp32Fabs c w => Sys2Proof.Machine.execEvFp32Fabs c w s
  | .evFp32Fneg c w => Sys2Proof.Machine.execEvFp32Fneg c w s
  | .evFp64Fadd c w => Sys2Proof.Machine.execEvFp64Fadd c w s
  | .evFp64Fsub c w => Sys2Proof.Machine.execEvFp64Fsub c w s
  | .evFp64Fmul c w => Sys2Proof.Machine.execEvFp64Fmul c w s
  | .evFp64Fdiv c w => Sys2Proof.Machine.execEvFp64Fdiv c w s
  | .evFp64Fsqrt c w => Sys2Proof.Machine.execEvFp64Fsqrt c w s
  | .evFp64Fmin c w => Sys2Proof.Machine.execEvFp64Fmin c w s
  | .evFp64Fmax c w => Sys2Proof.Machine.execEvFp64Fmax c w s
  | .evFp64Fabs c w => Sys2Proof.Machine.execEvFp64Fabs c w s
  | .evFp64Fneg c w => Sys2Proof.Machine.execEvFp64Fneg c w s
  | .evFeqs c w => Sys2Proof.Machine.execEvFeqs c w s
  | .evFlts c w => Sys2Proof.Machine.execEvFlts c w s
  | .evFles c w => Sys2Proof.Machine.execEvFles c w s
  | .evFuns c w => Sys2Proof.Machine.execEvFuns c w s
  | .evFeqd c w => Sys2Proof.Machine.execEvFeqd c w s
  | .evFltd c w => Sys2Proof.Machine.execEvFltd c w s
  | .evFled c w => Sys2Proof.Machine.execEvFled c w s
  | .evFund c w => Sys2Proof.Machine.execEvFund c w s
  | .evSfw c w => Sys2Proof.Machine.execEvSfw c w s
  | .evSfwu c w => Sys2Proof.Machine.execEvSfwu c w s
  | .evWfs c w => Sys2Proof.Machine.execEvWfs c w s
  | .evWufs c w => Sys2Proof.Machine.execEvWufs c w s
  | .evWfsr c w => Sys2Proof.Machine.execEvWfsr c w s
  | .evDfw c w => Sys2Proof.Machine.execEvDfw c w s
  | .evDfwu c w => Sys2Proof.Machine.execEvDfwu c w s
  | .evWfd c w => Sys2Proof.Machine.execEvWfd c w s
  | .evWufd c w => Sys2Proof.Machine.execEvWufd c w s
  | .evWfdr c w => Sys2Proof.Machine.execEvWfdr c w s
  | .evDfs c w => Sys2Proof.Machine.execEvDfs c w s
  | .evSfd c w => Sys2Proof.Machine.execEvSfd c w s
  | .evEscapeServiceInstruction c w => Sys2Proof.Machine.execEvEscapeServiceInstruction c w s
  | .evReservedEncoding c w => Sys2Proof.Machine.execEvReservedEncoding c w s
  | .interruptTaken c => Sys2Proof.Machine.execInterruptTaken c s
  | .sysLaneWait c w => Sys2Proof.Machine.execSysLaneWait c w s
  | .sysTimerCounterRead c w => Sys2Proof.Machine.execSysTimerCounterRead c w s
  | .rollCallCheckIn c w => Sys2Proof.Machine.execRollCallCheckIn c w s
  | .sysApplicationEvent c w => Sys2Proof.Machine.execSysApplicationEvent c w s
  | .sysApplicationMetric c w => Sys2Proof.Machine.execSysApplicationMetric c w s
  | .fieldSample => Sys2Proof.Machine.execFieldSample s
  | .fieldInputRecordWrite crcOk => Sys2Proof.Machine.execFieldInputRecordWrite crcOk s
  | .inputLevelChange ch level at_ => Sys2Proof.Machine.execInputLevelChange ch level at_ s
  | .debounceAccept ch => Sys2Proof.Machine.execDebounceAccept ch s
  | .openWireDetect ch => Sys2Proof.Machine.execOpenWireDetect ch s
  | .openWireClear ch => Sys2Proof.Machine.execOpenWireClear ch s
  | .overloadDetect ch => Sys2Proof.Machine.execOverloadDetect ch s
  | .thermalShutdown ch => Sys2Proof.Machine.execThermalShutdown ch s
  | .overloadRetry ch => Sys2Proof.Machine.execOverloadRetry ch s
  | .shortDetect ch => Sys2Proof.Machine.execShortDetect ch s
  | .openLoadDetect ch => Sys2Proof.Machine.execOpenLoadDetect ch s
  | .extHighDetect ch => Sys2Proof.Machine.execExtHighDetect ch s
  | .fieldOutputRefresh => Sys2Proof.Machine.execFieldOutputRefresh s
  | .islandOutputFrameReceive crcOk => Sys2Proof.Machine.execIslandOutputFrameReceive crcOk s
  | .fieldLinkSilence => Sys2Proof.Machine.execFieldLinkSilence s
  | .fieldSafeTimeout g => Sys2Proof.Machine.execFieldSafeTimeout g s
  | .groupSupplyMeasure mv0 mv1 mv2 mv3 => Sys2Proof.Machine.execGroupSupplyMeasure mv0 mv1 mv2 mv3 s
  | .fioClearLatch d => Sys2Proof.Machine.execFioClearLatch d s
  | .clearLatchApply => Sys2Proof.Machine.execClearLatchApply s
  | .fioRelease d => Sys2Proof.Machine.execFioRelease d s
  | .groupReleaseApply => Sys2Proof.Machine.execGroupReleaseApply s
  | .fioRead d => Sys2Proof.Machine.execFioRead d s
  | .loopOutputRefresh x => Sys2Proof.Machine.execLoopOutputRefresh x s
  | .loopFrameReceive x crcOk => Sys2Proof.Machine.execLoopFrameReceive x crcOk s
  | .complianceDetect x => Sys2Proof.Machine.execComplianceDetect x s
  | .complianceClear x => Sys2Proof.Machine.execComplianceClear x s
  | .readbackDevDetect x => Sys2Proof.Machine.execReadbackDevDetect x s
  | .readbackDevClear x => Sys2Proof.Machine.execReadbackDevClear x s
  | .miswireDetect x => Sys2Proof.Machine.execMiswireDetect x s
  | .miswireClear x => Sys2Proof.Machine.execMiswireClear x s
  | .loopReadbackConversion x currentNa termMv crcOk => Sys2Proof.Machine.execLoopReadbackConversion x currentNa termMv crcOk s
  | .loopLinkSilence x => Sys2Proof.Machine.execLoopLinkSilence x s
  | .loopSafeTimeout x => Sys2Proof.Machine.execLoopSafeTimeout x s
  | .loopReadbackSilence x => Sys2Proof.Machine.execLoopReadbackSilence x s
  | .loopPowerAppear x => Sys2Proof.Machine.execLoopPowerAppear x s
  | .hartRequestReceive x f => Sys2Proof.Machine.execHartRequestReceive x f s
  | .hartReplyTimeout x => Sys2Proof.Machine.execHartReplyTimeout x s
  | .lptHartFetch d => Sys2Proof.Machine.execLptHartFetch d s
  | .lptHartReply d => Sys2Proof.Machine.execLptHartReply d s
  | .trimBegin d => Sys2Proof.Machine.execTrimBegin d s
  | .trimPoint d => Sys2Proof.Machine.execTrimPoint d s
  | .trimApply d => Sys2Proof.Machine.execTrimApply d s
  | .trimCancel d => Sys2Proof.Machine.execTrimCancel d s
  | .trimIdleTimeout x => Sys2Proof.Machine.execTrimIdleTimeout x s
  | .lptRead d => Sys2Proof.Machine.execLptRead d s
  | .ringEnable r cfg => Sys2Proof.Machine.execRingEnable r cfg s
  | .ringZeroingDone r => Sys2Proof.Machine.execRingZeroingDone r s
  | .ringDisable r cfg => Sys2Proof.Machine.execRingDisable r cfg s
  | .ringReset r cfg => Sys2Proof.Machine.execRingReset r cfg s
  | .sqTailDoorbell r b => Sys2Proof.Machine.execSqTailDoorbell r b s
  | .cqHeadDoorbell r b => Sys2Proof.Machine.execCqHeadDoorbell r b s
  | .descriptorFetch r raw buf => Sys2Proof.Machine.execDescriptorFetch r raw buf s
  | .interruptCoalesceExpiry r => Sys2Proof.Machine.execInterruptCoalesceExpiry r s
  | .pcieHotReset => Sys2Proof.Machine.execPcieHotReset s
  | .perstNAssert => Sys2Proof.Machine.execPerstNAssert s
  | .functionLevelReset => Sys2Proof.Machine.execFunctionLevelReset s
  | .pcieLinkDown => Sys2Proof.Machine.execPcieLinkDown s
  | .d3hotEntry => Sys2Proof.Machine.execD3hotEntry s
  | .ringNop d => Sys2Proof.Machine.execRingNop d s
  | .fence d => Sys2Proof.Machine.execFence d s
  | .fenceTimeout => Sys2Proof.Machine.execFenceTimeout s
  | .publishCopy r e => Sys2Proof.Machine.execPublishCopy r e s
  | .mirrorSend e => Sys2Proof.Machine.execMirrorSend e s
  | .retainRestore d => Sys2Proof.Machine.execRetainRestore d s
  | .jrnlRead d => Sys2Proof.Machine.execJrnlRead d s
  | .imgRead d => Sys2Proof.Machine.execImgRead d s
  | .imgWrite d => Sys2Proof.Machine.execImgWrite d s
  | .forceWrite d => Sys2Proof.Machine.execForceWrite d s
  | .forceClear d => Sys2Proof.Machine.execForceClear d s
  | .forceRead d => Sys2Proof.Machine.execForceRead d s
  | .cfgBegin d => Sys2Proof.Machine.execCfgBegin d s
  | .cfgPut d => Sys2Proof.Machine.execCfgPut d s
  | .cfgCommit d => Sys2Proof.Machine.execCfgCommit d s
  | .cfgApply => Sys2Proof.Machine.execCfgApply s
  | .txnNoGap => Sys2Proof.Machine.execTxnNoGap s
  | .cfgAbort d => Sys2Proof.Machine.execCfgAbort d s
  | .cfgConfirm d => Sys2Proof.Machine.execCfgConfirm d s
  | .cfgConfirmWindowEnd ident => Sys2Proof.Machine.execCfgConfirmWindowEnd ident s
  | .txnIdle ident => Sys2Proof.Machine.execTxnIdle ident s
  | .cfgRead d => Sys2Proof.Machine.execCfgRead d s
  | .svcDatagram srcIp srcPort d => Sys2Proof.Machine.execSvcDatagram srcIp srcPort d s
  | .svcArpIcmp q => Sys2Proof.Machine.execSvcArpIcmp q s
  | .svcSessionTimeout => Sys2Proof.Machine.execSvcSessionTimeout s
  | .powerUp => Sys2Proof.Machine.execPowerUp s
  | .resetNAssert => Sys2Proof.Machine.execResetNAssert s
  | .romInitDone selfTest training flips checkOk ms => Sys2Proof.Machine.execRomInitDone selfTest training flips checkOk ms s
  | .bootStart w => Sys2Proof.Machine.execBootStart w s
  | .bootRetry w => Sys2Proof.Machine.execBootRetry w s
  | .stagingWindowWrite off data => Sys2Proof.Machine.execStagingWindowWrite off data s
  | .verifyComplete memOk ms => Sys2Proof.Machine.execVerifyComplete memOk ms s
  | .componentStarted c ms => Sys2Proof.Machine.execComponentStarted c ms s
  | .componentStartTimeout islandLoad => Sys2Proof.Machine.execComponentStartTimeout islandLoad s
  | .fwReset d => Sys2Proof.Machine.execFwReset d s
  | .fwRead d => Sys2Proof.Machine.execFwRead d s
  | .secChallenge d => Sys2Proof.Machine.execSecChallenge d s
  | .challengeExpiry o => Sys2Proof.Machine.execChallengeExpiry o s
  | .secResponse d => Sys2Proof.Machine.execSecResponse d s
  | .grantExpiry o => Sys2Proof.Machine.execGrantExpiry o s
  | .crLockoutEnd => Sys2Proof.Machine.execCrLockoutEnd s
  | .secKeyLoad d => Sys2Proof.Machine.execSecKeyLoad d s
  | .secKeyWrap d => Sys2Proof.Machine.execSecKeyWrap d s
  | .secKeyUnload d => Sys2Proof.Machine.execSecKeyUnload d s
  | .secAttest d => Sys2Proof.Machine.execSecAttest d s
  | .lcProvision d => Sys2Proof.Machine.execLcProvision d s
  | .lcTakeOwnership d => Sys2Proof.Machine.execLcTakeOwnership d s
  | .lcReturn d => Sys2Proof.Machine.execLcReturn d s
  | .lcScrap d => Sys2Proof.Machine.execLcScrap d s
  | .lcLock d => Sys2Proof.Machine.execLcLock d s
  | .lcUnlock d => Sys2Proof.Machine.execLcUnlock d s
  | .lcRaiseSvn d => Sys2Proof.Machine.execLcRaiseSvn d s
  | .lcRevokeVkey d => Sys2Proof.Machine.execLcRevokeVkey d s
  | .secDebug d => Sys2Proof.Machine.execSecDebug d s
  | .rbgReseed => Sys2Proof.Machine.execRbgReseed s
  | .rbgHealthFail => Sys2Proof.Machine.execRbgHealthFail s
  | .jtagBoundaryScan scan => Sys2Proof.Machine.execJtagBoundaryScan scan s
  | .jtagDebugAccess a => Sys2Proof.Machine.execJtagDebugAccess a s
  | .traceRecordWrite e => Sys2Proof.Machine.execTraceRecordWrite e s
  | .rollCallEvaluation k => Sys2Proof.Machine.execRollCallEvaluation k s
  | .watchdogServe at_ => Sys2Proof.Machine.execWatchdogServe at_ s
  | .watchdogCloseExpiry => Sys2Proof.Machine.execWatchdogCloseExpiry s
  | .uncorrectableError mem off who => Sys2Proof.Machine.execUncorrectableError mem off who s
  | .referenceClockLoss => Sys2Proof.Machine.execReferenceClockLoss s
  | .referenceClockValid => Sys2Proof.Machine.execReferenceClockValid s
  | .pwrState d => Sys2Proof.Machine.execPwrState d s
  | .wakePerstN => Sys2Proof.Machine.execWakePerstN s
  | .wakeSequenceDone flips checkOk => Sys2Proof.Machine.execWakeSequenceDone flips checkOk s
  | .pwrRead d => Sys2Proof.Machine.execPwrRead d s
  | .vinThresholdCross mv => Sys2Proof.Machine.execVinThresholdCross mv s
  | .sagStageLeave mv => Sys2Proof.Machine.execSagStageLeave mv s
  | .vinPowerOnReset => Sys2Proof.Machine.execVinPowerOnReset s
  | .nvsRead d => Sys2Proof.Machine.execNvsRead d s
  | .nvsWrite d => Sys2Proof.Machine.execNvsWrite d s
  | .nvPageWriteStart => Sys2Proof.Machine.execNvPageWriteStart s
  | .nvPageWriteDone us => Sys2Proof.Machine.execNvPageWriteDone us s
  | .nvsLock d => Sys2Proof.Machine.execNvsLock d s
  | .unlockRead d => Sys2Proof.Machine.execUnlockRead d s
  | .unlockWrite d => Sys2Proof.Machine.execUnlockWrite d s
  | .setReadPw d => Sys2Proof.Machine.execSetReadPw d s
  | .setWritePw d => Sys2Proof.Machine.execSetWritePw d s
  | .rtcSecondTick => Sys2Proof.Machine.execRtcSecondTick s
  | .rtcTimeRegisterRead off => Sys2Proof.Machine.execRtcTimeRegisterRead off s
  | .rtcFreezeExpiry fw => Sys2Proof.Machine.execRtcFreezeExpiry fw s
  | .rtcStagingWrite off v => Sys2Proof.Machine.execRtcStagingWrite off v s
  | .rtcSecWrite v => Sys2Proof.Machine.execRtcSecWrite v s
  | .rtcCommit => Sys2Proof.Machine.execRtcCommit s
  | .rtcBackupLoss => Sys2Proof.Machine.execRtcBackupLoss s
  | .rtcRead d => Sys2Proof.Machine.execRtcRead d s
  | .rtcSet d => Sys2Proof.Machine.execRtcSet d s
  | .rtcAlarm d => Sys2Proof.Machine.execRtcAlarm d s
  | .consolidationInterval => Sys2Proof.Machine.execConsolidationInterval s
  | .consolidationStart => Sys2Proof.Machine.execConsolidationStart s
  | .consolidationDone => Sys2Proof.Machine.execConsolidationDone s
  | .recRead d => Sys2Proof.Machine.execRecRead d s
  | .recClear d => Sys2Proof.Machine.execRecClear d s
  | .recConsolidate d => Sys2Proof.Machine.execRecConsolidate d s
  | .rungIllegalWord l w => Sys2Proof.Machine.execRungIllegalWord l w s
  | .correctableError => Sys2Proof.Machine.execCorrectableError s
  | .holdupSenseCrossing mv => Sys2Proof.Machine.execHoldupSenseCrossing mv s
  | .pcieLinkUp speed width => Sys2Proof.Machine.execPcieLinkUp speed width s
  | .pcieConfigWrite bme msix dev => Sys2Proof.Machine.execPcieConfigWrite bme msix dev s
  | .gateControlTransition p at_ => Sys2Proof.Machine.execGateControlTransition p at_ s

end Sys2Proof.Machine
end

