-- ==== Sys2Proof/Safety.lean ====
section
/-! DEFINITION. What a well-kept state is, and which moves of the life cycle the spec has: the terms of the statements
about every step. -/

namespace Sys2Proof.Machine

/-- The register bank and the module's shared byte memories (data with the retained banks, code store, live image, NV store,
staging window) are in their one canonical form: addresses strictly rising, and no byte that equals what an unlisted address
reads as. -/
def Canonical (s : State) : Prop :=
  SMap.wf s.regs = true ∧ Mem.wf s.mem.data = true ∧ Mem.wf s.mem.code = true ∧ Mem.wf s.img.live = true ∧
    Mem.wf s.nv.mem = true ∧ Mem.wf s.boot.staging = true

/-- The life-cycle state is one of the five that R388 has. -/
def LifeLegal (s : State) : Prop := s.sec.life ≤ 4

/-- The rows of R389 that change the life-cycle state: LC_PROVISION 0 to 1, LC_TAKE_OWNERSHIP 1 to 2, LC_RETURN 2 to 3,
and LC_SCRAP from any state but 4 to 4. -/
def lifeMoves (a b : Nat) : Bool := (a == 0 && b == 1) || (a == 1 && b == 2) || (a == 2 && b == 3) || (a != 4 && b == 4)

/-- The life cycle stays, or moves along one row of R389. -/
def LifeStep (s t : State) : Prop := t.sec.life = s.sec.life ∨ lifeMoves s.sec.life t.sec.life = true

/-- What every step keeps. -/
def WellKept (s : State) : Prop := Canonical s ∧ LifeLegal s

end Sys2Proof.Machine
end

