-- ==== Sys2Proof/WellFormed.lean ====
section
/-! DEFINITION. The operand checks that the types leave open: widths of fields in descriptors, frames and messages. The
machine does not rest on them: it gives every command a meaning, well-formed or not. -/

namespace Sys2Proof

/-- Fields of a descriptor fit the widths of R320; on the service port R362 gives the same fields. -/
def Desc.wf (d : Desc) : Bool := d.index < 65536 ∧ d.bufLen < 2 ^ 32 ∧ d.apply < 2 ^ 32 ∧ d.session < 2 ^ 32

/-- A received frame carries at most 1,500 bytes of payload (R142, R157). -/
def RxFrame.wf (f : RxFrame) : Bool := f.payload.length ≤ 1500

/-- Fields of a buffer entry fit the widths of R314. -/
def BufEntry.wf (e : BufEntry) : Bool := e.addr < 2 ^ 64 ∧ e.len < 2 ^ 32

/-- Fields of a HELLO fit their widths (R197). -/
def Hello.wf (h : Hello) : Bool := h.side < 2 ∧ h.code < 256 ∧ h.ctl < 256 ∧ h.epoch < 2 ^ 32

/-- Fields of a heartbeat fit their widths (R199). -/
def Beat.wf (b : Beat) : Bool := b.code < 256 ∧ b.ctl < 256 ∧ b.side < 2 ∧ b.unfit < 256 ∧ b.epoch < 2 ^ 32

/-- The domain of an Announce fits a byte (R147). -/
def Announce.wf (a : Announce) : Bool := a.domain < 256

/-- A host access of 1, 2, 4 or 8 bytes inside the 64 KiB of BAR0 (R14, R312). -/
def accessOk (off width : Nat) : Bool := width ∈ [1, 2, 4, 8] ∧ off + width ≤ 0x10000

/-- The operands of a command fit the widths that the spec gives them. -/
def Instr.wf (i : Instr) : Bool :=
  match i with
  | .registerWrite off width _ => accessOk off width
  | .readClearField place width => width ∈ [1, 2, 4, 8] ∧ place.off + width ≤ Config.barSize place.bar
  | .read64bitLowWord off width => accessOk off width
  | .write64bitHighWord off width _ => accessOk off width
  | .syncCycleBoundary => true
  | .syncRelease => true
  | .cyclicRelease _ => true
  | .backgroundRelease _ => true
  | .pendingReleaseStart => true
  | .snapshot => true
  | .snapshotComplete _ => true
  | .commit _ => true
  | .budgetOverrun _ => true
  | .hostImageWriteApply => true
  | .forceChangeApply => true
  | .rungNop _ _ => true
  | .rungRng _ _ => true
  | .rungEnd _ _ => true
  | .rungLd _ _ => true
  | .rungAnd _ _ => true
  | .rungOr _ _ => true
  | .rungXor _ _ => true
  | .rungAndb _ _ => true
  | .rungOrb _ _ => true
  | .rungXorb _ _ => true
  | .rungNot _ _ => true
  | .rungDup _ _ => true
  | .rungPop _ _ => true
  | .rungOut _ _ => true
  | .rungSet _ _ => true
  | .rungRst _ _ => true
  | .rungRedge _ _ => true
  | .rungFedge _ _ => true
  | .rungTon _ _ => true
  | .rungTof _ _ => true
  | .rungTp _ _ => true
  | .rungCtu _ _ => true
  | .rungCtd _ _ => true
  | .rungTcres _ _ => true
  | .rungSkz _ _ => true
  | .rungSknz _ _ => true
  | .ctlStart d => d.wf
  | .runBegin => true
  | .ctlStop d => d.wf
  | .stopBegin => true
  | .ctlHalt d => d.wf
  | .ctlClearHalt d => d.wf
  | .ctlWarmRestart d => d.wf
  | .warmRestartDone => true
  | .ctlTrigger d => d.wf
  | .hostEventRelease => true
  | .pairHalt cause _ => cause < 16
  | .graftOpen d => d.wf
  | .graftLoad d => d.wf
  | .graftCheck d _ => d.wf
  | .graftCommit d => d.wf
  | .graftAbort d => d.wf
  | .graftConfirm d => d.wf
  | .graftRevert d => d.wf
  | .codeGraftApply => true
  | .graftSwitchStart => true
  | .graftSwitchEnd _ => true
  | .graftNoGap => true
  | .confirmWindowEnd => true
  | .trellisTick => true
  | .edgeIssue => true
  | .pulseEnd _ => true
  | .encoderEdge _ _ => true
  | .sampleTimeout _ => true
  | .coastLimit _ => true
  | .fastInputEdge _ _ _ => true
  | .trimSourceApply => true
  | .trlEntryWrite d => d.wf
  | .entryBatchApply => true
  | .trlEntryRead d => d.wf
  | .trlAxisSet d => d.wf
  | .axisSetApply => true
  | .trlTrimSet d => d.wf
  | .trimSetApply => true
  | .trlAxisRearm d => d.wf
  | .axisRearmApply => true
  | .driveFrameReceive _ f => f.wf
  | .rxCutoff => true
  | .plantFrameReceive _ f => f.wf
  | .txGather => true
  | .txWindowOpen => true
  | .statusGather => true
  | .plantWindowOpen => true
  | .collectHeadSend t => t < 256
  | .driveSyncSend => true
  | .announceSend => true
  | .pdelayReqReceive _ _ _ => true
  | .driveAnnounceReceive _ => true
  | .plantSyncReceive _ _ _ _ => true
  | .plantAnnounceReceive _ a => a.wf
  | .plantSyncTimeout => true
  | .driveCycleStart => true
  | .driveCycleStop => true
  | .driveCycleResume => true
  | .portLinkChange _ _ _ => true
  | .frerRecoveryReset t => t < 256
  | .netMailbox d => d.wf
  | .mailboxRetry dest => dest < 65536
  | .mbxRspReceive _ f => f.wf
  | .netTplRead d => d.wf
  | .netPtpRead d => d.wf
  | .netMcastRead d => d.wf
  | .nicTxDescriptor _ raw _ => raw.all (fun b => b.length = 32)
  | .nicRxBufferEntry _ raw => raw.length = 16
  | .helloSend => true
  | .helloReceive h => h.wf
  | .pairWaitExpiry => true
  | .heartbeatSend => true
  | .heartbeatReceive _ b _ => b.wf
  | .pathLossTimeout _ => true
  | .peerFailureTimeout => true
  | .hedgeLaneChange _ _ => true
  | .hedgeFrameReceive _ _ => true
  | .hedgeRepeat seq => seq < 2 ^ 32
  | .hedgeAckTimeout seq => seq < 2 ^ 32
  | .snapshotMessageReceive _ => true
  | .snapshotTimeout _ _ => true
  | .mirrorCmdReceive opcode d _ => opcode < 65536 ∧ d.wf
  | .digestReceive _ => true
  | .digestTimeout _ _ => true
  | .unfitReceive reason => reason < 256
  | .stateMessageReceive _ => true
  | .transferQuiescentPoint => true
  | .transferTimeout => true
  | .transferComplete => true
  | .takeoverBoundary => true
  | .epochRecordWrite => true
  | .redHandover d => d.wf
  | .handoverReceive _ _ status reason => status < 65536 ∧ reason < 65536
  | .handoverBoundary => true
  | .handoverOutputRelease => true
  | .redResync d => d.wf
  | .redPark d => d.wf
  | .redRead d => d.wf
  | .evAdd _ _ => true
  | .evSub _ _ => true
  | .evAddv _ _ => true
  | .evSubv _ _ => true
  | .evNeg _ _ => true
  | .evAnd _ _ => true
  | .evOr _ _ => true
  | .evXor _ _ => true
  | .evAndn _ _ => true
  | .evNot _ _ => true
  | .evShl _ _ => true
  | .evShr _ _ => true
  | .evSar _ _ => true
  | .evRol _ _ => true
  | .evRor _ _ => true
  | .evClz _ _ => true
  | .evCtz _ _ => true
  | .evPopc _ _ => true
  | .evMin _ _ => true
  | .evMax _ _ => true
  | .evMinu _ _ => true
  | .evMaxu _ _ => true
  | .evMul _ _ => true
  | .evMulh _ _ => true
  | .evMulhu _ _ => true
  | .evMulv _ _ => true
  | .evDiv _ _ => true
  | .evDivu _ _ => true
  | .evRem _ _ => true
  | .evRemu _ _ => true
  | .evMfpr _ _ => true
  | .evMtpr _ _ => true
  | .evAddi _ _ => true
  | .evAndi _ _ => true
  | .evOri _ _ => true
  | .evXori _ _ => true
  | .evShi _ _ => true
  | .evLui _ _ => true
  | .evMuli _ _ => true
  | .evBfx _ _ => true
  | .evBfxs _ _ => true
  | .evBfi _ _ => true
  | .evPerm _ _ => true
  | .evCmpeq _ _ => true
  | .evCmpne _ _ => true
  | .evCmplt _ _ => true
  | .evCmpge _ _ => true
  | .evCmpltu _ _ => true
  | .evCmpgeu _ _ => true
  | .evCmptst _ _ => true
  | .evCmpieq _ _ => true
  | .evCmpine _ _ => true
  | .evCmpilt _ _ => true
  | .evCmpiltu _ _ => true
  | .evPand _ _ => true
  | .evPor _ _ => true
  | .evPxor _ _ => true
  | .evPmov _ _ => true
  | .evIbld _ _ => true
  | .evIbldn _ _ => true
  | .evIband _ _ => true
  | .evIbor _ _ => true
  | .evIbst _ _ => true
  | .evIbstn _ _ => true
  | .evIbs1 _ _ => true
  | .evIbs0 _ _ => true
  | .evLdb _ _ => true
  | .evLdbu _ _ => true
  | .evLdh _ _ => true
  | .evLdhu _ _ => true
  | .evLdw _ _ => true
  | .evLdd _ _ => true
  | .evStb _ _ => true
  | .evSth _ _ => true
  | .evStw _ _ => true
  | .evStd _ _ => true
  | .evLdsw _ _ => true
  | .evStsw _ _ => true
  | .evDsadj _ _ => true
  | .evAmoswap _ _ => true
  | .evAmoadd _ _ => true
  | .evBr _ _ => true
  | .evCall _ _ => true
  | .evRet _ _ => true
  | .evJr _ _ => true
  | .evCallr _ _ => true
  | .evRep _ _ => true
  | .evBreak _ _ => true
  | .evMfsr _ _ => true
  | .evMtsr _ _ => true
  | .evEret _ _ => true
  | .evEretn _ _ => true
  | .evNop _ _ => true
  | .evMfence _ _ => true
  | .evFp32Fadd _ _ => true
  | .evFp32Fsub _ _ => true
  | .evFp32Fmul _ _ => true
  | .evFp32Fdiv _ _ => true
  | .evFp32Fsqrt _ _ => true
  | .evFp32Fmin _ _ => true
  | .evFp32Fmax _ _ => true
  | .evFp32Fabs _ _ => true
  | .evFp32Fneg _ _ => true
  | .evFp64Fadd _ _ => true
  | .evFp64Fsub _ _ => true
  | .evFp64Fmul _ _ => true
  | .evFp64Fdiv _ _ => true
  | .evFp64Fsqrt _ _ => true
  | .evFp64Fmin _ _ => true
  | .evFp64Fmax _ _ => true
  | .evFp64Fabs _ _ => true
  | .evFp64Fneg _ _ => true
  | .evFeqs _ _ => true
  | .evFlts _ _ => true
  | .evFles _ _ => true
  | .evFuns _ _ => true
  | .evFeqd _ _ => true
  | .evFltd _ _ => true
  | .evFled _ _ => true
  | .evFund _ _ => true
  | .evSfw _ _ => true
  | .evSfwu _ _ => true
  | .evWfs _ _ => true
  | .evWufs _ _ => true
  | .evWfsr _ _ => true
  | .evDfw _ _ => true
  | .evDfwu _ _ => true
  | .evWfd _ _ => true
  | .evWufd _ _ => true
  | .evWfdr _ _ => true
  | .evDfs _ _ => true
  | .evSfd _ _ => true
  | .evEscapeServiceInstruction _ _ => true
  | .evReservedEncoding _ _ => true
  | .interruptTaken _ => true
  | .sysLaneWait _ _ => true
  | .sysTimerCounterRead _ _ => true
  | .rollCallCheckIn _ _ => true
  | .sysApplicationEvent _ _ => true
  | .sysApplicationMetric _ _ => true
  | .fieldSample => true
  | .fieldInputRecordWrite _ => true
  | .inputLevelChange _ _ _ => true
  | .debounceAccept _ => true
  | .openWireDetect _ => true
  | .openWireClear _ => true
  | .overloadDetect _ => true
  | .thermalShutdown _ => true
  | .overloadRetry _ => true
  | .shortDetect _ => true
  | .openLoadDetect _ => true
  | .extHighDetect _ => true
  | .fieldOutputRefresh => true
  | .islandOutputFrameReceive _ => true
  | .fieldLinkSilence => true
  | .fieldSafeTimeout _ => true
  | .groupSupplyMeasure _ _ _ _ => true
  | .fioClearLatch d => d.wf
  | .clearLatchApply => true
  | .fioRelease d => d.wf
  | .groupReleaseApply => true
  | .fioRead d => d.wf
  | .loopOutputRefresh _ => true
  | .loopFrameReceive _ _ => true
  | .complianceDetect _ => true
  | .complianceClear _ => true
  | .readbackDevDetect _ => true
  | .readbackDevClear _ => true
  | .miswireDetect _ => true
  | .miswireClear _ => true
  | .loopReadbackConversion _ _ _ _ => true
  | .loopLinkSilence _ => true
  | .loopSafeTimeout _ => true
  | .loopReadbackSilence _ => true
  | .loopPowerAppear _ => true
  | .hartRequestReceive _ _ => true
  | .hartReplyTimeout _ => true
  | .lptHartFetch d => d.wf
  | .lptHartReply d => d.wf
  | .trimBegin d => d.wf
  | .trimPoint d => d.wf
  | .trimApply d => d.wf
  | .trimCancel d => d.wf
  | .trimIdleTimeout _ => true
  | .lptRead d => d.wf
  | .ringEnable _ _ => true
  | .ringZeroingDone _ => true
  | .ringDisable _ _ => true
  | .ringReset _ _ => true
  | .sqTailDoorbell _ b => b.width ∈ [1, 2, 4, 8]
  | .cqHeadDoorbell _ b => b.width ∈ [1, 2, 4, 8]
  | .descriptorFetch _ raw _ => raw.all (fun b => b.length = 64)
  | .interruptCoalesceExpiry _ => true
  | .pcieHotReset => true
  | .perstNAssert => true
  | .functionLevelReset => true
  | .pcieLinkDown => true
  | .d3hotEntry => true
  | .ringNop d => d.wf
  | .fence d => d.wf
  | .fenceTimeout => true
  | .publishCopy _ e => e.wf
  | .mirrorSend e => e.wf
  | .retainRestore d => d.wf
  | .jrnlRead d => d.wf
  | .imgRead d => d.wf
  | .imgWrite d => d.wf
  | .forceWrite d => d.wf
  | .forceClear d => d.wf
  | .forceRead d => d.wf
  | .cfgBegin d => d.wf
  | .cfgPut d => d.wf
  | .cfgCommit d => d.wf
  | .cfgApply => true
  | .txnNoGap => true
  | .cfgAbort d => d.wf
  | .cfgConfirm d => d.wf
  | .cfgConfirmWindowEnd _ => true
  | .txnIdle _ => true
  | .cfgRead d => d.wf
  | .svcDatagram srcIp srcPort d => srcIp < 2 ^ 32 ∧ srcPort < 65536 ∧ d.raw.length < 65536
  | .svcArpIcmp _ => true
  | .svcSessionTimeout => true
  | .powerUp => true
  | .resetNAssert => true
  | .romInitDone _ _ _ _ _ => true
  | .bootStart _ => true
  | .bootRetry _ => true
  | .stagingWindowWrite off data => off + data.length ≤ 2 ^ 26
  | .verifyComplete _ _ => true
  | .componentStarted _ _ => true
  | .componentStartTimeout _ => true
  | .fwReset d => d.wf
  | .fwRead d => d.wf
  | .secChallenge d => d.wf
  | .challengeExpiry _ => true
  | .secResponse d => d.wf
  | .grantExpiry _ => true
  | .crLockoutEnd => true
  | .secKeyLoad d => d.wf
  | .secKeyWrap d => d.wf
  | .secKeyUnload d => d.wf
  | .secAttest d => d.wf
  | .lcProvision d => d.wf
  | .lcTakeOwnership d => d.wf
  | .lcReturn d => d.wf
  | .lcScrap d => d.wf
  | .lcLock d => d.wf
  | .lcUnlock d => d.wf
  | .lcRaiseSvn d => d.wf
  | .lcRevokeVkey d => d.wf
  | .secDebug d => d.wf
  | .rbgReseed => true
  | .rbgHealthFail => true
  | .jtagBoundaryScan _ => true
  | .jtagDebugAccess _ => true
  | .traceRecordWrite e => e.wf
  | .rollCallEvaluation _ => true
  | .watchdogServe _ => true
  | .watchdogCloseExpiry => true
  | .uncorrectableError _ _ _ => true
  | .referenceClockLoss => true
  | .referenceClockValid => true
  | .pwrState d => d.wf
  | .wakePerstN => true
  | .wakeSequenceDone _ _ => true
  | .pwrRead d => d.wf
  | .vinThresholdCross _ => true
  | .sagStageLeave _ => true
  | .vinPowerOnReset => true
  | .nvsRead d => d.wf
  | .nvsWrite d => d.wf
  | .nvPageWriteStart => true
  | .nvPageWriteDone _ => true
  | .nvsLock d => d.wf
  | .unlockRead d => d.wf
  | .unlockWrite d => d.wf
  | .setReadPw d => d.wf
  | .setWritePw d => d.wf
  | .rtcSecondTick => true
  | .rtcTimeRegisterRead off => off % 4 = 0
  | .rtcFreezeExpiry _ => true
  | .rtcStagingWrite off _ => off % 4 = 0
  | .rtcSecWrite _ => true
  | .rtcCommit => true
  | .rtcBackupLoss => true
  | .rtcRead d => d.wf
  | .rtcSet d => d.wf
  | .rtcAlarm d => d.wf
  | .consolidationInterval => true
  | .consolidationStart => true
  | .consolidationDone => true
  | .recRead d => d.wf
  | .recClear d => d.wf
  | .recConsolidate d => d.wf
  | .rungIllegalWord _ _ => true
  | .correctableError => true
  | .holdupSenseCrossing _ => true
  | .pcieLinkUp speed width => speed < 16 ∧ width < 64
  | .pcieConfigWrite _ _ _ => true
  | .gateControlTransition _ _ => true

end Sys2Proof
end

