-- ==== Sys2Proof/Certificates/Slice0/Obligations.lean ====
section
/-! DEFINITION. The statements for the provers, and the few notions that they are written in. -/

namespace Sys2Proof.Machine.Claims

open Reg

/-- A cycle core issues a word that no decode trap stops: its guard holds, no breakpoint stands at it, and the debugger is not
stepping the core. -/
abbrev EvGo (s : State) (c : Fin 8) (w : Word) : Prop :=
  issues s c = true ∧ (core s c).stepping = false ∧ decodeTrap s c w none false = none ∧
    guardHolds (core s c).ctx w = true ∧ atBreakpoint s c = false

/-- The core moves on behind an instruction that transfers no control. -/
def evAfter (c : Fin 8) (s : State) : State :=
  setCore c (fun k => { k with passBreak := false, ctx := nextCtx k.ctx }) s

/-- The core moves on with a context that the instruction left; nothing else of the machine changes. -/
def evWith (c : Fin 8) (x : Ctx) (s : State) : State :=
  setCore c (fun k => { k with passBreak := false, ctx := nextCtx x }) s

/-- The core stays at the context that an instruction of control left. -/
def evAt (c : Fin 8) (x : Ctx) (s : State) : State := setCore c (fun k => { k with passBreak := false, ctx := x }) s

/-- The core stands where an instruction of control left it. -/
def evJumped (c : Fin 8) (s : State) : State := setCore c (fun k => { k with passBreak := false }) s

/-- Address of an image bit, and of a data access of `n` bytes, in the present iteration of a repeat. -/
def bitOf (x : Ctx) (w : Word) : Nat :=
  ((gReg x (evRa w)).toNat + bits w.toNat 0 12 + iteration x) % 2 ^ 23
def addrOf (x : Ctx) (w : Word) (n : Nat) : Word :=
  gReg x (evRa w) + BitVec.ofInt 32 (toInt 12 (bits w.toNat 0 12)) + BitVec.ofNat 32 (iteration x * n)
def slotOf (x : Ctx) (w : Word) : Word :=
  x.ds + BitVec.ofInt 32 (toInt 12 (bits w.toNat 0 12)) + BitVec.ofNat 32 (4 * iteration x)

/-- The core goes to a target, with its trace record; the return stack takes `frames`. -/
def evWent (c : Fin 8) (y : Ctx) (frames : SMap Word) (a : Word) (s : State) : State :=
  setCore c (fun k => { k with passBreak := false })
    (traceNote c 2 0 a.toNat (setCore c (fun k => { k with rstack := frames, ctx := { y with pc := a } }) s))

/-- The words of BAR0 whose writes are rows of their own: a ring's CFG, BOOT_CTRL and the time registers. -/
def ownWord (o : Nat) : Prop := (0x0500 ≤ o ∧ o < 0x0D00 ∧ o % 16 = 8) ∨ o = 0xA004 ∨ (0x7C00 ≤ o ∧ o ≤ 0x7C18)

/-- The instructions of task code and of the runtime that go through fetch, decode and guard alike. -/
def EvWord (c : Fin 8) (w : Word) (i : Instr) : Prop := i ∈
  [.evAdd c w, .evSub c w, .evAddv c w, .evSubv c w, .evNeg c w, .evAnd c w, .evOr c w, .evXor c w, .evAndn c w,
   .evNot c w, .evShl c w, .evShr c w, .evSar c w, .evRol c w, .evRor c w, .evClz c w, .evCtz c w, .evPopc c w,
   .evMin c w, .evMax c w, .evMinu c w, .evMaxu c w, .evMul c w, .evMulh c w, .evMulhu c w, .evMulv c w, .evDiv c w,
   .evDivu c w, .evRem c w, .evRemu c w, .evMfpr c w, .evMtpr c w, .evAddi c w, .evAndi c w, .evOri c w, .evXori c w,
   .evShi c w, .evLui c w, .evMuli c w, .evBfx c w, .evBfxs c w, .evBfi c w, .evPerm c w, .evCmpeq c w, .evCmpne c w,
   .evCmplt c w, .evCmpge c w, .evCmpltu c w, .evCmpgeu c w, .evCmptst c w, .evCmpieq c w, .evCmpine c w, .evCmpilt c w,
   .evCmpiltu c w, .evPand c w, .evPor c w, .evPxor c w, .evPmov c w, .evIbld c w, .evIbldn c w, .evIband c w,
   .evIbor c w, .evIbst c w, .evIbstn c w, .evIbs1 c w, .evIbs0 c w, .evLdb c w, .evLdbu c w, .evLdh c w, .evLdhu c w,
   .evLdw c w, .evLdd c w, .evStb c w, .evSth c w, .evStw c w, .evStd c w, .evLdsw c w, .evStsw c w, .evDsadj c w,
   .evAmoswap c w, .evAmoadd c w, .evBr c w, .evCall c w, .evRet c w, .evJr c w, .evCallr c w, .evBreak c w, .evNop c w,
   .evMfence c w, .evFp32Fadd c w, .evFp32Fsub c w, .evFp32Fmul c w, .evFp32Fdiv c w, .evFp32Fsqrt c w, .evFp32Fmin c w,
   .evFp32Fmax c w, .evFp32Fabs c w, .evFp32Fneg c w, .evFp64Fadd c w, .evFp64Fsub c w, .evFp64Fmul c w, .evFp64Fdiv c w,
   .evFp64Fsqrt c w, .evFp64Fmin c w, .evFp64Fmax c w, .evFp64Fabs c w, .evFp64Fneg c w, .evFeqs c w, .evFlts c w,
   .evFles c w, .evFuns c w, .evFeqd c w, .evFltd c w, .evFled c w, .evFund c w, .evSfw c w, .evSfwu c w, .evWfs c w,
   .evWufs c w, .evWfsr c w, .evDfw c w, .evDfwu c w, .evWfd c w, .evWufd c w, .evWfdr c w, .evDfs c w, .evSfd c w]

/-- Nothing refuses a command: neither the common checks nor its own, on the state with its slot, and its buffer arrived. -/
def Unrefused (k : Card) (d : Desc) (own : State → Option (Nat × Nat)) (s : State) : Prop :=
  refusalOf k d own (openSlot d s) = none ∧ bufferLost k d = false

/-- The same for a command whose own checks leave a trace, and which judges them on the state before its slot. -/
def UnrefusedBefore (k : Card) (d : Desc) (own : State → Option (Nat × Nat)) (s : State) : Prop :=
  refusalOf k d own s = none ∧ refusalOf k d (fun _ => own s) (openSlot d s) = none ∧ bufferLost k d = false

/-- The state in which a command with a later effect takes it: at its boundary, and off the list. -/
def turnOf (x : Deferred) (s : State) : State := toBoundary x.cycle { s with cmd.deferred := s.cmd.deferred.erase x }

/-- The turn of a command with a later effect has come, and neither a standby nor power state HOLD keeps it from its effect. -/
def Takes (p : DefAct → Bool) (x : Deferred) (s : State) : Prop :=
  nextDeferred p s = some x ∧ (x.job.mirrored = true ∨ (standby (turnOf x s) = false ∧ power (turnOf x s) ≠ 2))

/-- A lane runs a network and stands, within it, at a word of the opcode that keeps its format. -/
def AtWord (s : State) (l : Fin 4) (w : Word) (e : RungEnv) (op : Nat) : Prop :=
  rungEnv s l = some e ∧ rungOp w = op ∧ rungWellFormed w = true ∧ (lane s l).ctx.index < netEnd e.net

/-- The lane has executed a word: its stack, and its index `n` words on. -/
def rungWent (e : RungEnv) (st : List Bool) (n : Nat) (s : State) : State :=
  setLane e.l (fun x => { x with ctx := { x.ctx with stack := st, index := x.ctx.index + n } }) s

/-- A COLLECT frame on drive port `p` with link that passes the header rows of R172 and matches template `i` with its size. -/
def CollectArrives (s : State) (p : Fin 2) (i : Nat) (t : Template) (f : RxFrame) : Prop :=
  linkUp s p = true ∧ f.fcsOk = true ∧ isFlany (advance f.at_ s) f = true ∧ headerBad f = false ∧ fKind f = kCollect ∧
    fPairId f = fget (advance f.at_ s) NET_PAIR_ID_PAIR_ID ∧ matchTpl (advance f.at_ s) p f = some (i, t) ∧ sizeBad t f = false ∧
    fEpoch f ≤ epoch (advance f.at_ s)

/-- A condition of channel `n` becomes active: its flag, the channel's fault count and CH_FAULT. -/
def flagged (n bit : Nat) (f : Field) (s : State) : State :=
  raise FIO_EVENTS_CH_FAULT (bump (FIO_CH_FAULTS_COUNT n) 1
    (setChan n (fun c => { c with active := c.active ||| BitVec.ofNat 7 (2 ^ bit) }) (raise f s)))

/-- The seven time fields of a time and the flags LOST and VBAT, as RTC_READ answers them. -/
def rtcResult (s : State) (r : RtcTime) : Nat :=
  ofLe ((timeValues r).map (BitVec.ofNat 8)) + 2 ^ 56 * ((if s.rtc.lost then 1 else 0) + (if s.rtc.onVbat then 2 else 0))

end Sys2Proof.Machine.Claims

open Sys2Proof hiding core
open Sys2Proof.Machine Sys2Proof.Machine.Reg Sys2Proof.Machine.Claims

/-- On a core that issues a word of major opcode 0x00 whose guard holds, each named row answers the next state in
which g[RD] (or the predicates) holds the result of R250, OV is set when R250 says so, and the core moves on; nothing
else changes. Completes, on the conditions on state and operands stated here alone: evAdd, evSub, evAddv, evSubv,
evNeg, evAnd, evOr, evXor, evAndn, evNot, evClz, evCtz, evPopc, evMin, evMax, evMinu, evMaxu, evMul, evMulh, evMulhu,
evMulv, evMfpr, evMtpr. -/
def Obligations.IntegerArithmeticWritesItsResult : Prop :=
  ∀ (c : Fin 8) (w : Word) (s : State), EvGo s c w → evOp w = 0x00 →
    let x := (core s c).ctx
    let a := gReg x (evRa w)
    let b := gReg x (evRb w)
    let gives := fun (i : Instr) (v : Word) => exec i s = .next (evWith c (setG (evRd w) v x) s)
    let flagged := fun (i : Instr) (v : Word) (ov : Bool) =>
      exec i s = .next (evWith c (setFlag flagOV ov (setG (evRd w) v x)) s)
    let outside := fun (r : Int) => decide (r < -2147483648 ∨ r > 2147483647)
    (evFn w = 0x00 → gives (.evAdd c w) (a + b)) ∧ (evFn w = 0x01 → gives (.evSub c w) (a - b)) ∧
    (evFn w = 0x02 → flagged (.evAddv c w) (a + b) (outside (a.toInt + b.toInt))) ∧
    (evFn w = 0x03 → flagged (.evSubv c w) (a - b) (outside (a.toInt - b.toInt))) ∧
    (evFn w = 0x04 → flagged (.evNeg c w) (0 - a) (decide (a = 0x80000000))) ∧
    (evFn w = 0x08 → gives (.evAnd c w) (a &&& b)) ∧ (evFn w = 0x09 → gives (.evOr c w) (a ||| b)) ∧
    (evFn w = 0x0A → gives (.evXor c w) (a ^^^ b)) ∧ (evFn w = 0x0B → gives (.evAndn c w) (a &&& ~~~b)) ∧
    (evFn w = 0x0C → gives (.evNot c w) (~~~a)) ∧
    (evFn w = 0x18 → gives (.evClz c w) (BitVec.ofNat 32 (clzW a))) ∧
    (evFn w = 0x19 → gives (.evCtz c w) (BitVec.ofNat 32 (ctzW a))) ∧
    (evFn w = 0x1A → gives (.evPopc c w) (BitVec.ofNat 32 (popcW a))) ∧
    (evFn w = 0x20 → gives (.evMin c w) (if a.toInt ≤ b.toInt then a else b)) ∧
    (evFn w = 0x21 → gives (.evMax c w) (if a.toInt ≤ b.toInt then b else a)) ∧
    (evFn w = 0x22 → gives (.evMinu c w) (if a.toNat ≤ b.toNat then a else b)) ∧
    (evFn w = 0x23 → gives (.evMaxu c w) (if a.toNat ≤ b.toNat then b else a)) ∧
    (evFn w = 0x30 → gives (.evMul c w) (a * b)) ∧
    (evFn w = 0x31 → gives (.evMulh c w) (BitVec.ofInt 32 (a.toInt * b.toInt / 4294967296))) ∧
    (evFn w = 0x32 → gives (.evMulhu c w) (BitVec.ofNat 32 (a.toNat * b.toNat / 4294967296))) ∧
    (evFn w = 0x33 → flagged (.evMulv c w) (a * b) (outside (a.toInt * b.toInt))) ∧
    (evFn w = 0x40 → gives (.evMfpr c w)
      (BitVec.ofNat 32 ((List.range 8).map (fun k => if pReg x k then 2 ^ k else 0)).sum)) ∧
    (evFn w = 0x41 → exec (.evMtpr c w) s = .next (evWith c { x with p := a.setWidth 8 ||| 1 } s))

/-- On a core that issues a shift of R250 whose guard holds, SHL, SHR, SAR, ROL and ROR answer the next state whose
g[RD] is the table's result for n = g[RB], all 32 bits of it unsigned: for n up to 31 the product, the unsigned
quotient, the quotient rounded toward minus infinity, and the rotation by n; for n of 32 or more 0, 0, the sign, and
the rotation by n mod 32. Completes, on the conditions on state and operands stated here alone: evShl, evShr, evSar,
evRol, evRor. -/
def Obligations.RegisterShiftsFollowTheAmountTable : Prop :=
  ∀ (c : Fin 8) (w : Word) (s : State), EvGo s c w → evOp w = 0x00 →
    let x := (core s c).ctx
    let a := gReg x (evRa w)
    let b := gReg x (evRb w)
    let n := b.toNat
    let gives := fun (i : Instr) (v : Word) => exec i s = .next (evWith c (setG (evRd w) v x) s)
    (evFn w = 0x10 → gives (.evShl c w) (if n < 32 then BitVec.ofNat 32 (a.toNat * 2 ^ n) else 0)) ∧
    (evFn w = 0x11 → gives (.evShr c w) (if n < 32 then BitVec.ofNat 32 (a.toNat / 2 ^ n) else 0)) ∧
    (evFn w = 0x12 → gives (.evSar c w)
      (if n < 32 then BitVec.ofInt 32 (a.toInt / 2 ^ n) else if 0 ≤ a.toInt then 0 else 0xFFFFFFFF)) ∧
    (evFn w = 0x13 → gives (.evRol c w) (if n < 32 then a.rotateLeft n else a.rotateLeft (n % 32))) ∧
    (evFn w = 0x14 → gives (.evRor c w) (if n < 32 then a.rotateRight n else a.rotateRight (n % 32)))

/-- For every word a, the CLZ result is the greatest k up to 32 such that the k leading bits are 0, CTZ the greatest
k such that the k trailing bits are 0, and POPC the number of 1 bits, as the rows of R250 name them; CLZ and CTZ of 0
are 32. -/
def Obligations.CountsAreTheBitsOfTheirNames : Prop :=
  ∀ a : Word,
    (clzW a ≤ 32 ∧ (∀ i < clzW a, a.getLsbD (31 - i) = false) ∧ (clzW a < 32 → a.getLsbD (31 - clzW a) = true)) ∧
    (ctzW a ≤ 32 ∧ (∀ i < ctzW a, a.getLsbD i = false) ∧ (ctzW a < 32 → a.getLsbD (ctzW a) = true)) ∧
    popcW a = ((List.range 32).map (fun i => if a.getLsbD i then 1 else 0)).sum ∧ clzW 0 = 32 ∧ ctzW 0 = 32

/-- On a core that issues a division whose guard holds, g[RD] takes the result of R251 for the case of dividend and
divisor, OV is set for 0x8000_0000 / 0xFFFF_FFFF signed and DZ for a divisor of 0; with a divisor of 0 and DZTRAP = 1
the core takes DIVZERO from the state with result and flags, and otherwise it moves on. Completes, on the conditions
on state and operands stated here alone: evDiv, evDivu, evRem, evRemu. -/
def Obligations.DivisionHasItsEdgeResults : Prop :=
  ∀ (c : Fin 8) (w : Word) (s : State), EvGo s c w → evOp w = 0x00 →
    let x := (core s c).ctx
    let a := gReg x (evRa w)
    let b := gReg x (evRb w)
    let signed := fun (q : Word) => setFlag flagDZ (decide (b = 0))
      (setFlag flagOV (decide (a = 0x80000000 ∧ b = 0xFFFFFFFF)) (setG (evRd w) q x))
    let unsigned := fun (q : Word) => setFlag flagDZ (decide (b = 0)) (setG (evRd w) q x)
    let ends := fun (i : Instr) (y : Ctx) => exec i s = .next
      (if b = 0 ∧ x.stat.getLsbD 8 = true then evTrap c 0x0F w false (setCtx c y s) else evWith c y s)
    (evFn w = 0x38 → ends (.evDiv c w) (signed (if b = 0 then (if 0 ≤ a.toInt then 0x7FFFFFFF else 0x80000000)
      else if a = 0x80000000 ∧ b = 0xFFFFFFFF then 0x80000000 else BitVec.ofInt 32 (a.toInt.tdiv b.toInt)))) ∧
    (evFn w = 0x39 → ends (.evDivu c w)
      (unsigned (if b = 0 then 0xFFFFFFFF else BitVec.ofNat 32 (a.toNat / b.toNat)))) ∧
    (evFn w = 0x3A → ends (.evRem c w) (signed (if b = 0 then a
      else if a = 0x80000000 ∧ b = 0xFFFFFFFF then 0 else BitVec.ofInt 32 (a.toInt.tmod b.toInt)))) ∧
    (evFn w = 0x3B → ends (.evRemu c w) (unsigned (if b = 0 then a else BitVec.ofNat 32 (a.toNat % b.toNat))))

/-- On a core that issues the word of an immediate, bit-field or permutation row whose guard holds, the row answers
the next state in which g[RD] holds the result of R254 to R256; nothing but the core's registers and its PC changes.
Completes, on the conditions on state and operands stated here alone: evAddi, evAndi, evOri, evXori, evShi, evLui,
evMuli, evBfx, evBfxs, evBfi, evPerm. -/
def Obligations.ImmediateAndFieldRowsWriteTheirResult : Prop :=
  ∀ (c : Fin 8) (w : Word) (s : State), EvGo s c w → 
    let x := (core s c).ctx
    let a := gReg x (evRa w)
    let b := gReg x (evRb w)
    let i12 := BitVec.ofInt 32 (toInt 12 (bits w.toNat 0 12))
    let z12 := BitVec.ofNat 32 (bits w.toNat 0 12)
    let pos := bits w.toNat 1 5
    let len := min (bits w.toNat 6 6) (32 - pos)
    let old := gReg x (evRd w)
    let gives := fun (i : Instr) (v : Word) => exec i s = .next (evWith c (setG (evRd w) v x) s)
    (evOp w = 0x01 → gives (.evAddi c w) (a + i12)) ∧ (evOp w = 0x02 → gives (.evAndi c w) (a &&& z12)) ∧
    (evOp w = 0x03 → gives (.evOri c w) (a ||| z12)) ∧ (evOp w = 0x04 → gives (.evXori c w) (a ^^^ z12)) ∧
    (evOp w = 0x05 → bits w.toNat 9 3 = 0 → gives (.evShi c w) (a <<< bits w.toNat 0 5)) ∧
    (evOp w = 0x05 → bits w.toNat 9 3 = 1 → gives (.evShi c w) (a >>> bits w.toNat 0 5)) ∧
    (evOp w = 0x05 → bits w.toNat 9 3 = 2 → gives (.evShi c w) (a.sshiftRight (bits w.toNat 0 5))) ∧
    (evOp w = 0x05 → bits w.toNat 9 3 = 3 → gives (.evShi c w) (a.rotateLeft (bits w.toNat 0 5))) ∧
    (evOp w = 0x05 → bits w.toNat 9 3 = 4 → gives (.evShi c w) (a.rotateRight (bits w.toNat 0 5))) ∧
    (evOp w = 0x06 → gives (.evLui c w) (old * 131072 ||| BitVec.ofNat 32 (bits w.toNat 0 17))) ∧
    (evOp w = 0x07 → gives (.evMuli c w) (a * i12)) ∧
    (evOp w = 0x08 → gives (.evBfx c w) (BitVec.ofNat 32 (bits a.toNat pos len))) ∧
    (evOp w = 0x09 → gives (.evBfxs c w) (BitVec.ofInt 32 (toInt len (bits a.toNat pos len)))) ∧
    (evOp w = 0x0A → gives (.evBfi c w) (BitVec.ofNat 32
      (old.toNat - (old.toNat &&& (2 ^ len - 1) * 2 ^ pos) + bits a.toNat 0 len * 2 ^ pos))) ∧
    (evOp w = 0x11 → gives (.evPerm c w) (permW a b (gReg x (bits w.toNat 2 5))))

/-- On a core that issues the word of a comparison or predicate row whose guard holds, the row answers the next state
in which PD holds the result r as CMODE directs: r, PD AND r, or PD OR r; PRED writes a AND b, a OR b, a XOR b or a.
p0 keeps reading 1. Completes, on the conditions on state and operands stated here alone: evCmpeq, evCmpne, evCmplt,
evCmpge, evCmpltu, evCmpgeu, evCmptst, evCmpieq, evCmpine, evCmpilt, evCmpiltu, evPand, evPor, evPxor, evPmov. -/
def Obligations.ComparisonsWriteTheirPredicate : Prop :=
  ∀ (c : Fin 8) (w : Word) (s : State), EvGo s c w → 
    let x := (core s c).ctx
    let a := gReg x (evRa w)
    let b := gReg x (evRb w)
    let i12 := BitVec.ofInt 32 (toInt 12 (bits w.toNat 0 12))
    let pd := bits w.toNat 19 3
    let old := pReg x pd
    let p := pReg x (bits w.toNat 16 3) ^^ w.getLsbD 12
    let q := pReg x (bits w.toNat 13 3) ^^ w.getLsbD 11
    let sets := fun (i : Instr) (r : Bool) =>
      (bits w.toNat 17 2 = 0 → exec i s = .next (evWith c (setP pd r x) s)) ∧
      (bits w.toNat 17 2 = 1 → exec i s = .next (evWith c (setP pd (old && r) x) s)) ∧
      (bits w.toNat 17 2 = 2 → exec i s = .next (evWith c (setP pd (old || r) x) s))
    (evOp w = 0x0B → evFn w = 0 → sets (.evCmpeq c w) (decide (a = b))) ∧
    (evOp w = 0x0B → evFn w = 1 → sets (.evCmpne c w) (decide (a ≠ b))) ∧
    (evOp w = 0x0B → evFn w = 2 → sets (.evCmplt c w) (decide (a.toInt < b.toInt))) ∧
    (evOp w = 0x0B → evFn w = 3 → sets (.evCmpge c w) (decide (b.toInt ≤ a.toInt))) ∧
    (evOp w = 0x0B → evFn w = 4 → sets (.evCmpltu c w) (decide (a.toNat < b.toNat))) ∧
    (evOp w = 0x0B → evFn w = 5 → sets (.evCmpgeu c w) (decide (b.toNat ≤ a.toNat))) ∧
    (evOp w = 0x0B → evFn w = 6 → sets (.evCmptst c w) (decide (a &&& b ≠ 0))) ∧
    (evOp w = 0x0C → sets (.evCmpieq c w) (decide (a = i12))) ∧ (evOp w = 0x0D → sets (.evCmpine c w) (decide (a ≠ i12))) ∧
    (evOp w = 0x0E → sets (.evCmpilt c w) (decide (a.toInt < i12.toInt))) ∧
    (evOp w = 0x0F → sets (.evCmpiltu c w) (decide (a.toNat < i12.toNat))) ∧
    (evOp w = 0x10 → bits w.toNat 8 3 = 0 → exec (.evPand c w) s = .next (evWith c (setP pd (p && q) x) s)) ∧
    (evOp w = 0x10 → bits w.toNat 8 3 = 1 → exec (.evPor c w) s = .next (evWith c (setP pd (p || q) x) s)) ∧
    (evOp w = 0x10 → bits w.toNat 8 3 = 2 → exec (.evPxor c w) s = .next (evWith c (setP pd (p ^^ q) x) s)) ∧
    (evOp w = 0x10 → bits w.toNat 8 3 = 3 → exec (.evPmov c w) s = .next (evWith c (setP pd p x) s)) ∧
    (∀ v, pReg (setP 0 v x) 0 = true)

/-- On a core that issues a word of FP32, FP64 or FCVT whose guard holds, each row answers the next state in which
the register or pair RD holds the result on the operands as FTZ reads them and STAT has gained the flags of that
result; FABS and FNEG only change the sign bit of the operand as it stands. Completes, on the conditions on state and
operands stated here alone: evFp32Fadd, evFp32Fsub, evFp32Fmul, evFp32Fdiv, evFp32Fsqrt, evFp32Fmin, evFp32Fmax,
evFp32Fabs, evFp32Fneg, evFp64Fadd, evFp64Fsub, evFp64Fmul, evFp64Fdiv, evFp64Fsqrt, evFp64Fmin, evFp64Fmax,
evFp64Fabs, evFp64Fneg, evSfw, evSfwu, evWfs, evWufs, evWfsr, evDfw, evDfwu, evWfd, evWufd, evWfdr, evDfs, evSfd. -/
def Obligations.FloatingPointRowsWriteTheirResult : Prop :=
  ∀ (c : Fin 8) (w : Word) (s : State), EvGo s c w → 
    let x := (core s c).ctx
    let z := x.stat.getLsbD 9
    let u32 := fun (n : Nat) => operand f32 z (gReg x n).toNat
    let u64 := fun (n : Nat) => operand f64 z (dReg x n)
    let flags := fun (fl : Nat) (y : Ctx) => { y with stat := y.stat ||| BitVec.ofNat 32 fl }
    let w32 := fun (i : Instr) (r : Nat × Nat) =>
      exec i s = .next (evWith c (flags r.2 (setG (evRd w) (BitVec.ofNat 32 r.1) x)) s)
    let w64 := fun (i : Instr) (r : Nat × Nat) => exec i s = .next (evWith c (flags r.2 (setD (evRd w) r.1 x)) s)
    (evOp w = 0x26 → evFn w = 0 → w32 (.evFp32Fadd c w) (faddBits f32 z (u32 (evRa w)) (u32 (evRb w)))) ∧
    (evOp w = 0x26 → evFn w = 1 → w32 (.evFp32Fsub c w) (fsubBits f32 z (u32 (evRa w)) (u32 (evRb w)))) ∧
    (evOp w = 0x26 → evFn w = 2 → w32 (.evFp32Fmul c w) (fmulBits f32 z (u32 (evRa w)) (u32 (evRb w)))) ∧
    (evOp w = 0x26 → evFn w = 3 → w32 (.evFp32Fdiv c w) (fdivBits f32 z (u32 (evRa w)) (u32 (evRb w)))) ∧
    (evOp w = 0x26 → evFn w = 4 → w32 (.evFp32Fsqrt c w) (fsqrtBits f32 z (u32 (evRa w)))) ∧
    (evOp w = 0x26 → evFn w = 5 → w32 (.evFp32Fmin c w) (fpick f32 false (u32 (evRa w)) (u32 (evRb w)))) ∧
    (evOp w = 0x26 → evFn w = 6 → w32 (.evFp32Fmax c w) (fpick f32 true (u32 (evRa w)) (u32 (evRb w)))) ∧
    (evOp w = 0x26 → evFn w = 7 →
      exec (.evFp32Fabs c w) s = .next (evWith c (setG (evRd w) (gReg x (evRa w) &&& 0x7FFFFFFF) x) s)) ∧
    (evOp w = 0x26 → evFn w = 8 →
      exec (.evFp32Fneg c w) s = .next (evWith c (setG (evRd w) (gReg x (evRa w) ^^^ 0x80000000) x) s)) ∧
    (evOp w = 0x27 → evFn w = 0 → w64 (.evFp64Fadd c w) (faddBits f64 z (u64 (evRa w)) (u64 (evRb w)))) ∧
    (evOp w = 0x27 → evFn w = 1 → w64 (.evFp64Fsub c w) (fsubBits f64 z (u64 (evRa w)) (u64 (evRb w)))) ∧
    (evOp w = 0x27 → evFn w = 2 → w64 (.evFp64Fmul c w) (fmulBits f64 z (u64 (evRa w)) (u64 (evRb w)))) ∧
    (evOp w = 0x27 → evFn w = 3 → w64 (.evFp64Fdiv c w) (fdivBits f64 z (u64 (evRa w)) (u64 (evRb w)))) ∧
    (evOp w = 0x27 → evFn w = 4 → w64 (.evFp64Fsqrt c w) (fsqrtBits f64 z (u64 (evRa w)))) ∧
    (evOp w = 0x27 → evFn w = 5 → w64 (.evFp64Fmin c w) (fpick f64 false (u64 (evRa w)) (u64 (evRb w)))) ∧
    (evOp w = 0x27 → evFn w = 6 → w64 (.evFp64Fmax c w) (fpick f64 true (u64 (evRa w)) (u64 (evRb w)))) ∧
    (evOp w = 0x27 → evFn w = 7 →
      exec (.evFp64Fabs c w) s = .next (evWith c (setD (evRd w) (dReg x (evRa w) % 2 ^ 63) x) s)) ∧
    (evOp w = 0x27 → evFn w = 8 →
      exec (.evFp64Fneg c w) s = .next (evWith c (setD (evRd w) (dReg x (evRa w) ^^^ 2 ^ 63) x) s)) ∧
    (evOp w = 0x29 → evFn w = 0x00 → w32 (.evSfw c w) (ofIntBits f32 z (gReg x (evRa w)).toInt)) ∧
    (evOp w = 0x29 → evFn w = 0x01 → w32 (.evSfwu c w) (ofIntBits f32 z (gReg x (evRa w)).toNat)) ∧
    (evOp w = 0x29 → evFn w = 0x02 → w32 (.evWfs c w) (toIntBits f32 true false (u32 (evRa w)))) ∧
    (evOp w = 0x29 → evFn w = 0x03 → w32 (.evWufs c w) (toIntBits f32 false false (u32 (evRa w)))) ∧
    (evOp w = 0x29 → evFn w = 0x04 → w32 (.evWfsr c w) (toIntBits f32 true true (u32 (evRa w)))) ∧
    (evOp w = 0x29 → evFn w = 0x08 → w64 (.evDfw c w) (ofIntBits f64 z (gReg x (evRa w)).toInt)) ∧
    (evOp w = 0x29 → evFn w = 0x09 → w64 (.evDfwu c w) (ofIntBits f64 z (gReg x (evRa w)).toNat)) ∧
    (evOp w = 0x29 → evFn w = 0x0A → w32 (.evWfd c w) (toIntBits f64 true false (u64 (evRa w)))) ∧
    (evOp w = 0x29 → evFn w = 0x0B → w32 (.evWufd c w) (toIntBits f64 false false (u64 (evRa w)))) ∧
    (evOp w = 0x29 → evFn w = 0x0C → w32 (.evWfdr c w) (toIntBits f64 true true (u64 (evRa w)))) ∧
    (evOp w = 0x29 → evFn w = 0x10 → w64 (.evDfs c w) (convBits f32 f64 z (u32 (evRa w)))) ∧
    (evOp w = 0x29 → evFn w = 0x11 → w32 (.evSfd c w) (convBits f64 f32 z (u64 (evRa w))))

/-- On a core that issues a word of FCMP whose guard holds, each row answers the next state in which PD holds the
comparison r of the operands as FTZ reads them as CMODE directs (r, PD AND r, or PD OR r), and OV is gained where
R267 names it; a NaN operand makes every comparison but unordered 0. Completes, on the conditions on state and
operands stated here alone: evFeqs, evFlts, evFles, evFuns, evFeqd, evFltd, evFled, evFund. -/
def Obligations.FloatingPointComparisonsWriteTheirPredicate : Prop :=
  ∀ (c : Fin 8) (w : Word) (s : State), EvGo s c w → evOp w = 0x28 →
    let x := (core s c).ctx
    let z := x.stat.getLsbD 9
    let u := fun (f : Fmt) (n : Nat) => operand f z (if f = f64 then dReg x n else (gReg x n).toNat)
    let pd := bits w.toNat 19 3
    let m := bits w.toNat 17 2
    let sets := fun (i : Instr) (f : Fmt) (r : Bool) (ov : Bool) => exec i s = .next (evWith c
      (let y := setP pd (if m = 1 then pReg x pd && r else if m = 2 then pReg x pd || r else r) x
       { y with stat := y.stat ||| (if ov then 1 else 0) }) s)
    let nan := fun (f : Fmt) => isNan f (u f (evRa w)) || isNan f (u f (evRb w))
    let snan := fun (f : Fmt) => isSnan f (u f (evRa w)) || isSnan f (u f (evRb w))
    let num := fun (f : Fmt) (r : Int → Int → Bool) => r (fnum f (u f (evRa w))) (fnum f (u f (evRb w)))
    (evFn w = 0x00 → sets (.evFeqs c w) f32 (!nan f32 && num f32 (fun a b => a = b)) (snan f32)) ∧
    (evFn w = 0x01 → sets (.evFlts c w) f32 (!nan f32 && num f32 (fun a b => a < b)) (nan f32)) ∧
    (evFn w = 0x02 → sets (.evFles c w) f32 (!nan f32 && num f32 (fun a b => a ≤ b)) (nan f32)) ∧
    (evFn w = 0x03 → sets (.evFuns c w) f32 (nan f32) (snan f32)) ∧
    (evFn w = 0x10 → sets (.evFeqd c w) f64 (!nan f64 && num f64 (fun a b => a = b)) (snan f64)) ∧
    (evFn w = 0x11 → sets (.evFltd c w) f64 (!nan f64 && num f64 (fun a b => a < b)) (nan f64)) ∧
    (evFn w = 0x12 → sets (.evFled c w) f64 (!nan f64 && num f64 (fun a b => a ≤ b)) (nan f64)) ∧
    (evFn w = 0x13 → sets (.evFund c w) f64 (nan f64) (snan f64))

/-- On a core that issues an image-bit word whose guard holds and whose bit the task may access, IBLD, IBLDN, IBAND
and IBOR answer the next state with PD from the bit at (g[RA] + BOFS + i) mod 2^23 of the task's view, and IBST,
IBSTN, IBS1 and IBS0 the next state with that one bit written from pPD, or left when pPD is 0 for IBS1 and IBS0.
Completes, on the conditions on state and operands stated here alone: evIbld, evIbldn, evIband, evIbor, evIbst,
evIbstn, evIbs1, evIbs0. -/
def Obligations.ImageBitRowsReadAndWriteTheView : Prop :=
  ∀ (c : Fin 8) (w : Word) (s : State), EvGo s c w → 
    let x := (core s c).ctx
    let a := bitOf x w
    let pd := bits w.toNat 19 3
    let p := pReg x pd
    let gets := fun (i : Instr) (f : Bool → Bool) => ∀ t, bitPlace s c a false = .ok t →
      exec i s = .next (evWith c (setP pd (f (rdBit (run s t).view a)) x) s)
    let puts := fun (i : Instr) (v : Bool) => ∀ t, bitPlace s c a true = .ok t →
      exec i s = .next (evAfter c (setRun t (fun r => { r with view := wrBit r.view a v }) s))
    let leaves := fun (i : Instr) => ∀ t, bitPlace s c a true = .ok t → exec i s = .next (evAfter c s)
    (evOp w = 0x12 → bits w.toNat 17 2 = 0 → gets (.evIbld c w) (fun v => v)) ∧
    (evOp w = 0x12 → bits w.toNat 17 2 = 1 → gets (.evIbldn c w) (fun v => !v)) ∧
    (evOp w = 0x12 → bits w.toNat 17 2 = 2 → gets (.evIband c w) (fun v => p && v)) ∧
    (evOp w = 0x12 → bits w.toNat 17 2 = 3 → gets (.evIbor c w) (fun v => p || v)) ∧
    (evOp w = 0x13 → bits w.toNat 17 2 = 0 → puts (.evIbst c w) p) ∧
    (evOp w = 0x13 → bits w.toNat 17 2 = 1 → puts (.evIbstn c w) (!p)) ∧
    (evOp w = 0x13 → bits w.toNat 17 2 = 2 → p = true → puts (.evIbs1 c w) true) ∧
    (evOp w = 0x13 → bits w.toNat 17 2 = 2 → p = false → leaves (.evIbs1 c w)) ∧
    (evOp w = 0x13 → bits w.toNat 17 2 = 3 → p = true → puts (.evIbs0 c w) false) ∧
    (evOp w = 0x13 → bits w.toNat 17 2 = 3 → p = false → leaves (.evIbs0 c w))

/-- On a core that issues a load whose guard holds and whose access the map allows, the row answers the next state in
which g[RD], or d[RD] for LDD, holds the bytes read at g[RA] + sext(OFS12) + i times the size, for LDSW at DS +
sext(OFS12) + 4i; the core moves on. Completes, on the conditions on state and operands stated here alone: evLdb,
evLdbu, evLdh, evLdhu, evLdw, evLdd, evLdsw. -/
def Obligations.LoadsPutTheirBytesIntoTheRegister : Prop :=
  ∀ (c : Fin 8) (w : Word) (s : State), EvGo s c w → 
    let x := (core s c).ctx
    let loads := fun (i : Instr) (n : Nat) (f : Nat → Ctx) (v : Nat → Nat) => ∀ p, place s c x (addrOf x w n) n false false = .ok p →
      exec i s = .next (evWith c (f (v (loadAt s c p (addrOf x w n).toNat n).2)) (loadAt s c p (addrOf x w n).toNat n).1)
    let low := fun (v : Nat) => setG (evRd w) (BitVec.ofNat 32 v) x
    let signed := fun (b v : Nat) => setG (evRd w) (BitVec.ofInt 32 (toInt b v)) x
    (evOp w = 0x14 → loads (.evLdb c w) 1 (signed 8) id) ∧ (evOp w = 0x15 → loads (.evLdbu c w) 1 low id) ∧
    (evOp w = 0x16 → loads (.evLdh c w) 2 (signed 16) id) ∧ (evOp w = 0x17 → loads (.evLdhu c w) 2 low id) ∧
    (evOp w = 0x18 → loads (.evLdw c w) 4 low id) ∧ (evOp w = 0x1C → loads (.evLdd c w) 8 (fun v => setD (evRd w) v x) id) ∧
    (evOp w = 0x20 → ∀ p, place s c x (slotOf x w) 4 false false = .ok p → offStack x (slotOf x w) = false →
      exec (.evLdsw c w) s = .next (evWith c (low (loadAt s c p (slotOf x w).toNat 4).2) (loadAt s c p (slotOf x w).toNat 4).1))

/-- On a core that issues a store whose guard holds and whose access the map allows, the row answers the next state
with the low bytes of g[RD], or d[RD] for STD, stored at the address of R260 or R261; AMOSWAP and AMOADD also put the
old word into g[RD]; DSADJ answers the next state with DS moved, within [DS_LO, DS_HI] in TASK mode. Completes, on
the conditions on state and operands stated here alone: evStb, evSth, evStw, evStd, evStsw, evDsadj, evAmoswap,
evAmoadd. -/
def Obligations.StoresPutTheRegisterAtTheAddress : Prop :=
  ∀ (c : Fin 8) (w : Word) (s : State), EvGo s c w → 
    let x := (core s c).ctx
    let stores := fun (i : Instr) (n v : Nat) => ∀ p, place s c x (addrOf x w n) n true false = .ok p →
      exec i s = .next (evAfter c (storeAt c p (addrOf x w n).toNat n (v % 2 ^ (8 * n)) s))
    let r := (gReg x (evRd w)).toNat
    let at_ := gReg x (evRa w) + BitVec.ofNat 32 (4 * iteration x)
    let swaps := fun (i : Instr) (f : Word → Word) => ∀ p, place s c x at_ 4 true true = .ok p →
      let old := BitVec.ofNat 32 (loadAt s c p at_.toNat 4).2
      exec i s = .next (evWith c (setG (evRd w) old x) (storeAt c p at_.toNat 4 (f old).toNat s))
    let ds := x.ds + BitVec.ofInt 32 (toInt 12 (bits w.toNat 0 12))
    (evOp w = 0x19 → stores (.evStb c w) 1 r) ∧ (evOp w = 0x1A → stores (.evSth c w) 2 r) ∧
    (evOp w = 0x1B → stores (.evStw c w) 4 r) ∧ (evOp w = 0x1D → stores (.evStd c w) 8 (dReg x (evRd w))) ∧
    (evOp w = 0x21 → ∀ p, place s c x (slotOf x w) 4 true false = .ok p → offStack x (slotOf x w) = false →
      exec (.evStsw c w) s = .next (evAfter c (storeAt c p (slotOf x w).toNat 4 r s))) ∧
    (evOp w = 0x1E → evFn w = 0 → swaps (.evAmoswap c w) (fun _ => gReg x (evRb w))) ∧
    (evOp w = 0x1E → evFn w = 1 → swaps (.evAmoadd c w) (fun old => old + gReg x (evRb w))) ∧
    (evOp w = 0x1F → (x.mode = .runtime ∨ (x.dsLo ≤ ds ∧ ds ≤ x.dsHi)) →
      exec (.evDsadj c w) s = .next (evWith c { x with ds } s))

/-- When a store or an atomic of a core answers a next state on canonical memories, every byte of data memory, of the
core's local memory and of every task's view outside the stored bytes (for a store into the view pool: outside the
view bytes that lie there) reads as before; code store, live image, register bank and NV memory stay; the core keeps
its predicates, STAT, stack registers, EPC, CAUSE and return stack, and, for STB to STD and STSW, every general
register. -/
def Obligations.StoresChangeOnlyTheirBytes : Prop :=
  ∀ (c : Fin 8) (w : Word) (s : State), EvGo s c w → SMap.wf s.seq.runs = true → SMap.wf s.cores = true → Mem.wf s.mem.data = true →
    Mem.wf (core s c).mem = true → (∀ u, Mem.wf (run s u).view = true) →
    let x := (core s c).ctx
    let amo := gReg x (evRa w) + BitVec.ofNat 32 (4 * iteration x)
    let keeps := fun (i : Instr) (a : Word) (n : Nat) (atomic : Bool) => ∀ p, place s c x a n true atomic = .ok p →
      ∀ t, exec i s = .next t →
      (∀ b, b < a.toNat ∨ a.toNat + n ≤ b → rd t.mem.data b = rd s.mem.data b ∧ rd (core t c).mem b = rd (core s c).mem b) ∧
      (∀ u b, b < a.toNat - 0x20000000 ∨ a.toNat - 0x20000000 + n ≤ b → (∀ k < n, viewHome s (a.toNat + k) ≠ some (u, b)) →
        rd (run t u).view b = rd (run s u).view b) ∧
      t.mem.code = s.mem.code ∧ t.img = s.img ∧ t.regs = s.regs ∧ t.nv = s.nv ∧
      (core t c).ctx.p = x.p ∧ (core t c).ctx.stat = x.stat ∧ (core t c).ctx.ds = x.ds ∧ (core t c).ctx.rs = x.rs ∧
      (core t c).ctx.epc = x.epc ∧ (core t c).ctx.cause = x.cause ∧ (core t c).rstack = (core s c).rstack ∧
      (atomic = false → (core t c).ctx.g = x.g)
    (evOp w = 0x19 → keeps (.evStb c w) (addrOf x w 1) 1 false) ∧ (evOp w = 0x1A → keeps (.evSth c w) (addrOf x w 2) 2 false) ∧
    (evOp w = 0x1B → keeps (.evStw c w) (addrOf x w 4) 4 false) ∧ (evOp w = 0x1D → keeps (.evStd c w) (addrOf x w 8) 8 false) ∧
    (evOp w = 0x21 → offStack x (slotOf x w) = false → keeps (.evStsw c w) (slotOf x w) 4 false) ∧
    (evOp w = 0x1E → evFn w = 0 → keeps (.evAmoswap c w) amo 4 true) ∧
    (evOp w = 0x1E → evFn w = 1 → keeps (.evAmoadd c w) amo 4 true)

/-- On a core that issues a control transfer whose guard holds and whose target may be fetched, BR goes to (PC + 4 ×
DISP22) mod 2^24, JR to g[RA], CALL and CALLR there with PC + 4 pushed at index RS, RET to the entry popped; a task
RET at RS = RS_LO + 1 is the task return: RUNTIME mode with interrupts masked at the popped address, neither EPC nor
CAUSE written, and the core has returned; its ABORT and PREEMPT lines are dropped with the task (log entry 75), and
RS falls with it to the entries that the tasks suspended on the core still use. Completes, on the conditions on state
and operands stated here alone: evBr, evCall, evRet, evJr, evCallr. -/
def Obligations.BranchesCallsAndReturnsTransferControl : Prop :=
  ∀ (c : Fin 8) (w : Word) (s : State), EvGo s c w →
    let x := (core s c).ctx
    let st := (core s c).rstack
    let goes := fun (i : Instr) (y : Ctx) (frames : SMap Word) (a : Word) =>
      badTarget s c y a = false → exec i s = .next (evWent c y frames a s)
    let near : Word := BitVec.ofInt 32 (((x.pc.toNat : Int) + 4 * toInt 22 (bits w.toNat 0 22)) % 2 ^ 24)
    let room := x.mode = .runtime ∨ x.rs < x.rsHi
    let popped : Word := lookD st (x.rs - 1) 0
    let called := { x with rs := x.rs + 1 }
    (evOp w = 0x22 → goes (.evBr c w) x st near) ∧
    (evOp w = 0x23 → room → goes (.evCall c w) called (put x.rs (x.pc + 4) st) near) ∧
    (evOp w = 0x24 → evFn w = 1 → goes (.evJr c w) x st (gReg x (evRa w))) ∧
    (evOp w = 0x24 → evFn w = 2 → room → goes (.evCallr c w) called (put x.rs (x.pc + 4) st) (gReg x (evRa w))) ∧
    (evOp w = 0x24 → evFn w = 0 → (x.mode = .runtime ∨ x.rsLo + 1 < x.rs) →
      goes (.evRet c w) { x with rs := x.rs - 1 } st popped) ∧
    (evOp w = 0x24 → evFn w = 0 → x.mode = .task → x.rs = x.rsLo + 1 → ∀ t : Fin 32, (core s c).task = some t →
      exec (.evRet c w) s = .next (setCore c (fun k => { k with passBreak := false })
        (endCheck t (setRun t (fun r => { r with coresLeft := r.coresLeft &&& ~~~(BitVec.ofNat 8 (2 ^ c.val)) })
          (traceNote c 1 t popped.toNat (setCore c (fun k => { k with
            task := none, lines := k.lines &&& 0b1100
            ctx := { x with pc := popped, rs := min (x.rs - 1) (entriesLeft k), mode := .runtime, masked := true } }) s))))))

/-- On a core that issues a system instruction whose guard holds and that its mode permits: REP latches its count
into RC and stands at the prefixed instruction; MFSR puts the special register into g[RD]; MTSR writes it from g[RA];
ERET goes to EPC in the mode of PREV_MODE with interrupts unmasked and REP_ACTIVE restored; ERETN does the same at
EPC + 4, or counts the iteration inside a repeat; NOP and MFENCE only move on. Completes, on the conditions on state
and operands stated here alone: evRep, evMfsr, evMtsr, evEret, evEretn, evNop, evMfence. -/
def Obligations.SystemInstructionsActOnTheirRegisters : Prop :=
  ∀ (c : Fin 8) (w : Word) (s : State), EvGo s c w →
    let x := (core s c).ctx
    let v := gReg x (evRa w)
    let reads := fun (v : Word) => exec (.evMfsr c w) s = .next (evWith c (setG (evRd w) v x) s)
    let writes := fun (y : Ctx) => exec (.evMtsr c w) s = .next (evWith c y s)
    let back : Ctx := { x with pc := x.epc, mode := if x.cause.getLsbD 31 then .runtime else .task, masked := false,
                               rep := x.cause.getLsbD 30 }
    let n := if w.getLsbD 21 then (gReg x (bits w.toNat 16 5)).toNat else bits w.toNat 0 16 + 1
    let behind := BitVec.ofNat 32 (ofLe (rdN s.mem.code (x.pc.toNat + 4) 4))
    (evOp w = 0x25 → evNoRepeat behind = false → x.pc.toNat / 4096 = (x.pc.toNat + 4) / 4096 → 1 ≤ n → n ≤ 65536 →
      exec (.evRep c w) s = .next (evAt c { x with rc := BitVec.ofNat 32 n, repCount := n, rep := true, pc := x.pc + 4 } s)) ∧
    (evOp w = 0x2B → evFn w = 0 → (x.mode = .runtime ∨ evRa w < 9 ∨ 12 < evRa w) →
      (evRa w = 0 → reads x.pc) ∧ (evRa w = 1 → reads x.ds) ∧ (evRa w = 2 → reads x.dsLo) ∧ (evRa w = 3 → reads x.dsHi) ∧
      (evRa w = 4 → reads (BitVec.ofNat 32 x.rs)) ∧ (evRa w = 5 → reads (BitVec.ofNat 32 x.rsLo)) ∧
      (evRa w = 6 → reads (BitVec.ofNat 32 x.rsHi)) ∧ (evRa w = 7 → reads x.rc) ∧ (evRa w = 8 → reads x.stat) ∧
      (evRa w = 9 → reads x.cause) ∧ (evRa w = 10 → reads x.causeWord) ∧ (evRa w = 11 → reads x.epc) ∧
      (evRa w = 12 → reads (core s c).vbase) ∧ (evRa w = 13 → reads (BitVec.ofNat 32 c.val))) ∧
    (evOp w = 0x2B → evFn w = 1 →
      (evRd w = 1 → (x.mode = .runtime ∨ (x.dsLo ≤ v ∧ v ≤ x.dsHi)) → writes { x with ds := v }) ∧
      (evRd w = 8 → writes { x with stat := v &&& statMask }) ∧
      (x.mode = .runtime → (evRd w = 2 → writes { x with dsLo := v }) ∧ (evRd w = 3 → writes { x with dsHi := v }) ∧
        (evRd w = 4 → writes { x with rs := v.toNat }) ∧ (evRd w = 5 → writes { x with rsLo := v.toNat }) ∧
        (evRd w = 6 → writes { x with rsHi := v.toNat }) ∧ (evRd w = 7 → writes { x with rc := v }) ∧
        (evRd w = 9 → writes { x with cause := v &&& 0xE00000FF }) ∧ (evRd w = 10 → writes { x with causeWord := v }) ∧
        (evRd w = 11 → writes { x with epc := v }) ∧
        (evRd w = 12 → exec (.evMtsr c w) s =
          .next (evWith c x (setCore c (fun k => { k with vbase := v &&& 0xFFFFF800 }) s))))) ∧
    (evOp w = 0x2C → evFn w = 0 → x.mode = .runtime → exec (.evEret c w) s = .next (evAt c back s)) ∧
    (evOp w = 0x2C → evFn w = 1 → x.mode = .runtime → exec (.evEretn c w) s = .next (evAt c
      (if back.rep then (if 1 < x.rc.toNat then { back with rc := x.rc - 1 }
        else { back with pc := x.epc + 4, rc := 0, rep := false }) else { back with pc := x.epc + 4 }) s)) ∧
    (evOp w = 0x2E → evFn w = 0 → exec (.evNop c w) s = .next (evAfter c s)) ∧
    (evOp w = 0x2E → evFn w = 1 → exec (.evMfence c w) s = .next (evAfter c s))

/-- A cycle core that issues a word of the escape opcode 0x3F from a code address it may fetch takes FENCE for XOP
0x00–0x0F, when the guard of the word holds and no breakpoint stands there, and UNIMPLEMENTED for XOP 0x10–0x3F
whatever the guard, in both with the instruction word as CAUSE_WORD. Completes, on the conditions on state and
operands stated here alone: evEscapeServiceInstruction, evReservedEncoding. -/
def Obligations.EscapeWordsTrap : Prop :=
  ∀ (c : Fin 8) (w : Word) (s : State), issues s c = true → (core s c).stepping = false →
    canFetch s c (core s c).ctx.mode (core s c).ctx.pc = true → evOp w = 0x3F →
    (evXop w < 0x10 → guardHolds (core s c).ctx w = true →
      exec (.evEscapeServiceInstruction c w) s = .next (evTrap c 0x06 w false s)) ∧
    (0x10 ≤ evXop w → exec (.evReservedEncoding c w) s = .next (evTrap c 0x01 w false s))

/-- Taking a trap of a code below 18 puts the PC into EPC, PREV_MODE, REP_ACTIVE and the code into CAUSE with
INTERRUPT 0, the given word into CAUSE_WORD, sets RUNTIME mode with interrupts masked and leaves any repeat, with the
PC at VBASE + 64 × code; general registers, predicates, STAT, stack registers, RC, the memories and every other core
stay. BREAK takes code 0x11 with its own word. Completes, on the conditions on state and operands stated here alone:
evBreak. -/
def Obligations.TrapsSaveTheContextAndVector : Prop :=
  (∀ (c : Fin 8) (code : Nat) (word : Word) (s : State), code < 18 → (core s c).vbase.toNat < 2 ^ 32 - 2048 → SMap.wf s.cores = true →
    let x := (core s c).ctx
    let t := takeTrap c code word s
    let y := (core t c).ctx
    y.epc = x.pc ∧ y.cause.toNat = (if x.mode = .runtime then 0x80000000 else 0) + (if x.rep then 0x40000000 else 0) + code ∧
    y.causeWord = word ∧ y.mode = .runtime ∧ y.masked = true ∧ y.rep = false ∧
    y.pc.toNat = (core s c).vbase.toNat + 64 * code ∧ y.g = x.g ∧ y.p = x.p ∧ y.stat = x.stat ∧ y.ds = x.ds ∧ y.rs = x.rs ∧
    y.rc = x.rc ∧ y.repCount = x.repCount ∧ t.mem = s.mem ∧ (core t c).mem = (core s c).mem ∧ t.seq = s.seq ∧ t.img = s.img ∧
    ∀ d, d ≠ c.val → core t d = core s d) ∧
  (∀ (c : Fin 8) (w : Word) (s : State), EvGo s c w → evOp w = 0x2D →
    exec (.evBreak c w) s = .next (evTrap c 0x11 w false s))

/-- When a core in TASK mode executes SYS, it takes trap 0x10 and the runtime serves the request: 0x0001 returns when
the lanes are done and waits unmasked otherwise; 0x0010 returns the four words of an entry of the task in g4 to g7;
0x0020 adds the task and its S area's SYNC_CYCLE to the check-ins; 0x0030 raises the application event of g3 with g4;
0x0031 feeds the metric of g3 with g4; a code or metric outside its range, or a disabled metric, is discarded with
APP_REJ. Completes, on the conditions on state and operands stated here alone: sysLaneWait, sysTimerCounterRead,
rollCallCheckIn, sysApplicationEvent, sysApplicationMetric. -/
def Obligations.RuntimeServicesAnswerTaskCode : Prop :=
  ∀ (c : Fin 8) (w : Word) (s : State) (t : Fin 32), EvGo s c w → evOp w = 0x2A → (core s c).ctx.mode = .task →
    (core s c).task = some t →
    let u := takeTrap c 0x10 w s
    let x := (core u c).ctx
    let n := (gReg x 3).toNat
    let back := fun (v : State) => setCore c (fun k => { k with ctx := eretn k.ctx }) v
    (sysCode w = 0x0001 → exec (.sysLaneWait c w) s = .next (if (run u t).lanesLeft = 0 then back u
      else setCore c (fun k => { k with laneWait := true, ctx := { x with pc := x.epc, masked := false } }) u)) ∧
    (sysCode w = 0x0010 → ∀ b, entryAsked t x u = some b → exec (.sysTimerCounterRead c w) s = .next
      (setCore c (fun k => { k with ctx := eretn ((List.range 4).foldl
        (fun y j => setG (4 + j) (BitVec.ofNat 32 (leAt b (4 * j) 4)) y) x) }) u)) ∧
    (sysCode w = 0x0020 → exec (.rollCallCheckIn c w) s = .next
      (back { u with sup.checkIns := u.sup.checkIns ++ [(t.val, ofLe (rdN (run u t).view (sBase + 0x10) 8))] })) ∧
    (sysCode w = 0x0030 → exec (.sysApplicationEvent c w) s = .next (back
      (if 0x200 ≤ n ∧ n < 0x400 then occur 13 n (gReg x 4).toNat 0 u else raise REC_EVENTS_APP_REJ u))) ∧
    (sysCode w = 0x0031 → exec (.sysApplicationMetric c w) s = .next (back
      (if 128 ≤ n ∧ n < 256 ∧ fbit u (REC_METRIC_CFG_EN n) then measure n (gReg x 4).toInt u else raise REC_EVENTS_APP_REJ u)))

/-- In power state RUN, on a core with interrupts unmasked that is neither held nor stopped, the lowest raised line
is taken: EPC, PREV_MODE, REP_ACTIVE, INTERRUPT 1 and the line in CAUSE, RUNTIME mode masked at VBASE + 0x600 + 64 ×
line, the line cleared. ABORT then leaves the instance with LANE_DONE and PEER still raised (log entry 75), PREEMPT
saves the context of a suspended task, LANE_DONE ends a wait for lanes that are done, PEER returns. Completes, on the
conditions on state and operands stated here alone: interruptTaken. -/
def Obligations.InterruptsEnterByTheirLine : Prop :=
  ∀ (c : Fin 8) (s : State), let k := core s c
    power s = 0 → k.ctx.masked = false → k.halted = false → k.stopped = false → ∀ line, (∀ j < line, k.lines.getLsbD j = false) →
    k.lines.getLsbD line = true →
    let cause : Ctx → Nat := fun x =>
      (if x.mode = .runtime then 2 ^ 31 else 0) + (if x.rep then 2 ^ 30 else 0) + (2 ^ 29 + line)
    let entry : Core → Ctx := fun k => { k.ctx with
      epc := k.ctx.pc, cause := BitVec.ofNat 32 (cause k.ctx), mode := .runtime, masked := true, rep := false,
      pc := BitVec.ofNat 32 (k.vbase.toNat + 0x600 + 64 * line) }
    let u := traceNote c 4 line k.ctx.pc.toNat (setCore c (fun k => { k with
      lines := k.lines &&& ~~~(BitVec.ofNat 4 (2 ^ line)), ctx := entry k }) s)
    (line = 0 → exec (.interruptTaken c) s = .next (startReady (setCore c (fun k => { k with
      task := none, laneWait := false, lines := k.lines &&& 0b1100
      ctx := { k.ctx with rs := min k.ctx.rsLo (entriesLeft k) } }) u))) ∧
    (line = 1 → exec (.interruptTaken c) s = .next (saveCore c u)) ∧
    (line = 2 → exec (.interruptTaken c) s = .next (laneDone c u)) ∧
    (line = 3 → exec (.interruptTaken c) s = .next (setCore c (fun k => { k with ctx := eret k.ctx }) u))

/-- For every command c and state s with c at the front of its queue, step of s is exec of c on s with the queue's
rest. With an empty queue and no service-port request waiting, step carries a power transition on, and with none of
these, nor a snapshot that a new active still holds, answers s itself (the model's choice, log entries 2 and 98). -/
def Obligations.StepRunsTheFrontCommand : Prop :=
  (∀ (c : Instr) (rest : List Instr) (s : State), s.pending = c :: rest → step s = exec c { s with pending := rest }) ∧
  (∀ s : State, s.pending = [] → s.cmd.svcWait = [] → standby s = true ∨ s.red.queued = [] →
    step s = .next (carryPower s) ∧ (s.sup.powerJob = none → step s = .next s))

/-- For every command and every state, exec answers a next state, never a fault and never a refusal, and the queue of
that state is the queue of the state before. -/
def Obligations.EveryCommandAnswersAndLeavesTheQueue : Prop :=
  ∀ (i : Instr) (s : State), ∃ t, exec i s = .next t ∧ t.pending = s.pending

/-- State.reset meets the invariant WellKept: register bank, data memory, code store, live image, NV store and
staging window are in their canonical form, and the life-cycle code is one of the five of R388. -/
def Obligations.ResetIsWellKept : Prop :=
  WellKept State.reset

/-- From every state that meets WellKept, whether or not a run reaches it, a step that answers a next state answers
one that meets WellKept: no command breaks the one form of the register bank or of a byte memory, and none enters a
life-cycle state that R388 does not have. -/
def Obligations.StepKeepsTheFormsAndALegalLifeCycle : Prop :=
  ∀ s t : State, WellKept s → step s = .next t → WellKept t

/-- From every state with a legal life-cycle code, a step leaves the code or moves it 0 to 1, 1 to 2, 2 to 3, or from
any state but 4 to 4. Every command other than PROVISION, TAKE_OWNERSHIP, RETURN, SCRAP and the fetch of a
descriptor, which may carry one of them, leaves it. -/
def Obligations.LifeCycleMovesOnlyByItsRows : Prop :=
  (∀ s t : State, LifeLegal s → step s = .next t → LifeStep s t) ∧
  (∀ (i : Instr) (s t : State), (∀ d, i ≠ .lcProvision d) → (∀ d, i ≠ .lcTakeOwnership d) → (∀ d, i ≠ .lcReturn d) →
    (∀ d, i ≠ .lcScrap d) → (∀ r raw buf, i ≠ .descriptorFetch r raw buf) → exec i s = .next t → t.sec.life = s.sec.life)

/-- On a canonical register bank, a field set by hardware reads back its value cut to the field's width, and every
field at another place reads as before. A host write of a field sets an RW field, clears the 1 bits of a W1C field,
sets those of a W1S field, and leaves RO, RC and WO fields; a host read returns an RC field to its reset value and
leaves the others. -/
def Obligations.FieldsReadBackByTheirAccessType : Prop :=
  ∀ (f : Field) (s : State), SMap.wf s.regs = true →
    (∀ v, fget (fput f v s) f = v % 2 ^ f.width) ∧
    (∀ (g : Field) (v : Nat), 8 * g.off + g.lsb ≠ 8 * f.off + f.lsb → fget (fput f v s) g = fget s g) ∧
    (ownRow f = false → ∀ w,
      (f.acc = .rw → fget (writeField f w s) f = w % 2 ^ f.width) ∧
      (f.acc = .w1c → fget (writeField f w s) f = (fget s f - (fget s f &&& w)) % 2 ^ f.width) ∧
      (f.acc = .w1s → fget (writeField f w s) f = (fget s f ||| w) % 2 ^ f.width) ∧
      (f.acc = .ro ∨ f.acc = .rc ∨ f.acc = .wo → writeField f w s = s)) ∧
    (f.acc = .rc → fget (clearRead f s) f = f.reset % 2 ^ f.width) ∧ (f.acc ≠ .rc → clearRead f s = s)

/-- A host write of a width other than 32 bits leaves the state as it was; a read of such a width completes with all
bits set and changes nothing else. -/
def Obligations.AccessesOfAnotherWidthAreDiscarded : Prop :=
  ∀ (off width : Nat) (v : Word) (s : State), width ≠ 4 →
    exec (.registerWrite off width v) s = .next s ∧ exec (.write64bitHighWord off width v) s = .next s ∧
    exec (.readClearField ⟨.bar0, off⟩ width) s = .next (emit (.read off 0xFFFFFFFF) s) ∧
    exec (.read64bitLowWord off width) s = .next (emit (.read off 0xFFFFFFFF) s)

/-- A write of a documented 32-bit word that no rule holds writes each field; a read returns the word that the fields
make and clears its RC fields. A ring's CFG, BOOT_CTRL and the time registers act as their own rows do. At an offset
that is not a multiple of 4 a write is discarded and a read returns all bits set (the model's choice, log entry 72).
For a 64-bit register, a write of the low word waits, and the high word then applies both together; a read of the low
word latches the high word, which the next read of the high word returns. A read of BAR2 returns zeros. A read of
BAR4 returns the bytes of the staging window in AWAITING_BUNDLE and zeros in every other state. Completes, on the
conditions on state and operands stated here alone: registerWrite, readClearField, read64bitLowWord,
write64bitHighWord. -/
def Obligations.RegisterWordsReadAndWriteTheirFields : Prop :=
  (∀ (v : Word) (s : State),
    (∀ o, o % 4 ≠ 0 → exec (.registerWrite o 4 v) s = .next s ∧ exec (.readClearField ⟨.bar0, o⟩ 4) s = .next (emit (.read o 0xFFFFFFFF) s)) ∧
    (∀ r : Fin 128, exec (.registerWrite (0x0508 + 16 * r) 4 v) s = .next (writeRingCfg r v s)) ∧
    exec (.registerWrite 0xA004 4 v) s = exec (.bootStart v) s ∧
    exec (.registerWrite 0x7C00 4 v) s = exec (.rtcSecWrite v) s ∧
    (∀ i, 1 ≤ i → i ≤ 6 → exec (.registerWrite (0x7C00 + 4 * i) 4 v) s = exec (.rtcStagingWrite (0x7C00 + 4 * i) v) s) ∧
    (∀ i, i ≤ 6 → exec (.readClearField ⟨.bar0, 0x7C00 + 4 * i⟩ 4) s = exec (.rtcTimeRegisterRead (0x7C00 + 4 * i)) s)) ∧
  (∀ (o width : Nat) (s : State),
    exec (.readClearField ⟨.bar2, o⟩ width) s = .next (emit (.window o (List.replicate width 0)) s) ∧
    (o + width ≤ 0x4000000 → exec (.readClearField ⟨.bar4, o⟩ width) s = .next (emit (.window o
      (if boot s = 1 then rdN s.boot.staging o width else List.replicate width 0)) s))) ∧
  (∀ (o : Nat) (d : RegDef) (n : Nat) (s : State), o % 4 = 0 → o + 4 < msixTableBase →
    locate o = some (d, n, false) → traceHeld s o = false → lengthHeld s o = false →
    let v := regValue s d n
    let cleared := (d.fields n).foldl (fun s f => clearRead f s) s
    (d.wide = false → (¬ ownWord o → ∀ w, exec (.registerWrite o 4 w) s = .next (writeReg d n w.toNat s)) ∧
      (¬(0x7C00 ≤ o ∧ o ≤ 0x7C18) → exec (.readClearField ⟨.bar0, o⟩ 4) s = .next (emit (.read o (BitVec.ofNat 32 v)) cleared))) ∧
    (d.wide = true → locate (o + 4) = some (d, n, true) → ¬ ownWord o → ¬ ownWord (o + 4) →
      traceHeld s (o + 4) = false → lengthHeld s (o + 4) = false → baseHeld s o = false →
      (∀ lo hi, ∃ t, exec (.registerWrite o 4 lo) s = .next t ∧ t.regs = s.regs ∧
        exec (.write64bitHighWord (o + 4) 4 hi) t =
          .next (writeReg d n (hi.toNat * 2 ^ 32 + lo.toNat) { t with free := t.free + 1, loStage := del o t.loStage })) ∧
      (∃ t, exec (.read64bitLowWord o 4) s = .next (emit (.read o (BitVec.ofNat 32 v)) t) ∧ t.regs = cleared.regs ∧
        exec (.read64bitLowWord (o + 4) 4) t =
          .next (emit (.read (o + 4) (BitVec.ofNat 32 (v / 2 ^ 32))) { t with hiLatch := del o t.hiLatch }))))

/-- On a core that issues a word, every instruction row that the word belongs to: takes FETCH with the PC where the
address may not be fetched, ILLEGAL with the word for an illegal encoding, both whatever the guard; otherwise, with a
false guard, it only moves on, inside a repeat by one iteration, and changes no register, no memory and no other
core. A row that the word does not belong to leaves the state. -/
def Obligations.GuardsAndDecodeTrapsComeFirst : Prop :=
  ∀ (c : Fin 8) (w : Word) (s : State), issues s c = true → (core s c).stepping = false → ∀ i, EvWord c w i →
    let x := (core s c).ctx
    let does := fun (t : State) => exec i s = .next t ∨ exec i s = .next s
    (canFetch s c x.mode x.pc = false → does (evTrap c 0x05 x.pc false s)) ∧
    (canFetch s c x.mode x.pc = true → evIllegal w = true → does (evTrap c 0x02 w false s)) ∧
    (canFetch s c x.mode x.pc = true → evIllegal w = false → guardHolds x w = false →
      does (setCore c (fun k => { k with ctx := if !x.rep then { x with pc := x.pc + 4 }
        else if 1 < x.rc.toNat then { x with rc := x.rc - 1 } else { x with pc := x.pc + 4, rc := 0, rep := false } }) s))

/-- For an access of n bytes at a: the fenced range gives FENCE, then an address that is no multiple of n MISALIGNED,
in both modes; an unmapped address PROTECTION in TASK and UNMAPPED in RUNTIME mode; for task code the view pool, the
system bank, the timer and counter tables and the control page give PROTECTION, and local memory outside [DS_LO,
DS_HI] STACK; a store to a table gives PROTECTION in both modes. A load, store or atomic refused so takes that trap
with the address, and has changed nothing before it. -/
def Obligations.MemoryFaultsTrapWithTheAddress : Prop :=
  ∀ (c : Fin 8) (w : Word) (s : State),
    let x := (core s c).ctx
    (∀ (a : Word) (n : Nat) (store atomic : Bool), let b := a.toNat
      let gives := fun (code : Nat) => place s c x a n store atomic = .error (code, a)
      let plain := ¬(0xE0000000 ≤ b ∧ b < 0xF0000000) ∧ b % n = 0
      (0xE0000000 ≤ b → b < 0xF0000000 → gives 0x06) ∧
      (¬(0xE0000000 ≤ b ∧ b < 0xF0000000) → b % n ≠ 0 → gives 0x09) ∧
      (plain → ((0x20000 ≤ b ∧ b < 0x10000000) ∨ (0x10800000 ≤ b ∧ b < 0x20000000) ∨ (0x20100000 ≤ b ∧ b < 0x30000000) ∨
        (0x30100000 ≤ b ∧ b < 0xC0000000) ∨ (0xC0200000 ≤ b ∧ b < 0xD0000000) ∨ (0xD0001000 ≤ b ∧ b < 0xE0000000) ∨
        0xF0000000 ≤ b) → gives (if x.mode = .task then 0x07 else 0x08)) ∧
      (plain → x.mode = .task → ((0x10400000 ≤ b ∧ b < 0x10800000) ∨ (0x30000000 ≤ b ∧ b < 0x30010000) ∨
        (0xC0000000 ≤ b ∧ b < 0xC0200000) ∨ (0xD0000000 ≤ b ∧ b < 0xD0001000)) → gives 0x07) ∧
      (plain → x.mode = .runtime → atomic = false → store = true → 0xC0000000 ≤ b → b < 0xC0200000 → gives 0x07) ∧
      (plain → x.mode = .task → atomic = false → b < 0x20000 → (b < x.dsLo.toNat ∨ x.dsHi.toNat < b + n) → gives 0x0C)) ∧
    (EvGo s c w → ∀ t : Trap,
      let traps := fun (i : Instr) => exec i s = .next (evTrap c t.1 t.2 false s)
      let at_ := gReg x (evRa w) + BitVec.ofNat 32 (4 * iteration x)
      (evOp w = 0x14 → place s c x (addrOf x w 1) 1 false false = .error t → traps (.evLdb c w)) ∧
      (evOp w = 0x15 → place s c x (addrOf x w 1) 1 false false = .error t → traps (.evLdbu c w)) ∧
      (evOp w = 0x16 → place s c x (addrOf x w 2) 2 false false = .error t → traps (.evLdh c w)) ∧
      (evOp w = 0x17 → place s c x (addrOf x w 2) 2 false false = .error t → traps (.evLdhu c w)) ∧
      (evOp w = 0x18 → place s c x (addrOf x w 4) 4 false false = .error t → traps (.evLdw c w)) ∧
      (evOp w = 0x1C → place s c x (addrOf x w 8) 8 false false = .error t → traps (.evLdd c w)) ∧
      (evOp w = 0x19 → place s c x (addrOf x w 1) 1 true false = .error t → traps (.evStb c w)) ∧
      (evOp w = 0x1A → place s c x (addrOf x w 2) 2 true false = .error t → traps (.evSth c w)) ∧
      (evOp w = 0x1B → place s c x (addrOf x w 4) 4 true false = .error t → traps (.evStw c w)) ∧
      (evOp w = 0x1D → place s c x (addrOf x w 8) 8 true false = .error t → traps (.evStd c w)) ∧
      (evOp w = 0x1E → evFn w = 0 → place s c x at_ 4 true true = .error t → traps (.evAmoswap c w)) ∧
      (evOp w = 0x1E → evFn w = 1 → place s c x at_ 4 true true = .error t → traps (.evAmoadd c w)))

/-- POWER_UP, RESET_N with a clock and VIN, and a valid reference after its loss each answer a state with their kind
in SYS_RESET_CAUSE, every register field below offset 0x6FF8 but SYS_ID.VARIANT and RED_STATUS.SIDE at its reset
value, the NV bytes and fuses as before and, but for power-up, banks 1–15 as before. Loss of the reference keeps the
field channels and puts every loop on its target; VIN below its reset threshold leaves the RTC on VBAT. Completes, on
the conditions on state and operands stated here alone: powerUp, resetNAssert, referenceClockLoss,
referenceClockValid, vinPowerOnReset. -/
def Obligations.ResetsClearTheRegistersAndKeepWhatTheRulesName : Prop :=
  ∀ s : State, SMap.wf s.regs = true → Mem.wf s.mem.data = true → SMap.wf s.lpt = true →
    let cleared := fun (t : State) => ∀ f : Field, f.off < 0x6FF8 → f.lsb < 64 → 8 * f.off + f.lsb ≠ 8 * 0x000C →
      8 * f.off + f.lsb ≠ 0 → 8 * f.off + f.lsb ≠ 8 * 0x4000 + 3 → fget t f = f.reset
    let fuses := fun (t : State) => t.sec.life = s.sec.life ∧ t.sec.ownerKey = s.sec.ownerKey ∧ t.sec.revoked = s.sec.revoked ∧
      t.sec.minSvn = s.sec.minSvn ∧ t.pending = s.pending
    let banks := fun (t : State) => ∀ a, 0x30010000 ≤ a → a < 0x30100000 → rd t.mem.data a = rd s.mem.data a
    let cold := fun (i : Instr) (kind : Nat) => ∃ t, exec i s = .next t ∧ fget t SYS_RESET_CAUSE_KIND = kind ∧ cleared t ∧
      fuses t ∧ t.nv.mem = s.nv.mem ∧ (kind ≠ 1 → banks t)
    cold .powerUp 1 ∧ (s.sup.clockLost = false → s.rtc.onVbat = false → cold .resetNAssert 2) ∧
    (s.sup.clockLost = true → cold .referenceClockValid 5) ∧
    (s.sup.clockLost = false → s.rtc.onVbat = false → ∃ t, exec .referenceClockLoss s = .next t ∧ t.sup.clockLost = true ∧
      t.now = s.now ∧ fuses t ∧ banks t ∧ t.nv.mem = s.nv.mem ∧ t.fio.ch = s.fio.ch ∧ ctl t = 0 ∧
      (loop t 0).word = (loopTarget s 0).1 ∧ (loop t 1).word = (loopTarget s 1).1) ∧
    (∃ t, exec .vinPowerOnReset s = .next t ∧ t.rtc.onVbat = true ∧ fget t SYS_RESET_CAUSE_KIND = 1 ∧ cleared t ∧ fuses t)

/-- A write that sets ENABLE of a ring starts zeroing its completion queue or, where the set-up check gives a cause,
records the refusal; zeroing done gives indices 0 and phase 1, and RUNNING where ENABLE is 1 and the set-up check
gives no cause, else DISABLED; a write that clears ENABLE zeroes the queue and leaves the ring DISABLED with its
outstanding entries dropped; RESET, after ENABLE where one write carries both (log entry 7), zeroes it in every
state, is journalled, and ends grants and unlocks of the ring; a doorbell in range of a RUNNING ring moves the index,
any other counts in DOORBELL_BAD, one that is not 32 bits wide is discarded; the coalescing time counts from the
oldest entry not yet signalled and then signals the vector. Completes, on the conditions on state and operands stated
here alone: ringEnable, ringZeroingDone, ringDisable, ringReset, sqTailDoorbell, cqHeadDoorbell,
interruptCoalesceExpiry. -/
def Obligations.RingsAreSetUpResetAndRung : Prop :=
  ∀ (r : Fin 128) (w : Word) (s : State),
    let enabled := s |> writeRingFields r w |> fput (HIF_RING_CFG_ENABLE r) 1
    let zeroed := fun (v : State) => dma (.cqZero r (cqBase v r) (ringN v r)) v
    let zeroing := fun (v : State) => zeroed (startZeroing r v)
    let badBell := s |> bump HIF_DOORBELL_BAD_COUNT 1 |> raise HIF_EVENTS_DOORBELL_BAD
    let refused := fun (k : Nat) => enabled |> fput HIF_SETUP_ERR_VALID 1 |> fput HIF_SETUP_ERR_RING r |> fput HIF_SETUP_ERR_CAUSE k
      |> raise HIF_EVENTS_SETUP_REFUSED
    let on := fbit s (HIF_RING_CFG_ENABLE r)
    let disabled := s |> zeroed |> writeRingFields r w |> fput (HIF_RING_CFG_ENABLE r) 0 |> fput (HIF_RING_CFG_RESET r) 0
      |> dropRing r 0 |> clearRing r |> settle
    let noted := fun (first : State) => first |> (fun v => jadd { jentry v 0x0042 with ring := r } v) |> ringGone (· = r)
    let again := fun (first t : State) => t = zeroing (fput (HIF_RING_CFG_RESET r) 1 (noted first))
    (on = false → w.getLsbD 31 = true → w.getLsbD 30 = false →
      (setupCause enabled r = none → exec (.ringEnable r w) s = .next (zeroing enabled)) ∧
      (∀ k, setupCause enabled r = some k → exec (.ringEnable r w) s = .next (refused k))) ∧
    (ringState s r = 3 → let clean := s |> clearRing r |> fput (HIF_RING_CFG_RESET r) 0
      let t := fput (HIF_RING_STATUS_STATE r) 1 clean
      (on = false ∨ setupCause s r ≠ none → exec (.ringZeroingDone r) s = .next (fput (HIF_RING_STATUS_STATE r) 0 clean)) ∧
      (on = true → setupCause s r = none → ringKind t r ≠ 3 → exec (.ringZeroingDone r) s = .next t) ∧
      (on = true → setupCause s r = none → ringKind t r = 3 → exec (.ringZeroingDone r) s = .next (raise HIF_EVENTS_MIRROR_RESYNC { t with
        mem.pend := (List.range 15360).map (fun i => (0x30010000 + 64 * i,
          lookD t.mem.pend (0x30010000 + 64 * i) false || t.mem.owedAborts.contains (0x30010000 + 64 * i)))
        mem.owedAborts := [], hif.resync := true }))) ∧
    (on = true → w.getLsbD 31 = false → w.getLsbD 30 = false → exec (.ringDisable r w) s = .next disabled) ∧
    (w.getLsbD 30 = true → ∃ t, exec (.ringReset r w) s = .next t ∧
      (on = false → w.getLsbD 31 = true → exec (.ringEnable r w) s = .next t ∧
        (setupCause enabled r = none → again (zeroing enabled) t) ∧ (∀ k, setupCause enabled r = some k → again (refused k) t)) ∧
      (on = true → w.getLsbD 31 = false → exec (.ringDisable r w) s = .next t ∧ again disabled t) ∧
      (on = w.getLsbD 31 → again (writeRingFields r w s) t)) ∧
    (ringState s r = 1 → w.toNat < ringN s r → ringKind s r ≠ 1 →
      exec (.sqTailDoorbell r ⟨4, w⟩) s = .next (setRing r (fun g => { g with sqTail := w.toNat }) s)) ∧
    (ringState s r ≠ 1 ∨ ringN s r ≤ w.toNat ∨ ringKind s r = 1 → exec (.sqTailDoorbell r ⟨4, w⟩) s = .next badBell) ∧
    (ringState s r = 1 → w.toNat < ringN s r → exec (.cqHeadDoorbell r ⟨4, w⟩) s = .next (consume r w.toNat s)) ∧
    (ringState s r ≠ 1 ∨ ringN s r ≤ w.toNat → exec (.cqHeadDoorbell r ⟨4, w⟩) s = .next badBell) ∧
    (∀ width, width ≠ 4 → exec (.sqTailDoorbell r ⟨width, w⟩) s = .next s ∧ exec (.cqHeadDoorbell r ⟨width, w⟩) s = .next s) ∧
    (∀ t0, unsignalled (ring s r) = some t0 → fbit s (HIF_RING_CFG_IRQ_EN r) = true → (ring s r).signalled = false →
      exec (.interruptCoalesceExpiry r) s = .next (s |> advance (t0 + usec (fget s (HIF_RING_CFG_COALESCE_US r)))
        |> setRing r (fun g => { g with signalled := true, posted := g.posted.map (fun x => { x with told := true }) })
        |> interrupt (fget s (HIF_RING_CFG_VECTOR r))))

/-- Hot reset, PERST_N outside DORMANT, function-level reset, link down and D3hot each answer a next state with every
HIF field at its reset value but FW_UP, MSI-X masked and empty, no publish set, no held write, no grant and no
unlock, HOST_RESET, when no FENCE waits, journalled last with their kind, and the registers of every other block (but
TX_FRAMES of the service port where a request waits there), the code store, live image and NV store as before. No
mirror line stays pending. Link up and a configuration write set the fields they carry and send what that lets out; a
payload or read-request size outside the PCIe values is not taken. Completes, on the conditions on state and operands
stated here alone: pcieHotReset, perstNAssert, functionLevelReset, pcieLinkDown, d3hotEntry, pcieLinkUp,
pcieConfigWrite. -/
def Obligations.HostInterfaceResetsAndLinkEvents : Prop :=
  (∀ (s : State), SMap.wf s.regs = true →
    ∀ (i : Instr) (kind : Nat), (i = .pcieHotReset ∧ kind = 0) ∨ (i = .perstNAssert ∧ kind = 1 ∧ power s ≠ 3) ∨
        (i = .functionLevelReset ∧ kind = 2) ∨ (i = .pcieLinkDown ∧ kind = 3) ∨ (i = .d3hotEntry ∧ kind = 4) →
      ∃ t, exec i s = .next t ∧
        (∀ f : Field, 0x0400 ≤ f.off → f.off < 0x0FF8 → f.lsb < 64 → 8 * f.off + f.lsb ≠ 8 * HIF_STATUS_FW_UP.off + HIF_STATUS_FW_UP.lsb →
          fget t f = f.reset) ∧
        (∀ f : Field, f.off < 0x03F8 ∨ 0x1000 ≤ f.off → f.lsb < 64 →
          8 * f.off + f.lsb ≠ 8 * (NET_PORT_TX_FRAMES_COUNT 4).off + (NET_PORT_TX_FRAMES_COUNT 4).lsb ∨ s.cmd.svc = none →
          fget t f = fget s f) ∧
        t.hif.msixTable = [] ∧ t.hif.msixPend = [] ∧ t.hif.pubs = [] ∧ t.hif.held = [] ∧ t.mem.pend = [] ∧ t.sec.grants = [] ∧ (∀ x ∈ t.nv.unlocks, x.1 = .svc) ∧
        t.mem.code = s.mem.code ∧ t.img.live = s.img.live ∧ t.nv.mem = s.nv.mem ∧ t.cores = s.cores ∧
        (s.hif.fences = [] → ∃ e, t.cmd.jrnl.head? = some e ∧ e.type = 0x0041 ∧ e.detailA = kind) ∧
        (kind = 1 ∨ kind = 3 → t.hif.linkUp = false)) ∧
  (∀ (speed width : Nat) (s : State),
    let u := { s with hif.linkUp := true } |> fput HIF_STATUS_SPEED speed |> fput HIF_STATUS_WIDTH width
    (u.sup.wakeN = false → exec (.pcieLinkUp speed width) s = .next (sendPending u)) ∧
    (u.sup.wakeN = true → exec (.pcieLinkUp speed width) s = .next (sendPending (emit (.wakeN false) { u with sup.wakeN := false })))) ∧
  (∀ (bme en mask l1 : Bool) (payload readReq : Nat) (s : State),
    let u := { s with
        hif.funcMask := mask
        hif.aspmL1 := l1
        hif.maxPayload := if payload ∈ [128, 256, 512] then payload else s.hif.maxPayload
        hif.maxReadReq := if readReq ∈ [128, 256, 512, 1024, 2048, 4096] then readReq else s.hif.maxReadReq }
      |> fput HIF_STATUS_BME (if bme then 1 else 0) |> fput HIF_STATUS_MSIX_EN (if en then 1 else 0)
    let out := forEach u.hif.held { u with hif.held := [] } emit
    exec (.pcieConfigWrite bme ⟨en, mask⟩ ⟨l1, payload, readReq⟩) s = .next (sendPending
      (if bme then forEach out.hif.heldPubs { out with hif.heldPubs := [] } writePub else u)))

/-- A COMMAND ring that may fetch runs the command that the descriptor at its SQ head names, or refuses it as
DESC_FETCH when the read failed; NOP completes at once; FENCE waits for what the named rings owe, until its time,
which ends it with TIMEOUT; a publish copy at the head of the image queue becomes a record, or is skipped; the mirror
sends pending lines; a NIC_TX entry sends its frame; a good NIC_RX entry becomes a buffer, and a NIC_TX entry whose
fetch failed ends as DESC_FETCH in its turn. Completes, on the conditions on state and operands stated here alone:
nicTxDescriptor, nicRxBufferEntry, descriptorFetch, ringNop, fence, fenceTimeout, publishCopy, mirrorSend. -/
def Obligations.RingEntriesAreFetchedAndServed : Prop :=
  (∀ (r : Fin 128) (raw buf : List Byte) (s : State), entryReady s r = true → ringKind s r = 0 → ringHolds s r = false →
    let index := fget s (HIF_RING_STATUS_SQ_HEAD r)
    let taken := fput (HIF_RING_STATUS_SQ_HEAD r) ((index + 1) % ringN s r) s
    (∃ t, exec (.descriptorFetch r (some raw) buf) s = .next t ∧ runOpcode (leAt raw 0 2) (ringDesc r index raw buf) taken = .next t) ∧
    exec (.descriptorFetch r none buf) s = .next (refuse 0 { origin := .ring r, index } 0x02 0x0101
      (openSlot { origin := .ring r, index } (interrupt 128 (raise HIF_EVENTS_HOST_DMA_ERR taken))))) ∧
  (∀ (d : Desc) (s : State), Unrefused nopCard d (fun _ => none) s → exec (.ringNop d) s =
    .next (immediate 0x0001 d id (fun _ => 0) (fun _ => []) (openSlot d s))) ∧
  (∀ (d : Desc) (s : State), Unrefused fenceCard d (fenceChecks d) s →
    let u := (accept 0x0002 d 0 (openSlot d s)).1
    let job := (accept 0x0002 d 0 (openSlot d s)).2
    let owed := (fenceRings d).map (fun r => (r, owedBy u r))
    let ms := if paramN d 48 2 = 0 then 1000 else paramN d 48 2
    exec (.fence d) s = .next (settle { u with hif.fences := u.hif.fences ++ [{ job, owed, until_ := u.now + msec ms }] })) ∧
  (∀ (s : State) (x : Fence), nextFence s = some x → exec .fenceTimeout s =
    .next (ended x.job 0x06 0 0 (advance x.until_ { s with hif.fences := s.hif.fences.erase x }))) ∧
  (∀ (r : Fin 128) (e : BufEntry) (s : State) (q : ImgReq) (rest : List ImgReq) (t inst cycle : Nat) (p : PubSet),
    s.img.queue = q :: rest → q.kind = .publish r t inst cycle → look s.hif.pubs r = some p → ringKind s r = 2 →
    let u := advance (max q.at_ s.img.busy) { s with img.queue := rest }
    exec (.publishCopy r e) s =
      .next (publish r e p inst cycle { u with img.busy := u.now + (640 + (p.ranges.map (·.2)).sum * 160 / 256) })) ∧
  (∀ (e : BufEntry) (s : State) (r : Nat), mirrorRing s = some r → entryReady s r = true → s.mem.pend ≠ [] →
    exec (.mirrorSend e) s = .next (mirrorOut r e s)) ∧
  (∀ (r : Fin 128) (raw frame : List Byte) (s : State),
    let index := fget s (HIF_RING_STATUS_SQ_HEAD r)
    let takenNic := fun (v : State) => v |> takeEntry r
      |> setRing r (fun g => { g with slots := g.slots ++ [{ index := fget v (HIF_RING_STATUS_SQ_HEAD r), irqNow := false }] })
    entryReady s r = true → nicRuns s = true →
    (ringKind s r = 5 → (ring s r).slots = [] →
      exec (.nicTxDescriptor r (some raw) frame) s = .next (nicSend r raw (frame.take (leAt raw 8 2)) s) ∧
      exec (.nicTxDescriptor r none frame) s = .next (nicError r index 0 0x0101
        (takenNic (interrupt 128 (raise HIF_EVENTS_HOST_DMA_ERR s))))) ∧
    (ringKind s r = 6 → look s.net.nicBad r = none → leAt raw 12 4 = 0 → leAt raw 0 8 % 64 = 0 → 1536 ≤ leAt raw 8 4 →
      let e : BufEntry := { addr := leAt raw 0 8, len := leAt raw 8 4, reserved := 0 }
      exec (.nicRxBufferEntry r raw) s =
        .next { takeEntry r s with net.nicBuf := upd r [] (· ++ [e]) s.net.nicBuf }))

/-- A command takes its effect, on the state with its slot, when nothing refuses it and its buffer arrived. A
malformed descriptor is refused before anything else; a refusal writes a REFUSED entry with opcode, TAG, status and
reason as the journal's newest when no fence waits, and leaves cores, lanes, image, program, network, pair, field,
loops, security, NV store, code and the deferred commands as they were. -/
def Obligations.RefusedCommandsAreJournalledAndChangeNothingElse : Prop :=
  ∀ (k : Card) (d : Desc) (own : State → Option (Nat × Nat)) (effect : State → State) (s : State),
    let u := openSlot d s
    (Unrefused k d own s → command k d own effect s = effect u) ∧
    (∀ r, malformedReason k d = some r → command k d own effect s = refuse k.op d 0x02 r u) ∧
    (∀ st rs, refusalOf k d own u = some (st, rs) → command k d own effect s = refuse k.op d st rs u ∧
      let t := refuse k.op d st rs u
      (s.hif.fences = [] → ∃ e, t.cmd.jrnl.head? = some e ∧ e.type = 0x0002 ∧ e.opcode = k.op ∧ e.tag = d.tag ∧
        e.status = st ∧ e.reason = rs ∧ e.jseq = nextJseq s) ∧
      t.cores = s.cores ∧ t.lanes = s.lanes ∧ t.img = s.img ∧ t.prog = s.prog ∧ t.seq = s.seq ∧ t.net = s.net ∧ t.red = s.red ∧
      t.fio = s.fio ∧ t.lpt = s.lpt ∧ t.sec = s.sec ∧ t.nv = s.nv ∧ t.boot = s.boot ∧ t.rtc = s.rtc ∧
      t.trl = s.trl ∧ t.mem.code = s.mem.code ∧ t.cmd.deferred = s.cmd.deferred ∧ t.cmd.txns = s.cmd.txns ∧ t.now = s.now)

/-- With outputs live and the drive cycle running, SYNC is released RX_CUTOFF + 500 ns behind the next boundary it is
due at, CYCLIC at OFS behind the first boundary n with n mod K = PHASE; BACKGROUND at its due time; the pending
release of highest priority starts; the image unit serves the snapshot or commit request at the head of its queue; a
finished copy records its longest time and starts what is ready; an instance at its budget is aborted as an overrun.
A release finds a task idle and none of its cores and lanes stopped under it, or is an overrun that consumes its
number. Completes, on the conditions on state and operands stated here alone: syncRelease, cyclicRelease,
backgroundRelease, pendingReleaseStart, snapshot, snapshotComplete, commit, budgetOverrun. -/
def Obligations.TasksAreReleasedStartedAndCommitted : Prop :=
  (∀ s : State, releasing s = true →
    let at_ := fun (t n ofs : Nat) =>
      let u := advance (boundary s n + ofs * 16) s
      release t { u with seq.relCycle := put t (n + 1) u.seq.relCycle }
    (∀ t, syncTask s = some t →
      exec .syncRelease s = .next (at_ t (max (lookD s.seq.relCycle t 0) (cycleNow s)) (fget s NET_RX_CUTOFF_NS + 500))) ∧
    (∀ (t : Fin 32) (d : TaskDef), taskDef s t = some d → d.kind = .cyclic → ∃ n,
      exec (.cyclicRelease t) s = .next (at_ t n d.ofs) ∧ max (lookD s.seq.relCycle t 0) (cycleNow s) ≤ n ∧
      n < max (lookD s.seq.relCycle t 0) (cycleNow s) + max 1 d.period ∧ (d.phase < max 1 d.period → n % max 1 d.period = d.phase))) ∧
  (∀ (t : Fin 32) (due : Nat) (s : State), look s.seq.bgDue t = some due → ctl s = 3 → standby s = false →
    exec (.backgroundRelease t) s = .next (release t (advance due { s with seq.bgDue := del t s.seq.bgDue }))) ∧
  (∀ (t : Nat) (s : State), nextPending s = some t → exec .pendingReleaseStart s = .next (requestSnapshot t (preempt t s))) ∧
  (∀ (q : ImgReq) (rest : List ImgReq) (s : State), s.img.queue = q :: rest →
    let u := advance (max q.at_ s.img.busy) { s with img.queue := rest }
    (∀ t d, q.kind = .snapshot t → taskDef s t = some d → exec .snapshot s = .next (serveSnapshot t d u)) ∧
    (∀ (t : Fin 32) inst d, q.kind = .commit t inst → taskDef s t = some d →
      exec (.commit t) s = .next (serveCommit t inst (((run s t).committing.map (·.2)).getD 0) q.at_ d u))) ∧
  (∀ (t : Fin 32) (d : TaskDef) (s : State), taskDef s t = some d → (run s t).phase = .copying →
    let u := advance (run s t).snapDone s
    exec (.snapshotComplete t) s = .next (startReady (sendSnapshot t d (setPhase t .snapped
      (bumpMax IMG_SNAP_MAX_NS ((u.now - (run s t).reqAt) / 16) u))))) ∧
  (∀ (t : Fin 32) (s : State), (run s t).phase = .running → budgetOf s t ≠ 0 → exec (.budgetOverrun t) s =
    .next (overrun t (abort t (advance ((run s t).codeAt + (run s t).stopped + budgetOf s t * 16) s)))) ∧
  (∀ (t : Nat) (d : TaskDef) (s : State), taskDef s t = some d → ctl s = 3 → standby s = false →
    let u := setRun t (fun r => { r with nextInst := (run s t).nextInst + 1 }) s
    ((run s t).phase ≠ .idle ∨ occupied s t = true → release t s = overrun t u) ∧
    ((run s t).phase = .idle → occupied s t = false →
      let v := codeSwitch t u
      let w := setRun t (fun r => { r with
        inst := (run s t).nextInst, releaseAt := s.now, cycle := cycleNow s, gen := generation v, mirror := none
        sagBudget := sag s = 2 ∧ fbit s CTL_STATE_SAG2_RT }) v
      release t s = if blocked w t || heldBySwitch w t then setPhase t .pending w else requestSnapshot t (preempt t w)))

/-- Where nothing refuses them: IMG_READ and FORCE_READ answer their bytes at once; RETAIN_RESTORE restores, captures
and mirrors; IMG_WRITE, FORCE_WRITE and FORCE_CLEAR are accepted, kept for the boundary of cycle N + 2 and mirrored
by an active unit; at that boundary the write is one write unit, the force table changes, and the command completes.
Completes, on the conditions on state and operands stated here alone: hostImageWriteApply, forceChangeApply,
retainRestore, imgRead, imgWrite, forceWrite, forceClear, forceRead. -/
def Obligations.ImageAndForceCommandsComplete : Prop :=
  (∀ (d : Desc) (s : State),
    let u := openSlot d s
    let later := fun (op : Nat) (act : DefAct) =>
      let n := cycleNow u + 2
      let a := (accept op d n u).1
      mirrorCmd op d n { a with cmd.deferred := queueDeferred { act, cycle := n, job := (accept op d n u).2 } a.cmd.deferred }
    (Unrefused imgReadCard d (fun _ => imgReadChecks d) s → exec (.imgRead d) s =
      .next (immediate 0x0401 d id nsNow (fun s => rdN s.img.live (paramN d 32 4) (paramN d 36 4)) u)) ∧
    (Unrefused forceReadCard d (fun _ => none) s → exec (.forceRead d) s = .next (immediate 0x0503 d id
      (fun s => s.img.forces.length) (fun s => (s.img.forces.take (d.bufLen / 8)).flatMap forceBytes) u)) ∧
    (∀ cs, Unrefused restoreCard d (restoreChecks d) s → restoreChunks d.buf.length d.buf = .ok cs → exec (.retainRestore d) s =
      .next (immediate 0x0410 d (fun s => mirrorCmd 0x0410 d (cycleNow s) (restore d s))
        (fun _ => (cs.map (fun c => c.2.length)).sum) (fun _ => []) u)) ∧
    (Unrefused imgWriteCard d (imgWriteChecks d) s → exec (.imgWrite d) s = .next (later 0x0402 .imgWrite)) ∧
    (Unrefused forceWriteCard d (forceWriteChecks d) s → exec (.forceWrite d) s = .next (later 0x0501 .force)) ∧
    (Unrefused forceClearCard d (fun _ => none) s → exec (.forceClear d) s = .next (later 0x0502 .forceClear))) ∧
  (∀ (x : Deferred) (s : State),
    let u := turnOf x s
    (∀ cs, Takes (· = .imgWrite) x s → chunksOf x.job.d.buf.length x.job.d.buf = some cs →
      exec .hostImageWriteApply s = .next (ended x.job 0 0 0 (writeUnit noMark (writeChunks cs) u))) ∧
    (Takes isForce x s →
      let new := if x.act = .forceClear then [] else forceApplyAll u.img.forces x.job.d.buf
      let set_ := if x.act = .forceClear then [] else forcesSet new x.job.d.buf
      exec .forceChangeApply s = .next (ended x.job 0 0 new.length (forceChange new set_ u))))

/-- On a lane at such a word, with the stack entries and room that it needs and a bit that the task may read or
write: LD pushes the operand, AND, OR and XOR combine it with the top, N inverting the operand, ANDB, ORB and XORB
the two top entries, NOT, DUP, POP and RNG change the stack; the bit is written by OUT with the top, by SET with 1
and by RST with 0 where the top is 1, N inverting the top; REDGE and FEDGE replace the top by the edge and keep the
old top in the bit; a bit is read from its line of 64 bytes in the lane's bit cache, or from the view where the cache
has no such line, and the line is then the last used of the cache; a bit that is written goes into the view and into
the line of the lane's own cache; the lane is one word on. Completes, on the conditions on state and operands stated
here alone: rungNop, rungRng, rungLd, rungAnd, rungOr, rungXor, rungAndb, rungOrb, rungXorb, rungNot, rungDup,
rungPop, rungOut, rungSet, rungRst, rungRedge, rungFedge. -/
def Obligations.RungLogicWordsActOnStackAndBits : Prop :=
  ∀ (l : Fin 4) (w : Word) (s : State) (e : RungEnv), rungEnv s l = some e →
    let st := (lane s l).ctx.stack
    let a := rungAddr w
    let v := laneBit s e.l e.t a ^^ rungN w
    let m := laneBit s e.l e.t a
    let shifts := fun (i : Instr) (op : Nat) (st' : List Bool) => AtWord s l w e op → exec i s = .next (rungWent e st' 1 s)
    let cached := cacheRead e.l e.t a s
    let reads := fun (i : Instr) (op : Nat) (st' : List Bool) => bitReadable e.d a = true → AtWord s l w e op →
      exec i s = .next (rungWent e st' 1 cached)
    let edges := fun (i : Instr) (op : Nat) (st' : List Bool) (b : Bool) => bitWritable e.d a = true → AtWord s l w e op →
      exec i s = .next (rungWent e st' 1 (laneWrite e.l e.t a b cached))
    let writes := fun (i : Instr) (op : Nat) (st' : List Bool) (b : Bool) => bitWritable e.d a = true → AtWord s l w e op →
      exec i s = .next (rungWent e st' 1 (laneWrite e.l e.t a b s))
    let leaves := fun (i : Instr) (op : Nat) => bitWritable e.d a = true → AtWord s l w e op →
      exec i s = .next (rungWent e st 1 s)
    (st.length ≤ 32 → shifts (.rungNop l w) 0x00 st ∧ shifts (.rungRng l w) 0x01 []) ∧
    (st.length < 32 → reads (.rungLd l w) 0x04 (v :: st)) ∧
    (∀ t rest, st = t :: rest → st.length ≤ 32 →
      reads (.rungAnd l w) 0x05 ((t && v) :: rest) ∧ reads (.rungOr l w) 0x06 ((t || v) :: rest) ∧
      reads (.rungXor l w) 0x07 ((t ^^ v) :: rest) ∧
      shifts (.rungNot l w) 0x0B ((!t) :: rest) ∧ (st.length < 32 → shifts (.rungDup l w) 0x0C (t :: t :: rest)) ∧
      shifts (.rungPop l w) 0x0D rest ∧
      writes (.rungOut l w) 0x10 st (t ^^ rungN w) ∧
      ((t ^^ rungN w) = true → writes (.rungSet l w) 0x11 st true ∧ writes (.rungRst l w) 0x12 st false) ∧
      ((t ^^ rungN w) = false → leaves (.rungSet l w) 0x11 ∧ leaves (.rungRst l w) 0x12) ∧
      edges (.rungRedge l w) 0x14 ((t && !m) :: rest) t ∧ edges (.rungFedge l w) 0x15 ((m && !t) :: rest) t) ∧
    (∀ x y rest, st = x :: y :: rest → st.length ≤ 32 →
      shifts (.rungAndb l w) 0x08 ((y && x) :: rest) ∧ shifts (.rungOrb l w) 0x09 ((y || x) :: rest) ∧
      shifts (.rungXorb l w) 0x0A ((y ^^ x) :: rest))

/-- Of a lane that runs a network. At a timer, counter or TCRES word whose entry is assigned to the task, with 1 to
32 stack entries: TON, TOF and TP evaluate the entry at SNAP_TIME with the top as input, and the top becomes Q; CTU
and CTD step CV by 1 with saturation when the input rises, keep the input, and the top becomes CV ≥ PV or CV ≤ 0;
TCRES clears ET, Q and the remainder (log entry 73), or with K CV, when the top is 1, and else nothing. SKZ with the
top 0 and SKNZ with the top 1 go on COUNT words further, else one word on, where the target lies within the network.
END starts the lane's next network, or after the last one reports completion to the task's cores. The evaluation of
TON is written out: LAST and the input are kept, ET is 0 with Q 0 at input 0, restarts on a rising input and else
grows by the whole time-base units of Δ plus the remainder up to PT, Q being ET ≥ PT. The lane faults: with cause 3
at a word that breaks its format or lies beyond the network; with 1 at LD and DUP at depth 32; with 2 where a word
finds fewer entries than it needs, two for ANDB, ORB and XORB, else one; with 4 at a bit that the task may not read
or write and at an entry that is not assigned to it; with 5 at a COUNT of 0 or a target beyond END. Completes, on the
conditions on state and operands stated here alone: rungEnd, rungTon, rungTof, rungTp, rungCtu, rungCtd, rungTcres,
rungSkz, rungSknz, rungIllegalWord. -/
def Obligations.RungTimersCountersSkipsAndEnd : Prop :=
  ∀ (l : Fin 4) (w : Word) (s : State) (e : RungEnv), rungEnv s l = some e →
    let st := (lane s l).ctx.stack
    let j := rungLow w
    (∀ t rest, st = t :: rest → st.length ≤ 32 →
      let timers := fun (i : Instr) (op : Nat) (k : TimerKind) => AtWord s l w e op → ∀ c : TcDecl,
        assigned s.prog.cur.timers e.t j = some c →
        let x := timerEval k c (snapTime s e.t) t (lookD s.img.timers j {})
        exec i s = .next (rungWent e (x.q :: rest) 1 { s with img.timers := put j x s.img.timers })
      let counts := fun (i : Instr) (op : Nat) (cv : Int → Int) (q : Int → Int → Bool) => AtWord s l w e op → ∀ c : TcDecl,
        assigned s.prog.cur.counters e.t j = some c →
        let x := lookD s.img.counters j {}
        let y : Counter := { cv := if t && !x.input then BitVec.ofInt 32 (cv x.cv.toInt) else x.cv, input := t }
        exec i s = .next (rungWent e (q y.cv.toInt c.preset.toInt :: rest) 1 { s with img.counters := put j y s.img.counters })
      let skips := fun (i : Instr) (op : Nat) (taken : Bool) => AtWord s l w e op → 1 ≤ j →
        (lane s l).ctx.index + 1 + j ≤ netEnd e.net - 1 → exec i s = .next (rungWent e st (if taken then 1 + j else 1) s)
      timers (.rungTon l w) 0x18 .ton ∧ timers (.rungTof l w) 0x19 .tof ∧ timers (.rungTp l w) 0x1A .tp ∧
      counts (.rungCtu l w) 0x1B (fun v => max (-2147483648) (min 2147483647 (v + 1))) (fun cv pv => decide (pv ≤ cv)) ∧
      counts (.rungCtd l w) 0x1C (fun v => max (-2147483648) (min 2147483647 (v - 1))) (fun cv _ => decide (cv ≤ 0)) ∧
      (AtWord s l w e 0x1D → (assigned (if rungK w then s.prog.cur.counters else s.prog.cur.timers) e.t j).isSome = true →
        exec (.rungTcres l w) s = .next (rungWent e st 1 (if t = false then s
          else if rungK w then { s with img.counters := upd j {} (fun x => { x with cv := 0 }) s.img.counters }
          else { s with img.timers := upd j {} (fun x => { x with et := 0, rem := 0, q := false }) s.img.timers }))) ∧
      skips (.rungSkz l w) 0x20 (!t) ∧ skips (.rungSknz l w) 0x21 t) ∧
    (AtWord s l w e 0x02 →
      let done := s |> setLane e.l (fun x => { x with running := false, task := none, ctx := {} })
        |> setRun e.t (fun r => { r with lanesLeft := r.lanesLeft &&& ~~~(BitVec.ofNat 4 (2 ^ e.l)) })
      (∀ n rest, (lane s e.l).ctx.rest = n :: rest → exec (.rungEnd l w) s =
        .next (setLane e.l (fun x => { x with ctx := { stack := [], index := n.first, net := some n, rest } }) s)) ∧
      ((lane s e.l).ctx.rest = [] → exec (.rungEnd l w) s = .next (endCheck e.t
        (forEach e.d.cores done fun c s => if ownsCore s e.t c.core.val then raiseLine c.core.val 2 s else s)))) ∧
    (rungWellFormed w = false ∨ netEnd e.net ≤ (lane s l).ctx.index → exec (.rungIllegalWord l w) s = .next (laneFault e 3 s)) ∧
    (st.length = 32 → (AtWord s l w e 0x04 → exec (.rungLd l w) s = .next (laneFault e 1 s)) ∧
      (AtWord s l w e 0x0C → exec (.rungDup l w) s = .next (laneFault e 1 s))) ∧
    let lacks := fun (i : Instr) (op need : Nat) => st.length < need → AtWord s l w e op → exec i s = .next (laneFault e 2 s)
    lacks (.rungAnd l w) 0x05 1 ∧ lacks (.rungOr l w) 0x06 1 ∧ lacks (.rungXor l w) 0x07 1 ∧ lacks (.rungNot l w) 0x0B 1 ∧
    lacks (.rungDup l w) 0x0C 1 ∧ lacks (.rungPop l w) 0x0D 1 ∧ lacks (.rungOut l w) 0x10 1 ∧ lacks (.rungSet l w) 0x11 1 ∧
    lacks (.rungRst l w) 0x12 1 ∧ lacks (.rungRedge l w) 0x14 1 ∧ lacks (.rungFedge l w) 0x15 1 ∧ lacks (.rungTon l w) 0x18 1 ∧
    lacks (.rungTof l w) 0x19 1 ∧ lacks (.rungTp l w) 0x1A 1 ∧ lacks (.rungCtu l w) 0x1B 1 ∧ lacks (.rungCtd l w) 0x1C 1 ∧
    lacks (.rungTcres l w) 0x1D 1 ∧ lacks (.rungSkz l w) 0x20 1 ∧ lacks (.rungSknz l w) 0x21 1 ∧
    lacks (.rungAndb l w) 0x08 2 ∧ lacks (.rungOrb l w) 0x09 2 ∧ lacks (.rungXorb l w) 0x0A 2 ∧
    (∀ (c : TcDecl) (snap : Nat) (input : Bool) (x : Timer),
      let y := timerEval .ton c snap input x
      let since := (match x.last with | some t => snap - t | none => 0) + x.rem
      y.last = some snap ∧ y.input = input ∧ y.q = (input && decide (c.preset.toNat ≤ y.et)) ∧
      (input = false ∨ x.input = false → y.et = 0 ∧ y.rem = 0) ∧
      (input = true → x.input = true → y.et = min c.preset.toNat (x.et + since / baseNs c) ∧ y.rem = since % baseNs c)) ∧
    (1 ≤ st.length → st.length ≤ 32 →
      let faults := fun (i : Instr) (op cause : Nat) => AtWord s l w e op → exec i s = .next (laneFault e cause s)
      (bitReadable e.d (rungAddr w) = false →
        (st.length < 32 → faults (.rungLd l w) 0x04 4) ∧ faults (.rungAnd l w) 0x05 4 ∧ faults (.rungOr l w) 0x06 4 ∧
        faults (.rungXor l w) 0x07 4) ∧
      (bitWritable e.d (rungAddr w) = false →
        faults (.rungOut l w) 0x10 4 ∧ faults (.rungSet l w) 0x11 4 ∧ faults (.rungRst l w) 0x12 4 ∧
        faults (.rungRedge l w) 0x14 4 ∧ faults (.rungFedge l w) 0x15 4) ∧
      (assigned s.prog.cur.timers e.t j = none →
        faults (.rungTon l w) 0x18 4 ∧ faults (.rungTof l w) 0x19 4 ∧ faults (.rungTp l w) 0x1A 4 ∧
        (rungK w = false → faults (.rungTcres l w) 0x1D 4)) ∧
      (assigned s.prog.cur.counters e.t j = none →
        faults (.rungCtu l w) 0x1B 4 ∧ faults (.rungCtd l w) 0x1C 4 ∧ (rungK w = true → faults (.rungTcres l w) 0x1D 4)) ∧
      (j = 0 ∨ netEnd e.net - 1 < (lane s l).ctx.index + 1 + j → faults (.rungSkz l w) 0x20 5 ∧ faults (.rungSknz l w) 0x21 5))

/-- Where nothing refuses them: CTL_START, CTL_STOP and CTL_TRIGGER are kept for the boundary of cycle N + 2;
CTL_HALT enters HALT with cause 6 at once and answers its time, or waits for the end of a Graft switch;
CTL_CLEAR_HALT goes to STOP; CTL_WARM_RESTART resets and waits for the runtime, whose restart journals START and
leaves STOP. At the boundary RUN or STOP begins, or the HOST task is released, unless the state conditions, judged
again, fail: then the command ends ABORTED with their reason. A standby takes its active's HALT as cause 7, but for
the causes 3, 5 and 9 of the unit itself. Completes, on the conditions on state and operands stated here alone:
ctlStart, runBegin, ctlStop, stopBegin, ctlHalt, ctlClearHalt, ctlWarmRestart, warmRestartDone, ctlTrigger,
hostEventRelease, pairHalt. -/
def Obligations.ControllerCommandsChangeTheState : Prop :=
  (∀ (d : Desc) (s : State),
    let u := openSlot d s
    let idle := fun (v : State) => v.seq.warm = none
    (Unrefused startCard d (startChecks d) s → exec (.ctlStart d) s = .next (deferCmd 0x0101 d (.start (opflag d 4)) u)) ∧
    (Unrefused stopCard d stopChecks s → exec (.ctlStop d) s = .next (deferCmd 0x0102 d .stop u)) ∧
    (Unrefused triggerCard d (triggerChecks d) s → exec (.ctlTrigger d) s =
      .next (deferCmd 0x0106 d (.trigger (param d 32)) u)) ∧
    (Unrefused haltCard d (fun _ => none) s → ctl u = 3 → idle u →
      let a := (accept 0x0103 d 0 u).1
      let job := (accept 0x0103 d 0 u).2
      (a.prog.switchAt = none → exec (.ctlHalt d) s =
        .next (ended job 0 0 (fget (halt 6 0 a) CTL_HALT_TIME_TIME) (halt 6 0 a))) ∧
      (a.prog.switchAt ≠ none → exec (.ctlHalt d) s = .next { halt 6 0 a with cmd.haltJobs := a.cmd.haltJobs ++ [job] })) ∧
    (Unrefused clearHaltCard d (fun _ => none) s → ctl u = 4 → idle u → exec (.ctlClearHalt d) s =
      .next (immediate 0x0104 d (fun s => mirrorCmd 0x0104 d (cycleNow s) (setCtl 2 s)) (fun _ => 0) (fun _ => []) u)) ∧
    (Unrefused warmCard d (fun _ => none) s → (ctl u = 2 ∨ ctl u = 4) → idle u →
      let a := (accept 0x0105 d 0 u).1
      let b := if a.prog.switchAt.isSome then a else warmReset a
      exec (.ctlWarmRestart d) s = .next { b with seq.warm := some (accept 0x0105 d 0 u).2 })) ∧
  (∀ (x : Deferred) (s : State),
    let u := turnOf x s
    (∀ z, Takes isStart x s → x.act = .start z →
      (ctl u = 2 → u.seq.warm = none → serviceOpen u = false → power u = 0 → exec .runBegin s = .next (ended x.job 0 0 x.cycle (runBegin z u))) ∧
      (∀ r, startAgain u = some r → exec .runBegin s = .next (ended x.job 0x0A r 0 u)) ∧ (ctl u ≠ 2 → startAgain u = some 0x0010)) ∧
    (Takes (· = .stop) x s → s.prog.switchAt = none →
      (ctl u = 3 → exec .stopBegin s = .next (ended x.job 0 0 x.cycle (stopBegin u))) ∧
      (ctl u ≠ 3 → exec .stopBegin s = .next (ended x.job 0x0A 0x0010 0 u))) ∧
    (∀ t, Takes isTrigger x s → x.act = .trigger t →
      (ctl u = 3 → isHostEvent u t = true →
        exec .hostEventRelease s = .next (ended x.job 0 0 (run u t).nextInst (release t u))) ∧
      (ctl u ≠ 3 → exec .hostEventRelease s = .next (ended x.job 0x0A 0x0010 0 u)) ∧
      (ctl u = 3 → isHostEvent u t = false → exec .hostEventRelease s = .next (ended x.job 0x0A 0x020C 0 u)))) ∧
  (∀ (cause : Nat) (t : Fin 32) (s : State), pair s = 5 → s.red.takeover = none → cause ∉ [3, 5, 9] →
    exec (.pairHalt cause t) s = .next (halt 7 t.val s)) ∧
  (∀ (job : Job) (s : State), s.seq.warm = some job → s.prog.switchAt = none → exec .warmRestartDone s =
    .next (ended job 0 0 0 (jnote 0x0040 2 0 (setCtl 2 (bump SYS_RESET_CAUSE_WARM 1 { s with seq.warm := none })))))

/-- Where nothing refuses them: GRAFT_OPEN opens an empty image under IDENT, ring, kind and base generation and
discards the kept generation; GRAFT_LOAD puts its bytes into the image and makes the Graft OPEN; GRAFT_CHECK makes it
CHECKED and answers mask and switch time (what the standby of a pair finds is open: with another result it ends
PAIR_CHECK and the standby is unfit); GRAFT_ABORT and GRAFT_CONFIRM leave no Graft; GRAFT_COMMIT and GRAFT_REVERT are
accepted and make it COMMITTING, with the commit's cycle, gap time, confirm window and origin state. Completes, on
the conditions on state and operands stated here alone: graftOpen, graftLoad, graftCheck, graftCommit, graftAbort,
graftConfirm, graftRevert. -/
def Obligations.GraftCommandsOpenLoadCheckAndCommit : Prop :=
  ∀ (d : Desc) (s : State),
    let u := openSlot d s
    let mirrored := fun (op : Nat) (f : State → State) (r : Nat) =>
      immediate op d (fun v => mirrorCmd op d (cycleNow v) (f v)) (fun _ => r) (fun _ => []) u
    (Unrefused graftOpenCard d (graftOpenChecks d) s → exec (.graftOpen d) s = .next (mirrored 0x0201 (fun v =>
      { v with
          prog.kept := none, prog.image := [], prog.loaded := [], prog.length := paramN d 40 8, prog.baseGen := paramN d 36 4
          prog.origin := some d.origin, prog.next := none, prog.peerHas := false }
        |> fput CTL_GRAFT_STATUS_REVERT_KEPT 0
        |> fput CTL_GRAFT_STATUS_STATE 1 |> fput CTL_GRAFT_STATUS_RING (originRing d.origin)
        |> fput CTL_GRAFT_STATUS_KIND (param d 32) |> fput CTL_GRAFT_STATUS_REVERSIBLE 0
        |> fput CTL_GRAFT_ID_ID d.ident.toNat |> fput CTL_GRAFT_AFFECTED_TASK 0) 0)) ∧
    (Unrefused graftLoadCard d (graftLoadChecks d) s → exec (.graftLoad d) s = .next (mirrored 0x0202 (fun v =>
      { v with
          prog.image := wrN v.prog.image (paramN d 32 8) d.buf, prog.loaded := (paramN d 32 8, d.buf.length) :: v.prog.loaded
          prog.next := none, prog.peerHas := false }
        |> fput CTL_GRAFT_STATUS_STATE 1 |> fput CTL_GRAFT_AFFECTED_TASK 0) d.buf.length)) ∧
    (∀ p, Unrefused graftCheckCard d (fun s => (graftBound [1] d s).or (graftRefusal s (graftKind s) p)) s → pair u ≠ 4 →
      exec (.graftCheck d p) s = .next (immediate 0x0203 d (graftChecked p)
        (fun v => fget v CTL_GRAFT_AFFECTED_TASK + 2 ^ 32 * v.prog.tsw) (fun _ => []) u)) ∧
    (∀ p, Unrefused graftCheckCard d (fun s => (graftBound [1] d s).or (graftRefusal s (graftKind s) p)) s → pair u = 4 →
      let a := accept 0x0203 d 0 (fresh u).1
      let m := mirrorCmd 0x0203 d (cycleNow a.1) a.1
      let v := graftChecked p m
      exec (.graftCheck d p) s = .next (if Config.freeNat (fresh u).2 % 2 = 0 then
          done a.2 (fget v CTL_GRAFT_AFFECTED_TASK + 2 ^ 32 * v.prog.tsw) [] { v with prog.peerHas := true }
        else markUnfit 6 (hedgeSend (.unfit 6) (settle (finish a.2 0x09 0x0305 0 [] m))))) ∧
    (Unrefused graftAbortCard d (graftBound [1, 2] d) s → exec (.graftAbort d) s = .next (mirrored 0x0205 closeGraft 0)) ∧
    (Unrefused graftConfirmCard d (graftBound [4] d) s →
      exec (.graftConfirm d) s = .next (immediate 0x0206 d closeGraft generation (fun _ => []) u)) ∧
    (Unrefused (commitCard (graftKind s)) d (commitChecks d) s →
      let c := commitOf d { op := 0x0204, d } false u
      let a := accept 0x0204 d (if d.apply = 2 then 0 else c.cycle) u
      exec (.graftCommit d) s = .next (fput CTL_GRAFT_STATUS_STATE 3 { a.1 with prog.commit := some { c with job := a.2 } })) ∧
    (Unrefused (revertCard (keptKind s)) d (revertChecks d) s →
      let c := commitOf d { op := 0x0207, d } true u
      let a := accept 0x0207 d (if d.apply = 2 then 0 else c.cycle) u
      exec (.graftRevert d) s = .next (fput CTL_GRAFT_AFFECTED_TASK (revertMask u)
        (fput CTL_GRAFT_STATUS_STATE 3 { a.1 with prog.commit := some { c with job := a.2 } })))

/-- At its boundary, and in a gap where the selector asks for one, a CODE commit makes a new generation, installs its
code and reports; a LAYOUT or STRUCTURAL commit whose tasks are idle within its gap time starts its switch; a guard
or a standby that lacks the Graft ends either instead; the end of the switch moves the data, exchanges the tables and
reports; a fault or a gap time that passes ends the commit; the end of a confirm window reverts to the kept
generation or, where there is none, the switch is not reversible or a guard stands against it, fails as R105 says.
Completes, on the conditions on state and operands stated here alone: codeGraftApply, graftSwitchStart,
graftSwitchEnd, graftNoGap, confirmWindowEnd. -/
def Obligations.GraftSwitchesAndConfirmWindowsEnd : Prop :=
  (∀ (c : GraftCommit) (s : State), s.prog.commit = some c →
    let u := toBoundary c.cycle s
    let kind := (commitPlan s c).1
    let gap := fun (tsw : Nat) => gapNow u (affected u) tsw = true ∧ u.now ≤ c.gapUntil
    (∀ p ms, commitPlan u c = (0, p, ms) → kind = 0 → (c.sel = 2 → gap 0) →
      let v := installCode p (affected u) (newGeneration c 0 u)
      (∀ st rs, switchRefusal c 0 u = some (st, rs) → exec .codeGraftApply s = .next (commitFails c st rs u)) ∧
      (switchRefusal c 0 u = none → exec .codeGraftApply s = .next (afterSwitch c (tellPeer c (cycleNow u) (reportSwitch c 0 (affected u) 0 (cycleNow u) v))))) ∧
    (kind ≠ 0 → s.prog.switchAt = none → gap (switchTime kind (commitPlan s c).2.2) →
      (switchRefusal c kind u = none →
        exec .graftSwitchStart s = .next { u with prog.switchAt := some u.now }) ∧
      (∀ st rs, switchRefusal c kind u = some (st, rs) →
        exec .graftSwitchStart s = .next (commitFails c st rs u))) ∧
    (∀ i, s.prog.switchAt = some i → exec (.graftSwitchEnd false) s = .next (finishSwitch c i s) ∧
      exec (.graftSwitchEnd true) s = .next (switchFault c s)) ∧
    (c.sel = 2 → s.prog.switchAt = none → gapFound c s = false → exec .graftNoGap s = .next (commitFails c 0x06 0x0501 (advance c.gapUntil s)))) ∧
  (∀ (t : Nat) (s : State), s.prog.confirmUntil = some t → graftState s = 4 →
    let u := advance t s
    let ident := BitVec.ofNat 64 (fget u CTL_GRAFT_ID_ID)
    (u.prog.kept = none → exec .confirmWindowEnd s = .next (autoFailed ident u)) ∧
    (notReversible u = true → exec .confirmWindowEnd s = .next (autoFailed ident u)) ∧
    (∀ k g, u.prog.kept = some k → guardRefusal u none (graftGuards (keptKind u)) = some g → exec .confirmWindowEnd s = .next (autoFailed ident u)) ∧
    (∀ k, u.prog.kept = some k → notReversible u = false → guardRefusal u none (graftGuards (keptKind u)) = none →
      let n := cycleNow u + 2
      let d : Desc := { origin := u.prog.origin.getD .svc, index := 0, ident, apply := u.prog.confirmSel }
      let c : GraftCommit := {
        job := { op := 0x0207, d }, revert := true, auto := true, sel := u.prog.confirmSel, cycle := n
        gapUntil := boundary u n + msec u.prog.confirmGap, gapMs := u.prog.confirmGap, confirmS := 0
        sag2 := k.sag2 && (budgetRefusal u k.prog true).isNone, back := 0 }
      exec .confirmWindowEnd s = .next (fput CTL_GRAFT_AFFECTED_TASK (revertMask u)
        (fput CTL_GRAFT_STATUS_STATE 3 { u with prog.commit := some c, prog.confirmUntil := none }))))

/-- TRELLIS_TICK handles the first tick behind the last one handled and at or after the last tick of device time, a
multiple of 2.5 ns of device time: the fires of all entries are due together with those that wait, in entry order and
at most 16 in a tick. An edge starts at its time in RUN unless a LOST axis holds its channel; a pulse ends low; an
encoder edge that the accepted levels of its channels carry takes those levels and acts on every axis that counts on
it; a sample time-out coasts or loses the axis, a coast limit loses it; a fast-input edge is captured by every unit
that takes it; a trim word applies at its boundary, a late one with TRIM_LATE. Completes, on the conditions on state
and operands stated here alone: trellisTick, edgeIssue, pulseEnd, encoderEdge, sampleTimeout, coastLimit,
fastInputEdge, trimSourceApply. -/
def Obligations.TrellisEventsActAtTheirTimes : Prop :=
  (∀ s : State,
    let t := max (tickAt s (s.trl.lastTick + 40)) (tickAt s s.now)
    let v := tickEntries t { advance t s with trl.lastTick := t }
    exec .trellisTick s = .next (fireAll v.2 (showReverse t v.1)) ∧ s.trl.lastTick < t ∧
      devTime s t % 40 = 0) ∧
  (∀ (fs : List Fire) (s : State), s.trl.firedAt ≠ tickAt s s.now →
    fireAll fs s = runFires 16 (joinFires (s.trl.waiting.map (fun w => { idx := w.1, late := w.2, old := true }) ++ fs) [])
      { s with trl.firedAt := tickAt s s.now, trl.firedIn := 0, trl.waiting := [] }) ∧
  (∀ (e : Edge) (rest : List Edge) (s : State), s.trl.edges = e :: rest →
    let u := advance e.time { s with trl.edges := rest }
    (ctl u ≠ 3 ∨ lostSafe u e.ch = true → exec .edgeIssue s = .next u) ∧
    (ctl u = 3 → lostSafe u e.ch = false → exec .edgeIssue s = .next
      (driveEdge e.ch (if e.toggle then !(chan u e.ch).edge else e.level)
        { u with trl.pulses := match e.pulse with | some p => put e.ch p u.trl.pulses | none => del e.ch u.trl.pulses }))) ∧
  (∀ (ch : Fin 16) (t : Nat) (s : State), look s.trl.pulses ch = some t →
    let u := advance t { s with trl.pulses := del ch s.trl.pulses }
    exec (.pulseEnd ch) s = .next (if ctl u = 3 ∧ lostSafe u ch = false then driveEdge ch false u else u)) ∧
  (∀ (e : Fin 4) (k : EncEdge) (s : State), fbit s (FIO_ENC_CFG_ENABLE e) = true → s.fio.powerUp = false →
    (k ≠ .z → groupBad s (fget s (FIO_ENC_CFG_A_CH e) / 8) = false ∧ groupBad s (fget s (FIO_ENC_CFG_B_CH e) / 8) = false) →
    (k = .z → fbit s (FIO_ENC_CFG_Z_EN e) = true ∧ groupBad s (fget s (FIO_ENC_CFG_Z_CH e) / 8) = false) → levelsCarry s e k = true →
    let x := lookD s.trl.enc e {}
    let y := encoderNow s e
    exec (.encoderEdge e k) s = .next (forEach (List.range 16)
      { s with trl.enc := put e (if k = .z then { x with zAt := y.zAt } else { y with zAt := x.zAt }) s.trl.enc } fun a s => if countsOn s e a then encoderStep a k s else s)) ∧
  (∀ (k : Fin 16) (s : State), axEnabled s k = true → axSource s k = 1 →
    (∀ t, axState s k = 1 → (axis s k).sampleAt = some t →
      let u := advance (tickUp s (t + usec (fget s (TRL_AXIS_TIMING_SAMPLE_TIMEOUT k)))) s
      exec (.sampleTimeout k) s = .next (if fget s (TRL_AXIS_TIMING_COAST_LIMIT k) = 0 then loseAxis k u else coastAxis k u)) ∧
    (axState s k = 2 → exec (.coastLimit k) s = .next
      (loseAxis k (advance (tickUp s ((axis s k).coastAt + msec (fget s (TRL_AXIS_TIMING_COAST_LIMIT k)))) s)))) ∧
  (∀ (ch : Fin 16) (rising : Bool) (at_ : Nat) (s : State), chMode s ch = 3 → groupBad s (ch / 8) = false → s.fio.powerUp = false →
    (chan s ch).level = rising → (chan s ch).levelAt = at_ →
    let t := edgeTick s ch at_ (fresh s).2
    let u := advance t (fresh s).1
    let v := (List.range 16).foldl (fun (acc : State × List Fire) c => if takesEdge acc.1 c ch rising
      then ((captureEdge c (stampOf s ch t) rising acc.1).1, acc.2 ++ (captureEdge c (stampOf s ch t) rising acc.1).2) else acc) (u, [])
    exec (.fastInputEdge ch rising at_) s = .next (fireAll v.2 v.1)) ∧
  (∀ (x : TrimDue) (s : State), nextTrim s = some x →
    let u := toBoundary x.cycle { s with trl.trimDue := s.trl.trimDue.erase x }
    let v := if fbit u (TRL_AXIS_TRIM_SRC_EN x.axis)
      then withSteps x.axis false false (fput (TRL_AXIS_TRIM_TRIM x.axis) x.value.toNat) u else u
    exec .trimSourceApply s = .next (if x.late then selfUnfit 7 (raise (TRL_AXIS_EVENTS_TRIM_LATE x.axis) v) else v))

/-- Where nothing refuses them, TRL_ENTRY_WRITE, TRL_AXIS_SET, TRL_TRIM_SET and TRL_AXIS_REARM are kept for the
boundary of cycle N + 2, and TRL_ENTRY_READ answers the entries that fit its buffer. At the boundary each record of
the batch is removed or written and armed; a preset steps the axis to its angle and V_SET moves the anchor to the
present tick; the trim applies as a step; a LOST encoder axis tracks again at the preset angle, and one that is not
LOST ends ABORTED. Completes, on the conditions on state and operands stated here alone: trlEntryWrite,
entryBatchApply, trlEntryRead, trlAxisSet, axisSetApply, trlTrimSet, trimSetApply, trlAxisRearm, axisRearmApply. -/
def Obligations.TrellisCommandsComplete : Prop :=
  (∀ (d : Desc) (s : State),
    let u := openSlot d s
    (Unrefused entryWriteCard d (entryWriteChecks d) s → exec (.trlEntryWrite d) s = .next (deferCmd 0x0601 d .entryBatch u)) ∧
    (Unrefused axisSetCard d (axisSetChecks d) s → exec (.trlAxisSet d) s = .next (deferCmd 0x0603 d .axisSet u)) ∧
    (Unrefused trimSetCard d (trimSetChecks d) s → exec (.trlTrimSet d) s = .next (deferCmd 0x0604 d .trimSet u)) ∧
    (Unrefused rearmCard d (rearmChecks d) s → exec (.trlAxisRearm d) s = .next (deferCmd 0x0605 d .rearm u)) ∧
    (Unrefused entryReadCard d (fun _ => none) s → 1 ≤ paramN d 34 2 → paramN d 34 2 ≤ 256 →
      paramN d 32 2 + paramN d 34 2 ≤ 4096 →
      let n := min (paramN d 34 2) (d.bufLen / 20)
      exec (.trlEntryRead d) s = .next (immediate 0x0602 d id (fun _ => n)
        (fun s => (List.range n).flatMap (fun i => entryBytes s (paramN d 32 2 + i))) u))) ∧
  (∀ (x : Deferred) (s : State),
    let u := turnOf x s
    let d := x.job.d
    let k := param d 32
    let records := entryRecords d.buf
    (Takes (· = .entryBatch) x s → exec .entryBatchApply s =
      .next (ended x.job 0 0 records.length (forEach records u installEntry))) ∧
    (Takes (· = .axisSet) x s → exec .axisSetApply s = .next (ended x.job 0 0 0
      (if (param d 33).testBit 0 then withSteps k true false (presetAngle k (paramN d 40 8)) u
        else setAxis k (fun a => { a with vSet := toInt 48 (paramN d 40 8) * 65536 })
          (if axState u k = 0 then u else reanchorVirtual k u)))) ∧
    (Takes (· = .trimSet) x s → exec .trimSetApply s = .next (ended x.job 0 0 0
      (withSteps k false false (fput (TRL_AXIS_TRIM_TRIM k) (paramN d 36 4)) u))) ∧
    (Takes (· = .rearm) x s →
      (axSource u k = 3 → axState u k = 3 → exec .axisRearmApply s = .next (ended x.job 0 0 0
        (setAxState k 1 (setAxis k (fun a => { a with
          theta := (paramN d 40 8 : Int) * 2 ^ 32 - trimOf u k, ta := tickAt u u.now, edges := [], reverse := false
          sampleAt := some u.now }) u)))) ∧
      (axState u k ≠ 3 → exec .axisRearmApply s = .next (ended x.job 0x0A 0x0014 0 u))))

/-- TX_GATHER gathers the SETPOINT templates 1,600 ns before TX_OPEN of the next cycle not gathered, STATUS_GATHER
the STATUS templates 1,600 ns before PLANT_OPEN; TX_WINDOW_OPEN opens class 7 of the drive ports at TX_OPEN and each
gathered SETPOINT frame leaves before its port's TX_CLOSE, and PLANT_WINDOW_OPEN opens class 7 of the plant ports and
STATUS frames leave before its end, behind a heartbeat that falls into it; a gathering that is not done at the
opening raises TX_LATE. A gate transition takes the list's classes and sends what waits. The frame of a collect head,
which a drive sends, takes the time to FB_OFS behind its due boundary. A link change of an enabled port with power
sets the bits of the port, LINK_CHANGE and, with PREEMPT_EN, the result of the verification; the loss of the plant's
time source port ends that source, and the loss of both drive links in REDUNDANT may raise an explicit fault, as no
message carries the report of the standby (log entry 38). Completes, on the conditions on state and operands stated
here alone: txGather, txWindowOpen, statusGather, plantWindowOpen, collectHeadSend, portLinkChange,
gateControlTransition. -/
def Obligations.FramesAreGatheredAndLeaveInTheirWindows : Prop :=
  (∀ s : State, cycleRuns s = true →
    let n := max s.net.gatherCycle (cycleNow s)
    let u := advance (boundary s n + fget s NET_TX_OPEN_NS * 16 - 25600) s
    exec .txGather s = .next { gatherAll kSetpoint n u with
      net.gatherCycle := n + 1, net.gatherEnd := u.now + 6400 + gatherSize u kSetpoint n * 5 / 4 }) ∧
  (∀ s : State, cycleRuns s = true ∨ s.red.handover ≠ none →
    let n := max s.net.sentCycle (cycleNow s)
    let u := advance (boundary s n + fget s NET_TX_OPEN_NS * 16) { s with net.sentCycle := n + 1 }
    let v := openSeven [0, 1] (match handoverIn u n with
      | some x => handoverDone x u
      | none => u)
    let noted := if v.net.gatherCycle ≤ n ∨ v.net.gatherEnd > v.now then raise NET_EVENTS_TX_LATE v else v
    let ready := if v.net.gatherCycle = n + 1 then advance v.net.gatherEnd noted else noted
    (standby v = true ∨ cycleRuns v = false ∨ ctl v < 2 ∨ dueTx v kSetpoint n = [] → exec .txWindowOpen s = .next v) ∧
    (standby v = false → cycleRuns v = true → 2 ≤ ctl v → dueTx v kSetpoint n ≠ [] →
      exec .txWindowOpen s = .next (forEach (dueTx ready kSetpoint n) ready fun (i, t) s =>
        if s.now < boundary s n + (fget s NET_TX_OPEN_NS * 16 + wSp s ((portsOf t.port).headD 0) * 16 / 10 + 3200)
        then sendTemplate n i t s else s))) ∧
  (∀ s : State, cycleRuns s = true → fget s NET_PLANT_WIN_PLANT_LEN ≠ 0 →
    let early := fget s NET_PLANT_WIN_PLANT_OPEN * 20 < 1600
    let n := max s.net.statusCycle (cycleNow s + if early then 1 else 0)
    let g := advance (boundary s n + fget s NET_PLANT_WIN_PLANT_OPEN * 320 - 25600) s
    let m := max s.net.sentPlant (cycleNow s)
    let ends (s : State) := boundary s m + (fget s NET_PLANT_WIN_PLANT_OPEN + fget s NET_PLANT_WIN_PLANT_LEN) * 320
    let u := openSeven [2, 3] (advance (boundary s m + fget s NET_PLANT_WIN_PLANT_OPEN * 320) { s with net.sentPlant := m + 1 })
    let v := if beatBefore u (ends u) then beatStep u else u
    let noted := if v.net.statusCycle ≤ m ∨ v.net.statusEnd > v.now then raise NET_EVENTS_TX_LATE v else v
    let ready := if v.net.statusCycle = m + 1 then advance v.net.statusEnd noted else noted
    exec .statusGather s = .next { gatherAll kStatus n g with
      net.statusCycle := n + 1, net.statusEnd := g.now + 6400 + gatherSize g kStatus n * 5 / 4 } ∧
    (talks v = true → 2 ≤ ctl v → dueTx v kStatus m ≠ [] → exec .plantWindowOpen s =
      .next (forEach (dueTx ready kStatus m) ready (fun (i, t) s => if s.now < ends s then sendTemplate m i t s else s))) ∧
    (talks v = false ∨ ctl v < 2 ∨ dueTx v kStatus m = [] → exec .plantWindowOpen s = .next v)) ∧
  (∀ (p : Fin 4) (at_ : Nat) (s : State),
    let u := advance at_ s
    let g := gatesAt u p u.now
    exec (.gateControlTransition p at_) s = .next (flushGate p (setGate p (fun x => { x with open_ := g.1, held := g.2 }) u))) ∧
  (∀ (t : Nat) (x : Template) (s : State), look s.prog.cur.templates t = some x →
    let k := max 1 x.every
    let n := cycleNow s + (x.everyPhase + k - cycleNow s % k) % k
    exec (.collectHeadSend t) s = .next (advance (boundary s n + fget s (NET_DRV_TIMING_FB_OFS ((portsOf x.port).headD 0)) * 160) s)) ∧
  (∀ (up verified : Bool) (s : State),
    let now := up && fbit s (NET_PORT_CFG_ENABLE 4)
    (fbit s NET_STATUS_SVC_LINK = now → exec (.portLinkChange 4 up verified) s = .next s) ∧
    (fbit s NET_STATUS_SVC_LINK ≠ now → exec (.portLinkChange 4 up verified) s =
      .next (raise NET_EVENTS_LINK_CHANGE (fput NET_STATUS_SVC_LINK (if now then 1 else 0) s)))) ∧
  (∀ (p : Fin 5) (up verified : Bool) (s : State), p.val < 4 →
    let now := up && fbit s (NET_PORT_CFG_ENABLE p) && (power s = 0 || power s = 1)
    let changed := raise NET_EVENTS_LINK_CHANGE (fputBit NET_STATUS_LINK p now s)
    let down := fputBit NET_STATUS_PREEMPT p false changed
    (linkUp s p = now → exec (.portLinkChange p up verified) s = .next s) ∧
    (linkUp s p = false → now = true →
      let u : State := { changed with net.linkAt := put p.val s.now changed.net.linkAt }
      (fbit u (NET_PORT_CFG_PREEMPT_EN p) = true → exec (.portLinkChange p up verified) s = .next (if verified
        then fputBit NET_STATUS_PREEMPT p true u else raise NET_EVENTS_PREEMPT_FAIL (fputBit NET_STATUS_PREEMPT p false u))) ∧
      (fbit u (NET_PORT_CFG_PREEMPT_EN p) = false → exec (.portLinkChange p up verified) s = .next (fputBit NET_STATUS_PREEMPT p false u))) ∧
    (linkUp s p = true → now = false →
      (p.val < 2 → exec (.portLinkChange p up verified) s = .next (driveLinksLost down)) ∧
      (2 ≤ p.val → fget down NET_STATUS_PLANT_PORT + 1 = p.val → exec (.portLinkChange p up verified) s =
        .next (fput NET_STATUS_PLANT_PORT 0 { down with net.ptp.rank := none })) ∧
      (2 ≤ p.val → fget down NET_STATUS_PLANT_PORT + 1 ≠ p.val → exec (.portLinkChange p up verified) s = .next down)))

/-- A unit that talks sends Sync and Follow_Up one Sync interval behind the last, or at once where none went out yet,
and Announce with its own Pdelay requests likewise every second on the drive ports; a Pdelay request is answered with
two messages that carry its number and source, and a plant port outside the plant domain only counts it; a foreign
Announce on a drive port sets FOREIGN_GM. A plant Sync acts at the slave port and only counts at the other; an
Announce of the domain from a better master, or with no slave port, makes its port the slave, one at the slave port
renews it, and any other only counts; the deadline ends PLANT_SYNC and, where Announce is missing, the slave port.
The drive cycle starts, stops and resumes at the first boundary at or after its time, and CYCLE_RUN says so.
Completes, on the conditions on state and operands stated here alone: driveSyncSend, announceSend, pdelayReqReceive,
driveAnnounceReceive, plantSyncReceive, plantAnnounceReceive, plantSyncTimeout, driveCycleStart, driveCycleStop,
driveCycleResume. -/
def Obligations.TimeSyncAndTheDriveCycleFollowTheirMessages : Prop :=
  (∀ (p : Fin 2) (s : State), exec (.driveAnnounceReceive p) s =
    .next (raise NET_EVENTS_FOREIGN_GM (bumpWrap (NET_PORT_RX_FRAMES_COUNT p) 1 s))) ∧
  (∀ s : State, talks s = true → ptpRuns s = true →
    (∀ t, s.net.ptp.lastDriveSync = some t →
      let u := advance (t + secs 1 / 2 ^ fget s NET_PTP_CFG_SYNC_INTERVAL) s
      exec .driveSyncSend s = .next (driveMessages [0, 8] { u with net.ptp.lastDriveSync := some u.now })) ∧
    (s.net.ptp.lastDriveSync = none → exec .driveSyncSend s = .next (driveMessages [0, 8] { s with net.ptp.lastDriveSync := some s.now })) ∧
    (s.net.ptp.lastDriveAnnounce = none → exec .announceSend s =
      .next (plantRequests (driveMessages [0xB, 2] { s with net.ptp.lastDriveAnnounce := some s.now }))) ∧
    (∀ t, s.net.ptp.lastDriveAnnounce = some t →
      let u := advance (t + secs 1) s
      exec .announceSend s = .next (plantRequests (driveMessages [0xB, 2] { u with net.ptp.lastDriveAnnounce := some u.now })))) ∧
  (∀ (p : Fin 4) (seq : Half) (source : BitVec 80) (at_ : Nat) (s : State), ptpRuns s = true → linkUp s p = true →
    let u := bumpWrap (NET_PORT_RX_FRAMES_COUNT p) 1 (advance at_ s)
    let back := seq.toNat + 65536 * source.toNat
    let domain := fget u (if p.val < 2 then NET_PTP_CFG_DRV_DOMAIN else NET_PTP_CFG_PLT_DOMAIN)
    let stamp := rxStamp u p at_
    ((p.val < 2 ∨ fbit s NET_PTP_CFG_PLANT_EN = true) → exec (.pdelayReqReceive p ⟨seq, source⟩ at_) s = .next
      (sendFrame p { cls := 6, bytes := 92, what := .gptp p 0xA domain stamp 0 back [] }
        (sendFrame p { cls := 6, bytes := 92, what := .gptp p 3 domain stamp 0 back [] } u))) ∧
    (2 ≤ p.val → fbit s NET_PTP_CFG_PLANT_EN = false → exec (.pdelayReqReceive p ⟨seq, source⟩ at_) s = .next u)) ∧
  (∀ (p : Fin 2) (gm : DWord) (plantTime : Int) (at_ : Nat) (s : State), fbit s NET_PTP_CFG_PLANT_EN = true → ptpRuns s = true →
    linkUp s (p.val + 2) = true →
    (fget s NET_STATUS_PLANT_PORT = p.val + 1 → exec (.plantSyncReceive p gm plantTime at_) s =
      .next (plantSync (p.val + 2) gm plantTime at_ (bumpWrap (NET_PORT_RX_FRAMES_COUNT (p.val + 2)) 1 (advance at_ s)))) ∧
    (fget s NET_STATUS_PLANT_PORT ≠ p.val + 1 → exec (.plantSyncReceive p gm plantTime at_) s =
      .next (bumpWrap (NET_PORT_RX_FRAMES_COUNT (p.val + 2)) 1 (advance at_ s))) ∧
    (∀ a : Announce,
      let u := bumpWrap (NET_PORT_RX_FRAMES_COUNT (p.val + 2)) 1 (advance a.at_ s)
      let v := takeMaster a.gm u
      (a.domain = fget s NET_PTP_CFG_PLT_DOMAIN → fget u NET_STATUS_PLANT_PORT = p.val + 1 → exec (.plantAnnounceReceive p a) s =
        .next (fput NET_STATUS_PLANT_PORT (p.val + 1) { v with net.ptp.rank := some a.rank, net.ptp.lastAnnounce := some a.at_ })) ∧
      (a.domain = fget s NET_PTP_CFG_PLT_DOMAIN → fget u NET_STATUS_PLANT_PORT ≠ p.val + 1 →
        (fget u NET_STATUS_PLANT_PORT = 0 ∨ ∀ r, u.net.ptp.rank = some r → a.rank < r) →
        exec (.plantAnnounceReceive p a) s = .next (fput NET_STATUS_PLANT_PORT (p.val + 1) { v with
          net.ptp.rank := some a.rank, net.ptp.lastAnnounce := some a.at_, net.ptp.lastSync := some a.at_, net.ptp.synced := false })) ∧
      (∀ r, a.domain = fget s NET_PTP_CFG_PLT_DOMAIN → fget u NET_STATUS_PLANT_PORT ≠ 0 → fget u NET_STATUS_PLANT_PORT ≠ p.val + 1 →
        u.net.ptp.rank = some r → ¬ a.rank < r → exec (.plantAnnounceReceive p a) s = .next u) ∧
      (a.domain ≠ fget s NET_PTP_CFG_PLT_DOMAIN → exec (.plantAnnounceReceive p a) s = .next u))) ∧
  (∀ (t : Nat) (s : State),
    let u := losePlant (advance t s)
    (plantDeadline s = some (t, true) → exec .plantSyncTimeout s = .next (fput NET_STATUS_PLANT_PORT 0
      { u with net.ptp.rank := none, net.ptp.lastAnnounce := none, net.ptp.lastSync := none })) ∧
    (plantDeadline s = some (t, false) → exec .plantSyncTimeout s = .next { u with net.ptp.lastSync := none }) ∧
    (plantDeadline s = none → exec .plantSyncTimeout s = .next s)) ∧
  (∀ (t : Nat) (s : State),
    (s.net.startFrom = some t → power s ≤ 1 → exec .driveCycleStart s =
      .next (fput NET_STATUS_CYCLE_RUN 1 (advance (boundaryFrom s t) { s with net.startFrom := none, net.stopFrom := none }))) ∧
    (s.net.stopFrom = some t → exec .driveCycleStop s =
      .next (fput NET_STATUS_CYCLE_RUN 0 (advance (boundaryFrom s t) { s with net.stopFrom := none }))) ∧
    (s.net.resumeFrom = some t → fbit s NET_CYCLE_CFG_RUN = true → power s ≤ 1 → exec .driveCycleResume s =
      .next (fput NET_STATUS_CYCLE_RUN 1 (advance (boundaryFrom s (resumeAt s t)) { s with net.resumeFrom := none }))))

/-- A frame without link is nothing, one with an error counts RX_ERR, a bad header HDR_ERR, a foreign pair UNMATCHED.
A COLLECT frame of a template counts STALE, FUTURE, FRER_ELIM, DUP or LATE by its cycle number, sequence number and
time, or is accepted and written. The boundary judges the PLANT_DATA templates due, RX_CUTOFF the COLLECT ones: a due
template without its frame has missed. A plant frame whose sender is not the coordinator counts UNMATCHED, an older
epoch STALE, and a matching one is written. A recovery function without frames forgets its history. A mailbox request
is kept and sent, sent again at most twice, and ends TIMEOUT; the fragments of its response are joined in order and
the last one ends it; the network reads answer what fits their buffer. Completes, on the conditions on state and
operands stated here alone: syncCycleBoundary, driveFrameReceive, rxCutoff, plantFrameReceive, frerRecoveryReset,
netMailbox, mailboxRetry, mbxRspReceive, netTplRead, netPtpRead, netMcastRead. -/
def Obligations.ReceivedFramesAreJudgedRowByRow : Prop :=
  (∀ (p : Fin 2) (f : RxFrame) (s : State), linkUp s p = false → exec (.driveFrameReceive p f) s = .next s) ∧
  (∀ (p : Fin 2) (f : RxFrame) (s : State), linkUp s p = true →
    let u := advance f.at_ s
    (f.fcsOk = false → exec (.driveFrameReceive p f) s = .next (bump (NET_PORT_RX_ERR_COUNT p) 1 u)) ∧
    (f.fcsOk = true → isFlany u f = false →
      exec (.driveFrameReceive p f) s = .next (nicReceive p f (bumpWrap (NET_PORT_RX_FRAMES_COUNT p) 1 u))) ∧
    (f.fcsOk = true → isFlany u f = true → headerBad f = true → exec (.driveFrameReceive p f) s =
      .next (raise NET_EVENTS_HDR_ERR (bump (NET_PORT_FORM_ERR_HDR_ERR p) 1 u))) ∧
    (f.fcsOk = true → isFlany u f = true → headerBad f = false → fPairId f ≠ fget u NET_PAIR_ID_PAIR_ID →
      exec (.driveFrameReceive p f) s = .next (bump (NET_PORT_FORM_ERR_UNMATCHED p) 1 u))) ∧
  (∀ (p : Fin 2) (i : Nat) (t : Template) (f : RxFrame) (s : State), CollectArrives s p i t f →
    let u := advance f.at_ s
    let n := cycleAt u f.at_
    let early := fCycle f > n ∨ beforeGrid u f.at_ = true
    (fCycle f < n → exec (.driveFrameReceive p f) s = .next (bump (NET_PORT_SEQ_ERR_STALE p) 1 u)) ∧
    (n ≤ fCycle f → early → exec (.driveFrameReceive p f) s = .next (bump (NET_PORT_MISC_ERR_FUTURE p) 1 u)) ∧
    (fCycle f = n → ¬ early →
      (eliminated u i t f = true → exec (.driveFrameReceive p f) s = .next (secondCopy p i t n f u)) ∧
      (eliminated u i t f = false → (tplRun u i).seen = n + 1 →
        exec (.driveFrameReceive p f) s = .next (bump (NET_PORT_SEQ_ERR_DUP p) 1 u)) ∧
      (eliminated u i t f = false → (tplRun u i).seen ≠ n + 1 →
        (onTime u f n = false → exec (.driveFrameReceive p f) s = .next (log 4 .late i p
          (setTpl i (fun r => { r with late := r.late + 1 }) (raise NET_EVENTS_LATE (bump (NET_PORT_LATE_COUNT p) 1 u))))) ∧
        (onTime u f n = true → exec (.driveFrameReceive p f) s =
          .next (writeTemplate i t n (fData f) (takeCopy p i t f (bumpWrap (NET_PORT_RX_FRAMES_COUNT p) 1 u))))))) ∧
  (∀ (p : Fin 2) (f : RxFrame) (s : State),
    (fKind f = 4 → exec (.mbxRspReceive p f) s = exec (.driveFrameReceive p f) s) ∧
    (fKind f ≠ 4 → exec (.mbxRspReceive p f) s = .next s) ∧
    (linkUp s p = true → f.fcsOk = true → isFlany (advance f.at_ s) f = true → headerBad f = false → fKind f = 4 →
      fPairId f = fget (advance f.at_ s) NET_PAIR_ID_PAIR_ID → matchTpl (advance f.at_ s) p f = none →
      fEpoch f ≤ epoch (advance f.at_ s) →
      let v := bumpWrap (NET_PORT_RX_FRAMES_COUNT p) 1 (advance f.at_ s)
      let h := fData f
      let asked (m : Mailbox) : Bool := m.sent.isSome ∧ m.dest = fSender f ∧ m.txn.toNat = beAt h 2 2 ∧ m.service = beAt h 4 1
      (v.net.mailbox.find? asked = none → exec (.mbxRspReceive p f) s = .next v) ∧
      (∀ m, v.net.mailbox.find? asked = some m → 8 ≤ h.length → beAt h 0 2 = fget v NET_FLANY_CFG_CTRL_ADDR →
        (beAt h 6 2 = m.response.length ∨ beAt h 6 2 = 0) →
        let all := ((if beAt h 6 2 = 0 then [] else m.response) ++ h.drop 8).take 4096
        (fMore f = true → exec (.mbxRspReceive p f) s = .next
          { v with net.mailbox := v.net.mailbox.map (fun x => if x = m then { x with response := all } else x) }) ∧
        (fMore f = false → exec (.mbxRspReceive p f) s = .next (mailboxEnd m 0 (beAt h 5 1) (all.take m.job.d.bufLen) v))))) ∧
  (∀ (p : Fin 2) (f : RxFrame) (s : State), linkUp s (p.val + 2) = true → f.fcsOk = true → isFlany (advance f.at_ s) f = true →
    headerBad f = false → fKind f = kPlantData → fPairId f = fget (advance f.at_ s) NET_PAIR_ID_PAIR_ID →
    let u := advance f.at_ s
    (fSender f ≠ fget u NET_PAIR_ID_COORD_ADDR →
      exec (.plantFrameReceive p f) s = .next (bump (NET_PORT_FORM_ERR_UNMATCHED (p.val + 2)) 1 u)) ∧
    (∀ i t, fSender f = fget u NET_PAIR_ID_COORD_ADDR → matchTpl u (p.val + 2) f = some (i, t) → sizeBad t f = false →
      (fEpoch f < u.net.coordEpoch → exec (.plantFrameReceive p f) s = .next (bump (NET_PORT_SEQ_ERR_STALE (p.val + 2)) 1 u)) ∧
      (u.net.coordEpoch ≤ fEpoch f →
        let v := bumpWrap (NET_PORT_RX_FRAMES_COUNT (p.val + 2)) 1 { u with net.coordEpoch := fEpoch f }
        (eliminated v i t f = false →
          exec (.plantFrameReceive p f) s = .next (writeTemplate i t (cycleAt v f.at_) (fData f) (takeCopy (p.val + 2) i t f v))) ∧
        (eliminated v i t f = true → exec (.plantFrameReceive p f) s =
          .next (secondCopy (p.val + 2) i t (cycleAt v f.at_) f { u with net.coordEpoch := fEpoch f }))))) ∧
  (∀ (p i : Nat) (t : Template) (n : Nat) (f : RxFrame) (s : State),
    ¬ (p < (tplRun s i).frerPort ∧ f.at_ / 10 = (tplRun s i).frerAt / 10 ∧ (tplRun s i).history.head? = f.rtag) →
    secondCopy p i t n f s = bumpWrap (NET_PORT_FRER_ELIM_COUNT p) 1 s) ∧
  (∀ s : State,
    let n := max s.seq.cycles (cycleNow s)
    let m := max s.net.cutCycle (cycleNow s)
    let u := toBoundary n { s with seq.cycles := n + 1 }
    let v := advance (boundary s m + fget s NET_RX_CUTOFF_NS * 16) { s with net.cutCycle := m + 1 }
    exec .syncCycleBoundary s = .next (forEach (dueRx u kPlantData n) u fun (i, t) s =>
      if (tplRun s i).since then setTpl i (fun r => { r with since := false }) s else missTemplate i t s) ∧
    (cycleRuns s = true → exec .rxCutoff s = .next (forEach (dueRx v kCollect m) v fun (i, t) s =>
      if (tplRun s i).seen = m + 1 then s else missTemplate i t s))) ∧
  (∀ (t : Nat) (s : State), (tplRun s t).history ≠ [] →
    exec (.frerRecoveryReset t) s = .next (setTpl t (fun r => { r with history := [] }) (advance ((tplRun s t).frerAt + msec 10) s))) ∧
  (∀ (dest : Nat) (m : Mailbox) (s : State), s.net.mailbox.find? (fun m => m.dest = dest ∧ m.sent.isSome) = some m →
    let u := advance (m.sent.getD 0 + msec 10) s
    (m.tries < 2 →
      let again := { m with tries := m.tries + 1, sent := some u.now, response := [] }
      exec (.mailboxRetry dest) s =
        .next (mailboxSend again { u with net.mailbox := u.net.mailbox.map (fun x => if x = m then again else x) })) ∧
    (2 ≤ m.tries → exec (.mailboxRetry dest) s = .next (mailboxStart (settle
      (conclude m.job 0x06 0 0 [] { u with net.mailbox := u.net.mailbox.erase m }))))) ∧
  (∀ (d : Desc) (s : State),
    let u := openSlot d s
    (Unrefused mailboxCard d (fun _ => mailboxChecks d) s →
      let a := accept 0x0701 d 0 u
      let m : Mailbox := { dest := paramN d 32 2, port := param d 35, service := param d 34, txn := a.1.net.nextTxn,
                           request := d.buf.take (paramN d 36 4), job := a.2 }
      exec (.netMailbox d) s = .next (mailboxStart { a.1 with net.mailbox := a.1.net.mailbox ++ [m], net.nextTxn := a.1.net.nextTxn + 1 })) ∧
    (Unrefused tplReadCard d (fun _ => none) s → paramN d 32 2 ≤ 255 → paramN d 34 2 ≠ 0 → exec (.netTplRead d) s = .next
      (immediate 0x0702 d id (fun s => (tplEntries d s).length) (fun s => (tplEntries d s).flatten) u)) ∧
    (Unrefused ptpReadCard d (fun _ => none) s → exec (.netPtpRead d) s = .next
      (immediate 0x0703 d (fun s => { s with free := s.free + 4 }) (fun s => ((ptpBytes (s.free - 4) s).take d.bufLen).length)
        (fun s => (ptpBytes (s.free - 4) s).take d.bufLen) u)) ∧
    (Unrefused mcastReadCard d (fun _ => none) s → 776 ≤ d.bufLen → exec (.netMcastRead d) s = .next
      (immediate 0x0704 d id (fun _ => 776) (fun s => (List.range 4).flatMap (mcastBytes s)) u)))

/-- A unit that seeks sends HELLO every 10 ms while a lane is up; a HELLO of another pair or of the own side makes a
seeking unit INCOMPAT, formats outside a window make it INCOMPAT with reason 11, and a fitting one lets the two meet
once the own HELLO has left (whether a PARKED active agrees is open, log entry 90). PAIR_WAIT without a peer makes a
PAIRING unit active. Heartbeats leave at multiples of 15,625 ns of device time, in a class-7 opening of P0 and P1;
one that fits sets its path, and FAULT declares the peer failed; 47,000 ns without one end the path, on both the
peer. The loss of the last lane in REDUNDANT makes the standby unfit, and no lane comes up in HOLD or DORMANT; a bad
Hedge frame is discarded and counted; a reliable frame is taken in order of SEQ, sent again 100 us after its last
sending, and without an acknowledgement 10 ms after its first the pair is unfit with 8. Completes, on the conditions
on state and operands stated here alone: helloSend, helloReceive, pairWaitExpiry, heartbeatSend, heartbeatReceive,
pathLossTimeout, peerFailureTimeout, hedgeLaneChange, hedgeFrameReceive, hedgeRepeat, hedgeAckTimeout. -/
def Obligations.PairsMeetBeatAndDetectLoss : Prop :=
  (∀ s : State, seeks s = true →
    let u := advance ((s.red.helloAt.map (· + msec 10)).getD s.now) s
    let v : State := { u with red.helloAt := some u.now }
    let m : HedgeMsg := .hello (ownHello v)
    (hedgeUp v = true → exec .helloSend s = .next (greet (emit (.hedge m (hedgeFrame 2 false 0 v.red.rxSeq (epoch v) 0 0 (hedgePayload m)))
      { v with red.helloOut := true }))) ∧
    (hedgeUp v = false → exec .helloSend s = .next v)) ∧
  (∀ (hello : Hello) (s : State),
    let u := fput RED_COMPAT_PEER_FMT hello.fmt { s with red.peer := some hello }
    let foreign := hello.pairId ≠ fget u NET_PAIR_ID_PAIR_ID ∨ hello.side = fget u RED_STATUS_SIDE
    let v := seeEpoch hello.epoch u
    let w := fput RED_STATUS_INCOMPAT 0 { v with red.helloIn := some hello }
    (fbit s RED_CFG_PAIR_EN = false → exec (.helloReceive hello) s = .next s) ∧
    (fbit s RED_CFG_PAIR_EN = true → foreign → seeks u = true → exec (.helloReceive hello) s = .next (fput RED_STATUS_INCOMPAT 1 u)) ∧
    (fbit s RED_CFG_PAIR_EN = true → ¬ foreign → seeks v = true →
      (formatsFit v hello = false → exec (.helloReceive hello) s = .next (fput RED_STATUS_UNFIT_REASON 11 (fput RED_STATUS_INCOMPAT 1 v))) ∧
      (formatsFit v hello = true → exec (.helloReceive hello) s = .next (greet w)))) ∧
  (∀ (hello : Hello) (s : State), s.red.helloIn = some hello →
    (s.red.helloOut = true → hello.code ∈ [0, 1, 6] → mayPair s = true →
      greet s = if (mayAgree s).2 = true then meetPeer hello (mayAgree s).1 else (mayAgree s).1) ∧
    (s.red.helloOut = false → greet s = s)) ∧
  (∀ s : State,
    let u := advance (s.red.pairEnAt + msec (fget s RED_CFG_PAIR_WAIT)) s
    pair s = 1 → fbit s RED_CFG_PAIR_EN = true → s.red.paired = false → fbit s RED_STATUS_PARKED = false → heldByPeer u = false →
      exec .pairWaitExpiry s = .next (enterActive 0 (fput RED_STATUS_PEER_SEEN 0 u))) ∧
  (∀ s : State, beating s = true →
    let first := devTime s (max s.now (s.red.beatAt.elim 0 (· + 1)))
    let u := advance (localTime s ((first + 250000 - 1) / 250000 * 250000)) s
    let v := if beatMissing u.red.lastA u then bump RED_HB_MISS_PATH_A 1 u else u
    let w := if beatMissing v.red.lastB v then bump RED_HB_MISS_PATH_B 1 v else v
    exec .heartbeatSend s = .next (sendBeats false (openSeven [2, 3] { w with red.beatAt := some w.now }))) ∧
  (∀ (b : Beat) (at_ : Nat) (k : Fin 2) (s : State),
    let counted : State := if linkUp s (k.val + 2) ∧ b.pairId = fget s NET_PAIR_ID_PAIR_ID then
      bumpWrap (NET_PORT_RX_FRAMES_COUNT (k.val + 2)) 1 s else s
    let foreign (u : State) : Prop := b.pairId ≠ fget u NET_PAIR_ID_PAIR_ID ∨ b.side = fget u RED_STATUS_SIDE
    let a (u : State) := showPeer { fput RED_STATUS_PATH_A 1 { u with red.lastA := some at_, red.echoA := (b.sendTime, devNs u at_) } with
      red.peerBeat := some b }
    let o (u : State) := showPeer { fput RED_STATUS_PATH_B 1 { u with red.lastB := some at_, red.echoB := (b.sendTime, devNs u at_) } with
      red.peerBeat := some b }
    let heard (v : State) : State := if b.fault then peerEpoch b.epoch (declareFailed (seeEpoch b.epoch v))
      else peerEpoch b.epoch (steer b at_ (if v.red.takeover.isNone then { v with red.peerFailed := false } else v))
    let u := advance at_ s
    let w := advance at_ counted
    (foreign u → exec (.heartbeatReceive (.laneA k) b at_) s = .next u) ∧
    (foreign w → exec (.heartbeatReceive (.portB k) b at_) s = .next w) ∧
    (¬ foreign u → exec (.heartbeatReceive (.laneA k) b at_) s = .next (heard (a u))) ∧
    (¬ foreign w → exec (.heartbeatReceive (.portB k) b at_) s = .next (heard (o w)))) ∧
  (∀ (t : Nat) (s : State),
    (s.red.lastA = some t → fbit s RED_STATUS_PATH_A = true → exec (.pathLossTimeout false) s =
      .next (showPeer (raise RED_EVENTS_PATH_A_LOST (fput RED_STATUS_PATH_A 0 (advance (t + 752000) s))))) ∧
    (s.red.lastB = some t → fbit s RED_STATUS_PATH_B = true → exec (.pathLossTimeout true) s =
      .next (showPeer (raise RED_EVENTS_PATH_B_LOST (fput RED_STATUS_PATH_B 0 (advance (t + 752000) s))))) ∧
    (s.red.lastA ≠ none ∨ s.red.lastB ≠ none → s.red.peerFailed = false → beating s = true → exec .peerFailureTimeout s =
      .next (declareFailed (advance (max (s.red.lastA.getD 0) (s.red.lastB.getD 0) + 752000) s)))) ∧
  (∀ (lane : Fin 2) (s : State),
    let f := if lane = 0 then RED_STATUS_LANE0 else RED_STATUS_LANE1
    let u := raise RED_EVENTS_LANE_DOWN (fput f 0 s)
    (power s < 2 → exec (.hedgeLaneChange lane true) s = .next (fput f 1 s)) ∧
    (∀ up, up = false ∨ 2 ≤ power s →
      (fbit s f = false → exec (.hedgeLaneChange lane up) s = .next (fput f 0 s)) ∧
      (fbit s f = true → hedgeUp u = true → exec (.hedgeLaneChange lane up) s = .next u) ∧
      (fbit s f = true → hedgeUp u = false → pair u = 4 ∨ pair u = 5 → exec (.hedgeLaneChange lane up) s = .next (unfitNow 8 u)))) ∧
  (∀ (raw : List Byte) (at_ : Nat) (s : State),
    let u := advance at_ s
    let v := peerEpoch (beAt raw 12 4) u
    let w : State := { v with red.unacked := v.red.unacked.filter (fun x => x.seq > beAt raw 8 4) }
    (hedgeBad raw = true → exec (.hedgeFrameReceive raw at_) s = .next (bump RED_HEDGE_ERR_DISCARDED 1 u)) ∧
    (hedgeBad raw = false → beAt raw 1 1 ≤ 2 → exec (.hedgeFrameReceive raw at_) s = .next w) ∧
    (hedgeBad raw = false → 2 < beAt raw 1 1 → exec (.hedgeFrameReceive raw at_) s = .next (orderFrame (beAt raw 4 4) raw w))) ∧
  (∀ (seq : Nat) (x : HedgeTx) (s : State), s.red.unacked.find? (fun x => x.seq = seq) = some x →
    let u := advance (x.last + usec 100) s
    exec (.hedgeRepeat seq) s = .next (bump RED_HEDGE_ERR_REPEATS 1 (hedgeOut { x with last := u.now }
      { u with red.unacked := u.red.unacked.map (fun z => if z.seq = seq then { x with last := u.now } else z) })) ∧
    exec (.hedgeAckTimeout seq) s = .next (unfitNow 8 (advance (x.first + msec 10) s)))

/-- In code 5 a snapshot message becomes a shadow instance behind those that wait; in code 3 it waits for the
transfer. A snapshot or a digest without its partner 2 T_sync after its time makes the standby unfit with 3 or 1. A
digest is compared. A unit that takes over takes no digest, time-out or unfit message. An unfit message ends shadow
execution, or the transfer, unless it crossed the unit's own of the same reason. A source sends the program, then
round 1 with all its state, then rounds of the lines that changed, the last at a quiescent point once they are at
most 1 MiB and with the commands and transactions that still wait; 16 rounds or a limit end the transfer with 12;
completion makes the source ACTIVE, and the joiner STANDBY once its queue is worked through and its lag fits. A
joiner installs the items of a state message and queues mirrored commands. At a standby a mirrored command whose
boundary has passed makes it unfit with 5, another one is taken. Completes, on the conditions on state and operands
stated here alone: snapshotMessageReceive, snapshotTimeout, mirrorCmdReceive, digestReceive, digestTimeout,
unfitReceive, stateMessageReceive, transferQuiescentPoint, transferTimeout, transferComplete. -/
def Obligations.ShadowsFollowTheirActiveAndTransfersRun : Prop :=
  (∀ (m : SnapMsg) (s : State),
    let u : State := { s with red.mirrored := put m.task.val (m.inst, m.at_) s.red.mirrored }
    let v := drain u
    let waits (s : State) : State := { s with red.queued := s.red.queued ++ [.snap m] }
    (pair s = 5 → s.red.takeover = none → exec (.snapshotMessageReceive m) s =
      .next (if v.red.queued.isEmpty then takeSnapshot m v else waits v)) ∧
    (pair s = 3 → s.red.xfer.any (·.complete) = false → exec (.snapshotMessageReceive m) s = .next (waits u)) ∧
    (pair s ≠ 3 → pair s ≠ 5 → exec (.snapshotMessageReceive m) s = .next s)) ∧
  (∀ (t : Fin 32) (at_ : Nat) (s : State), pair s = 5 → s.red.takeover = none →
    ((∀ x, look s.red.mirrored t = some x → x.2 < at_) →
      exec (.snapshotTimeout t at_) s = .next (unfitNow 3 (advance (localTime s ((at_ + 2 * tSync s) * 16)) s))) ∧
    (∀ x, look s.red.mirrored t = some x → at_ ≤ x.2 → exec (.snapshotTimeout t at_) s = .next s)) ∧
  (∀ (m : Digest) (s : State), twinned s = true → takingOver s = false →
    exec (.digestReceive m) s = .next (drain (compareDigests { s with red.peerDigests := s.red.peerDigests ++ [m] }))) ∧
  (∀ (t : Fin 32) (inst : Nat) (m : Digest) (s : State),
    (pair s = 4 ∧ s.red.ownDigests.find? (fun m => m.task = t ∧ m.inst = inst) = some m ∨
      pair s = 5 ∧ s.red.takeover = none ∧ s.red.peerDigests.find? (fun m => m.task = t ∧ m.inst = inst) = some m) →
    exec (.digestTimeout t inst) s = .next (unfitNow 1 (fput RED_MISMATCH_INSTANCE inst (fput RED_MISMATCH_TASK t (fput RED_MISMATCH_VALID 1
      (raise RED_EVENTS_DIGEST_MISMATCH (advance (localTime s ((m.time + 2 * tSync s) * 16))
        { s with red.ownDigests := s.red.ownDigests.erase m, red.peerDigests := s.red.peerDigests.erase m }))))))) ∧
  (∀ (reason : Nat) (s : State),
    (takingOver s = true → exec (.unfitReceive reason) s = .next s) ∧
    (takingOver s = false → crossed reason s = true → exec (.unfitReceive reason) s = .next { s with red.unfitSent := none }) ∧
    (takingOver s = false → crossed reason s = false → pair s = 4 ∨ pair s = 2 → exec (.unfitReceive reason) s = .next (markUnfit reason s)) ∧
    (takingOver s = false → crossed reason s = false → pair s = 5 ∨ pair s = 3 → exec (.unfitReceive reason) s = .next (markUnfit reason (abortAll s)))) ∧
  (∀ (x : Xfer) (s : State), s.red.xfer = some x →
    (pair s = 2 → x.instant = none → x.sent = none → x.zero = false →
      exec .transferQuiescentPoint s = .next (hedgeSend (.state (programItems s)) (bump RED_XFER_KIB (itemsKib (programItems s))
        { s with red.xfer := some { x with zero := true } }))) ∧
    (pair s = 2 → x.instant = none → x.sent = none → x.zero = true →
      exec .transferQuiescentPoint s = .next (sendRound x 1 (allItems s ++ tableItems s) s)) ∧
    (∀ data live, pair s = 2 → x.instant = none → x.sent = some (data, live) →
      let dirty := dirtyItems s data live
      let y : Xfer := { x with qualified := some (x.qualified.getD s.now) }
      (x.qualified = none → 16384 < dirty.length → x.round < 16 →
        exec .transferQuiescentPoint s = .next (sendRound x (x.round + 1) (dirty ++ tableItems s) s)) ∧
      (x.qualified = none → 16384 < dirty.length → 16 ≤ x.round → exec .transferQuiescentPoint s = .next (unfitNow 12 s)) ∧
      (x.qualified ≠ none ∨ dirty.length ≤ 16384 → exec .transferQuiescentPoint s =
        .next (if quiescent s 32000 then mirrorWaiting (sendRound { y with instant := some s.now } (x.round + 1) (dirty ++ tableItems s) s)
          else { s with red.xfer := some y }))) ∧
    (pair s = 2 ∨ pair s = 3 → exec .transferTimeout s = .next (unfitNow 12 (advance (transferLimit x) s)) ∧
      (x.instant ≠ none ∨ x.qualified = none → transferLimit x = x.started + secs 10) ∧
      (∀ q, x.instant = none → x.qualified = some q → transferLimit x = min (q + msec 100) (x.started + secs 10))) ∧
    (pair s = 2 → x.instant ≠ none → exec .transferComplete s =
      .next (fput RED_STATUS_FIT 1 (fput RED_XFER_RESULT 2 (setPair 4 { s with red.xfer := none })))) ∧
    (let v := joinerInstalled x s
     pair s = 3 → exec .transferComplete s =
      .next (if pair v = 3 ∧ v.red.queued.isEmpty ∧ allIdle v (2 ^ 32 - 1) ∧ v.red.lags.headD 0 ≤ tSync v then
        fput RED_STATUS_FIT 1 (fput RED_XFER_RESULT 2 (setPair 5 { v with red.xfer := none })) else v))) ∧
  (∀ (items : List XferItem) (s : State), pair s = 3 → s.red.xfer ≠ none → exec (.stateMessageReceive items) s =
    .next (bump RED_XFER_KIB (itemsKib items) (items.foldl installItem s))) ∧
  (∀ (op : Nat) (d : Desc) (cycle : Nat) (s : State), pair s = 5 → s.red.takeover = none →
    (mirrorLate op d cycle s = true → exec (.mirrorCmdReceive op d cycle) s = .next (unfitNow 5 s)) ∧
    (mirrorLate op d cycle s = false → exec (.mirrorCmdReceive op d cycle) s = .next (takeMirrored op d cycle s))) ∧
  (∀ (op : Nat) (d : Desc) (cycle : Nat) (s : State), pair s = 3 → s.red.xfer.any (·.complete) = false →
    exec (.mirrorCmdReceive op d cycle) s = .next { s with red.queued := s.red.queued ++ [.cmd op d cycle] })

/-- A standby whose active failed becomes active in code 6 at the first boundary after the declaration; a unit that
sent an explicit fault yields there. RED_HANDOVER names the boundary of cycle N + 2 and asks the standby, which
accepts while it is fit and refuses PAIR_NOT_READY otherwise; at the boundary the old active, if nothing refuses the
handover there, becomes STANDBY with outputs 10 us longer and the standby ACTIVE, else the command ends ABORTED and
the standby is told; a request without an answer ends ABORTED. RED_RESYNC starts the transfer on a DEGRADED active
whose peer's formats fit and lets any other unit seek; RED_PARK makes the pair unfit with 10; RED_READ answers.
Completes, on the conditions on state and operands stated here alone: takeoverBoundary, redHandover, handoverReceive,
handoverBoundary, handoverOutputRelease, redResync, redPark, redRead. -/
def Obligations.TakeoverAndHandoverMoveTheActiveRole : Prop :=
  (∀ (t : Nat) (s : State), pair s = 5 → s.red.takeover = some t → exec .takeoverBoundary s =
    .next (remember 0 (bump RED_COUNTS_TAKEOVERS 1 (raise RED_EVENTS_TAKEOVER (becomeActive 6 (fput RED_STATUS_FIT 0
      (drain (toBoundary (boundaryAfter s t) s)))))))) ∧
  (∀ s : State, s.red.takeover = none → s.red.faultSent = true → standby s = false →
    exec .takeoverBoundary s = .next (yieldNow (toBoundary (boundaryAfter s s.now) s))) ∧
  (∀ (h : Nat) (s : State),
    (pair s = 5 → s.red.takeover = none → fbit s RED_STATUS_FIT = true → ∀ a b, exec (.handoverReceive .request h a b) s =
      .next (hedgeSend (.handover .acceptance h 0 0) { s with red.handover := some { h, source := false, accepted := true, job := none, outputsAt := none } })) ∧
    (pair s ≠ 5 ∨ s.red.takeover ≠ none ∨ fbit s RED_STATUS_FIT = false → ∀ a b, exec (.handoverReceive .request h a b) s =
      .next (hedgeSend (.handover .refusal h 0x01 0x0004) s)) ∧
    (∀ x status reason, s.red.handover = some x → x.source = true →
      exec (.handoverReceive .acceptance h status reason) s = .next { s with red.handover := some { x with accepted := true } } ∧
      (∀ jb, x.job = some jb → exec (.handoverReceive .refusal h status reason) s =
        .next (ended jb status reason 0 { s with red.handover := none })))) ∧
  (∀ (x : Handover) (s : State), s.red.handover = some x →
    let u := toBoundary x.h s
    (∀ t, x.outputsAt = some t → exec .handoverOutputRelease s =
      .next (islandSafe (advance t { s with red.handover := if x.job.isSome then some { x with outputsAt := none } else none }))) ∧
    (x.outputsAt = none →
      (∀ jb, x.accepted = false → x.job = some jb → exec .handoverBoundary s =
        .next (ended jb 0x0A 0x0004 0 { u with red.handover := none })) ∧
      (∀ jb r, x.accepted = true → x.source = true → pair s = 4 → handoverAgain u = some r → x.job = some jb → exec .handoverBoundary s =
        .next (ended jb 0x0A r 0 (hedgeSend (.handover .refusal x.h 0x0A r) { u with red.handover := none }))) ∧
      (x.accepted = true → x.source = true → pair s = 4 → handoverAgain u = none → exec .handoverBoundary s =
        .next (remember 2 (setPair 5 (abortMailbox
          { u with red.handover := some { x with outputsAt := some (u.now + usec 10) }, red.peerDigests := [] })))) ∧
      (x.accepted = true → x.source = false → pair s = 5 → exec .handoverBoundary s = .next (remember 2 (becomeActive 4 (raiseEpoch u)))))) ∧
  (∀ (d : Desc) (s : State),
    let u := openSlot d s
    let n := cycleNow u + 2
    let a := accept 0x0801 d n u
    let b := accept 0x0802 d 0 u
    let v := fput RED_STATUS_PARKED 0 { b.1 with red.resyncJob := some b.2 }
    (Unrefused (handoverCard s) d handoverChecks s → exec (.redHandover d) s = .next (hedgeSend (.handover .request n 0 0)
      { a.1 with red.handover := some { h := n, source := true, accepted := false, job := some a.2, outputsAt := none } })) ∧
    (Unrefused resyncCard d (fun _ => none) s → fbit u RED_CFG_PAIR_EN = true → pair u = 1 ∨ pair u = 6 → u.red.peer ≠ none → u.red.resyncJob = none →
      exec (.redResync d) s = .next (if pair v = 6 ∧ mayPair v ∧ v.red.peer.any (formatsFit v) then agree true v else v)) ∧
    (Unrefused parkCard d (fun _ => none) s → 2 ≤ pair u → pair u ≤ 5 →
      exec (.redPark d) s = .next (immediate 0x0803 d (reportUnfit 10) (fun _ => 0) (fun _ => []) u)) ∧
    (Unrefused redReadCard d (fun _ => none) s → exec (.redRead d) s = .next
      (immediate 0x0804 d id (fun s => ((redBytes s).take d.bufLen).length) (fun s => (redBytes s).take d.bufLen) u)))

/-- The sample of a SYNC cycle at IN_OFS carries the accepted states and faults of all channels and the states of the
groups, and its valid frame becomes the input record within 4.9 us; one that failed counts as missed. A crossing at a
terminal that is no output restarts the filter; a level is accepted at once with DEBOUNCE 0 and D us after the
crossing otherwise; an output's terminal takes its new level. OPEN_WIRE, OVERLOAD, THERMAL, SHORT and OPEN_LOAD set
their flag, count and raise CH_FAULT, and a short terminal is low; EXT_HIGH sets its flag only, its terminal high;
OPEN_WIRE clears again. An overload or a thermal shutdown opens the gang, latched with OVL_LATCH; without it the
channel closes again 100 ms later while its command is 1. Completes, on the conditions on state and operands stated
here alone: fieldSample, fieldInputRecordWrite, inputLevelChange, debounceAccept, openWireDetect, openWireClear,
overloadDetect, thermalShutdown, overloadRetry, shortDetect, openLoadDetect, extHighDetect. -/
def Obligations.FieldInputsAndFaultsAreTaken : Prop :=
  (∀ s : State, logicOff s = false → s.fio.inFrame = none → s.fio.powerUp = false →
    let n := max s.fio.sampled (cycleNow s)
    let u := advance (boundary s n + fget s FIO_LINK_CFG_IN_OFS * 160) { s with fio.sampled := n + 1 }
    exec .fieldSample s = .next (forEach (List.range 32)
      { u with
        fio.inFrame := some { time := nsNow u, seq := u.fio.seq, st := wordOf (stateBit u), fl := wordOf (faultBit u)
                              ok := okMask u, safe := safeMask u }
        fio.seq := (u.fio.seq + 1) % 2 ^ 32 }
      fun n s => setChan n (fun c => { c with seen := c.level }) s)) ∧
  (∀ (f : InFrame) (s : State), s.fio.inFrame = some f →
    let u := advance (localTime (fresh s).1 (f.time * 16) + Config.freeNat (fresh s).2 % 78401) (fresh s).1
    exec (.fieldInputRecordWrite true) s = .next (inputFrame f u) ∧
    exec (.fieldInputRecordWrite false) s = .next (sampleMissed (raise FIO_EVENTS_CRC_ERR (bump FIO_LINK_ERR_CRC 1 u)))) ∧
  (∀ (ch : Fin 32) (level : Bool) (at_ : Nat) (s : State),
    let v := advance at_ s
    let u := setChan ch (fun c => { c with comp := level, compAt := at_, filterAt := at_ }) v
    (isOutput v ch = false →
      (isInput u ch = true → fget u (FIO_CH_CFG_DEBOUNCE ch) = 0 → exec (.inputLevelChange ch level at_) s = .next (acceptLevel ch u)) ∧
      (isInput u ch = false ∨ fget u (FIO_CH_CFG_DEBOUNCE ch) ≠ 0 → exec (.inputLevelChange ch level at_) s = .next u)) ∧
    (isOutput v ch = true → exec (.inputLevelChange ch level at_) s = .next (terminalChange ch level v))) ∧
  (∀ (ch : Fin 32) (s : State), isInput s ch = true →
    (fget s (FIO_CH_CFG_DEBOUNCE ch) ≠ 0 → (chan s ch).comp ≠ (chan s ch).level → exec (.debounceAccept ch) s =
      .next (acceptLevel ch (advance ((chan s ch).filterAt + usec (fget s (FIO_CH_CFG_DEBOUNCE ch))) s))) ∧
    (fbit s (FIO_CH_CFG_OPEN_DET ch) = true →
      exec (.openWireDetect ch) s = .next (encoderFault ch (flagged ch 1 (FIO_CH_STAT_OPEN_WIRE ch) s)))) ∧
  (∀ (ch : Fin 32) (s : State), exec (.openWireClear ch) s =
    .next (fput (FIO_CH_STAT_OPEN_WIRE ch) 0 (setChan ch (fun c => { c with active := c.active &&& 0x7D }) s))) ∧
  (∀ (ch : Fin 32) (s : State), chMode s ch = 2 ∨ chMode s ch = 5 →
    let l := leadOf s ch
    let opened (bit : Nat) (f : Field) := setChan ch (fun c => { c with opened := true, openedAt := s.now }) (flagged ch bit f s)
    let latched (u : State) := forEach (gangOf s l) u fun m u => fput (FIO_CH_STAT_LATCHED m) 1 u
    ((fget s FIO_OUTPUT_LEVEL).testBit ch = true →
      exec (.shortDetect ch) s = .next (setChan ch (fun c => { c with term := some false }) (flagged ch 6 (FIO_CH_STAT_SHORT ch) s)) ∧
      exec (.openLoadDetect ch) s = .next (flagged ch 2 (FIO_CH_STAT_OPEN_LOAD ch) s) ∧
      (fbit s (FIO_CH_CFG_OVL_LATCH l) = true →
        exec (.overloadDetect ch) s = .next (redriveGang ch (latched (opened 3 (FIO_CH_STAT_OVERLOAD ch)))) ∧
        exec (.thermalShutdown ch) s = .next (redriveGang ch (latched (opened 4 (FIO_CH_STAT_THERMAL ch))))) ∧
      (fbit s (FIO_CH_CFG_OVL_LATCH l) = false →
        exec (.overloadDetect ch) s = .next (redriveGang ch (opened 3 (FIO_CH_STAT_OVERLOAD ch))) ∧
        exec (.thermalShutdown ch) s = .next (redriveGang ch (opened 4 (FIO_CH_STAT_THERMAL ch))))) ∧
    ((fget s FIO_OUTPUT_LEVEL).testBit ch = false → exec (.extHighDetect ch) s =
      .next (setChan ch (fun c => { c with comp := true }) (setChan ch (fun c => { c with active := c.active ||| 0x20 }) (raise (FIO_CH_STAT_EXT_HIGH ch) s))))) ∧
  (∀ (ch : Fin 32) (s : State), (chan s ch).opened = true → fbit s (FIO_CH_CFG_OVL_LATCH (leadOf s ch)) = false → commandOf s ch = true →
    exec (.overloadRetry ch) s = .next (closeSwitches ch (advance ((chan s ch).openedAt + msec 100) s)))

/-- An output frame goes 50 us after the end of the last; the island applies a valid one, and counts a bad one as CRC
error; a frame that waited follows. 100 us without a valid frame hold the outputs, and each group with a SAFE_TIMEOUT
goes safe that long after the last valid frame and stays so. The supplies are measured every 100 us. FIO_CLEAR_LATCH
and FIO_RELEASE apply at the boundary of cycle N + 2: the first closes the named latched switches, the second
releases the named groups, with the level of every stage that is off at 0, in RUN and ends ABORTED outside it;
FIO_READ answers. Completes, on the conditions on state and operands stated here alone: fieldOutputRefresh,
islandOutputFrameReceive, fieldLinkSilence, fieldSafeTimeout, groupSupplyMeasure, fioClearLatch, clearLatchApply,
fioRelease, groupReleaseApply, fioRead. -/
def Obligations.FieldOutputsFollowTheirFramesAndGoSafe : Prop :=
  (∀ s : State, s.fio.outFrame = none → s.fio.powerUp = false → logicOff s = false →
    exec .fieldOutputRefresh s = .next (sendField (advance (s.fio.outEnd + usec 50) s))) ∧
  (∀ (w : Word) (s : State), s.fio.outFrame = some w → s.fio.powerUp = false →
    let u := advance s.fio.outEnd { s with fio.outFrame := none }
    let follow (s : State) := if s.fio.outNext then sendField s else s
    exec (.islandOutputFrameReceive true) s = .next (follow (applyWord w u)) ∧
    exec (.islandOutputFrameReceive false) s = .next (follow (raise FIO_EVENTS_CRC_ERR (bump FIO_LINK_ERR_CRC 1 u)))) ∧
  (∀ s : State, s.fio.silent = false → s.fio.powerUp = false → exec .fieldLinkSilence s =
    .next (advance (s.fio.validAt + usec 100) { s with
      fio.silent := true
      fio.timeouts := (List.range 4).map (fun g => (g, fget s (FIO_GRP_CFG_SAFE_TIMEOUT g))) })) ∧
  (∀ (g : Fin 4) (t : Nat) (s : State), s.fio.silent = true → look s.fio.timeouts g = some t →
    let u := advance (s.fio.validAt + msec t) { s with fio.safeLatched := s.fio.safeLatched ||| BitVec.ofNat 4 (2 ^ g.val) }
    let v := forEach ((List.range 8).map (8 * g.val + ·)) u fun n s => edgeSafe n (chanSafe n s)
    (t ≠ 0xFFFF → s.fio.safeLatched.getLsbD g = false → exec (.fieldSafeTimeout g) s =
      .next (fput (FIO_GRP_STAT_SAFE g) 1 (fput FIO_STATUS_SAFE_LATCHED 1 (raise FIO_EVENTS_TIMEOUT_SAFE v)))) ∧
    (t = 0xFFFF ∨ s.fio.safeLatched.getLsbD g = true → exec (.fieldSafeTimeout g) s = .next s)) ∧
  (∀ (a b c d : Nat) (s : State),
    let t := s.fio.measAt.elim (s.now + Config.freeNat (fresh s).2 % usec 100) (· + usec 100)
    exec (.groupSupplyMeasure a b c d) s = .next (measureGroup 3 d (measureGroup 2 c (measureGroup 1 b (measureGroup 0 a
      (advance t { (fresh s).1 with fio.measAt := some t })))))) ∧
  (∀ (d : Desc) (s : State),
    let u := openSlot d s
    (Unrefused clearLatchCard d (fun _ => none) s → exec (.fioClearLatch d) s = .next (deferCmd 0x0901 d .clearLatch u)) ∧
    (Unrefused fioReleaseCard d (fun _ => none) s → ctl u = 3 → param d 32 ≤ 15 →
      exec (.fioRelease d) s = .next (deferCmd 0x0902 d .release u)) ∧
    (Unrefused fioReadCard d (fun _ => none) s → exec (.fioRead d) s = .next
      (immediate 0x0903 d id (fun s => ((fioBytes s).take d.bufLen).length) (fun s => (fioBytes s).take d.bufLen) u))) ∧
  (∀ (x : Deferred) (s : State),
    let u := turnOf x s
    let groups := param x.job.d 32
    let v := forEach (setBits 4 groups) (openStages { u with fio.safeLatched := u.fio.safeLatched &&& ~~~(BitVec.ofNat 4 groups) })
      (fun g s => fput (FIO_GRP_STAT_SAFE g) 0 s)
    (Takes (· = .clearLatch) x s → exec .clearLatchApply s = .next (ended x.job 0 0 0 (forEach (setBits 32 (paramN x.job.d 32 4)) u fun n s =>
      if fbit s (FIO_CH_STAT_LATCHED n) then closeSwitches n s else s))) ∧
    (Takes (· = .release) x s → ctl u = 3 → exec .groupReleaseApply s =
      .next (ended x.job 0 0 0 (fput FIO_STATUS_SAFE_LATCHED (if v.fio.safeLatched = 0 then 0 else 1) v))) ∧
    (Takes (· = .release) x s → ctl u ≠ 3 → exec .groupReleaseApply s = .next (ended x.job 0x0A 0x0010 0 u)))

/-- A loop frame goes 1 ms after the last and a valid one sets the target; 5 ms of silence hold it and SAFE_TIMEOUT
makes it safe; 5 ms without readback end LINK_UP; a conversion every 250 us is recorded and written, and a frame with
a bad CRC is counted. COMPLIANCE, READBACK_DEV and MISWIRE set their flags, go to the event recorder, and clear;
READBACK_DEV after a deviation of 1 s that began 100 ms or more behind the last change of the target, and its
clearing after 1 s near the target. An accepted HART request waits with a new token, is told to the host but by a
standby, is answered Busy after 200 ms, fetched and replied to by its token. Loop power brings the island's image;
whether it loads is open. The trim starts, records two points, writes its record at APPLY, and is cancelled by
command or after 600 s; LPT_READ answers. Completes, on the conditions on state and operands stated here alone:
loopOutputRefresh, loopFrameReceive, complianceDetect, complianceClear, readbackDevDetect, readbackDevClear,
miswireDetect, miswireClear, loopReadbackConversion, loopLinkSilence, loopSafeTimeout, loopReadbackSilence,
loopPowerAppear, hartRequestReceive, hartReplyTimeout, lptHartFetch, lptHartReply, trimBegin, trimPoint, trimApply,
trimCancel, trimIdleTimeout, lptRead. -/
def Obligations.LoopsFollowTheirFramesFaultsAndTrims : Prop :=
  (∀ (x : Fin 2) (s : State), (loop s x).frame = none → loopPowerUp s x = false → logicOff s = false →
    exec (.loopOutputRefresh x) s = .next (sendLoop x (advance ((loop s x).frameAt + msec 1) s))) ∧
  (∀ (x : Fin 2) (w : Nat) (s : State), (loop s x).frame = some w → (loop s x).powered = true → (loop s x).powerUp = false →
    let u := setLoop x (fun l => { l with frame := none }) s
    exec (.loopFrameReceive x true) s = .next (loopWordIn x w u) ∧
    exec (.loopFrameReceive x false) s = .next (raise (LPT_LT_FLAGS_CRC_ERR x) (setLoop x (fun l => { l with crcErrors := l.crcErrors + 1 }) u))) ∧
  (∀ (x : Fin 2) (s : State),
    let l := loop s x
    let timeout := fget s (LPT_LT_CFG_SAFE_TIMEOUT x)
    let held := changeLoop x (fun l => { l with silent := true, trim := none }) (advance (l.validAt + msec 5) s)
    let at_ := advance ((l.convAt.map (· + usec 250)).getD s.now) s
    let conv := fun (na : Nat) => noteDeviation x na (setLoop x (fun l => { l with convAt := some at_.now }) at_)
    (l.silent = false → l.powered = true → l.powerUp = false → exec (.loopLinkSilence x) s =
      .next (fput (LPT_LT_STAT_HOLDING x) 1 (setLoop x (fun l => { l with hold := some (loopTarget held x) }) held))) ∧
    (l.powered = true → l.powerUp = false → timeout ≠ 0xFFFF → l.safeOnTimeout = false → exec (.loopSafeTimeout x) s = .next (raise (LPT_LT_FLAGS_TIMEOUT_SAFE x)
      (changeLoop x (fun l => { l with safeOnTimeout := true }) (advance (l.validAt + msec timeout) s)))) ∧
    (fbit s (LPT_LT_STAT_LINK_UP x) = true → exec (.loopReadbackSilence x) s =
      .next (fput (LPT_LT_STAT_LINK_UP x) 0 (cancelTrim x (advance (l.rxAt + msec 5) s)))) ∧
    (l.powered = true → l.powerUp = false → logicOff s = false → ∀ na mv, exec (.loopReadbackConversion x na mv true) s =
      .next (readbackIn x na mv (nsNow at_) (advance (at_.now + Config.freeNat (fresh (conv na)).2 % (usec 30 + 1)) (fresh (conv na)).1)) ∧
      exec (.loopReadbackConversion x na mv false) s =
        .next (raise (LPT_LT_FLAGS_CRC_ERR x) (setLoop x (fun l => { l with crcErrors := l.crcErrors + 1 }) (conv na))))) ∧
  (∀ (x : Fin 2) (s : State),
    (exec (.complianceClear x) s = .next (fput (LPT_LT_FLAGS_COMPLIANCE x) 0 (setLoop x (fun l => { l with compliance := false }) s))) ∧
    (∀ t, (loop s x).nearSince = some t → exec (.readbackDevClear x) s =
      .next (fput (LPT_LT_FLAGS_READBACK_DEV x) 0 (setLoop x (fun l => { l with dev := false }) (advance (t + secs 1) s)))) ∧
    (exec (.miswireClear x) s = .next (fput (LPT_LT_FLAGS_MISWIRE x) 0 (changeLoop x (fun l => { l with miswire := false }) s))) ∧
    ((loop s x).powered = true →
      exec (.complianceDetect x) s = .next (log 7 .loopFault x (LPT_LT_FLAGS_COMPLIANCE x).lsb (raise (LPT_LT_FLAGS_COMPLIANCE x)
        (setLoop x (fun l => { l with compliance := true, devSince := none }) s))) ∧
      exec (.miswireDetect x) s = .next (log 7 .loopFault x (LPT_LT_FLAGS_MISWIRE x).lsb (raise (LPT_LT_FLAGS_MISWIRE x)
        (changeLoop x (fun l => { dropRequest l with miswire := true, trim := none, devSince := none }) s)))) ∧
    (∀ t, (loop s x).devSince = some t → compares s x = true → (loop s x).targetAt + msec 100 ≤ t →
      exec (.readbackDevDetect x) s = .next (log 7 .loopFault x (LPT_LT_FLAGS_READBACK_DEV x).lsb (raise (LPT_LT_FLAGS_READBACK_DEV x)
        (setLoop x (fun l => { l with dev := true }) (advance (t + secs 1) s))))) ∧
    (let u := setLoop x (fun l => { l with powered := true, powerUp := true }) s
     let w := emit (.islandImage (3 + x) (u.boot.region.getD 3 [])) u
     let v := configureLoop x (fresh w).1
     let failed := Config.freeBits 2 (fresh w).2
     (boot u ≠ 4 → exec (.loopPowerAppear x) s = .next u) ∧
     (boot u = 4 → failed.getLsbD 0 = true → exec (.loopPowerAppear x) s = .next (if failed.getLsbD 1 then
       raise (LPT_LT_FLAGS_CRC_ERR x) (setLoop x (fun l => { l with crcErrors := l.crcErrors + 1 }) (fresh w).1) else (fresh w).1)) ∧
     (boot u = 4 → failed.getLsbD 0 = false → exec (.loopPowerAppear x) s =
      .next (if (loop v 0).deferred = false ∧ (loop v 1).deferred = false then fput (BOOT_COMP_STAT_STATE 3) 1 v else v)))) ∧
  (∀ (x : Fin 2) (f : HartFrame) (s : State),
    let u := advance f.at_ s
    (∀ r, hartAccepts u x f = some r →
      let v := setLoop x (fun l => { dropRequest l with req := some r, nextToken := r.token + 1 }) u
      r.token = (loop u x).nextToken ∧ r.at_ = u.now ∧
      (standby u = false → exec (.hartRequestReceive x f) s =
        .next (event 7 0x401 (x.val + 2 ^ 16 * r.token.toNat) 0 (bump (LPT_LT_HART_COUNT_REQUESTS x) 1 v))) ∧
      (standby u = true → exec (.hartRequestReceive x f) s = .next v)) ∧
    (hartAccepts u x f = none → exec (.hartRequestReceive x f) s = .next u)) ∧
  (∀ (x : Fin 2) (r : HartReq) (s : State), (loop s x).req = some r →
    let u := advance (r.at_ + msec 200) (setLoop x (fun l => { l with req := none }) s)
    exec (.hartReplyTimeout x) s =
      .next (if hartOn u x then bump (LPT_LT_HART_COUNT_BUSY x) 1 (emit (.hart x (hartFrame u x r 32 0 [])) u) else u)) ∧
  (∀ (x : Fin 2) (t : Trim) (s : State), (loop s x).trim = some t →
    exec (.trimIdleTimeout x) s = .next (cancelTrim x (advance (t.stepAt + secs 600) s))) ∧
  (∀ (d : Desc) (s : State),
    let u := openSlot d s
    let x := param d 32
    let na := fget s (LPT_LT_CURRENT_NA x)
    let begun (now : Nat) := changeLoop x (fun l => { l with trim := some { stage := 1, stepAt := now } })
    (Unrefused hartFetchCard d (tokenCheck d) s → exec (.lptHartFetch d) s = .next (immediate 0x0912 d id
      (fun s => (loop s x).req.elim 0 (·.cmd.toNat)) (fun s => ((loop s x).req.elim [] (·.data)).take d.bufLen) u)) ∧
    (Unrefused hartReplyCard d (tokenCheck d) s → (loop u x).req.any (fun r => u.now > r.at_ + msec 200) = false →
      exec (.lptHartReply d) s = .next (immediate 0x0913 d (hartReply d) (fun _ => 0) (fun _ => []) u)) ∧
    (Unrefused trimCard d (fun _ => none) s → x ≤ 1 →
      (param d 33 = 0 → (loop u x).trim = none → (loop u x).miswire = false → exec (.trimBegin d) s =
        .next (immediate 0x0911 d (fun s => begun s.now s) (fun _ => 0) (fun _ => []) u)) ∧
      (∀ t, param d 33 = 1 → (loop u x).trim = some t → t.stage = 1 ∨ t.stage = 2 → exec (.trimPoint d) s =
        .next (immediate 0x0911 d (trimPoint d) (fun _ => na) (fun _ => []) u)) ∧
      (∀ t, param d 33 = 3 → (loop u x).trim = some t → exec (.trimCancel d) s =
        .next (immediate 0x0911 d (cancelTrim x) (fun _ => 0) (fun _ => []) u))) ∧
    (∀ t, UnrefusedBefore { trimCard with guards := [2] } d (fun _ => none) s → x ≤ 1 → param d 33 = 2 → (loop s x).trim = some t → t.stage = 3 →
      trimInRange t = true →
      let a := accept 0x0911 d 0 u
      exec (.trimApply d) s = .next (writeRecord (trimRecord x) (trimData t) (some a.2) a.1)) ∧
    (Unrefused lptReadCard d (fun _ => none) s → x ≤ 1 → exec (.lptRead d) s = .next
      (immediate 0x0914 d id (fun s => ((lptBytes s x).take d.bufLen).length) (fun s => (lptBytes s x).take d.bufLen) u)))

/-- CFG_BEGIN opens a transaction; CFG_PUT merges its items, a later item of a target replacing an earlier one;
CFG_COMMIT makes it wait for its apply point, where the checks are made again and all items take effect, with
CFG_APPLIED and, with a confirm time, the confirm window; a failed check returns it to OPEN, and one with a deferred
command of a lower JSEQ at its boundary waits for it. No gap within GAP_TIMEOUT ends TIMEOUT 0x0503. CFG_ABORT closes
an OPEN transaction and rolls back a CONFIRMING one, as the end of the window does, and a rollback is mirrored as it
is issued or, of selector 2, as it ends; CFG_CONFIRM closes it; 600 s without a command abort an OPEN one with
0x0504; CFG_READ answers. Completes, on the conditions on state and operands stated here alone: cfgBegin, cfgPut,
cfgCommit, cfgApply, txnNoGap, cfgAbort, cfgConfirm, cfgConfirmWindowEnd, txnIdle, cfgRead. -/
def Obligations.TransactionsOpenCollectApplyAndRollBack : Prop :=
  (∀ (d : Desc) (s : State),
    let u := openSlot d s
    (Unrefused beginCard d (beginChecks d) s → exec (.cfgBegin d) s = .next (immediate 0x0301 d (fun s => { s with cmd.txns := s.cmd.txns ++
      [{ ident := d.ident, structural := opflag d 4, origin := d.origin, session := sessionOf d, lastAt := s.now }] })
      (fun _ => 0) (fun _ => []) u)) ∧
    (Unrefused cfgReadCard d (fun _ => none) s → exec (.cfgRead d) s = .next (immediate 0x0306 d id (fun s => (txnsRead d s).length)
      (fun s => (txnsRead d s).flatMap txnBytes) u))) ∧
  (∀ (d : Desc) (s : State),
    let t := touchTxn putCard d s
    Unrefused putCard d (putChecks d) t → exec (.cfgPut d) s = .next (immediate 0x0302 d
      (setTxn d.ident (fun x => { x with items := mergeItems x.items ((itemsOf d.buf).getD []) }))
      (fun s => (txn s d.ident).elim 0 (·.items.length)) (fun _ => []) (openSlot d t))) ∧
  (∀ (d : Desc) (x : Txn) (s : State),
    let k := cfgCommitCard s d
    let t := touchTxn k d s
    let u := openSlot d t
    let c := if d.apply = 1 then paramN d 32 8 else cycleNow u + 2
    let at_ := if d.apply = 0 then immediatePoint u x.items else if d.apply = 1 then effectPoint u x.items (boundary u c) else boundary u c
    let effect := if d.apply = 2 then 0 else if d.apply = 1 then c else cycleAt u at_
    let gap := if paramN d 40 2 = 0 then 100 else paramN d 40 2
    let a := accept 0x0303 d effect u
    let y : Txn := { x with
      state := .committing, job := some a.2, sel := d.apply, accepted := cycleNow u, cycle := effect, due := at_
      gapMs := gap, gapUntil := boundary u c + msec gap, confirmS := paramN d 42 2 }
    let v := setTxn d.ident (fun _ => y) a.1
    Unrefused k d (cfgCommitChecks d) t → txn u d.ident = some x → exec (.cfgCommit d) s =
      .next (if d.apply = 2 then v else if at_ = u.now then applyCommit y v else mirrorCmd 0x0303 (commitDesc y d) effect v)) ∧
  (∀ (x : Txn) (t : Nat) (s : State), nextApply s = some (x, t) →
    let u := advance t s
    let judged := (if x.structural then guardRefusal u (some x.ident) allGuards else none).or (configRefusal u x.items)
    (deferredBefore s x t = true → exec .cfgApply s = .next s) ∧
    (deferredBefore s x t = false → x.rollback = none → judged = none → exec .cfgApply s = .next (applyItems x u)) ∧
    (∀ r, deferredBefore s x t = false → x.rollback = none → judged = some r → exec .cfgApply s = .next (commitRefused x r.1 r.2 u)) ∧
    (∀ auto, deferredBefore s x t = false → x.rollback = some auto →
      let v := if x.sel = 2 then mirrorRollback x auto false (cycleNow u) u else u
      (configRefusal v x.undo = none → exec .cfgApply s = .next (rollbackEnds x auto 0 0 (configure x.undo v))) ∧
      (∀ r, configRefusal v x.undo = some r → exec .cfgApply s = .next (rollbackEnds x auto r.1 r.2 v)))) ∧
  (∀ (x : Txn) (s : State), nextGap s = some x →
    let u := advance x.gapUntil s
    (∀ auto, x.rollback = some auto →
      exec .txnNoGap s = .next (rollbackEnds x auto 0x06 0x0503 (mirrorRollback x auto true (cycleNow u) u))) ∧
    (x.rollback = none → exec .txnNoGap s = .next (commitRefused x 0x06 0x0503 (advance x.gapUntil s)))) ∧
  (∀ (d : Desc) (x : Txn) (s : State),
    let t := touchTxn cfgAbortCard d s
    let u := openSlot d t
    let a := accept 0x0304 d 0 u
    let r := accept 0x0304 d (if x.sel = 2 then 0 else cycleAt u (immediatePoint u x.undo)) u
    let y : Txn := { x with job := some a.2 }
    Unrefused cfgAbortCard d (fun s => (txnState [.open_, .confirming] d s).or (txnBound d s)) t → txn u d.ident = some x →
      (x.state = .open_ → exec (.cfgAbort d) s = .next (txnDone y 0 0 0 (closeTxn x.ident (jadd (txnEntry a.1 0x0022 y) a.1)))) ∧
      (x.state = .confirming → exec (.cfgAbort d) s = .next (startRollback x (some r.2) false r.1))) ∧
  (∀ (x : Txn) (job : Option Job) (auto : Bool) (s : State),
    let back (due : Nat) : Txn := { x with
      job, rollback := some auto, confirmUntil := none, due, accepted := cycleNow s, gapUntil := s.now + msec x.gapMs }
    let waiting (due : Nat) := setTxn x.ident (fun _ => back due) s
    let at_ := immediatePoint s x.undo
    (x.sel = 2 → startRollback x job auto s = waiting s.now) ∧
    (x.sel ≠ 2 → at_ = s.now → startRollback x job auto s = applyRollback (back at_) auto (waiting at_)) ∧
    (x.sel ≠ 2 → at_ ≠ s.now → startRollback x job auto s = mirrorRollback (back at_) auto false (cycleAt s at_) (waiting at_))) ∧
  (∀ (d : Desc) (s : State),
    Unrefused cfgConfirmCard d (fun s => (txnState [.confirming] d s).or (txnBound d s)) s → exec (.cfgConfirm d) s =
      .next (immediate 0x0305 d (fun s => mirrorCmd 0x0305 d (cycleNow s) (closeTxn d.ident s)) (fun _ => 0) (fun _ => []) (openSlot d s))) ∧
  (∀ (i : DWord) (x : Txn) (s : State), txn s i = some x →
    (∀ t, x.confirmUntil = some t → x.state = .confirming → standby s = false → exec (.cfgConfirmWindowEnd i) s =
      .next (startRollback x none true (advance t s))) ∧
    (x.state = .open_ → exec (.txnIdle i) s = .next (dropTxn x 0x0504 (advance (x.lastAt + secs 600) s))))

/-- NVS_READ answers at once or, while a page is written, behind it; NVS_WRITE queues its page; the lock drops the
origin's unlocks of the area, an unlock with the right password grants one and clears the count of wrong ones where
the access has a password, and a password is set by a record. A page write starts when none runs and no read waits.
The epoch record is written when due. The clock counts the next second, 1 s after the last or a commit, unless a
valid commit waits, and fires matching alarms; a time register read freezes the shadows for at most 2 ms, and YEAR
releases them; values staged over BAR0 are set at a commit when valid and raise DATE_REJ otherwise; a backup loss
clears the clock. RTC_READ answers the time where its view is not frozen, RTC_SET stages a valid time for its commit,
RTC_ALARM writes an alarm's registers. Completes, on the conditions on state and operands stated here alone:
epochRecordWrite, nvsRead, nvsWrite, nvPageWriteStart, nvsLock, unlockRead, unlockWrite, setReadPw, setWritePw,
rtcSecondTick, rtcTimeRegisterRead, rtcFreezeExpiry, rtcStagingWrite, rtcSecWrite, rtcCommit, rtcBackupLoss, rtcRead,
rtcSet, rtcAlarm. -/
def Obligations.TheNvStoreAndTheClockServeTheirCommands : Prop :=
  (∀ (d : Desc) (s : State),
    let u := openSlot d s
    let a := accept 0x0B01 d 0 u
    let v : State := { a.1 with nv.readWaits := a.1.nv.readWaits ++ [a.2] }
    let w := accept 0x0B02 d 0 u
    let c := accept 0x0C02 d 0 u
    (Unrefused nvsReadCard d (nvsReadChecks d) s →
      (a.1.nv.writing = none → exec (.nvsRead d) s = .next (serveReads v)) ∧
      (a.1.nv.writing ≠ none → exec (.nvsRead d) s = .next (watchUpdate v))) ∧
    (UnrefusedBefore nvsWriteCard d (nvsWriteChecks d) s → exec (.nvsWrite d) s =
      .next (queuePage { fw := false, what := .bytes (paramN d 32 4) d.buf, job := some w.2 } w.1)) ∧
    (Unrefused rtcReadCard d (fun _ => none) s → u.rtc.fw.shadow = none → exec (.rtcRead d) s = .next
      (immediate 0x0C01 d (fun s => { s with rtc.fw.shadow := none }) (fun s => rtcResult s u.rtc.time) (fun _ => []) u)) ∧
    (Unrefused rtcSetCard d (fun _ => none) s → validTime (rtcParams d) = true → exec (.rtcSet d) s = .next { c.1 with
      rtc.fw.staging := some (rtcParams d), rtc.fw.commit := true, rtc.fw.jobs := c.1.rtc.fw.jobs ++ [c.2] }) ∧
    (Unrefused rtcAlarmCard d (fun _ => rtcAlarmChecks d) s → exec (.rtcAlarm d) s = .next (immediate 0x0C03 d
      (fun s => [(RTC_ALM_LO_SEC, param d 34), (RTC_ALM_LO_MIN, param d 35), (RTC_ALM_LO_HOUR, param d 36), (RTC_ALM_LO_DAY, param d 37),
        (RTC_ALM_HI_MONTH, param d 38), (RTC_ALM_HI_YEAR, param d 39), (RTC_ALM_HI_WEEKDAY, param d 40), (RTC_ALM_HI_MASK, param d 41),
        (RTC_ALM_HI_EN, bits (param d 33) 0 1), (RTC_ALM_HI_WAKE, bits (param d 33) 1 1)].foldl
          (fun s (x : (Nat → Field) × Nat) => fput (x.1 (param d 32)) x.2 s) s) (fun _ => 0) (fun _ => []) u))) ∧
  (∀ (d : Desc) (s : State), UnrefusedBefore (unlockCard (param d 33)) d (unlockChecks d) s →
    let u := openSlot d s
    let a := accept 0x0B03 d 0 u
    let granted (write : Bool) := immediate 0x0B03 d
      (fun s => rightPassword d write { s with nv.unlocks := (d.origin, unlockUser d, write) :: s.nv.unlocks }) (fun _ => 0) (fun _ => []) u
    (param d 33 = 0 → exec (.nvsLock d) s = .next (immediate 0x0B03 d
      (fun s => { s with nv.unlocks := s.nv.unlocks.filter (fun x => ¬(x.1 = d.origin ∧ x.2.1 = unlockUser d)) }) (fun _ => 0) (fun _ => []) u)) ∧
    (param d 33 = 1 → exec (.unlockRead d) s = .next (granted false)) ∧ (param d 33 = 2 → exec (.unlockWrite d) s = .next (granted true)) ∧
    (param d 33 = 3 → exec (.setReadPw d) s = .next (writeRecord (.readPw (unlockUser d)) d.buf (some a.2) a.1)) ∧
    (param d 33 = 4 → exec (.setWritePw d) s = .next (writeRecord (.writePw (unlockUser d)) d.buf (some a.2) a.1))) ∧
  (∀ (w : PageWrite) (s : State), s.nv.writing = none → s.nv.readWaits = [] → power s ≠ 3 → nextPage (abortWrites s) = some w →
    let u := abortWrites s
    exec .nvPageWriteStart s = .next { u with nv.queue := u.nv.queue.erase w, nv.writing := some ({ w with what := aimRecord u w.what }, u.now) }) ∧
  (∀ s : State, s.red.epochDue ≠ none → exec .epochRecordWrite s =
    .next (writeRecord .pairEpoch (le 4 (fget s RED_EPOCH_EPOCH)) none { s with red.epochDue := none })) ∧
  (∀ s : State,
    let r := (nextSecond s.rtc.time).1
    let tick := (s.rtc.prescaler.map (fun p => (p + (secs 1 : Int)).toNat)).getD s.now
    let u : State := { advance tick s with rtc.time := r, rtc.latch := r, rtc.prescaler := some (tick : Int) }
    s.rtc.counting = true → (∀ p ∈ [s.rtc.fw, s.rtc.bar0], p.commit = true → ∀ x, p.staging = some x → validTime x = false) →
    let v := if (nextSecond s.rtc.time).2 then raise RTC_EVENTS_YEAR_WRAP u else u
    exec .rtcSecondTick s =
      .next (forEach [0, 1] v fun n s => if fbit s (RTC_ALM_HI_EN n) && alarmMatches s n r then fireAlarm n s else s)) ∧
  (∀ (off : Nat) (v : Word) (s : State), 0x7C00 ≤ off → off ≤ 0x7C18 → off % 4 = 0 →
    let x := s.rtc.bar0.shadow.getD (s.rtc.time, (s.now : Int))
    let i := (off - 0x7C00) / 4
    exec (.rtcTimeRegisterRead off) s = .next (emit (.read off (BitVec.ofNat 32 (rtcField x.1 i)))
      { s with rtc.bar0.shadow := if off = 0x7C18 then none else some x }) ∧
    (off ≠ 0x7C00 → exec (.rtcStagingWrite off v) s =
      .next { s with rtc.bar0.staging := some (stage (s.rtc.bar0.staging.getD s.rtc.time) i (v.toNat % 256)) }) ∧
    exec (.rtcSecWrite v) s = .next { s with
      rtc.bar0.staging := some (stage (s.rtc.bar0.staging.getD s.rtc.time) 0 (v.toNat % 256)), rtc.bar0.commit := true }) ∧
  (∀ (r : RtcTime) (t : Int) (s : State),
    let u (at_ : Int) := raise RTC_EVENTS_STALE_READ (advance (at_ + (msec 2 : Int)).toNat s)
    (s.rtc.fw.shadow = some (r, t) → exec (.rtcFreezeExpiry true) s = .next { u t with rtc.fw.shadow := none }) ∧
    (s.rtc.bar0.shadow = some (r, t) → exec (.rtcFreezeExpiry false) s = .next { u t with rtc.bar0.shadow := none })) ∧
  (∀ (r : RtcTime) (s : State), s.rtc.fw.commit = false → s.rtc.fw.jobs = [] → s.rtc.bar0.commit = true → s.rtc.bar0.staging = some r →
    let cleared (s : State) : State := { s with
      rtc.fw.commit := false, rtc.fw.jobs := [], rtc.bar0.commit := false, rtc.bar0.staging := none }
    (validTime r = true → ∃ t, exec .rtcCommit s = .next t ∧ t.rtc.time = r ∧ t.rtc.prescaler = some (s.now : Int) ∧ t.rtc.lost = false ∧ t.rtc.counting = true ∧
      t.rtc.bar0.shadow = none ∧ t.rtc.fw.shadow = none ∧ t.rtc.bar0.staging = none ∧ { t with rtc := s.rtc } = s) ∧
    (validTime r = false → exec .rtcCommit s = .next (cleared (raise RTC_EVENTS_DATE_REJ s)))) ∧
  (∀ s : State, exec .rtcBackupLoss s = .next (resetBlock 0x7C38 0x7C40 (resetBlock 0x7C30 0x7C38 (raise RTC_EVENTS_TIME_LOST
    { s with rtc := { time := {}, latch := {}, counting := false, lost := true, onVbat := s.rtc.onVbat } }))))

/-- Every frame at the port counts while its link is up, one with an FCS error or a PHY error in RX_ERR. A datagram
without the header of R362, or while the port does not serve, is dropped. With nothing waiting, a request without an
open session runs its command without one (here RTC_READ); in a session with the right tag an older SEQ is dropped,
the last SEQ is answered from the cache and refreshes the session, and a newer one runs. ARP and ICMP requests for
the port's address are answered, for another address only counted. 600 s after the last request the session ends.
JRNL_READ returns the entries named as they stood before its own, with GAP where older ones were named, and the next
number. Completes, on the conditions on state and operands stated here alone: jrnlRead, svcDatagram, svcArpIcmp,
svcSessionTimeout. -/
def Obligations.TheServicePortAndTheJournalAnswer : Prop :=
  (∀ s : State, svcFrame s = if fbit s NET_STATUS_SVC_LINK then bumpWrap (NET_PORT_RX_FRAMES_COUNT 4) 1 s else s) ∧
  (∀ (ip port : Nat) (raw : List Byte) (s : State),
    exec (.svcDatagram ip port ⟨raw, false⟩) s =
      .next (if fbit s NET_STATUS_SVC_LINK then bump (NET_PORT_RX_ERR_COUNT 4) 1 s else s) ∧
    (svcServes (svcFrame s) = false ∨ svcHeaderOk raw = false →
      exec (.svcDatagram ip port ⟨raw, true⟩) s = .next (svcFrame s))) ∧
  (∀ (ip port : Nat) (raw : List Byte) (s0 : State),
    let s := svcFrame s0
    let seq := beAt raw 8 4
    svcServes s = true → svcHeaderOk raw = true → s.cmd.svc = none → s.cmd.svcWait = [] →
    (namedSession s raw = none → beAt raw 32 2 = 0x0C01 → ∃ t, exec (.svcDatagram ip port ⟨raw, true⟩) s0 = .next t ∧
      exec (.rtcRead (svcRequest raw true))
        { s with cmd.svc := some { ip, port, session := beAt raw 4 4, seq, valid := false } } = .next t) ∧
    (∀ x, namedSession s raw = some x → svcTagOk x.key raw = true →
      let u : State := { s with cmd.session := some { x with lastSeq := some seq, lastAt := s.now } }
      (∀ q, x.lastSeq = some q → seq < q → exec (.svcDatagram ip port ⟨raw, true⟩) s0 = .next s) ∧
      (x.lastSeq = some seq → exec (.svcDatagram ip port ⟨raw, true⟩) s0 = .next (svcOut (.svc ip port x.cached) u)) ∧
      (∀ q, x.lastSeq = some q → q < seq → beAt raw 32 2 = 0x0C01 → ∃ t, exec (.svcDatagram ip port ⟨raw, true⟩) s0 = .next t ∧
        exec (.rtcRead (svcRequest raw true))
          { u with cmd.svc := some { ip, port, session := beAt raw 4 4, seq, valid := true } } = .next t))) ∧
  (∀ (ip : Nat) (mac : BitVec 48) (data : List Byte) (s : State), svcServes s = true →
    exec (.svcArpIcmp ⟨.arp s.cmd.ip.toNat ip mac, true⟩) s = .next (svcOut (arpReply s ip mac) (svcFrame s)) ∧
    exec (.svcArpIcmp ⟨.echo s.cmd.ip.toNat ip data, true⟩) s = .next (svcOut (.echo ip (echoReply data)) (svcFrame s)) ∧
    (∀ target, target ≠ s.cmd.ip.toNat → exec (.svcArpIcmp ⟨.arp target ip mac, true⟩) s = .next (svcFrame s) ∧
      exec (.svcArpIcmp ⟨.echo target ip data, true⟩) s = .next (svcFrame s))) ∧
  (∀ (x : Session) (s : State), s.cmd.session = some x → exec .svcSessionTimeout s = .next (endSession (advance (x.lastAt + secs 600) s))) ∧
  (∀ (d : Desc) (s : State), Unrefused jrnlReadCard d (fun _ => jrnlReadChecks d) s →
    let u := openSlot d s
    let held := journalHeld u
    let picked := jrnlPicked d held
    let a := accept 0x0110 d 0 u
    exec (.jrnlRead d) s = .next (settle (finish a.2 0 (if journalGap d held then 0x30 else 0) (jrnlNext d picked)
      (picked.flatMap jentryBytes) a.1)))

/-- ROM_INIT goes to AWAITING_BUNDLE within 120 ms with a good self-test, training and seed, and to FAILED with cause
16 otherwise. START alone in AWAITING_BUNDLE begins verification, RETRY alone in FAILED goes back to AWAITING_BUNDLE
but after a failed self-test and in sag stage 3; elsewhere both are ignored and noted. The staging window takes
writes in AWAITING_BUNDLE only. Verification ends within 2 ms plus 60 ms per 64 MiB: it fails with the first check
that fails, with 12 and a component that is open on a memory error, or begins LOADING. A component that starts within
its bound shows its time and the next one begins, LOOP only with a powered loop; the last one starts the module; one
that does not ends with 14, a field island's load error with 15. A report of a component whose turn it is not has no
effect (the model's reading, log entry 63). FW_RESET completes, consolidates and resets; FW_READ answers from its
offset. Completes, on the conditions on state and operands stated here alone: romInitDone, bootStart, bootRetry,
stagingWindowWrite, verifyComplete, componentStarted, componentStartTimeout, fwReset, fwRead. -/
def Obligations.BootVerifiesLoadsAndFails : Prop :=
  (∀ (selfTest training checkOk : Bool) (flips ms : Nat) (s : State), boot s = 0 → powered s = true →
    let u := fput BOOT_TIME_INIT_MS (min (min ms 120) 1023) (advance (s.boot.poweredAt + msec (min ms 120)) s)
    let v := loadHoldup (readSeedbed flips checkOk u)
    (selfTest = true → training = true → s.sec.life = 4 ∨ (flips ≤ 9830 ∧ checkOk = true) →
      exec (.romInitDone selfTest training flips checkOk ms) s = .next (setBoot 1 v)) ∧
    (selfTest = false ∨ training = false ∨ (s.sec.life ≠ 4 ∧ (9830 < flips ∨ checkOk = false)) →
      exec (.romInitDone selfTest training flips checkOk ms) s = .next (failBoot 16 0 { v with boot.selfTestFailed := true }))) ∧
  (∀ (w : Word) (s : State),
    let ignored := raise BOOT_EVENTS_CTRL_IGNORED
    (w.getLsbD 0 = true → w.getLsbD 1 = false → boot s = 1 → exec (.bootStart w) s = .next (beginVerify s)) ∧
    (w.getLsbD 0 = true → w.getLsbD 1 = false → boot s ≠ 1 → exec (.bootStart w) s = .next (ignored s)) ∧
    (w.getLsbD 1 = true → w.getLsbD 0 = false → boot s = 5 → s.boot.selfTestFailed = false → sag s ≠ 3 →
      exec (.bootRetry w) s = .next (setBoot 1 s)) ∧
    (w.getLsbD 1 = true → w.getLsbD 0 = false → boot s ≠ 5 ∨ s.boot.selfTestFailed = true ∨ sag s = 3 →
      exec (.bootRetry w) s = .next (ignored s))) ∧
  (∀ (off : Nat) (data : List Byte) (s : State),
    (boot s = 1 → exec (.stagingWindowWrite off data) s =
      .next { s with boot.staging := wrN s.boot.staging off (data.take (67108864 - off)) }) ∧
    (boot s ≠ 1 → exec (.stagingWindowWrite off data) s = .next (raise BOOT_EVENTS_WINDOW_WRITE s))) ∧
  (∀ (memOk : Bool) (ms : Nat) (s : State), boot s = 2 →
    let took := min ms (2 + 60 * bundleLen s / 67108864)
    let u := fput BOOT_TIME_VERIFY_MS (min took 2047) (advance (s.boot.startAt + msec took) s)
    (memOk = false → exec (.verifyComplete memOk ms) s =
      .next (failBoot 12 (1 + Config.freeNat (fresh u).2 % 4) (fresh u).1)) ∧
    (memOk = true → exec (.verifyComplete memOk ms) s = .next ((verifyCause u).elim (beginLoading u) (fun c => failBoot c (if c = 12 then wrongComponent u else 0) u)))) ∧
  (∀ (c : Fin 4) (ms : Nat) (s : State), boot s = 3 →
    let i := s.boot.started
    let late := failBoot 14 (i + 1) (advance (s.boot.stepAt + startBound s i) s)
    let u := advance (s.boot.stepAt + msec ms) s
    let shown (st : Nat) (v : State) := fput (BOOT_COMP_STAT_START_MS i) (min 65535 ((v.now - s.boot.poweredAt) / msec 1))
      (fput (BOOT_COMP_STAT_STATE i) st v)
    let goOn := fun (v : State) =>
      let t := beginComponent (i + 1) v
      if i = 2 ∧ boot t = 3 ∧ (loop t 0).powered = false ∧ (loop t 1).powered = false then
        bootRunning (fput (BOOT_COMP_STAT_STATE 3) 2 t) else t
    (c.val ≠ i → exec (.componentStarted c ms) s = .next s) ∧
    (c.val = i → startBound s i < msec ms → exec (.componentStarted c ms) s = .next late) ∧
    (c.val = i → msec ms ≤ startBound s i → i = 0 → exec (.componentStarted c ms) s = .next (goOn (serviceStart (shown 1 u)))) ∧
    (c.val = i → msec ms ≤ startBound s i → i = 1 ∨ i = 2 → exec (.componentStarted c ms) s = .next (goOn (shown 1 u))) ∧
    (c.val = i → msec ms ≤ startBound s i → i = 3 → exec (.componentStarted c ms) s =
      .next (bootRunning (shown (if (loop u 0).powered = true ∧ (loop u 1).powered = true then 1 else 2) u))) ∧
    exec (.componentStartTimeout false) s = .next late ∧
    (i = 2 → exec (.componentStartTimeout true) s = .next (failBoot 15 3 s))) ∧
  (∀ (d : Desc) (s : State),
    let u := openSlot d s
    let v := immediate 0x0F02 d id (fun _ => 0) (fun _ => []) u
    (Unrefused (fwResetCard s) d fwResetChecks s → exec (.fwReset d) s =
      .next (carryReset { v with sup.fwReset := true, recd.due := some (v.recd.due.getD 2) })) ∧
    (Unrefused fwReadCard d (fun _ => none) s → paramN d 32 4 ≤ 1343 →
      exec (.fwRead d) s = .next (immediate 0x0F01 d id (fun s => (fwReadData d s).length) (fwReadData d) u)))

/-- SEC_CHALLENGE gives a fresh challenge to its origin, which ends after 60 s; a response equal to the keyed digest
grants its ring 60 s or opens a session; a grant and a lockout end at their times. A well-formed blob of this unit
whose seal opens fills its slot and is refused with BLOB_REJECT otherwise; WRAP gives a blob with a fresh IV; UNLOAD
empties one slot or all. SEC_ATTEST returns 409 bytes. SEC_DEBUG sets the level. Reseeds count while the health tests
pass, and a failed test ends RBG_OK. Completes, on the conditions on state and operands stated here alone:
secChallenge, challengeExpiry, secResponse, grantExpiry, crLockoutEnd, secKeyLoad, secKeyWrap, secKeyUnload,
secAttest, secDebug, rbgReseed, rbgHealthFail. -/
def Obligations.SecurityCommandsGrantLoadAndAttest : Prop :=
  (∀ (d : Desc) (s : State),
    let u := openSlot d s
    let c := le 32 (Config.freeBits 256 (fresh u).2).toNat
    let blob := wrapBlob (islandKey u "WRAP" 256) (fillHead d.buf u.sec.life) ((d.buf.drop 24).take 48)
      (le 12 (Config.freeBits 96 (fresh u).2).toNat)
    (Unrefused challengeCard d (challengeChecks d) s → exec (.secChallenge d) s = .next (immediate 0x0A01 d
      (fun s => { s with sec.challenges := (d.origin, c, s.now) :: s.sec.challenges.filter (fun x => x.1 ≠ d.origin) })
      (fun _ => 0) (fun _ => c) (fresh u).1)) ∧
    (UnrefusedBefore responseCard d (responseChecks d) s → exec (.secResponse d) s =
      .next (immediate 0x0A02 d (responseRight d) (responseResult d) (fun _ => []) u)) ∧
    (opflag d 4 = true → Unrefused (keyLoadCard true) d (keyWrapChecks d) s → exec (.secKeyWrap d) s =
      .next (immediate 0x0A03 d id (fun _ => 100) (fun _ => blob) (fresh u).1)) ∧
    (Unrefused keyUnloadCard d (fun _ => none) s →
      (param d 32 ≤ 31 → exec (.secKeyUnload d) s = .next (immediate 0x0A04 d
        (fun s => { s with sec.slots := del (param d 32) s.sec.slots }) (fun _ => 0) (fun _ => []) u)) ∧
      (param d 32 = 0xFF → exec (.secKeyUnload d) s = .next (immediate 0x0A04 d
        (fun s => { s with sec.slots := [] }) (fun _ => 0) (fun _ => []) u))) ∧
    (Unrefused attestCard d (attestChecks d) s → exec (.secAttest d) s =
      .next (immediate 0x0A05 d id (fun _ => 409) (attestation d) u)) ∧
    (UnrefusedBefore debugCard d (debugChecks d) s → exec (.secDebug d) s =
      .next (immediate 0x0A07 d (setDebug d) (fun s => fget s DBG_STATUS_LEVEL) (fun _ => []) u))) ∧
  (∀ (d : Desc) (s : State), opflag d 4 = false →
    (∀ v ∈ [s, openSlot d s, openSlot d (raise SEC_EVENTS_BLOB_REJECT s)], gate (keyLoadCard false) d v = none) → bufferLost (keyLoadCard false) d = false →
    debugRoot s = false → d.buf.length = 100 → blobHead d.buf = true → blobBound d.buf s.sec.life = true → param d 32 ≤ 31 →
    look s.sec.slots (param d 32) = none →
    exec (.secKeyLoad d) s = .next (if (unwrap_ (islandKey s "WRAP" 256) d.buf).isSome
      then immediate 0x0A03 d (loadSlot d) (fun _ => param d 32) (fun _ => []) (openSlot d s)
      else refuse 0x0A03 d 0x09 0x0716 (openSlot d (raise SEC_EVENTS_BLOB_REJECT s)))) ∧
  (∀ (o : Origin) (c : List Byte) (t : Nat) (s : State), s.sec.challenges.find? (fun x => x.1 = o) = some (o, c, t) →
    exec (.challengeExpiry o) s = .next { s with
      now := max s.now (t + secs 60), sec.challenges := s.sec.challenges.filter (fun x => x.1 ≠ o) }) ∧
  (∀ (r : Fin 128) (t : Nat) (s : State), look s.sec.grants r = some t →
    exec (.grantExpiry (.ring r)) s = .next (advance t { s with sec.grants := del r s.sec.grants })) ∧
  (∀ (t : Nat) (s : State), s.sec.lockUntil = some t → exec .crLockoutEnd s = .next (advance t { s with sec.lockUntil := none })) ∧
  (∀ s : State, fbit s SEC_STATUS_RBG_OK = true → exec .rbgReseed s = .next { s with sec.reseeds := s.sec.reseeds + 1 }) ∧
  (∀ s : State, exec .rbgHealthFail s = .next (raise SEC_EVENTS_RBG_FAIL (fput SEC_STATUS_RBG_OK 0 s)))

/-- The fuses' verification is free: when it fails the operation completes INTEGRITY 0x071E with FUSE_ERR; otherwise
LC_PROVISION, LC_TAKE_OWNERSHIP, LC_RETURN and LC_SCRAP enter PROVISIONED, OWNED, RETURNED and SCRAPPED with their
exports, LC_RAISE_SVN sets the minimum and LC_REVOKE_VKEY the slot's bit, these two after using their token in
RETURNED whatever the fuses do. LC_LOCK and LC_UNLOCK set the owner lock and queue its record. Completes, on the
conditions on state and operands stated here alone: lcProvision, lcTakeOwnership, lcReturn, lcScrap, lcLock,
lcUnlock, lcRaiseSvn, lcRevokeVkey. -/
def Obligations.LifeCycleOperationsProgramOrEndWithFuse : Prop :=
  ∀ (d : Desc) (s : State) (own : State → Option (Nat × Nat)), UnrefusedBefore (lifeCard (lifeOp d)) d (lifeChecks own d) s →
    let u := openSlot d s
    let fused (v : State) (change : State → State) (result : Nat) (data : List Byte) : State :=
      let a := accept 0x0A06 d 0 (fresh v).1
      if Config.freeBits 1 (fresh v).2 = 1 then settle (finish a.2 0x09 0x071E 0 [] (raise SEC_EVENTS_FUSE_ERR a.1))
      else done a.2 result data (change a.1)
    let value := paramN d 36 4
    let key := (transportKey u (leAt d.buf 0 1)).getD []
    let blobs := blobCount d
    let v : State := { u with free := u.free + blobs + 1 }
    let key2 := (transportKey v (leAt d.buf 48 1)).getD []
    let iv (n : Nat) := le 12 (Config.freeBits 96 n).toNat
    (lifeOp d = 1 → own = provisionChecks d → exec (.lcProvision d) s =
      .next (fused (fresh u).1 (enterLife 1) 160 (exportKeys 1 key (iv u.free)))) ∧
    (lifeOp d = 2 → own = takeChecks d → exec (.lcTakeOwnership d) s = .next (fused v (takeOwnership d) (160 + 100 * blobs)
      (exportKeys 2 key2 (iv u.free) ++
        (listedBlobs d.buf 56 blobs).zipIdx.flatMap (fun (b, i) => rewrap v 2 (iv (u.free + (i + 1))) b)))) ∧
    (lifeOp d = 3 → own = (fun _ => none) → exec (.lcReturn d) s = .next (fused u (enterLife 3) 0 [])) ∧
    (lifeOp d = 4 → own = (fun _ => none) → exec (.lcScrap d) s = .next (fused u (enterLife 4) 0 [])) ∧
    (lifeOp d = 5 → own = (fun _ => none) →
      exec (.lcLock d) s = .next (immediate 0x0A06 d (setLock true) (fun _ => 0) (fun _ => []) u)) ∧
    (lifeOp d = 6 → own = (fun _ => none) →
      exec (.lcUnlock d) s = .next (immediate 0x0A06 d (setLock false) (fun _ => 0) (fun _ => []) u)) ∧
    (lifeOp d = 7 → own = (fun s => firstOf [(decide (value ≤ s.sec.minSvn ∨ value > 64 ∨ value > fget s BOOT_SEC_VER_VERSION), 0x05, 0x071A)]) →
      exec (.lcRaiseSvn d) s = .next (fused (useToken d u) (fun s => { s with sec.minSvn := value }) 0 [])) ∧
    (lifeOp d = 8 → own = (fun s => firstOf [(decide (value > 3), 0x02, 0x0111), (decide (value = s.boot.signer), 0x05, 0x0719)]) →
      exec (.lcRevokeVkey d) s =
        .next (fused (useToken d u) (fun s => { s with sec.revoked := s.sec.revoked ||| BitVec.ofNat 4 (2 ^ value) }) 0 []))

/-- Boundary scan in ROM_INIT, AWAITING_BUNDLE and FAILED samples, loads the boundary register, or drives the pins
from it; elsewhere it is refused. JTAG reads at level 1 or 2, writes at level 2 and holds, runs, steps and breaks a
core that may be held. Trace entries become a record, or, without a buffer or from sag stage 2, a gap. The window of
a roll-call set is judged when its cycles have ended. A serve at or after T_open renews the reference, an early one
or T_close without one is a WARNING, and the reset in a WARNING. An uncorrectable error stops its agent and forces a
WARNING, or, in a read of the boot ROM from LPDDR5X during VERIFYING or LOADING, fails the boot; a correctable one
counts. Completes, on the conditions on state and operands stated here alone: jtagBoundaryScan, jtagDebugAccess,
traceRecordWrite, rollCallEvaluation, watchdogServe, watchdogCloseExpiry, uncorrectableError, correctableError. -/
def Obligations.DebugAndSupervisionAct : Prop :=
  (∀ (i : ScanInstr) (s : State),
    let u := attached s
    let off := { u with sec.extest := false }
    (boot s ≠ 0 → boot s ≠ 1 → boot s ≠ 5 →
      exec (.jtagBoundaryScan i) s = .next (raise DBG_EVENTS_JTAG_REFUSED (emit (.jtag [0]) off))) ∧
    (boot s = 0 ∨ boot s = 1 ∨ boot s = 5 →
      exec (.jtagBoundaryScan .sample) s = .next (emit (.jtag [Config.freeBits 8 (fresh off).2]) (fresh off).1) ∧
      (∀ cells, exec (.jtagBoundaryScan (.preload cells)) s = .next { off with sec.boundary := cells }) ∧
      exec (.jtagBoundaryScan .extest) s = .next (emit (.scan u.sec.boundary) { u with sec.extest := true }))) ∧
  (∀ s : State,
    let u := attached { s with sec.extest := false }
    let level := fget u DBG_STATUS_LEVEL
    exec (.jtagDebugAccess .idcode) s = .next (emit (.jtag [0x6B, 0x03, 0x86, 0x24]) u) ∧
    exec (.jtagDebugAccess .bypass) s = .next (emit (.jtag [0]) u) ∧
    (∀ m a x, level ≠ 0 → jtagRead m a u = some x → exec (.jtagDebugAccess (.read m a)) s = .next (emit (.jtag [x.2]) x.1)) ∧
    (∀ m a v, exec (.jtagDebugAccess (.write m a v)) s = .next (if level = 2 then jtagWrite m a v u else u)) ∧
    (∀ c : Fin 12, mayHold u c = true → exec (.jtagDebugAccess (.halt c)) s = .next (holdBy c u) ∧
      exec (.jtagDebugAccess (.resume c)) s = .next (letRun c false u) ∧ exec (.jtagDebugAccess (.step c)) s = .next (letRun c true u)) ∧
    (∀ (c : Fin 8) a, mayHold u c = true → exec (.jtagDebugAccess (.breakpoint c a)) s =
      .next (setCore c (fun k => { k with breakpoints := a :: k.breakpoints.filter (· ≠ a) }) u)) ∧
    (∀ c : Fin 12, mayHold u c = false → exec (.jtagDebugAccess (.halt c)) s = .next u)) ∧
  (∀ (e : BufEntry) (r : Nat) (s : State), traceRing s = some r → s.sec.trace ≠ [] → traceOn s = true →
    (entryReady s r = true → sag s < 2 → exec (.traceRecordWrite e) s = .next (writeTrace r e s)) ∧
    (entryReady s r = false ∨ 2 ≤ sag s → exec (.traceRecordWrite e) s = .next (raise DBG_EVENTS_TRACE_GAP
      { s with sec.traceLost := s.sec.traceLost + s.sec.trace.length, sec.trace := [] }))) ∧
  (∀ (k : Fin 4) (w mask : Nat) (s : State), ctl s = 3 → look (takeChange k s).sup.inForce k = some (w, mask, true) →
    let u := takeChange k s
    let n := lookD u.sup.nextWin k 0
    let v := toBoundary ((n + 1) * w) u
    let x := if windowOpen v mask (n * w) ((n + 1) * w) then toBoundary ((n + 2) * w) v else v
    exec (.rollCallEvaluation k) s =
      .next (dropCheckIns (judgeWindow k mask (n * w) ((n + 1) * w) { x with sup.nextWin := put k.val (n + 1) x.sup.nextWin }))) ∧
  (∀ (at_ : Nat) (s : State), servable s = true → fbit s WDG_STATUS_FORCED = false → elapsedAt s (max s.now at_) < s.sup.tClose * 1600000 →
    let u := advance at_ s
    (s.sup.tOpen * 1600000 ≤ elapsedAt u u.now → exec (.watchdogServe at_) s = .next (validServe u)) ∧
    (elapsedAt u u.now < s.sup.tOpen * 1600000 → fbit u WDG_STATUS_WARNING = false →
      exec (.watchdogServe at_) s = .next (raise WDG_EVENTS_EARLY (warning 2 u))) ∧
    (elapsedAt u u.now < s.sup.tOpen * 1600000 → fbit u WDG_STATUS_WARNING = true → exec (.watchdogServe at_) s = .next (coldReset 4 u))) ∧
  (∀ s : State, watchIdle s = false →
    let u := advance (s.sup.ref + s.sup.notCounted + s.sup.tClose * 1600000) s
    exec .watchdogCloseExpiry s = .next (if fbit u WDG_STATUS_WARNING then coldReset 4 u else warning 1 u)) ∧
  (∀ (mem off : Nat) (who : Option Agent) (s : State),
    (mem = 8 → who = some .boot → boot s = 2 → exec (.uncorrectableError mem off who) s =
      .next (failBoot 12 (1 + Config.freeNat (fresh s).2 % 4) (fresh s).1)) ∧
    (mem = 8 → who = some .boot → boot s = 3 → exec (.uncorrectableError mem off who) s =
      .next (failBoot (if s.boot.started ≥ 2 then 15 else 14) (s.boot.started + 1) s)) ∧
    (mem ≠ 8 ∨ who ≠ some .boot ∨ boot s ∉ [2, 3] → exec (.uncorrectableError mem off who) s = .next (forceWarning 3 (interrupt 128
      (fput SYS_UE_ADDR_OFFSET (off / 8) (fput SYS_UE_ADDR_MEM mem (fput SYS_STAT_UE_SEEN 1 (bump SYS_ECC_UE 1 (raise SYS_EVENTS_UE
        (stopAgent who s)))))))))) ∧
  (∀ s : State, exec .correctableError s = .next (raise SYS_EVENTS_CE (bump SYS_ECC_CE 1 s)))

/-- PWR_STATE to the present state completes at once; another starts the move, with ENTERING at 1, and for DORMANT
from HOLD makes a consolidation due. With no command waiting, each step of the block passes one state or, where a
refuser of the target has become true, aborts the entry; the move completes at RUN, TRIM or HOLD, and DORMANT is
entered when no consolidation and no page is left to write. PERST_N in DORMANT records its wake, and the wake
sequence ends it. A fall of VIN enters the stages it has fallen through in order, and a rise above the leaving
threshold leaves one. HOLDUP_SENSE takes its measurement and aborts command writes while it is low. The end of a page
write completes it, and the end of a consolidation, after its last page, puts its copy in use. Completes, on the
conditions on state and operands stated here alone: pwrState, wakePerstN, wakeSequenceDone, pwrRead,
vinThresholdCross, sagStageLeave, nvPageWriteDone, consolidationDone, holdupSenseCrossing. -/
def Obligations.PowerMovesWakesAndSagsByTheirRules : Prop :=
  (∀ (d : Desc) (s : State), UnrefusedBefore pwrStateCard d (pwrStateChecks d) s →
    let u := openSlot d s
    let t := param d 32
    let a := accept 0x0E01 d 0 u
    let v : State := { a.1 with sup.powerJob := some (a.2, t, power u) }
    (t = power u → exec (.pwrState d) s = .next (immediate 0x0E01 d id (fun _ => t) (fun _ => []) u)) ∧
    (t ≠ power u → exec (.pwrState d) s = .next (watchUpdate (fput PWR_STATUS_ENTERING 1
      (if t = 3 ∧ power v = 2 then { v with recd.due := some (v.recd.due.getD 2) } else v))))) ∧
  (∀ (jb : Job) (t from_ : Nat) (s : State), s.pending = [] → s.cmd.svcWait = [] → standby s = true ∨ s.red.queued = [] →
    s.sup.powerJob = some (jb, t, from_) →
    (∀ k, from_ ≤ t → entryRefuser t s = some k → step s = .next (abortEntry k s)) ∧
    (t < from_ ∨ entryRefuser t s = none →
      (power s ≠ min t 2 → step s = .next (holdReached t (hop t s))) ∧
      (power s = t → t < 3 → step s = .next (ended jb 0 0 t (fput PWR_STATUS_ENTERING 0 { s with sup.powerJob := none }))) ∧
      (power s = 2 → t = 3 → s.recd.due = none → s.recd.running = none → s.nv.writing = none → s.nv.queue = [] →
        step s = .next (enterDormant jb s)))) ∧
  (∀ (d : Desc) (s : State), Unrefused pwrReadCard d (fun _ => none) s →
    exec (.pwrRead d) s = .next (immediate 0x0E02 d id (fun s => (pwrReadData d s).length) (pwrReadData d) (openSlot d s))) ∧
  (∀ s : State,
    (power s = 3 → s.sup.wakeAt = none → exec .wakePerstN s =
      .next (bumpWrap PWR_WAKE_COUNT 1 (fput PWR_WAKE_SOURCE 3 { s with sup.wakeAt := some s.now }))) ∧
    (power s ≠ 3 → enteringDormant s = true → exec .wakePerstN s = .next { s with sup.wakeHeld := some (s.sup.wakeHeld.getD 3) }) ∧
    (power s ≠ 3 → enteringDormant s = false → exec .wakePerstN s = .next s) ∧
    (∀ t flips ok, s.sup.wakeAt = some t → power s = 3 → exec (.wakeSequenceDone flips ok) s = .next (wakeUp t flips ok s))) ∧
  (∀ (mv : Nat) (s : State), power s ≠ 3 →
    let u := fput PWR_VIN_MIN_MV (min (fget s PWR_VIN_MIN_MV) mv) (fput PWR_VIN_MV (min mv 65535) s)
    let fall (k limit : Nat) (s : State) := if sag s < k ∧ mv < limit then enterSag k s else s
    let k := sag s
    exec (.vinThresholdCross mv) s = .next (fall 3 9600 (fall 2 10000 (fall 1 10400 u))) ∧
    (1 ≤ k → mv ≤ [0, 10600, 10200, 9800].getD k 0 → exec (.sagStageLeave mv) s = .next u) ∧
    (1 ≤ k → [0, 10600, 10200, 9800].getD k 0 < mv → exec (.sagStageLeave mv) s =
      .next (nextConsolPage (interrupt 132 (raise PWR_EVENTS_SAG_LEAVE (fput PWR_STATUS_SAG (k - 1) u)))))) ∧
  (∀ (mv : Nat) (s : State), exec (.holdupSenseCrossing mv) s =
    .next (nextConsolPage (abortWrites (fput PWR_HOLDUP_SENSE_MV (min mv 65535) { s with sup.measured := true })))) ∧
  (∀ (us : Nat) (w : PageWrite) (t : Nat) (s : State), s.nv.writing = some (w, t) →
    (∀ a b, w.what = .consol a b → exec (.nvPageWriteDone us) s = .next (carryOn (consolPageDone (pageDone w t us s)))) ∧
    (∀ a b, w.what = .bytes a b ∨ w.what = .emergency a b → exec (.nvPageWriteDone us) s = .next (carryOn (pageDone w t us s))) ∧
    (∀ id toB n b, w.what = .record id toB n b → exec (.nvPageWriteDone us) s = .next (carryOn (pageDone w t us s)))) ∧
  (∀ (c : Consol) (s : State), s.recd.running = some c → 402 ≤ c.page →
    exec .consolidationDone s = .next (carryOn (endConsolidation c s)))

/-- INTERVAL_MIN minutes after the last one a consolidation falls due, and a due one starts in RUNNING when the NV
store and the stage let it: it takes its snapshot for the copy that is not in use with the next SEQ and queues its
first page. REC_READ returns the whole records that fit. An accepted REC_CLEAR uses up its challenge and clears at
once, or behind a running consolidation; a clear zeroes the named records, notes itself and makes a consolidation due
that completes it. REC_CONSOLIDATE makes one due and waits for it. Completes, on the conditions on state and operands
stated here alone: consolidationInterval, consolidationStart, recRead, recClear, recConsolidate. -/
def Obligations.TheRecorderConsolidatesReadsAndClears : Prop :=
  (∀ s : State, fget s REC_CFG_INTERVAL_MIN ≠ 0 → boot s = 4 → power s ≠ 3 →
    let u := advance (s.recd.lastAt + secs (60 * fget s REC_CFG_INTERVAL_MIN)) s
    exec .consolidationInterval s = .next { u with recd.due := some (u.recd.due.getD 0), recd.lastAt := u.now }) ∧
  (∀ (reason : Nat) (s : State), s.recd.due = some reason → s.recd.running = none → sag s < 2 → holdupLow s = false → boot s = 4 → power s ≠ 3 →
    let started (toB : Bool) (seq : Nat) := nextConsolPage { s with
      recd.due := none, recd.lastAt := s.now
      recd.running := some { toB, seq, time := nsNow s, image := consolImage seq reason s, codes := s.recd.codes } }
    (consolInUse s = none → exec .consolidationStart s = .next (started false 1)) ∧
    (∀ b n data, consolInUse s = some (b, n, data) → exec .consolidationStart s = .next (started (!b) ((n + 1) % 2 ^ 32)))) ∧
  (∀ (d : Desc) (s : State),
    let u := openSlot d s
    let a := accept 0x0D02 d 0 (authSuccess d.origin u)
    let c := accept 0x0D03 d 0 u
    (Unrefused recReadCard d (fun _ => recReadChecks d) s → exec (.recRead d) s =
      .next (immediate 0x0D01 d id (fun s => (recData d s).length) (recData d) u)) ∧
    (UnrefusedBefore recClearCard d (recClearChecks d) s →
      (a.1.recd.running = none → exec (.recClear d) s = .next (clearRecords a.2 a.1)) ∧
      (a.1.recd.running ≠ none → exec (.recClear d) s = .next { a.1 with recd.clearWait := a.1.recd.clearWait ++ [a.2] })) ∧
    (UnrefusedBefore recConsolidateCard d (fun _ => none) s → holdupLow s = false → s.recd.running = none → exec (.recConsolidate d) s =
      .next { c.1 with recd.due := some (c.1.recd.due.getD 1), recd.waiters := c.1.recd.waiters ++ [c.2] })) ∧
  (∀ (jb : Job) (s : State),
    let t := clearRecords jb s
    (param jb.d 32 = 0 → t.recd.metrics = [] ∧ (∀ x ∈ t.recd.codes, x.1 = 1)) ∧
    (param jb.d 32 = 1 → ∀ x ∈ t.recd.metrics, x.1 < paramN jb.d 34 2 ∨ paramN jb.d 34 2 + paramN jb.d 36 2 ≤ x.1) ∧
    (param jb.d 32 = 2 → t.recd.metrics = s.recd.metrics ∧
      ∀ x ∈ t.recd.codes, x.1 = 1 ∨ x.1 < paramN jb.d 34 2 ∨ paramN jb.d 34 2 + paramN jb.d 36 2 ≤ x.1) ∧
    t.recd.due ≠ none ∧ jb ∈ t.recd.waiters)
end

