-- ==== Sys2Proof/Laws/Store.lean ====
section
/-! SUPPORT. The laws of the sparse stores: what a read gives after a write, and that every operation keeps the canonical
form. -/

namespace Sys2Proof.Machine

/-! ### Keys that rise -/

/-- Every key of a map lies above a bound. -/
def Above {α : Type} (a : Nat) (m : SMap α) : Prop := ∀ p ∈ m, a < p.1

theorem wf_cons {α : Type} {a : Nat} {v : α} {m : SMap α} :
    SMap.wf ((a, v) :: m) = true ↔ Above a m ∧ SMap.wf m = true := by
  induction m generalizing a v with
  | nil => simp [SMap.wf, Above]
  | cons p m ih =>
    obtain ⟨b, w⟩ := p
    simp only [SMap.wf, Bool.and_eq_true, decide_eq_true_eq]
    constructor
    · rintro ⟨hab, hm⟩
      refine ⟨?_, hm⟩
      intro q hq
      rcases List.mem_cons.mp hq with rfl | hq
      · exact hab
      · exact hab.trans ((ih.mp hm).1 q hq)
    · rintro ⟨hab, hm⟩
      exact ⟨hab (b, w) (List.mem_cons_self ..), hm⟩

theorem above_put {α : Type} {a b : Nat} {v : α} {m : SMap α} (hm : Above a m) (hb : a < b) : Above a (put b v m) := by
  induction m with
  | nil => simpa [put, Above] using hb
  | cons p m ih =>
    obtain ⟨k, w⟩ := p
    have hk : a < k := hm (k, w) (List.mem_cons_self ..)
    have ht : Above a m := fun q hq => hm q (List.mem_cons_of_mem _ hq)
    unfold put
    split
    · intro q hq
      rcases List.mem_cons.mp hq with rfl | hq
      · exact hb
      · exact hm q hq
    · split
      · intro q hq
        rcases List.mem_cons.mp hq with rfl | hq
        · exact hb
        · exact ht q hq
      · intro q hq
        rcases List.mem_cons.mp hq with rfl | hq
        · exact hk
        · exact ih ht q hq

@[simp] theorem put_wf {α : Type} (a : Nat) (v : α) (m : SMap α) (h : SMap.wf m = true) : SMap.wf (put a v m) = true := by
  induction m with
  | nil => rfl
  | cons p m ih =>
    obtain ⟨k, w⟩ := p
    have hk := wf_cons.mp h
    unfold put
    split
    · rename_i hak
      refine wf_cons.mpr ⟨?_, h⟩
      intro q hq
      rcases List.mem_cons.mp hq with rfl | hq
      · exact hak
      · exact hak.trans (hk.1 q hq)
    · split
      · rename_i hak
        subst hak
        exact wf_cons.mpr hk
      · exact wf_cons.mpr ⟨above_put hk.1 (by omega), ih hk.2⟩

@[simp] theorem filter_wf {α : Type} (f : Nat × α → Bool) (m : SMap α) (h : SMap.wf m = true) :
    SMap.wf (m.filter f) = true := by
  induction m with
  | nil => rfl
  | cons p m ih =>
    obtain ⟨k, w⟩ := p
    have hk := wf_cons.mp h
    rw [List.filter_cons]
    split
    · exact wf_cons.mpr ⟨fun q hq => hk.1 q (List.mem_of_mem_filter hq), ih hk.2⟩
    · exact ih hk.2

@[simp] theorem del_wf {α : Type} (a : Nat) (m : SMap α) (h : SMap.wf m = true) : SMap.wf (del a m) = true :=
  filter_wf _ _ h

@[simp] theorem upd_wf {α : Type} (a : Nat) (d : α) (f : α → α) (m : SMap α) (h : SMap.wf m = true) :
    SMap.wf (upd a d f m) = true := put_wf _ _ _ h

/-! ### Reading a map after a write -/

theorem look_above {α : Type} {a : Nat} {m : SMap α} (h : Above a m) : look m a = none := by
  cases m with
  | nil => rfl
  | cons p m =>
    obtain ⟨k, w⟩ := p
    have hk : a < k := h (k, w) (List.mem_cons_self ..)
    simp [look, hk.ne, hk]

@[simp] theorem look_put_self {α : Type} (a : Nat) (v : α) (m : SMap α) : look (put a v m) a = some v := by
  induction m with
  | nil => simp [put, look]
  | cons p m ih =>
    obtain ⟨k, w⟩ := p
    unfold put
    split
    · simp [look]
    · split
      · simp [look]
      · rename_i h1 h2
        simp [look, h1, h2, ih]

theorem look_put_of_ne {α : Type} {a b : Nat} (h : b ≠ a) (v : α) {m : SMap α} (hm : SMap.wf m = true) :
    look (put a v m) b = look m b := by
  induction m with
  | nil => simp [put, look, h]
  | cons p m ih =>
    obtain ⟨k, w⟩ := p
    have hk := wf_cons.mp hm
    unfold put
    split
    · rename_i hak
      by_cases hba : b < a
      · have hbk : b < k := hba.trans hak
        simp [look, h, hba, hbk.ne, hbk]
      · simp [look, h, hba]
    · split
      · rename_i hak
        subst hak
        by_cases hba : b < a
        · simp [look, h, hba]
        · simp [look, h, hba]
      · by_cases hbk : b = k
        · simp [look, hbk]
        · simp [look, hbk, ih hk.2]

theorem look_del_self {α : Type} (a : Nat) {m : SMap α} (hm : SMap.wf m = true) : look (del a m) a = none := by
  induction m with
  | nil => rfl
  | cons p m ih =>
    obtain ⟨k, w⟩ := p
    have hk := wf_cons.mp hm
    by_cases h : k = a
    · subst h
      have : del k ((k, w) :: m) = del k m := by simp [del]
      rw [this]
      exact ih hk.2
    · have hd : del a ((k, w) :: m) = (k, w) :: del a m := by simp [del, h]
      rw [hd]
      by_cases hak : a < k
      · simp [look, Ne.symm h, hak]
      · simp [look, Ne.symm h, hak, ih hk.2]

theorem look_del_of_ne {α : Type} {a b : Nat} (h : b ≠ a) {m : SMap α} (hm : SMap.wf m = true) :
    look (del a m) b = look m b := by
  induction m with
  | nil => rfl
  | cons p m ih =>
    obtain ⟨k, w⟩ := p
    have hk := wf_cons.mp hm
    by_cases hka : k = a
    · subst hka
      have hd : del k ((k, w) :: m) = del k m := by simp [del]
      rw [hd, ih hk.2]
      by_cases hbk : b < k
      · have hn : look m b = none := look_above (fun q hq => hbk.trans (hk.1 q hq))
        simp [look, h, hbk, hn]
      · simp [look, h, hbk]
    · have hd : del a ((k, w) :: m) = (k, w) :: del a m := by simp [del, hka]
      rw [hd]
      simp [look, ih hk.2]

/-! ### Byte memory -/

theorem all_put {f : Host.Cell → Bool} {a : Nat} {b : Byte} {m : Mem} (h : m.all f = true) (hb : f (a, b) = true) :
    (put a b m).all f = true := by
  induction m with
  | nil => simp [put, hb]
  | cons p m ih =>
    obtain ⟨k, w⟩ := p
    simp only [List.all_cons, Bool.and_eq_true] at h
    unfold put
    split
    · simp [hb, h.1, h.2]
    · split
      · simp [hb, h.2]
      · simp only [List.all_cons, Bool.and_eq_true]
        exact ⟨h.1, ih h.2⟩

/-- Writing a byte keeps the canonical form. -/
@[simp] theorem wr_wf (m : Mem) (a : Nat) (b : Byte) (h : Mem.wf m = true) : Mem.wf (wr m a b) = true := by
  simp only [Mem.wf, Bool.and_eq_true] at h ⊢
  unfold wr
  split
  · exact ⟨del_wf _ _ h.1, List.all_eq_true.mpr (fun c hc => List.all_eq_true.mp h.2 c (List.mem_of_mem_filter hc))⟩
  · rename_i hb
    exact ⟨put_wf _ _ _ h.1, all_put h.2 (by simpa using hb)⟩

@[simp] theorem wrN_wf (m : Mem) (a : Nat) (bs : List Byte) (h : Mem.wf m = true) : Mem.wf (wrN m a bs) = true := by
  induction bs generalizing m a with
  | nil => exact h
  | cons b bs ih => exact ih _ _ (wr_wf _ _ _ h)

@[simp] theorem mem_filter_wf (f : Host.Cell → Bool) (m : Mem) (h : Mem.wf m = true) : Mem.wf (m.filter f) = true := by
  simp only [Mem.wf, Bool.and_eq_true] at h ⊢
  exact ⟨filter_wf _ _ h.1, List.all_eq_true.mpr (fun c hc => List.all_eq_true.mp h.2 c (List.mem_of_mem_filter hc))⟩

@[simp] theorem zeroN_wf (m : Mem) (a n : Nat) (h : Mem.wf m = true) : Mem.wf (zeroN m a n) = true := mem_filter_wf _ _ h

theorem mem_foldl_wf {α : Type} {l : List α} {f : Mem → α → Mem} {m : Mem} (hf : ∀ x m, Mem.wf m = true → Mem.wf (f m x) = true)
    (h : Mem.wf m = true) : Mem.wf (l.foldl f m) = true := by
  induction l generalizing m with
  | nil => exact h
  | cons x l ih => exact ih (hf x m h)

@[simp] theorem copyN_wf (dst src : Mem) (a n : Nat) (h : Mem.wf dst = true) : Mem.wf (copyN dst src a n) = true :=
  mem_foldl_wf (fun _ _ hm => wr_wf _ _ _ hm) (mem_filter_wf _ _ h)

@[simp] theorem wrBit_wf (m : Mem) (b : Nat) (v : Bool) (h : Mem.wf m = true) : Mem.wf (wrBit m b v) = true := wr_wf _ _ _ h

@[simp] theorem wrBits_wf (m : Mem) (b n v : Nat) (h : Mem.wf m = true) : Mem.wf (wrBits m b n v) = true := by
  induction n with
  | zero => exact h
  | succ n ih => exact wrBit_wf _ _ _ ih

@[simp] theorem nil_wf : Mem.wf [] = true := rfl

/-- A byte reads back as it was written. -/
@[simp] theorem rd_wr_self (m : Mem) (a : Nat) (b : Byte) (h : Mem.wf m = true) : rd (wr m a b) a = b := by
  simp only [Mem.wf, Bool.and_eq_true] at h
  unfold rd wr
  split
  · rename_i hb
    simp [look_del_self a h.1, hb]
  · simp

/-- A write leaves every other byte alone. -/
theorem rd_wr_of_ne (m : Mem) {a c : Nat} (hc : c ≠ a) (b : Byte) (h : Mem.wf m = true) : rd (wr m a b) c = rd m c := by
  simp only [Mem.wf, Bool.and_eq_true] at h
  unfold rd wr
  split
  · rw [look_del_of_ne hc h.1]
  · rw [look_put_of_ne hc b h.1]

/-- Writing bytes leaves every address outside their run alone. -/
theorem rd_wrN_outside (m : Mem) (a c : Nat) (bs : List Byte) (hc : c < a ∨ a + bs.length ≤ c) (h : Mem.wf m = true) :
    rd (wrN m a bs) c = rd m c := by
  induction bs generalizing m a with
  | nil => rfl
  | cons b bs ih =>
    simp only [List.length_cons] at hc
    rw [wrN, ih _ _ (by omega) (wr_wf _ _ _ h), rd_wr_of_ne m (by omega) b h]

end Sys2Proof.Machine
end

