-- ==== Sys2Proof/Laws/Frame.lean ====
section
/-! SUPPORT. What almost every operation of the machine keeps, and how it goes through the loops over lists. -/

namespace Sys2Proof.Machine

/-- What almost every operation keeps: the queue, the life-cycle code, and the canonical forms of the register bank and
of the byte memories. -/
abbrev Tidy (s t : State) : Prop :=
  t.pending = s.pending ∧ t.sec.life = s.sec.life ∧ (SMap.wf s.regs = true → SMap.wf t.regs = true) ∧
    (Mem.wf s.mem.data = true → Mem.wf t.mem.data = true) ∧ (Mem.wf s.mem.code = true → Mem.wf t.mem.code = true) ∧
    (Mem.wf s.img.live = true → Mem.wf t.img.live = true) ∧ (Mem.wf s.nv.mem = true → Mem.wf t.nv.mem = true) ∧
    (Mem.wf s.boot.staging = true → Mem.wf t.boot.staging = true)

theorem Tidy.refl (s : State) : Tidy s s := by simp [Tidy]

theorem Tidy.trans {s t u : State} (h : Tidy s t) (k : Tidy t u) : Tidy s u := by
  simp_all [Tidy]

@[simp] theorem ite_pending (c : Prop) [Decidable c] (a b : State) :
    (if c then a else b).pending = if c then a.pending else b.pending := by split <;> rfl

@[simp] theorem ite_life (c : Prop) [Decidable c] (a b : State) :
    (if c then a else b).sec.life = if c then a.sec.life else b.sec.life := by split <;> rfl

@[simp] theorem ite_regs (c : Prop) [Decidable c] (a b : State) (ha : SMap.wf a.regs = true) (hb : SMap.wf b.regs = true) :
    SMap.wf (if c then a else b).regs = true := by split <;> assumption

@[simp] theorem ite_data (c : Prop) [Decidable c] (a b : State) (ha : Mem.wf a.mem.data = true) (hb : Mem.wf b.mem.data = true) :
    Mem.wf (if c then a else b).mem.data = true := by split <;> assumption

@[simp] theorem ite_code (c : Prop) [Decidable c] (a b : State) (ha : Mem.wf a.mem.code = true) (hb : Mem.wf b.mem.code = true) :
    Mem.wf (if c then a else b).mem.code = true := by split <;> assumption

@[simp] theorem ite_live (c : Prop) [Decidable c] (a b : State) (ha : Mem.wf a.img.live = true) (hb : Mem.wf b.img.live = true) :
    Mem.wf (if c then a else b).img.live = true := by split <;> assumption

@[simp] theorem ite_nv (c : Prop) [Decidable c] (a b : State) (ha : Mem.wf a.nv.mem = true) (hb : Mem.wf b.nv.mem = true) :
    Mem.wf (if c then a else b).nv.mem = true := by split <;> assumption

@[simp] theorem ite_staging (c : Prop) [Decidable c] (a b : State) (ha : Mem.wf a.boot.staging = true)
    (hb : Mem.wf b.boot.staging = true) : Mem.wf (if c then a else b).boot.staging = true := by split <;> assumption

@[simp] theorem ite_mem (c : Prop) [Decidable c] (a b : Mem) (ha : Mem.wf a = true) (hb : Mem.wf b = true) :
    Mem.wf (if c then a else b) = true := by split <;> assumption

@[simp] theorem elim_tidy {α : Type} (o : Option α) (s : State) (f : α → State) (hf : ∀ x, Tidy s (f x)) :
    Tidy s (o.elim s f) := by
  cases o with
  | none => exact Tidy.refl s
  | some x => exact hf x

theorem foldl_to {α : Type} {l : List α} {f : State → α → State} {s0 s : State} (hf : ∀ x s, Tidy s (f s x))
    (hs : Tidy s0 s) : Tidy s0 (l.foldl f s) := by
  induction l generalizing s with
  | nil => exact hs
  | cons x l ih => exact ih (hs.trans (hf x s))

theorem foldlPair_to {α β : Type} {l : List α} {f : State × β → α → State × β} {b : β} {s0 s : State}
    (hf : ∀ x p, Tidy p.1 (f p x).1) (hs : Tidy s0 s) : Tidy s0 (l.foldl f (s, b)).1 := by
  induction l generalizing s b with
  | nil => exact hs
  | cons x l ih => exact ih (hs.trans (hf x (s, b)))

theorem forEach_to {α : Type} {l : List α} {f : α → State → State} {s0 s : State} (hf : ∀ x s, Tidy s (f x s))
    (hs : Tidy s0 s) : Tidy s0 (forEach l s f) := foldl_to hf hs

@[simp] theorem forEach_tidy {α : Type} (l : List α) (f : α → State → State) (s : State)
    (hf : ∀ x s, Tidy s (f x s)) : Tidy s (forEach l s f) := forEach_to hf (Tidy.refl s)

@[simp] theorem foldl_tidy {α : Type} (l : List α) (f : State → α → State) (s : State)
    (hf : ∀ x s, Tidy s (f s x)) : Tidy s (l.foldl f s) := foldl_to hf (Tidy.refl s)

end Sys2Proof.Machine
end

