-- ==== Sys2Proof/Laws/FrameOps.lean ====
section
/-! SUPPORT. Each operation of Ops.lean keeps the queue, the life-cycle code and the canonical forms. -/

namespace Sys2Proof.Machine

open Reg

@[simp] theorem bput_wf (f : Field) (v : Nat) (b : Bank) (h : SMap.wf b = true) : SMap.wf (bput f v b) = true := by
  unfold bput
  dsimp only
  split <;> simp [h]

@[simp] theorem fput_tidy (f : Field) (v : Nat) (s : State) : Tidy s (fput f v s) := by
  simp +contextual [Tidy, fput]

@[simp] theorem raise_tidy (f : Field) (s : State) : Tidy s (raise f s) := by
  simp +contextual (maxDischargeDepth := 40) [Tidy, raise]

@[simp] theorem fputBit_tidy (f : Field) (i : Nat) (v : Bool) (s : State) : Tidy s (fputBit f i v s) := by
  simp +contextual (maxDischargeDepth := 40) [Tidy, fputBit]

@[simp] theorem bump_tidy (f : Field) (n : Nat) (s : State) : Tidy s (bump f n s) := by
  simp +contextual (maxDischargeDepth := 40) [Tidy, bump]

@[simp] theorem bumpWrap_tidy (f : Field) (n : Nat) (s : State) : Tidy s (bumpWrap f n s) := by
  simp +contextual (maxDischargeDepth := 40) [Tidy, bumpWrap]

@[simp] theorem bumpMax_tidy (f : Field) (v : Nat) (s : State) : Tidy s (bumpMax f v s) := by
  simp +contextual (maxDischargeDepth := 40) [Tidy, bumpMax]

@[simp] theorem resetBlock_tidy (lo hi : Nat) (s : State) : Tidy s (resetBlock lo hi s) := by
  simp +contextual (maxDischargeDepth := 40) [Tidy, resetBlock]

@[simp] theorem advance_tidy (t : Nat) (s : State) : Tidy s (advance t s) := by
  simp +contextual (maxDischargeDepth := 40) [Tidy, advance]

@[simp] theorem toBoundary_tidy (n : Nat) (s : State) : Tidy s (toBoundary n s) := by
  simp +contextual (maxDischargeDepth := 40) [Tidy, toBoundary]

@[simp] theorem newGrid_tidy (n : State) : Tidy n (newGrid n) := by
  simp +contextual (maxDischargeDepth := 40) [Tidy, newGrid]

@[simp] theorem stepTime_tidy (d : Nat) (t : Nat) (s : State) : Tidy s (stepTime d t s) := by
  simp +contextual (maxDischargeDepth := 40) [Tidy, stepTime]

@[simp] theorem fresh_tidy (s : State) : Tidy s (fresh s).1 := by
  simp +contextual (maxDischargeDepth := 40) [Tidy, fresh]

@[simp] theorem emit_tidy (o : Output) (s : State) : Tidy s (emit o s) := by
  simp +contextual (maxDischargeDepth := 40) [Tidy, emit]

@[simp] theorem dma_tidy (o : Output) (s : State) : Tidy s (dma o s) := by
  simp +contextual (maxDischargeDepth := 40) [Tidy, dma]

@[simp] theorem interrupt_tidy (v : Nat) (s : State) : Tidy s (interrupt v s) := by
  simp +contextual (maxDischargeDepth := 40) [Tidy, interrupt]

@[simp] theorem sendPending_tidy (s : State) : Tidy s (sendPending s) := by
  simp +contextual (maxDischargeDepth := 40) [Tidy, sendPending]

@[simp] theorem setRing_tidy (r : Nat) (f : Ring → Ring) (s : State) : Tidy s (setRing r f s) := by
  simp +contextual (maxDischargeDepth := 40) [Tidy, setRing]

@[simp] theorem showFull_tidy (r : Nat) (s : State) : Tidy s (showFull r s) := by
  simp +contextual (maxDischargeDepth := 40) [Tidy, showFull]

@[simp] theorem signalRing_tidy (r : Nat) (s : State) : Tidy s (signalRing r s) := by
  simp +contextual (maxDischargeDepth := 40) [Tidy, signalRing]

@[simp] theorem trySignal_tidy (r : Nat) (s : State) : Tidy s (trySignal r s) := by
  simp +contextual (maxDischargeDepth := 40) [Tidy, trySignal]

@[simp] theorem postCq_tidy (r : Nat) (body : List Byte) (irqNow : Bool) (s : State) : Tidy s (postCq r body irqNow
    s) := by
  simp +contextual (maxDischargeDepth := 40) [Tidy, postCq]

@[simp] theorem event_tidy (src code a b : Nat) (s : State) : Tidy s (event src code a b s) := by
  unfold event
  (repeat' split) <;> simp +contextual (maxDischargeDepth := 40) [Tidy]

@[simp] theorem jadd_tidy (e : JEntry) (s : State) : Tidy s (jadd e s) := by
  simp +contextual (maxDischargeDepth := 40) [Tidy, jadd]

@[simp] theorem jnote_tidy (type a b : Nat) (s : State) : Tidy s (jnote type a b s) := by
  simp +contextual (maxDischargeDepth := 40) [Tidy, jnote]

@[simp] theorem svcOut_tidy (o : Output) (s : State) : Tidy s (svcOut o s) := by
  simp +contextual (maxDischargeDepth := 40) [Tidy, svcOut]

@[simp] theorem svcAnswer_tidy (body : List Byte) (s : State) : Tidy s (svcAnswer body s) := by
  unfold svcAnswer
  (repeat' split) <;> simp +contextual (maxDischargeDepth := 40) [Tidy]

@[simp] theorem enterError_tidy (r index reason : Nat) (s : State) : Tidy s (enterError r index reason s) := by
  simp +contextual (maxDischargeDepth := 40) [Tidy, enterError]

@[simp] theorem flush_tidy (r : Nat) (n : Nat) (s : State) : Tidy s (flush r n s) := by
  induction n generalizing s with
  | zero => exact Tidy.refl s
  | succ n ih =>
    simp only [flush]
    (repeat' split) <;> simp +contextual (maxDischargeDepth := 40) [Tidy, ih]

@[simp] theorem jcompleted_tidy (jb : Job) (status reason result : Nat) (s : State) : Tidy s (jcompleted jb status
    reason result s) := by
  simp +contextual (maxDischargeDepth := 40) [Tidy, jcompleted]

@[simp] theorem fillSlot_tidy (r index key : Nat) (body : List Byte) (s : State) : Tidy s (fillSlot r index key body
    s) := by
  simp +contextual (maxDischargeDepth := 40) [Tidy, fillSlot]

@[simp] theorem deliver_tidy (jb : Job) (status reason jseq result : Nat) (data : List Byte) (s : State) : Tidy s
    (deliver jb status reason jseq result data s) := by
  unfold deliver
  (repeat' split) <;> simp +contextual (maxDischargeDepth := 40) [Tidy]

@[simp] theorem finish_tidy (jb : Job) (status reason result : Nat) (data : List Byte) (s : State) : Tidy s (finish
    jb status reason result data s) := by
  simp +contextual (maxDischargeDepth := 40) [Tidy, finish]

@[simp] theorem conclude_tidy (jb : Job) (status reason result : Nat) (data : List Byte) (s : State) : Tidy s
    (conclude jb status reason result data s) := by
  simp +contextual (maxDischargeDepth := 40) [Tidy, conclude]

@[simp] theorem settleFences_tidy (n : Nat) (s : State) : Tidy s (settleFences n s) := by
  induction n generalizing s with
  | zero => exact Tidy.refl s
  | succ n ih =>
    simp only [settleFences]
    (repeat' split) <;> simp +contextual (maxDischargeDepth := 40) [Tidy, ih]

@[simp] theorem settle_tidy (s : State) : Tidy s (settle s) := by
  simp +contextual (maxDischargeDepth := 40) [Tidy, settle]

@[simp] theorem done_tidy (jb : Job) (result : Nat) (data : List Byte) (s : State) : Tidy s (done jb result data s)
    := by
  simp +contextual (maxDischargeDepth := 40) [Tidy, done]

@[simp] theorem ended_tidy (jb : Job) (status reason result : Nat) (s : State) : Tidy s (ended jb status reason
    result s) := by
  simp +contextual (maxDischargeDepth := 40) [Tidy, ended]

@[simp] theorem accept_tidy (op : Nat) (d : Desc) (effect : Nat) (s : State) : Tidy s (accept op d effect s).1 := by
  unfold accept
  (repeat' split) <;> simp +contextual (maxDischargeDepth := 40) [Tidy]

@[simp] theorem refuse_tidy (op : Nat) (d : Desc) (status reason : Nat) (s : State) : Tidy s (refuse op d status
    reason s) := by
  unfold refuse
  (repeat' split) <;> simp +contextual (maxDischargeDepth := 40) [Tidy]

@[simp] theorem setLoop_tidy (x : Nat) (f : Loop → Loop) (s : State) : Tidy s (setLoop x f s) := by
  simp +contextual (maxDischargeDepth := 40) [Tidy, setLoop]

@[simp] theorem noteLoops_tidy (old s : State) : Tidy s (noteLoops old s) := by
  simp +contextual (maxDischargeDepth := 40) [Tidy, noteLoops]

@[simp] theorem changeLoop_tidy (x : Nat) (f : Loop → Loop) (s : State) : Tidy s (changeLoop x f s) := by
  simp +contextual (maxDischargeDepth := 40) [Tidy, changeLoop]

@[simp] theorem cancelTrim_tidy (x : Nat) (s : State) : Tidy s (cancelTrim x s) := by
  simp +contextual (maxDischargeDepth := 40) [Tidy, cancelTrim]

@[simp] theorem setCtl_tidy (new : Nat) (s : State) : Tidy s (setCtl new s) := by
  simp +contextual (maxDischargeDepth := 40) [Tidy, setCtl]

@[simp] theorem dropHandover_tidy (old : Nat) (s : State) : Tidy s (dropHandover old s) := by
  unfold dropHandover
  (repeat' split) <;> simp +contextual (maxDischargeDepth := 40) [Tidy]

@[simp] theorem setPair_tidy (new : Nat) (s : State) : Tidy s (setPair new s) := by
  simp +contextual (maxDischargeDepth := 40) [Tidy, setPair]

@[simp] theorem traceNote_tidy (c kind arg addr : Nat) (s : State) : Tidy s (traceNote c kind arg addr s) := by
  simp +contextual (maxDischargeDepth := 40) [Tidy, traceNote]

end Sys2Proof.Machine
end

