-- ==== Sys2Proof/Laws/FrameShared.lean ====
section
/-! SUPPORT. The operations that many families share keep the queue, the life-cycle code and the canonical forms. -/

namespace Sys2Proof.Machine

open Reg

@[simp] theorem measure_tidy (m : Nat) (v : Int) (s : State) : Tidy s (measure m v s) := by
  simp +contextual (maxDischargeDepth := 40) [Tidy, measure]

@[simp] theorem occur_tidy (src c a b : Nat) (s : State) : Tidy s (occur src c a b s) := by
  simp +contextual (maxDischargeDepth := 40) [Tidy, occur]

@[simp] theorem log_tidy (src : Nat) (e : Logged) (a b : Nat) (s : State) : Tidy s (log src e a b s) := by
  simp +contextual (maxDischargeDepth := 40) [Tidy, log]

@[simp] theorem logEarly_tidy (src : Nat) (e : Logged) (a b : Nat) (s : State) : Tidy s (logEarly src e a b s) := by
  simp +contextual (maxDischargeDepth := 40) [Tidy, logEarly]

@[simp] theorem logLate_tidy (src : Nat) (e : Logged) (a b : Nat) (s : State) : Tidy s (logLate src e a b s) := by
  simp +contextual (maxDischargeDepth := 40) [Tidy, logLate]

@[simp] theorem setAxis_tidy (k : Nat) (f : Axis → Axis) (s : State) : Tidy s (setAxis k f s) := by
  simp +contextual (maxDischargeDepth := 40) [Tidy, setAxis]

@[simp] theorem setChan_tidy (n : Nat) (f : Channel → Channel) (s : State) : Tidy s (setChan n f s) := by
  simp +contextual (maxDischargeDepth := 40) [Tidy, setChan]

@[simp] theorem setLevel_tidy (n : Nat) (v : Bool) (s : State) : Tidy s (setLevel n v s) := by
  simp +contextual (maxDischargeDepth := 40) [Tidy, setLevel]

@[simp] theorem setAtSafe_tidy (n : Nat) (v : Bool) (s : State) : Tidy s (setAtSafe n v s) := by
  simp +contextual (maxDischargeDepth := 40) [Tidy, setAtSafe]

@[simp] theorem chanSafe_tidy (n : Nat) (s : State) : Tidy s (chanSafe n s) := by
  simp +contextual (maxDischargeDepth := 40) [Tidy, chanSafe]

@[simp] theorem edgeSafe_tidy (n : Nat) (s : State) : Tidy s (edgeSafe n s) := by
  simp +contextual (maxDischargeDepth := 40) [Tidy, edgeSafe]

@[simp] theorem islandSafe_tidy (s : State) : Tidy s (islandSafe s) := by
  simp +contextual (maxDischargeDepth := 40) [Tidy, islandSafe]

@[simp] theorem explicitSafe_tidy (s : State) : Tidy s (explicitSafe s) := by
  simp +contextual (maxDischargeDepth := 40) [Tidy, explicitSafe]

@[simp] theorem openStages_tidy (s : State) : Tidy s (openStages s) := by
  simp +contextual (maxDischargeDepth := 40) [Tidy, openStages]

@[simp] theorem loopsSafe_tidy (s : State) : Tidy s (loopsSafe s) := by
  simp +contextual (maxDischargeDepth := 40) [Tidy, loopsSafe]

@[simp] theorem allSafe_tidy (s : State) : Tidy s (allSafe s) := by
  simp +contextual (maxDischargeDepth := 40) [Tidy, allSafe]

@[simp] theorem hedgeOut_tidy (x : HedgeTx) (s : State) : Tidy s (hedgeOut x s) := by
  simp +contextual (maxDischargeDepth := 40) [Tidy, hedgeOut]

@[simp] theorem hedgeSend_tidy (m : HedgeMsg) (s : State) : Tidy s (hedgeSend m s) := by
  simp +contextual (maxDischargeDepth := 40) [Tidy, hedgeSend]

@[simp] theorem beatOn_tidy (p : Nat) (fault : Bool) (s : State) : Tidy s (beatOn p fault s) := by
  simp +contextual (maxDischargeDepth := 40) [Tidy, beatOn]

@[simp] theorem sendBeats_tidy (fault : Bool) (s : State) : Tidy s (sendBeats fault s) := by
  simp +contextual (maxDischargeDepth := 40) [Tidy, sendBeats]

@[simp] theorem explicitFault_tidy (s : State) : Tidy s (explicitFault s) := by
  simp +contextual (maxDischargeDepth := 40) [Tidy, explicitFault]

@[simp] theorem startTransfer_tidy (s : State) : Tidy s (startTransfer s) := by
  simp +contextual (maxDischargeDepth := 40) [Tidy, startTransfer]

@[simp] theorem dropTransfer_tidy (s : State) : Tidy s (dropTransfer s) := by
  simp +contextual (maxDischargeDepth := 40) [Tidy, dropTransfer]

@[simp] theorem markUnfit_tidy (reason : Nat) (s : State) : Tidy s (markUnfit reason s) := by
  simp +contextual (maxDischargeDepth := 40) [Tidy, markUnfit]

@[simp] theorem ownUnfit_tidy (reason : Nat) (s : State) : Tidy s (ownUnfit reason s) := by
  simp +contextual (maxDischargeDepth := 40) [Tidy, ownUnfit]

@[simp] theorem setRun_tidy (t : Nat) (f : TaskRun → TaskRun) (s : State) : Tidy s (setRun t f s) := by
  simp +contextual (maxDischargeDepth := 40) [Tidy, setRun]

@[simp] theorem setPhase_tidy (t : Nat) (p : Phase) (s : State) : Tidy s (setPhase t p s) := by
  simp +contextual (maxDischargeDepth := 40) [Tidy, setPhase]

@[simp] theorem request_tidy (rank : Nat) (k : ImgKind) (s : State) : Tidy s (request rank k s) := by
  simp +contextual (maxDischargeDepth := 40) [Tidy, request]

@[simp] theorem requestSnapshot_tidy (t : Nat) (s : State) : Tidy s (requestSnapshot t s) := by
  simp +contextual (maxDischargeDepth := 40) [Tidy, requestSnapshot]

@[simp] theorem touch_tidy (a tag : Nat) (s : State) : Tidy s (touch a tag s) := by
  simp +contextual (maxDischargeDepth := 40) [Tidy, touch]

@[simp] theorem capture_tidy (tag : Nat) (abort : Bool) (s : State) : Tidy s (capture tag abort s) := by
  simp +contextual (maxDischargeDepth := 40) [Tidy, capture]

@[simp] theorem setCore_tidy (c : Nat) (f : Core → Core) (s : State) : Tidy s (setCore c f s) := by
  simp +contextual (maxDischargeDepth := 40) [Tidy, setCore]

@[simp] theorem setLane_tidy (l : Nat) (f : Lane → Lane) (s : State) : Tidy s (setLane l f s) := by
  simp +contextual (maxDischargeDepth := 40) [Tidy, setLane]

@[simp] theorem raiseLine_tidy (c k : Nat) (s : State) : Tidy s (raiseLine c k s) := by
  simp +contextual (maxDischargeDepth := 40) [Tidy, raiseLine]

@[simp] theorem enterCore_tidy (t : Fin 32) (d : TaskDef) (c : CoreDecl) (idx : Nat) (s : State) : Tidy s (enterCore
    t d c idx s) := by
  simp +contextual (maxDischargeDepth := 40) [Tidy, enterCore]

@[simp] theorem enterLane_tidy (t : Fin 32) (d : TaskDef) (l : Nat) (s : State) : Tidy s (enterLane t d l s) := by
  unfold enterLane
  (repeat' split) <;> simp +contextual (maxDischargeDepth := 40) [Tidy]

@[simp] theorem suspend_tidy (t : Nat) (s : State) : Tidy s (suspend t s) := by
  unfold suspend
  (repeat' split) <;> simp +contextual (maxDischargeDepth := 40) [Tidy]

@[simp] theorem resume_tidy (t : Nat) (s : State) : Tidy s (resume t s) := by
  unfold resume
  split
  · exact Tidy.refl _
  · refine forEach_to (fun l s => ?_) (forEach_to (fun c s => ?_) ?_)
    · split
      · exact setLane_tidy _ _ _
      · exact Tidy.refl _
    · split
      · exact setCore_tidy _ _ _
      · exact Tidy.refl _
    · exact Tidy.trans (setPhase_tidy _ _ _) (setRun_tidy _ _ _)

@[simp] theorem startCode_tidy (t : Nat) (s : State) : Tidy s (startCode t s) := by
  unfold startCode
  (repeat' split) <;> simp +contextual (maxDischargeDepth := 40) [Tidy]

@[simp] theorem startReady_tidy (s : State) : Tidy s (startReady s) := by
  unfold startReady
  (try dsimp only)
  refine forEach_to ?_ ?_ <;> (try intro x s) <;> (try dsimp only) <;> (repeat' split) <;> simp +contextual (maxDischargeDepth := 40) [Tidy]

@[simp] theorem dropSnapshot_tidy (t : Nat) (s : State) : Tidy s (dropSnapshot t s) := by
  simp +contextual (maxDischargeDepth := 40) [Tidy, dropSnapshot]

@[simp] theorem judgeDigests_tidy (unfit : Nat → State → State) (own peer : Digest) (s : State) (hunfit : ∀ r (x :
    State), Tidy x (unfit r x)) : Tidy s (judgeDigests unfit own peer s) := by
  unfold judgeDigests
  (try dsimp only)
  repeat' first
    | exact Tidy.refl _
    | with_reducible refine Tidy.trans ?_ (bumpMax_tidy ..)
    | with_reducible refine Tidy.trans ?_ (raise_tidy ..)
    | with_reducible refine Tidy.trans ?_ (fput_tidy ..)
    | split
    | with_reducible refine forEach_to ?_ ?_
    | intro x s
    | (simp +contextual (maxDischargeDepth := 40) [Tidy, hunfit]; done)

@[simp] theorem matchDigests_tidy (unfit : Nat → State → State) (n : Nat) (s : State)
    (hunfit : ∀ r (x : State), Tidy x (unfit r x)) : Tidy s (matchDigests unfit n s) := by
  induction n generalizing s with
  | zero => exact Tidy.refl s
  | succ n ih =>
    simp only [matchDigests]
    split
    · exact Tidy.refl s
    · split
      · exact Tidy.refl s
      · refine Tidy.trans (Tidy.trans ?_ (judgeDigests_tidy unfit _ _ _ hunfit)) (ih _)
        exact ⟨rfl, rfl, id, id, id, id, id, id⟩

@[simp] theorem sendDigest_tidy (t : Nat) (inst gen : Nat) (aborted : Bool) (digest : Nat) (s : State) : Tidy s
    (sendDigest t inst gen aborted digest s) := by
  simp +contextual (maxDischargeDepth := 40) [Tidy, sendDigest]

@[simp] theorem abortedDigest_tidy (s : State) : Tidy s (abortedDigest s) := by
  unfold abortedDigest
  (try dsimp only)
  repeat' first
    | exact Tidy.refl _
    | with_reducible refine Tidy.trans ?_ (matchDigests_tidy ..)
    | with_reducible refine Tidy.trans ?_ (ownUnfit_tidy ..)
    | with_reducible refine Tidy.trans ?_ (hedgeSend_tidy ..)
    | split
    | with_reducible refine forEach_to ?_ ?_
    | intro x s
    | (simp +contextual (maxDischargeDepth := 40) [Tidy]; done)

@[simp] theorem abort_tidy (t : Nat) (s : State) : Tidy s (abort t s) := by
  unfold abort
  dsimp only
  (repeat' split) <;> simp +contextual (maxDischargeDepth := 40) [Tidy]

@[simp] theorem abortAll_tidy (s : State) : Tidy s (abortAll s) := by
  simp +contextual (maxDischargeDepth := 40) [Tidy, abortAll]

@[simp] theorem endCommit_tidy (status reason : Nat) (s : State) : Tidy s (endCommit status reason s) := by
  unfold endCommit
  (repeat' split) <;> simp +contextual (maxDischargeDepth := 40) [Tidy]

@[simp] theorem abortCommit_tidy (s : State) : Tidy s (abortCommit s) := by
  simp +contextual (maxDischargeDepth := 40) [Tidy, abortCommit]

@[simp] theorem haltNow_tidy (cause t : Nat) (s : State) : Tidy s (haltNow cause t s) := by
  simp +contextual (maxDischargeDepth := 40) [Tidy, haltNow]

@[simp] theorem halt_tidy (cause t : Nat) (s : State) : Tidy s (halt cause t s) := by
  simp +contextual (maxDischargeDepth := 40) [Tidy, halt]

@[simp] theorem selfUnfit_tidy (reason : Nat) (s : State) : Tidy s (selfUnfit reason s) := by
  simp +contextual (maxDischargeDepth := 40) [Tidy, selfUnfit]

@[simp] theorem programFault_tidy (cause t : Nat) (s : State) : Tidy s (programFault cause t s) := by
  simp +contextual (maxDischargeDepth := 40) [Tidy, programFault]

@[simp] theorem overrun_tidy (t : Nat) (s : State) : Tidy s (overrun t s) := by
  unfold overrun
  (repeat' split) <;> simp +contextual (maxDischargeDepth := 40) [Tidy]

@[simp] theorem budgetOverrun_tidy (t : Nat) (s : State) : Tidy s (budgetOverrun t s) := by
  simp +contextual (maxDischargeDepth := 40) [Tidy, budgetOverrun]

@[simp] theorem endCheck_tidy (t : Nat) (s : State) : Tidy s (endCheck t s) := by
  simp +contextual (maxDischargeDepth := 40) [Tidy, endCheck]

@[simp] theorem codeSwitch_tidy (t : Nat) (s : State) : Tidy s (codeSwitch t s) := by
  simp +contextual (maxDischargeDepth := 40) [Tidy, codeSwitch]

@[simp] theorem preempt_tidy (t : Nat) (s : State) : Tidy s (preempt t s) := by
  unfold preempt
  repeat' first
    | (simp +contextual (maxDischargeDepth := 40) [Tidy]; done)
    | split
    | refine forEach_to ?_ ?_
    | refine foldl_to ?_ ?_
    | intro x s
    | simp +contextual (maxDischargeDepth := 40) [Tidy]

@[simp] theorem startRelease_tidy (t : Nat) (s : State) : Tidy s (startRelease t s) := by
  simp +contextual (maxDischargeDepth := 40) [Tidy, startRelease]

@[simp] theorem release_tidy (t : Nat) (s : State) : Tidy s (release t s) := by
  unfold release
  (repeat' split) <;> simp +contextual (maxDischargeDepth := 40) [Tidy]

@[simp] theorem releaseAll_tidy (ts : List Nat) (s : State) : Tidy s (releaseAll ts s) := by
  simp +contextual (maxDischargeDepth := 40) [Tidy, releaseAll]

@[simp] theorem watchUpdate_tidy (s : State) : Tidy s (watchUpdate s) := by
  unfold watchUpdate
  (repeat' split) <;> simp +contextual (maxDischargeDepth := 40) [Tidy]

@[simp] theorem endStall_tidy (t : Nat) (s : State) : Tidy s (endStall t s) := by
  simp +contextual (maxDischargeDepth := 40) [Tidy, endStall]

@[simp] theorem newReference_tidy (s : State) : Tidy s (newReference s) := by
  simp +contextual (maxDischargeDepth := 40) [Tidy, newReference]

@[simp] theorem evidence_tidy (cause : Nat) (s : State) : Tidy s (evidence cause s) := by
  simp +contextual (maxDischargeDepth := 40) [Tidy, evidence]

@[simp] theorem warning_tidy (cause : Nat) (s : State) : Tidy s (warning cause s) := by
  simp +contextual (maxDischargeDepth := 40) [Tidy, warning]

@[simp] theorem forceWarning_tidy (cause : Nat) (s : State) : Tidy s (forceWarning cause s) := by
  simp +contextual (maxDischargeDepth := 40) [Tidy, forceWarning]

@[simp] theorem openSlot_tidy (d : Desc) (s : State) : Tidy s (openSlot d s) := by
  unfold openSlot
  (repeat' split) <;> simp +contextual (maxDischargeDepth := 40) [Tidy]

@[simp] theorem dmaError_tidy (op : Nat) (d : Desc) (s : State) : Tidy s (dmaError op d s) := by
  simp +contextual (maxDischargeDepth := 40) [Tidy, dmaError]

@[simp] theorem command_tidy (c : Card) (d : Desc) (own : State → Option (Nat × Nat)) (effect : State → State) (s :
    State) (heffect : ∀ (x : State), Tidy x (effect x)) : Tidy s (command c d own effect s) := by
  unfold command
  dsimp only
  (repeat' split) <;> simp +contextual (maxDischargeDepth := 40) [Tidy, heffect]

@[simp] theorem judged_tidy (c : Card) (d : Desc) (own : State → Option (Nat × Nat)) (note : Nat × Nat → State →
    State) (effect : State → State) (s : State) (hnote : ∀ p (x : State), Tidy x (note p x)) (heffect : ∀ (x :
    State), Tidy x (effect x)) : Tidy s (judged c d own note effect s) := by
  unfold judged
  (repeat' split) <;> simp +contextual (maxDischargeDepth := 40) [Tidy, hnote, heffect]

@[simp] theorem immediate_tidy (op : Nat) (d : Desc) (change : State → State) (result : State → Nat) (data : State →
    List Byte) (s : State) (hchange : ∀ (x : State), Tidy x (change x)) : Tidy s (immediate op d change result data
    s) := by
  simp +contextual (maxDischargeDepth := 40) [Tidy, immediate, hchange]

@[simp] theorem mirrorCmd_tidy (op : Nat) (d : Desc) (cycle : Nat) (s : State) : Tidy s (mirrorCmd op d cycle s) := by
  simp +contextual (maxDischargeDepth := 40) [Tidy, mirrorCmd]

@[simp] theorem deferCmd_tidy (op : Nat) (d : Desc) (act : DefAct) (s : State) : Tidy s (deferCmd op d act s) := by
  simp +contextual (maxDischargeDepth := 40) [Tidy, deferCmd]

@[simp] theorem applyDeferred_tidy (x : Deferred) (cond : State → Option Nat) (effect : State → State × Nat) (s :
    State) (heffect : ∀ (x : State), Tidy x ((effect x).1)) : Tidy s (applyDeferred x cond effect s) := by
  unfold applyDeferred
  dsimp only
  (repeat' split) <;> simp +contextual (maxDischargeDepth := 40) [Tidy, heffect]

@[simp] theorem deferredRow_tidy (p : DefAct → Bool) (cond : Deferred → State → Option Nat) (effect : Deferred →
    State → State × Nat) (s : State) (heffect : ∀ y (x : State), Tidy x ((effect y x).1)) : Tidy s (deferredRow p
    cond effect s) := by
  unfold deferredRow
  (repeat' split) <;> simp +contextual (maxDischargeDepth := 40) [Tidy, heffect]

@[simp] theorem writeUnit_tidy (mark : Mark → Img → Img) (write : Mem → Mem) (s : State)
    (hm : ∀ n i, (mark n i).live = i.live) (hw : ∀ m, Mem.wf m = true → Mem.wf (write m) = true) :
    Tidy s (writeUnit mark write s) := by
  unfold writeUnit
  dsimp only
  exact Tidy.trans (by simp +contextual [Tidy, hm, hw]) (releaseAll_tidy ..)

@[simp] theorem writeBytes_tidy (mark : Mark → Img → Img) (runs : List (Nat × List Byte)) (s : State)
    (hm : ∀ n i, (mark n i).live = i.live) : Tidy s (writeBytes mark runs s) :=
  writeUnit_tidy mark _ s hm (fun _ h => mem_foldl_wf (fun _ _ hm => wrN_wf _ _ _ hm) h)

@[simp] theorem noMark_live (n : Mark) (i : Img) : (noMark n i).live = i.live := rfl

@[simp] theorem applyForces_wf (fs : List ForceEntry) (p : Nat → Bool) (m : Mem) (h : Mem.wf m = true) :
    Mem.wf (applyForces fs p m) = true := by
  unfold applyForces
  refine mem_foldl_wf (fun e m hm => mem_foldl_wf (fun i m hm => ?_) hm) h
  split
  · exact wrBit_wf _ _ _ hm
  · exact hm

@[simp] theorem showForces_tidy (s : State) : Tidy s (showForces s) := by
  simp +contextual (maxDischargeDepth := 40) [Tidy, showForces]

@[simp] theorem serveSnapshot_tidy (t : Nat) (d : TaskDef) (s : State) : Tidy s (serveSnapshot t d s) := by
  simp +contextual (maxDischargeDepth := 40) [Tidy, serveSnapshot]

@[simp] theorem sendField_tidy (s : State) : Tidy s (sendField s) := by
  simp +contextual (maxDischargeDepth := 40) [Tidy, sendField]

@[simp] theorem sendLoop_tidy (x : Nat) (s : State) : Tidy s (sendLoop x s) := by
  simp +contextual (maxDischargeDepth := 40) [Tidy, sendLoop]

@[simp] theorem sendOutputs_tidy (p : Nat → Bool) (s : State) : Tidy s (sendOutputs p s) := by
  unfold sendOutputs
  (try dsimp only)
  refine forEach_to ?_ ?_ <;> (try intro x s) <;> (try dsimp only) <;> (repeat' split) <;> simp +contextual (maxDischargeDepth := 40) [Tidy]

@[simp] theorem copyBits_wf (dst src : Mem) (start len : Nat) (h : Mem.wf dst = true) :
    Mem.wf (copyBits dst src start len) = true := by
  unfold copyBits
  dsimp only
  exact mem_foldl_wf (fun _ _ hm => wrBit_wf _ _ _ hm)
    (copyN_wf _ _ _ _ (mem_foldl_wf (fun _ _ hm => wrBit_wf _ _ _ hm) h))

@[simp] theorem commitImage_wf (d : TaskDef) (live view : Mem) (forces : List ForceEntry) (h : Mem.wf live = true) :
    Mem.wf (commitImage d live view forces) = true := by
  unfold commitImage
  exact applyForces_wf _ _ _ (mem_foldl_wf (fun _ _ hm => copyBits_wf _ _ _ _ hm) h)

@[simp] theorem requestPublish_tidy (t inst : Nat) (s : State) : Tidy s (requestPublish t inst s) := by
  simp +contextual (maxDischargeDepth := 40) [Tidy, requestPublish]

@[simp] theorem queueTrims_tidy (t : Nat) (d : TaskDef) (s : State) : Tidy s (queueTrims t d s) := by
  simp +contextual (maxDischargeDepth := 40) [Tidy, queueTrims]

@[simp] theorem compareDigests_tidy (s : State) : Tidy s (compareDigests s) := by
  unfold compareDigests
  (try dsimp only)
  repeat' first
    | exact Tidy.refl _
    | with_reducible refine Tidy.trans ?_ (matchDigests_tidy ..)
    | with_reducible refine Tidy.trans ?_ (selfUnfit_tidy ..)
    | with_reducible refine Tidy.trans ?_ (ownUnfit_tidy ..)
    | split
    | with_reducible refine forEach_to ?_ ?_
    | intro x s
    | (simp +contextual (maxDischargeDepth := 40) [Tidy]; done)

@[simp] theorem serveCommit_tidy (t inst exec at_ : Nat) (d : TaskDef) (s : State) : Tidy s (serveCommit t inst exec
    at_ d s) := by
  unfold serveCommit
  dsimp only
  (repeat' split) <;> simp_all +contextual (maxDischargeDepth := 40) [Tidy]

@[simp] theorem clearRead_tidy (f : Field) (s : State) : Tidy s (clearRead f s) := by
  simp +contextual (maxDischargeDepth := 40) [Tidy, clearRead]

@[simp] theorem hostRead_tidy (o width : Nat) (s : State) : Tidy s (hostRead o width s) := by
  unfold hostRead
  (repeat' split) <;> simp +contextual (maxDischargeDepth := 40) [Tidy]

@[simp] theorem dropRing_tidy (r st : Nat) (s : State) : Tidy s (dropRing r st s) := by
  simp +contextual (maxDischargeDepth := 40) [Tidy, dropRing]

@[simp] theorem startZeroing_tidy (r : Nat) (s : State) : Tidy s (startZeroing r s) := by
  simp +contextual (maxDischargeDepth := 40) [Tidy, startZeroing]

@[simp] theorem writeRingFields_tidy (r : Nat) (v : Word) (s : State) : Tidy s (writeRingFields r v s) := by
  simp +contextual (maxDischargeDepth := 40) [Tidy, writeRingFields]

@[simp] theorem clearRing_tidy (r : Nat) (s : State) : Tidy s (clearRing r s) := by
  simp +contextual (maxDischargeDepth := 40) [Tidy, clearRing]

@[simp] theorem zeroQueue_tidy (r : Nat) (s : State) : Tidy s (zeroQueue r s) := by
  simp +contextual (maxDischargeDepth := 40) [Tidy, zeroQueue]

@[simp] theorem hostReset_tidy (kind : Nat) (s : State) : Tidy s (hostReset kind s) := by
  simp +contextual (maxDischargeDepth := 40) [Tidy, hostReset]

@[simp] theorem writeField_tidy (f : Field) (w : Nat) (s : State) : Tidy s (writeField f w s) := by
  unfold writeField
  (repeat' split) <;> simp +contextual (maxDischargeDepth := 40) [Tidy]

@[simp] theorem writeReg_tidy (d : RegDef) (n v : Nat) (s : State) : Tidy s (writeReg d n v s) := by
  simp +contextual (maxDischargeDepth := 40) [Tidy, writeReg]

@[simp] theorem hostWrite_tidy (o width : Nat) (v : Word) (s : State) : Tidy s (hostWrite o width v s) := by
  unfold hostWrite
  dsimp only
  (repeat' split) <;> simp +contextual (maxDischargeDepth := 40) [Tidy]

@[simp] theorem ringGone_tidy (p : Nat → Bool) (s : State) : Tidy s (ringGone p s) := by
  simp +contextual (maxDischargeDepth := 40) [Tidy, ringGone]

@[simp] theorem refuseSetup_tidy (r cause : Nat) (s : State) : Tidy s (refuseSetup r cause s) := by
  simp +contextual (maxDischargeDepth := 40) [Tidy, refuseSetup]

@[simp] theorem ringEnableEffect_tidy (r : Nat) (cfg : Word) (s : State) : Tidy s (ringEnableEffect r cfg s) := by
  unfold ringEnableEffect
  dsimp only
  (repeat' split) <;> simp +contextual (maxDischargeDepth := 40) [Tidy]

@[simp] theorem startResync_tidy (s : State) : Tidy s (startResync s) := by
  simp +contextual (maxDischargeDepth := 40) [Tidy, startResync]

@[simp] theorem ringReady_tidy (r : Nat) (s : State) : Tidy s (ringReady r s) := by
  simp +contextual (maxDischargeDepth := 40) [Tidy, ringReady]

theorem execRingZeroingDone_tidy (r : Fin 128) (s : State) {s' : State} (h : execRingZeroingDone r s = .next s') :
    Tidy s s' := by
  unfold execRingZeroingDone at h
  injection h with h
  subst h
  simp +contextual (maxDischargeDepth := 40) [Tidy]

@[simp] theorem ringDisableEffect_tidy (r : Nat) (cfg : Word) (s : State) : Tidy s (ringDisableEffect r cfg s) := by
  simp +contextual (maxDischargeDepth := 40) [Tidy, ringDisableEffect]

@[simp] theorem ringResetEffect_tidy (r : Nat) (s : State) : Tidy s (ringResetEffect r s) := by
  simp +contextual (maxDischargeDepth := 40) [Tidy, ringResetEffect]

@[simp] theorem writeRingCfg_tidy (r : Nat) (cfg : Word) (s : State) : Tidy s (writeRingCfg r cfg s) := by
  unfold writeRingCfg
  dsimp only
  (repeat' split) <;> simp +contextual (maxDischargeDepth := 40) [Tidy]

theorem execRingEnable_tidy (r : Fin 128) (cfg : Word) (s : State) {s' : State} (h : execRingEnable r cfg s = .next
    s') : Tidy s s' := by
  unfold execRingEnable at h
  injection h with h
  subst h
  (repeat' split) <;> simp +contextual (maxDischargeDepth := 40) [Tidy]

theorem execRingDisable_tidy (r : Fin 128) (cfg : Word) (s : State) {s' : State} (h : execRingDisable r cfg s = .next
    s') : Tidy s s' := by
  unfold execRingDisable at h
  injection h with h
  subst h
  simp +contextual (maxDischargeDepth := 40) [Tidy]

theorem execRingReset_tidy (r : Fin 128) (cfg : Word) (s : State) {s' : State} (h : execRingReset r cfg s = .next s')
    : Tidy s s' := by
  unfold execRingReset at h
  injection h with h
  subst h
  (repeat' split) <;> simp +contextual (maxDischargeDepth := 40) [Tidy]

@[simp] theorem badDoorbell_tidy (s : State) : Tidy s (badDoorbell s) := by
  simp +contextual (maxDischargeDepth := 40) [Tidy, badDoorbell]

theorem execSqTailDoorbell_tidy (r : Fin 128) (b : Bell) (s : State) {s' : State} (h :
    execSqTailDoorbell r b s = .next s') : Tidy s s' := by
  unfold execSqTailDoorbell at h
  injection h with h
  subst h
  simp +contextual (maxDischargeDepth := 40) [Tidy]

@[simp] theorem endNic_tidy (r : Nat) (s : State) : Tidy s (endNic r s) := by
  unfold endNic
  (repeat' split) <;> simp +contextual (maxDischargeDepth := 40) [Tidy]

@[simp] theorem consume_tidy (r v : Nat) (s : State) : Tidy s (consume r v s) := by
  simp +contextual (maxDischargeDepth := 40) [Tidy, consume]

theorem execCqHeadDoorbell_tidy (r : Fin 128) (b : Bell) (s : State) {s' : State} (h :
    execCqHeadDoorbell r b s = .next s') : Tidy s s' := by
  unfold execCqHeadDoorbell at h
  injection h with h
  subst h
  simp +contextual (maxDischargeDepth := 40) [Tidy]

theorem execInterruptCoalesceExpiry_tidy (r : Fin 128) (s : State) {s' : State} (h : execInterruptCoalesceExpiry r s
    = .next s') : Tidy s s' := by
  unfold execInterruptCoalesceExpiry at h
  injection h with h
  subst h
  (repeat' split) <;> simp +contextual (maxDischargeDepth := 40) [Tidy]

@[simp] theorem hifReset_tidy (kind : Nat) (s : State) : Tidy s (hifReset kind s) := by
  simp +contextual (maxDischargeDepth := 40) [Tidy, hifReset]

theorem execPcieHotReset_tidy (s : State) {s' : State} (h : execPcieHotReset s = .next s') : Tidy s s' := by
  unfold execPcieHotReset at h
  injection h with h
  subst h
  simp +contextual (maxDischargeDepth := 40) [Tidy]

theorem execPerstNAssert_tidy (s : State) {s' : State} (h : execPerstNAssert s = .next s') : Tidy s s' := by
  unfold execPerstNAssert at h
  injection h with h
  subst h
  simp +contextual (maxDischargeDepth := 40) [Tidy]

theorem execFunctionLevelReset_tidy (s : State) {s' : State} (h : execFunctionLevelReset s = .next s') : Tidy s s' :=
    by
  unfold execFunctionLevelReset at h
  injection h with h
  subst h
  simp +contextual (maxDischargeDepth := 40) [Tidy]

theorem execPcieLinkDown_tidy (s : State) {s' : State} (h : execPcieLinkDown s = .next s') : Tidy s s' := by
  unfold execPcieLinkDown at h
  injection h with h
  subst h
  simp +contextual (maxDischargeDepth := 40) [Tidy]

theorem execD3hotEntry_tidy (s : State) {s' : State} (h : execD3hotEntry s = .next s') : Tidy s s' := by
  unfold execD3hotEntry at h
  injection h with h
  subst h
  simp +contextual (maxDischargeDepth := 40) [Tidy]

theorem execPcieLinkUp_tidy (speed width : Nat) (s : State) {s' : State} (h : execPcieLinkUp speed width s = .next
    s') : Tidy s s' := by
  unfold execPcieLinkUp at h
  injection h with h
  subst h
  simp +contextual (maxDischargeDepth := 40) [Tidy]

theorem execRingNop_tidy (d : Desc) (s : State) {s' : State} (h : execRingNop d s = .next s') : Tidy s s' := by
  unfold execRingNop at h
  injection h with h
  subst h
  simp +contextual (maxDischargeDepth := 40) [Tidy]

@[simp] theorem fenceEffect_tidy (d : Desc) (s : State) : Tidy s (fenceEffect d s) := by
  simp +contextual (maxDischargeDepth := 40) [Tidy, fenceEffect]

theorem execFence_tidy (d : Desc) (s : State) {s' : State} (h : execFence d s = .next s') : Tidy s s' := by
  unfold execFence at h
  injection h with h
  subst h
  simp +contextual (maxDischargeDepth := 40) [Tidy]

theorem execFenceTimeout_tidy (s : State) {s' : State} (h : execFenceTimeout s = .next s') : Tidy s s' := by
  unfold execFenceTimeout at h
  injection h with h
  subst h
  (repeat' split) <;> simp +contextual (maxDischargeDepth := 40) [Tidy]

@[simp] theorem takeEntry_tidy (r : Nat) (s : State) : Tidy s (takeEntry r s) := by
  simp +contextual (maxDischargeDepth := 40) [Tidy, takeEntry]

@[simp] theorem bufferError_tidy (r reason number : Nat) (s : State) : Tidy s (bufferError r reason number s) := by
  simp +contextual (maxDischargeDepth := 40) [Tidy, bufferError]

@[simp] theorem postRecord_tidy (r : Nat) (e : BufEntry) (number time : Nat) (bytes : List Byte) (s : State) : Tidy s
    (postRecord r e number time bytes s) := by
  simp +contextual (maxDischargeDepth := 40) [Tidy, postRecord]

@[simp] theorem skipPublish_tidy (s : State) : Tidy s (skipPublish s) := by
  simp +contextual (maxDischargeDepth := 40) [Tidy, skipPublish]

@[simp] theorem writePub_tidy (x : HeldPub) (s : State) : Tidy s (writePub x s) := by
  unfold writePub
  dsimp only
  (repeat' split) <;> simp +contextual (maxDischargeDepth := 40) [Tidy]

@[simp] theorem publish_tidy (r : Nat) (e : BufEntry) (p : PubSet) (inst cycle : Nat) (s : State) : Tidy s (publish r
    e p inst cycle s) := by
  unfold publish
  (repeat' split) <;> simp +contextual (maxDischargeDepth := 40) [Tidy]

theorem execPublishCopy_tidy (r : Fin 128) (e : BufEntry) (s : State) {s' : State} (h : execPublishCopy r e s = .next
    s') : Tidy s s' := by
  unfold execPublishCopy at h
  injection h with h
  subst h
  (repeat' split) <;> simp +contextual (maxDischargeDepth := 40) [Tidy]

@[simp] theorem releaseHeld_tidy (s : State) : Tidy s (releaseHeld s) := by
  simp +contextual (maxDischargeDepth := 40) [Tidy, releaseHeld]

theorem execPcieConfigWrite_tidy (bme : Bool) (msix : MsixCtl) (dev : DevCtl) (s : State) {s' : State} (h
    : execPcieConfigWrite bme msix dev s = .next s') : Tidy s s' := by
  unfold execPcieConfigWrite at h
  injection h with h
  subst h
  simp +contextual (maxDischargeDepth := 40) [Tidy]

@[simp] theorem mirrorOut_tidy (r : Nat) (e : BufEntry) (s : State) : Tidy s (mirrorOut r e s) := by
  unfold mirrorOut
  (repeat' split) <;> simp +contextual (maxDischargeDepth := 40) [Tidy]

theorem execMirrorSend_tidy (e : BufEntry) (s : State) {s' : State} (h : execMirrorSend e s = .next s') : Tidy s s'
    := by
  unfold execMirrorSend at h
  injection h with h
  subst h
  (repeat' split) <;> simp +contextual (maxDischargeDepth := 40) [Tidy]

end Sys2Proof.Machine
end

