-- ==== Sys2Proof/Laws/FrameControl.lean ====
section
/-! SUPPORT. What the controller, the NV store, the sequencer and the rung lanes do keeps the queue, the life-cycle
code and the canonical forms. -/

namespace Sys2Proof.Machine

open Reg

@[simp] theorem zeroRetain_tidy (s : State) : Tidy s (zeroRetain s) := by
  simp +contextual (maxDischargeDepth := 40) [Tidy, zeroRetain]

theorem execCtlStart_tidy (d : Desc) (s : State) {s' : State} (h : execCtlStart d s = .next s') : Tidy s s' := by
  unfold execCtlStart at h
  injection h with h
  subst h
  simp +contextual (maxDischargeDepth := 40) [Tidy]

@[simp] theorem rollCallBegin_tidy (s : State) : Tidy s (rollCallBegin s) := by
  simp +contextual (maxDischargeDepth := 40) [Tidy, rollCallBegin]

@[simp] theorem outputsBegin_tidy (s : State) : Tidy s (outputsBegin s) := by
  simp +contextual (maxDischargeDepth := 40) [Tidy, outputsBegin]

@[simp] theorem freshRuns_tidy (s : State) : Tidy s (freshRuns s) := by
  simp +contextual (maxDischargeDepth := 40) [Tidy, freshRuns]

@[simp] theorem runBegin_tidy (zero : Bool) (s : State) : Tidy s (runBegin zero s) := by
  simp +contextual (maxDischargeDepth := 40) [Tidy, runBegin]

theorem execRunBegin_tidy (s : State) {s' : State} (h : execRunBegin s = .next s') : Tidy s s' := by
  unfold execRunBegin at h
  injection h with h
  subst h
  simp +contextual (maxDischargeDepth := 40) [Tidy]

theorem execCtlStop_tidy (d : Desc) (s : State) {s' : State} (h : execCtlStop d s = .next s') : Tidy s s' := by
  unfold execCtlStop at h
  injection h with h
  subst h
  simp +contextual (maxDischargeDepth := 40) [Tidy]

@[simp] theorem stopBegin_tidy (s : State) : Tidy s (stopBegin s) := by
  simp +contextual (maxDischargeDepth := 40) [Tidy, stopBegin]

theorem execStopBegin_tidy (s : State) {s' : State} (h : execStopBegin s = .next s') : Tidy s s' := by
  unfold execStopBegin at h
  injection h with h
  subst h
  simp +contextual (maxDischargeDepth := 40) [Tidy]

@[simp] theorem haltEffect_tidy (d : Desc) (s : State) : Tidy s (haltEffect d s) := by
  simp +contextual (maxDischargeDepth := 40) [Tidy, haltEffect]

theorem execCtlHalt_tidy (d : Desc) (s : State) {s' : State} (h : execCtlHalt d s = .next s') : Tidy s s' := by
  unfold execCtlHalt at h
  injection h with h
  subst h
  simp +contextual (maxDischargeDepth := 40) [Tidy]

@[simp] theorem clearHalt_tidy (s : State) : Tidy s (clearHalt s) := by
  simp +contextual (maxDischargeDepth := 40) [Tidy, clearHalt]

theorem execCtlClearHalt_tidy (d : Desc) (s : State) {s' : State} (h : execCtlClearHalt d s = .next s') : Tidy s s'
    := by
  unfold execCtlClearHalt at h
  injection h with h
  subst h
  simp +contextual (maxDischargeDepth := 40) [Tidy]

theorem execPairHalt_tidy (cause : Nat) (t : Fin 32) (s : State) {s' : State} (h : execPairHalt cause t s = .next s')
    : Tidy s s' := by
  unfold execPairHalt at h
  injection h with h
  subst h
  simp +contextual (maxDischargeDepth := 40) [Tidy]

@[simp] theorem warmReset_tidy (s : State) : Tidy s (warmReset s) := by
  simp +contextual (maxDischargeDepth := 40) [Tidy, warmReset]

@[simp] theorem warmEffect_tidy (d : Desc) (s : State) : Tidy s (warmEffect d s) := by
  simp +contextual (maxDischargeDepth := 40) [Tidy, warmEffect]

theorem execCtlWarmRestart_tidy (d : Desc) (s : State) {s' : State} (h : execCtlWarmRestart d s = .next s') : Tidy s
    s' := by
  unfold execCtlWarmRestart at h
  injection h with h
  subst h
  simp +contextual (maxDischargeDepth := 40) [Tidy]

@[simp] theorem warmDone_tidy (job : Job) (s : State) : Tidy s (warmDone job s) := by
  simp +contextual (maxDischargeDepth := 40) [Tidy, warmDone]

theorem execWarmRestartDone_tidy (s : State) {s' : State} (h : execWarmRestartDone s = .next s') : Tidy s s' := by
  unfold execWarmRestartDone at h
  injection h with h
  subst h
  (repeat' split) <;> simp +contextual (maxDischargeDepth := 40) [Tidy]

theorem execCtlTrigger_tidy (d : Desc) (s : State) {s' : State} (h : execCtlTrigger d s = .next s') : Tidy s s' := by
  unfold execCtlTrigger at h
  injection h with h
  subst h
  simp +contextual (maxDischargeDepth := 40) [Tidy]

theorem execHostEventRelease_tidy (s : State) {s' : State} (h : execHostEventRelease s = .next s') : Tidy s s' := by
  unfold execHostEventRelease at h
  injection h with h
  subst h
  simp +contextual (maxDischargeDepth := 40) [Tidy]

@[simp] theorem noteConflict_tidy (id : RecId) (s : State) : Tidy s (noteConflict id s) := by
  simp +contextual (maxDischargeDepth := 40) [Tidy, noteConflict]

@[simp] theorem logConflict_tidy (id : RecId) (s : State) : Tidy s (logConflict id s) := by
  simp +contextual (maxDischargeDepth := 40) [Tidy, logConflict]

@[simp] theorem loadRecord_tidy (id : RecId) (s : State) : Tidy s (loadRecord id s).1 := by
  simp +contextual (maxDischargeDepth := 40) [Tidy, loadRecord]

@[simp] theorem queuePage_tidy (w : PageWrite) (s : State) : Tidy s (queuePage w s) := by
  simp +contextual (maxDischargeDepth := 40) [Tidy, queuePage]

@[simp] theorem writeRecord_tidy (id : RecId) (data : List Byte) (job : Option Job) (s : State) : Tidy s (writeRecord
    id data job s) := by
  simp +contextual (maxDischargeDepth := 40) [Tidy, writeRecord]

@[simp] theorem abortWrites_tidy (s : State) : Tidy s (abortWrites s) := by
  simp +contextual (maxDischargeDepth := 40) [Tidy, abortWrites]

theorem execNvPageWriteStart_tidy (s : State) {s' : State} (h : execNvPageWriteStart s = .next s') : Tidy s s' := by
  unfold execNvPageWriteStart at h
  injection h with h
  subst h
  dsimp only
  (repeat' split) <;> simp +contextual (maxDischargeDepth := 40) [Tidy]

@[simp] theorem setTwin_tidy (id : RecId) (toB : Bool) (bytes : List Byte) (s : State) : Tidy s (setTwin id toB bytes
    s) := by
  simp +contextual (maxDischargeDepth := 40) [Tidy, setTwin]

@[simp] theorem latchPage_wf (m : Mem) (a : Nat) (data : List Byte) (h : Mem.wf m = true) :
    Mem.wf (latchPage m a data) = true := mem_foldl_wf (fun _ _ hm => wr_wf _ _ _ hm) h

@[simp] theorem takeTrim_tidy (x : Nat) (data : List Byte) (s : State) : Tidy s (takeTrim x data s) := by
  simp +contextual (maxDischargeDepth := 40) [Tidy, takeTrim]

@[simp] theorem recordWritten_tidy (id : RecId) (data : List Byte) (s : State) : Tidy s (recordWritten id data s) :=
    by
  unfold recordWritten
  (repeat' split) <;> simp +contextual (maxDischargeDepth := 40) [Tidy]

@[simp] theorem programPage_tidy (w : PageData) (s : State) : Tidy s (programPage w s) := by
  unfold programPage
  (repeat' split) <;> simp +contextual (maxDischargeDepth := 40) [Tidy]

@[simp] theorem serveReads_tidy (s : State) : Tidy s (serveReads s) := by
  simp +contextual (maxDischargeDepth := 40) [Tidy, serveReads]

@[simp] theorem pageDone_tidy (w : PageWrite) (t0 tWr : Nat) (s : State) : Tidy s (pageDone w t0 tWr s) := by
  unfold pageDone
  (repeat' split) <;> simp +contextual (maxDischargeDepth := 40) [Tidy]

@[simp] theorem nvsReadEffect_tidy (d : Desc) (s : State) : Tidy s (nvsReadEffect d s) := by
  simp +contextual (maxDischargeDepth := 40) [Tidy, nvsReadEffect]

theorem execNvsRead_tidy (d : Desc) (s : State) {s' : State} (h : execNvsRead d s = .next s') : Tidy s s' := by
  unfold execNvsRead at h
  injection h with h
  subst h
  simp +contextual (maxDischargeDepth := 40) [Tidy]

@[simp] theorem noteHold_tidy (r : Nat × Nat) (s : State) : Tidy s (noteHold r s) := by
  simp +contextual (maxDischargeDepth := 40) [Tidy, noteHold]

theorem execNvsWrite_tidy (d : Desc) (s : State) {s' : State} (h : execNvsWrite d s = .next s') : Tidy s s' := by
  unfold execNvsWrite at h
  injection h with h
  subst h
  simp +contextual (maxDischargeDepth := 40) [Tidy]

@[simp] theorem setFails_tidy (u : Fin 4) (n : Nat) (s : State) : Tidy s (setFails u n s) := by
  simp +contextual (maxDischargeDepth := 40) [Tidy, setFails]

@[simp] theorem countWrong_tidy (u : Fin 4) (s : State) : Tidy s (countWrong u s) := by
  simp +contextual (maxDischargeDepth := 40) [Tidy, countWrong]

@[simp] theorem unlockNotes_tidy (d : Desc) (r : Nat × Nat) (s : State) : Tidy s (unlockNotes d r s) := by
  simp +contextual (maxDischargeDepth := 40) [Tidy, unlockNotes]

@[simp] theorem unlockCommand_tidy (d : Desc) (effect : State → State) (s : State) (heffect : ∀ (x : State), Tidy x
    (effect x)) : Tidy s (unlockCommand d effect s) := by
  simp +contextual (maxDischargeDepth := 40) [Tidy, unlockCommand, heffect]

@[simp] theorem rightPassword_tidy (d : Desc) (write : Bool) (s : State) : Tidy s (rightPassword d write s) := by
  simp +contextual (maxDischargeDepth := 40) [Tidy, rightPassword]

@[simp] theorem grantUnlock_tidy (d : Desc) (write : Bool) (s : State) : Tidy s (grantUnlock d write s) := by
  simp +contextual (maxDischargeDepth := 40) [Tidy, grantUnlock]

@[simp] theorem setPassword_tidy (d : Desc) (id : RecId) (s : State) : Tidy s (setPassword d id s) := by
  simp +contextual (maxDischargeDepth := 40) [Tidy, setPassword]

theorem execNvsLock_tidy (d : Desc) (s : State) {s' : State} (h : execNvsLock d s = .next s') : Tidy s s' := by
  unfold execNvsLock at h
  injection h with h
  subst h
  simp +contextual (maxDischargeDepth := 40) [Tidy]

theorem execUnlockRead_tidy (d : Desc) (s : State) {s' : State} (h : execUnlockRead d s = .next s') : Tidy s s' := by
  unfold execUnlockRead at h
  injection h with h
  subst h
  simp +contextual (maxDischargeDepth := 40) [Tidy]

theorem execUnlockWrite_tidy (d : Desc) (s : State) {s' : State} (h : execUnlockWrite d s = .next s') : Tidy s s' :=
    by
  unfold execUnlockWrite at h
  injection h with h
  subst h
  simp +contextual (maxDischargeDepth := 40) [Tidy]

theorem execSetReadPw_tidy (d : Desc) (s : State) {s' : State} (h : execSetReadPw d s = .next s') : Tidy s s' := by
  unfold execSetReadPw at h
  injection h with h
  subst h
  simp +contextual (maxDischargeDepth := 40) [Tidy]

theorem execSetWritePw_tidy (d : Desc) (s : State) {s' : State} (h : execSetWritePw d s = .next s') : Tidy s s' := by
  unfold execSetWritePw at h
  injection h with h
  subst h
  simp +contextual (maxDischargeDepth := 40) [Tidy]

theorem execEpochRecordWrite_tidy (s : State) {s' : State} (h : execEpochRecordWrite s = .next s') : Tidy s s' := by
  unfold execEpochRecordWrite at h
  injection h with h
  subst h
  simp +contextual (maxDischargeDepth := 40) [Tidy]

@[simp] theorem releaseIn_tidy (t n ofs : Nat) (s : State) : Tidy s (releaseIn t n ofs s) := by
  simp +contextual (maxDischargeDepth := 40) [Tidy, releaseIn]

theorem execSyncRelease_tidy (s : State) {s' : State} (h : execSyncRelease s = .next s') : Tidy s s' := by
  unfold execSyncRelease at h
  injection h with h
  subst h
  (repeat' split) <;> simp +contextual (maxDischargeDepth := 40) [Tidy]

theorem execCyclicRelease_tidy (t : Fin 32) (s : State) {s' : State} (h : execCyclicRelease t s = .next s') : Tidy s
    s' := by
  unfold execCyclicRelease at h
  injection h with h
  subst h
  (repeat' split) <;> simp +contextual (maxDischargeDepth := 40) [Tidy]

theorem execBackgroundRelease_tidy (t : Fin 32) (s : State) {s' : State} (h : execBackgroundRelease t s = .next s') :
    Tidy s s' := by
  unfold execBackgroundRelease at h
  injection h with h
  subst h
  (repeat' split) <;> simp +contextual (maxDischargeDepth := 40) [Tidy]

theorem execPendingReleaseStart_tidy (s : State) {s' : State} (h : execPendingReleaseStart s = .next s') : Tidy s s'
    := by
  unfold execPendingReleaseStart at h
  injection h with h
  subst h
  (repeat' split) <;> simp +contextual (maxDischargeDepth := 40) [Tidy]

theorem execBudgetOverrun_tidy (t : Fin 32) (s : State) {s' : State} (h : execBudgetOverrun t s = .next s') : Tidy s
    s' := by
  unfold execBudgetOverrun at h
  injection h with h
  subst h
  simp +contextual (maxDischargeDepth := 40) [Tidy]

theorem headRequest_tidy {s s1 : State} {q : ImgReq} (h : headRequest s = some (q, s1)) : Tidy s s1 := by
  unfold headRequest at h
  split at h
  · simp only [Option.some.injEq, Prod.mk.injEq] at h
    obtain ⟨-, rfl⟩ := h
    simp +contextual (maxDischargeDepth := 40) [Tidy]
  · simp at h

theorem execSnapshot_tidy (s : State) {s' : State} (h : execSnapshot s = .next s') : Tidy s s' := by
  unfold execSnapshot at h
  injection h with h
  subst h
  (repeat' first | split | refine forEach_to ?_ ?_ | intro x s) <;> first
    | (simp +contextual (maxDischargeDepth := 40) [Tidy]; done)
    | (exact (headRequest_tidy (by assumption)).trans (by simp +contextual (maxDischargeDepth := 40) [Tidy]))

@[simp] theorem sendSnapshot_tidy (t : Fin 32) (d : TaskDef) (s : State) : Tidy s (sendSnapshot t d s) := by
  simp +contextual (maxDischargeDepth := 40) [Tidy, sendSnapshot]

@[simp] theorem snapshotDone_tidy (t : Fin 32) (d : TaskDef) (s : State) : Tidy s (snapshotDone t d s) := by
  simp +contextual (maxDischargeDepth := 40) [Tidy, snapshotDone]

theorem execSnapshotComplete_tidy (t : Fin 32) (s : State) {s' : State} (h : execSnapshotComplete t s = .next s') :
    Tidy s s' := by
  unfold execSnapshotComplete at h
  injection h with h
  subst h
  (repeat' split) <;> simp +contextual (maxDischargeDepth := 40) [Tidy]

theorem execCommit_tidy (t : Fin 32) (s : State) {s' : State} (h : execCommit t s = .next s') : Tidy s s' := by
  unfold execCommit at h
  injection h with h
  subst h
  split
  · have hq := headRequest_tidy (by assumption)
    split
    · split
      · exact hq.trans (serveCommit_tidy ..)
      · exact hq
    · exact Tidy.refl s
  · exact Tidy.refl s

theorem execImgRead_tidy (d : Desc) (s : State) {s' : State} (h : execImgRead d s = .next s') : Tidy s s' := by
  unfold execImgRead at h
  injection h with h
  subst h
  simp +contextual (maxDischargeDepth := 40) [Tidy]

theorem execImgWrite_tidy (d : Desc) (s : State) {s' : State} (h : execImgWrite d s = .next s') : Tidy s s' := by
  unfold execImgWrite at h
  injection h with h
  subst h
  simp +contextual (maxDischargeDepth := 40) [Tidy]

@[simp] theorem writeChunks_wf (cs : List Chunk) (m : Mem) (h : Mem.wf m = true) : Mem.wf (writeChunks cs m) = true :=
  mem_foldl_wf (fun _ _ hm => mem_foldl_wf (fun _ _ hm => wrBit_wf _ _ _ hm) hm) h

theorem execHostImageWriteApply_tidy (s : State) {s' : State} (h : execHostImageWriteApply s = .next s') : Tidy s s' := by
  unfold execHostImageWriteApply at h
  injection h with h
  subst h
  exact deferredRow_tidy _ _ _ _ (fun _ _ => writeUnit_tidy _ _ _ (fun _ _ => rfl) (fun _ h => writeChunks_wf _ _ h))

theorem execForceWrite_tidy (d : Desc) (s : State) {s' : State} (h : execForceWrite d s = .next s') : Tidy s s' := by
  unfold execForceWrite at h
  injection h with h
  subst h
  simp +contextual (maxDischargeDepth := 40) [Tidy]

theorem execForceClear_tidy (d : Desc) (s : State) {s' : State} (h : execForceClear d s = .next s') : Tidy s s' := by
  unfold execForceClear at h
  injection h with h
  subst h
  simp +contextual (maxDischargeDepth := 40) [Tidy]

theorem execForceRead_tidy (d : Desc) (s : State) {s' : State} (h : execForceRead d s = .next s') : Tidy s s' := by
  unfold execForceRead at h
  injection h with h
  subst h
  simp +contextual (maxDischargeDepth := 40) [Tidy]

@[simp] theorem forceChange_tidy (new set_ : List ForceEntry) (s : State) : Tidy s (forceChange new set_ s) := by
  simp +contextual (maxDischargeDepth := 40) [Tidy, forceChange]

theorem execForceChangeApply_tidy (s : State) {s' : State} (h : execForceChangeApply s = .next s') : Tidy s s' := by
  unfold execForceChangeApply at h
  injection h with h
  subst h
  simp +contextual (maxDischargeDepth := 40) [Tidy]

@[simp] theorem restore_tidy (d : Desc) (s : State) : Tidy s (restore d s) := by
  simp +contextual (maxDischargeDepth := 40) [Tidy, restore]

theorem execRetainRestore_tidy (d : Desc) (s : State) {s' : State} (h : execRetainRestore d s = .next s') : Tidy s s'
    := by
  unfold execRetainRestore at h
  injection h with h
  subst h
  simp +contextual (maxDischargeDepth := 40) [Tidy]

@[simp] theorem setViewBit_tidy (t b : Nat) (v : Bool) (s : State) : Tidy s (setViewBit t b v s) := by
  simp +contextual (maxDischargeDepth := 40) [Tidy, setViewBit]

@[simp] theorem laneFault_tidy (e : RungEnv) (cause : Nat) (s : State) : Tidy s (laneFault e cause s) := by
  simp +contextual (maxDischargeDepth := 40) [Tidy, laneFault]

@[simp] theorem setStack_tidy (e : RungEnv) (stack : List Bool) (s : State) : Tidy s (setStack e stack s) := by
  simp +contextual (maxDischargeDepth := 40) [Tidy, setStack]

@[simp] theorem nextWord_tidy (e : RungEnv) (n : Nat) (s : State) : Tidy s (nextWord e n s) := by
  simp +contextual (maxDischargeDepth := 40) [Tidy, nextWord]

theorem rungRow_tidy (op need grow l : Nat) (w : Word)
    (act : RungEnv → List Bool → State → Except Nat (List Bool × Nat × State)) (s : State)
    (ha : ∀ e st x r, act e st x = .ok r → Tidy x r.2.2) : Tidy s (rungRow op need grow l w act s) := by
  unfold rungRow
  split
  · exact Tidy.refl s
  · dsimp only
    split
    · exact Tidy.refl s
    · split
      · simp +contextual (maxDischargeDepth := 40) [Tidy]
      · split
        · simp +contextual (maxDischargeDepth := 40) [Tidy]
        · split
          · rename_i h
            exact Tidy.trans (ha _ _ _ _ h) (by simp +contextual (maxDischargeDepth := 40) [Tidy])
          · simp +contextual (maxDischargeDepth := 40) [Tidy]

theorem stackWord_tidy (f : List Bool → List Bool) (e : RungEnv) (st : List Bool) (s : State) (r : List Bool × Nat × State)
    (h : stackWord f e st s = .ok r) : Tidy s r.2.2 := by
  unfold stackWord at h
  (try dsimp only at h)
  (repeat' split at h) <;> first
    | (injection h with h; subst h; (repeat' split) <;> (simp +contextual (maxDischargeDepth := 40) [Tidy]; done))
    | (exact absurd h (by simp))

@[simp] theorem cacheRead_tidy (l t b : Nat) (s : State) : Tidy s (cacheRead l t b s) := by
  simp +contextual (maxDischargeDepth := 40) [Tidy, cacheRead]

@[simp] theorem laneWrite_tidy (l t b : Nat) (v : Bool) (s : State) : Tidy s (laneWrite l t b v s) := by
  simp +contextual (maxDischargeDepth := 40) [Tidy, laneWrite]

theorem readWord_tidy (w : Word) (f : Bool → List Bool → List Bool) (e : RungEnv) (st : List Bool) (s : State) (r : List Bool × Nat × State)
    (h : readWord w f e st s = .ok r) : Tidy s r.2.2 := by
  unfold readWord at h
  (try dsimp only at h)
  (repeat' split at h) <;> first
    | (injection h with h; subst h; (repeat' split) <;> (simp +contextual (maxDischargeDepth := 40) [Tidy]; done))
    | (exact absurd h (by simp))

theorem writeWord_tidy (w : Word) (f : Bool → Option Bool) (e : RungEnv) (st : List Bool) (s : State) (r : List Bool × Nat × State)
    (h : writeWord w f e st s = .ok r) : Tidy s r.2.2 := by
  unfold writeWord at h
  (try dsimp only at h)
  (repeat' split at h) <;> first
    | (injection h with h; subst h; (repeat' split) <;> (simp +contextual (maxDischargeDepth := 40) [Tidy]; done))
    | (exact absurd h (by simp))

theorem edgeWord_tidy (w : Word) (f : Bool → Bool → Bool) (e : RungEnv) (st : List Bool) (s : State) (r : List Bool × Nat × State)
    (h : edgeWord w f e st s = .ok r) : Tidy s r.2.2 := by
  unfold edgeWord at h
  (try dsimp only at h)
  (repeat' split at h) <;> first
    | (injection h with h; subst h; (repeat' split) <;> (simp +contextual (maxDischargeDepth := 40) [Tidy]; done))
    | (exact absurd h (by simp))

theorem skipWord_tidy (w : Word) (take : Bool → Bool) (e : RungEnv) (st : List Bool) (s : State) (r : List Bool × Nat × State)
    (h : skipWord w take e st s = .ok r) : Tidy s r.2.2 := by
  unfold skipWord at h
  (try dsimp only at h)
  (repeat' split at h) <;> first
    | (injection h with h; subst h; (repeat' split) <;> (simp +contextual (maxDischargeDepth := 40) [Tidy]; done))
    | (exact absurd h (by simp))

theorem timerWord_tidy (k : TimerKind) (w : Word) (e : RungEnv) (st : List Bool) (s : State) (r : List Bool × Nat × State)
    (h : timerWord k w e st s = .ok r) : Tidy s r.2.2 := by
  unfold timerWord at h
  (try dsimp only at h)
  (repeat' split at h) <;> first
    | (injection h with h; subst h; (repeat' split) <;> (simp +contextual (maxDischargeDepth := 40) [Tidy]; done))
    | (exact absurd h (by simp))

theorem counterWord_tidy (up : Bool) (w : Word) (e : RungEnv) (st : List Bool) (s : State) (r : List Bool × Nat × State)
    (h : counterWord up w e st s = .ok r) : Tidy s r.2.2 := by
  unfold counterWord at h
  (try dsimp only at h)
  (repeat' split at h) <;> first
    | (injection h with h; subst h; (repeat' split) <;> (simp +contextual (maxDischargeDepth := 40) [Tidy]; done))
    | (exact absurd h (by simp))

theorem resetWord_tidy (w : Word) (e : RungEnv) (st : List Bool) (s : State) (r : List Bool × Nat × State)
    (h : resetWord w e st s = .ok r) : Tidy s r.2.2 := by
  unfold resetWord at h
  (try dsimp only at h)
  (repeat' split at h) <;> first
    | (injection h with h; subst h; (repeat' split) <;> (simp +contextual (maxDischargeDepth := 40) [Tidy]; done))
    | (exact absurd h (by simp))

@[simp] theorem laneEnd_tidy (e : RungEnv) (s : State) : Tidy s (laneEnd e s) := by
  unfold laneEnd
  (repeat' split) <;> simp +contextual (maxDischargeDepth := 40) [Tidy]

theorem execRungNop_tidy (l : Fin 4) (w : Word) (s : State) {s' : State} (h : execRungNop l w s = .next s') : Tidy s
    s' := by
  unfold execRungNop at h
  injection h with h
  subst h
  exact rungRow_tidy _ _ _ _ _ _ _ (fun _ _ _ _ h => stackWord_tidy _ _ _ _ _ h)

theorem execRungRng_tidy (l : Fin 4) (w : Word) (s : State) {s' : State} (h : execRungRng l w s = .next s') : Tidy s
    s' := by
  unfold execRungRng at h
  injection h with h
  subst h
  exact rungRow_tidy _ _ _ _ _ _ _ (fun _ _ _ _ h => stackWord_tidy _ _ _ _ _ h)

theorem execRungEnd_tidy (l : Fin 4) (w : Word) (s : State) {s' : State} (h : execRungEnd l w s = .next s') : Tidy s
    s' := by
  unfold execRungEnd at h
  injection h with h
  subst h
  (repeat' split) <;> simp +contextual (maxDischargeDepth := 40) [Tidy]

theorem execRungLd_tidy (l : Fin 4) (w : Word) (s : State) {s' : State} (h : execRungLd l w s = .next s') : Tidy s s'
    := by
  unfold execRungLd at h
  injection h with h
  subst h
  exact rungRow_tidy _ _ _ _ _ _ _ (fun _ _ _ _ h => readWord_tidy _ _ _ _ _ _ h)

theorem execRungAnd_tidy (l : Fin 4) (w : Word) (s : State) {s' : State} (h : execRungAnd l w s = .next s') : Tidy s
    s' := by
  unfold execRungAnd at h
  injection h with h
  subst h
  exact rungRow_tidy _ _ _ _ _ _ _ (fun _ _ _ _ h => readWord_tidy _ _ _ _ _ _ h)

theorem execRungOr_tidy (l : Fin 4) (w : Word) (s : State) {s' : State} (h : execRungOr l w s = .next s') : Tidy s s'
    := by
  unfold execRungOr at h
  injection h with h
  subst h
  exact rungRow_tidy _ _ _ _ _ _ _ (fun _ _ _ _ h => readWord_tidy _ _ _ _ _ _ h)

theorem execRungXor_tidy (l : Fin 4) (w : Word) (s : State) {s' : State} (h : execRungXor l w s = .next s') : Tidy s
    s' := by
  unfold execRungXor at h
  injection h with h
  subst h
  exact rungRow_tidy _ _ _ _ _ _ _ (fun _ _ _ _ h => readWord_tidy _ _ _ _ _ _ h)

theorem execRungAndb_tidy (l : Fin 4) (w : Word) (s : State) {s' : State} (h : execRungAndb l w s = .next s') : Tidy
    s s' := by
  unfold execRungAndb at h
  injection h with h
  subst h
  exact rungRow_tidy _ _ _ _ _ _ _ (fun _ _ _ _ h => stackWord_tidy _ _ _ _ _ h)

theorem execRungOrb_tidy (l : Fin 4) (w : Word) (s : State) {s' : State} (h : execRungOrb l w s = .next s') : Tidy s
    s' := by
  unfold execRungOrb at h
  injection h with h
  subst h
  exact rungRow_tidy _ _ _ _ _ _ _ (fun _ _ _ _ h => stackWord_tidy _ _ _ _ _ h)

theorem execRungXorb_tidy (l : Fin 4) (w : Word) (s : State) {s' : State} (h : execRungXorb l w s = .next s') : Tidy
    s s' := by
  unfold execRungXorb at h
  injection h with h
  subst h
  exact rungRow_tidy _ _ _ _ _ _ _ (fun _ _ _ _ h => stackWord_tidy _ _ _ _ _ h)

theorem execRungNot_tidy (l : Fin 4) (w : Word) (s : State) {s' : State} (h : execRungNot l w s = .next s') : Tidy s
    s' := by
  unfold execRungNot at h
  injection h with h
  subst h
  exact rungRow_tidy _ _ _ _ _ _ _ (fun _ _ _ _ h => stackWord_tidy _ _ _ _ _ h)

theorem execRungDup_tidy (l : Fin 4) (w : Word) (s : State) {s' : State} (h : execRungDup l w s = .next s') : Tidy s
    s' := by
  unfold execRungDup at h
  injection h with h
  subst h
  exact rungRow_tidy _ _ _ _ _ _ _ (fun _ _ _ _ h => stackWord_tidy _ _ _ _ _ h)

theorem execRungPop_tidy (l : Fin 4) (w : Word) (s : State) {s' : State} (h : execRungPop l w s = .next s') : Tidy s
    s' := by
  unfold execRungPop at h
  injection h with h
  subst h
  exact rungRow_tidy _ _ _ _ _ _ _ (fun _ _ _ _ h => stackWord_tidy _ _ _ _ _ h)

theorem execRungOut_tidy (l : Fin 4) (w : Word) (s : State) {s' : State} (h : execRungOut l w s = .next s') : Tidy s
    s' := by
  unfold execRungOut at h
  injection h with h
  subst h
  exact rungRow_tidy _ _ _ _ _ _ _ (fun _ _ _ _ h => writeWord_tidy _ _ _ _ _ _ h)

theorem execRungSet_tidy (l : Fin 4) (w : Word) (s : State) {s' : State} (h : execRungSet l w s = .next s') : Tidy s
    s' := by
  unfold execRungSet at h
  injection h with h
  subst h
  exact rungRow_tidy _ _ _ _ _ _ _ (fun _ _ _ _ h => writeWord_tidy _ _ _ _ _ _ h)

theorem execRungRst_tidy (l : Fin 4) (w : Word) (s : State) {s' : State} (h : execRungRst l w s = .next s') : Tidy s
    s' := by
  unfold execRungRst at h
  injection h with h
  subst h
  exact rungRow_tidy _ _ _ _ _ _ _ (fun _ _ _ _ h => writeWord_tidy _ _ _ _ _ _ h)

theorem execRungRedge_tidy (l : Fin 4) (w : Word) (s : State) {s' : State} (h : execRungRedge l w s = .next s') :
    Tidy s s' := by
  unfold execRungRedge at h
  injection h with h
  subst h
  exact rungRow_tidy _ _ _ _ _ _ _ (fun _ _ _ _ h => edgeWord_tidy _ _ _ _ _ _ h)

theorem execRungFedge_tidy (l : Fin 4) (w : Word) (s : State) {s' : State} (h : execRungFedge l w s = .next s') :
    Tidy s s' := by
  unfold execRungFedge at h
  injection h with h
  subst h
  exact rungRow_tidy _ _ _ _ _ _ _ (fun _ _ _ _ h => edgeWord_tidy _ _ _ _ _ _ h)

theorem execRungTon_tidy (l : Fin 4) (w : Word) (s : State) {s' : State} (h : execRungTon l w s = .next s') : Tidy s
    s' := by
  unfold execRungTon at h
  injection h with h
  subst h
  exact rungRow_tidy _ _ _ _ _ _ _ (fun _ _ _ _ h => timerWord_tidy _ _ _ _ _ _ h)

theorem execRungTof_tidy (l : Fin 4) (w : Word) (s : State) {s' : State} (h : execRungTof l w s = .next s') : Tidy s
    s' := by
  unfold execRungTof at h
  injection h with h
  subst h
  exact rungRow_tidy _ _ _ _ _ _ _ (fun _ _ _ _ h => timerWord_tidy _ _ _ _ _ _ h)

theorem execRungTp_tidy (l : Fin 4) (w : Word) (s : State) {s' : State} (h : execRungTp l w s = .next s') : Tidy s s'
    := by
  unfold execRungTp at h
  injection h with h
  subst h
  exact rungRow_tidy _ _ _ _ _ _ _ (fun _ _ _ _ h => timerWord_tidy _ _ _ _ _ _ h)

theorem execRungCtu_tidy (l : Fin 4) (w : Word) (s : State) {s' : State} (h : execRungCtu l w s = .next s') : Tidy s
    s' := by
  unfold execRungCtu at h
  injection h with h
  subst h
  exact rungRow_tidy _ _ _ _ _ _ _ (fun _ _ _ _ h => counterWord_tidy _ _ _ _ _ _ h)

theorem execRungCtd_tidy (l : Fin 4) (w : Word) (s : State) {s' : State} (h : execRungCtd l w s = .next s') : Tidy s
    s' := by
  unfold execRungCtd at h
  injection h with h
  subst h
  exact rungRow_tidy _ _ _ _ _ _ _ (fun _ _ _ _ h => counterWord_tidy _ _ _ _ _ _ h)

theorem execRungTcres_tidy (l : Fin 4) (w : Word) (s : State) {s' : State} (h : execRungTcres l w s = .next s') :
    Tidy s s' := by
  unfold execRungTcres at h
  injection h with h
  subst h
  exact rungRow_tidy _ _ _ _ _ _ _ (fun _ _ _ _ h => resetWord_tidy _ _ _ _ _ h)

theorem execRungSkz_tidy (l : Fin 4) (w : Word) (s : State) {s' : State} (h : execRungSkz l w s = .next s') : Tidy s
    s' := by
  unfold execRungSkz at h
  injection h with h
  subst h
  exact rungRow_tidy _ _ _ _ _ _ _ (fun _ _ _ _ h => skipWord_tidy _ _ _ _ _ _ h)

theorem execRungSknz_tidy (l : Fin 4) (w : Word) (s : State) {s' : State} (h : execRungSknz l w s = .next s') : Tidy
    s s' := by
  unfold execRungSknz at h
  injection h with h
  subst h
  exact rungRow_tidy _ _ _ _ _ _ _ (fun _ _ _ _ h => skipWord_tidy _ _ _ _ _ _ h)

theorem execRungIllegalWord_tidy (l : Fin 4) (w : Word) (s : State) {s' : State} (h : execRungIllegalWord l w s =
    .next s') : Tidy s s' := by
  unfold execRungIllegalWord at h
  injection h with h
  subst h
  (repeat' split) <;> simp +contextual (maxDischargeDepth := 40) [Tidy]

end Sys2Proof.Machine
end

