-- ==== Sys2Proof/Laws/FrameEvmen.lean ====
section
/-! SUPPORT. What the Evmen cores do keeps the queue, the life-cycle code and the canonical forms. -/

namespace Sys2Proof.Machine

open Reg

@[simp] theorem setCtx_tidy (c : Nat) (x : Ctx) (s : State) : Tidy s (setCtx c x s) := by
  simp +contextual (maxDischargeDepth := 40) [Tidy, setCtx]

@[simp] theorem evPure_tidy (f : Word → Ctx → Ctx) (e : Ev) (s : State) : Tidy s (evPure f e s).1 := by
  simp +contextual (maxDischargeDepth := 40) [Tidy, evPure]

@[simp] theorem sramPut_tidy (a : Nat) (v : Byte) (s : State) : Tidy s (sramPut a v s) := by
  unfold sramPut
  (repeat' split) <;> simp +contextual (maxDischargeDepth := 40) [Tidy]

@[simp] theorem sramPutAll_tidy (a : Nat) (bs : List Byte) (s : State) : Tidy s (sramPutAll a bs s) := by
  induction bs generalizing a s with
  | nil => exact Tidy.refl s
  | cons v bs ih => exact (sramPut_tidy a v s).trans (ih (a + 1) _)

@[simp] theorem loadAt_tidy (s : State) (c : Nat) (p : Place) (a n : Nat) : Tidy s (loadAt s c p a n).1 := by
  unfold loadAt
  (repeat' split) <;> simp +contextual (maxDischargeDepth := 40) [Tidy]

@[simp] theorem raisePeers_tidy (c : Nat) (s : State) : Tidy s (raisePeers c s) := by
  simp +contextual (maxDischargeDepth := 40) [Tidy, raisePeers]

@[simp] theorem storeAt_tidy (c : Nat) (p : Place) (a n v : Nat) (s : State) : Tidy s (storeAt c p a n v s) := by
  unfold storeAt
  (try dsimp only)
  repeat' first
    | exact Tidy.refl _
    | with_reducible refine Tidy.trans ?_ (setCore_tidy ..)
    | with_reducible refine Tidy.trans ?_ (touch_tidy ..)
    | with_reducible refine Tidy.trans ?_ (sramPutAll_tidy ..)
    | with_reducible refine Tidy.trans ?_ (setRun_tidy ..)
    | with_reducible refine Tidy.trans ?_ (raisePeers_tidy ..)
    | split
    | with_reducible refine forEach_to ?_ ?_
    | intro x s
    | (simp +contextual (maxDischargeDepth := 40) [Tidy]; done)

@[simp] theorem noteImageTrap_tidy (code : Nat) (s : State) : Tidy s (noteImageTrap code s) := by
  simp +contextual (maxDischargeDepth := 40) [Tidy, noteImageTrap]

@[simp] theorem takeTrap_tidy (c code : Nat) (word : Word) (s : State) : Tidy s (takeTrap c code word s) := by
  simp +contextual (maxDischargeDepth := 40) [Tidy, takeTrap]

@[simp] theorem unresolved_tidy (c code : Nat) (s : State) : Tidy s (unresolved c code s) := by
  unfold unresolved
  (repeat' split) <;> simp +contextual (maxDischargeDepth := 40) [Tidy]

@[simp] theorem emulateAccesses_tidy (c : Nat) (x : Ctx) (i : Config.EmuIn) (n : Nat) (got : List Nat) (s : State) :
    Tidy s (emulateAccesses c x i n got s).1 := by
  induction n generalizing got s with
  | zero => exact Tidy.refl s
  | succ n ih =>
    unfold emulateAccesses
    split
    · exact Tidy.refl s
    · dsimp only
      split
      · exact Tidy.refl s
      · split
        · exact (storeAt_tidy ..).trans (ih _ _)
        · exact ih _ _

@[simp] theorem emulate_tidy (c : Nat) (w : Word) (s : State) : Tidy s (emulate c w s) := by
  unfold emulate
  dsimp only
  split
  · simp +contextual (maxDischargeDepth := 40) [Tidy]
  · split
    · exact unresolved_tidy ..
    · rename_i n _
      have ha := emulateAccesses_tidy c (core s c).ctx (emuIn c w (core s c).ctx) n [] s
      split <;> rename_i h <;> rw [h] at ha
      · exact ha.trans (setCtx_tidy ..)
      · exact ha.trans ((setCtx_tidy ..).trans ((noteImageTrap_tidy ..).trans (unresolved_tidy ..)))

@[simp] theorem holdCore_tidy (c : Nat) (hard : Bool) (s : State) : Tidy s (holdCore c hard s) := by
  simp +contextual (maxDischargeDepth := 40) [Tidy, holdCore]

@[simp] theorem evTrap_tidy (c code : Nat) (word : Word) (hard : Bool) (s : State) : Tidy s (evTrap c code word hard
    s) := by
  simp +contextual (maxDischargeDepth := 40) [Tidy, evTrap]

@[simp] theorem evNext_tidy (c : Nat) (s : State) : Tidy s (evNext c s) := by
  simp +contextual (maxDischargeDepth := 40) [Tidy, evNext]

@[simp] theorem afterStep_tidy (c : Nat) (s : State) : Tidy s (afterStep c s) := by
  simp +contextual (maxDischargeDepth := 40) [Tidy, afterStep]

@[simp] theorem evRun_tidy (c : Nat) (w : Word) (form : Option Trap) (priv : Bool) (skip : State → State) (act : EvAct)
    (after : State → State) (s : State) (hskip : ∀ x : State, Tidy x (skip x))
    (hact : ∀ e (x : State), Tidy x (act e x).1) (hafter : ∀ x : State, Tidy x (after x)) :
    Tidy s (evRun c w form priv skip act after s) := by
  unfold evRun
  dsimp only
  have h0 : Tidy s (afterStep c s) := by simp +contextual (maxDischargeDepth := 40) [Tidy]
  split
  · exact h0.trans (by simp +contextual (maxDischargeDepth := 40) [Tidy])
  · split
    · exact h0.trans (hskip _)
    · generalize he : ({ c, w, x := (core (afterStep c s) c).ctx, i := iteration (core (afterStep c s) c).ctx } : Ev) = e
      have ha := h0.trans (hact e (afterStep c s))
      split <;> rename_i h <;> rw [h] at ha
      · exact ha.trans (by simp +contextual (maxDischargeDepth := 40) [Tidy])
      · split
        · exact h0.trans (by simp +contextual (maxDischargeDepth := 40) [Tidy])
        · exact ha.trans (Tidy.trans (by simp +contextual (maxDischargeDepth := 40) [Tidy]) (hafter _))

@[simp] theorem evRow_tidy (mine : Bool) (c : Nat) (w : Word) (act : EvAct) (s : State) (hact : ∀ e (x : State), Tidy
    x ((act e x).1)) : Tidy s (evRow mine c w act s) := by
  simp +contextual (maxDischargeDepth := 40) [Tidy, evRow, hact]

@[simp] theorem evJump_tidy (mine : Bool) (c : Nat) (w : Word) (priv : Bool) (act : EvAct) (s : State) (hact : ∀ e (x
    : State), Tidy x ((act e x).1)) : Tidy s (evJump mine c w priv act s) := by
  simp +contextual (maxDischargeDepth := 40) [Tidy, evJump, hact]

theorem execEvAdd_tidy (c : Fin 8) (w : Word) (s : State) {s' : State} (h : execEvAdd c w s = .next s') : Tidy s s'
    := by
  unfold execEvAdd at h
  injection h with h
  subst h
  simp +contextual (maxDischargeDepth := 40) [Tidy]

theorem execEvSub_tidy (c : Fin 8) (w : Word) (s : State) {s' : State} (h : execEvSub c w s = .next s') : Tidy s s'
    := by
  unfold execEvSub at h
  injection h with h
  subst h
  simp +contextual (maxDischargeDepth := 40) [Tidy]

theorem execEvAddv_tidy (c : Fin 8) (w : Word) (s : State) {s' : State} (h : execEvAddv c w s = .next s') : Tidy s s'
    := by
  unfold execEvAddv at h
  injection h with h
  subst h
  simp +contextual (maxDischargeDepth := 40) [Tidy]

theorem execEvSubv_tidy (c : Fin 8) (w : Word) (s : State) {s' : State} (h : execEvSubv c w s = .next s') : Tidy s s'
    := by
  unfold execEvSubv at h
  injection h with h
  subst h
  simp +contextual (maxDischargeDepth := 40) [Tidy]

theorem execEvNeg_tidy (c : Fin 8) (w : Word) (s : State) {s' : State} (h : execEvNeg c w s = .next s') : Tidy s s'
    := by
  unfold execEvNeg at h
  injection h with h
  subst h
  simp +contextual (maxDischargeDepth := 40) [Tidy]

theorem execEvAnd_tidy (c : Fin 8) (w : Word) (s : State) {s' : State} (h : execEvAnd c w s = .next s') : Tidy s s'
    := by
  unfold execEvAnd at h
  injection h with h
  subst h
  simp +contextual (maxDischargeDepth := 40) [Tidy]

theorem execEvOr_tidy (c : Fin 8) (w : Word) (s : State) {s' : State} (h : execEvOr c w s = .next s') : Tidy s s' :=
    by
  unfold execEvOr at h
  injection h with h
  subst h
  simp +contextual (maxDischargeDepth := 40) [Tidy]

theorem execEvXor_tidy (c : Fin 8) (w : Word) (s : State) {s' : State} (h : execEvXor c w s = .next s') : Tidy s s'
    := by
  unfold execEvXor at h
  injection h with h
  subst h
  simp +contextual (maxDischargeDepth := 40) [Tidy]

theorem execEvAndn_tidy (c : Fin 8) (w : Word) (s : State) {s' : State} (h : execEvAndn c w s = .next s') : Tidy s s'
    := by
  unfold execEvAndn at h
  injection h with h
  subst h
  simp +contextual (maxDischargeDepth := 40) [Tidy]

theorem execEvNot_tidy (c : Fin 8) (w : Word) (s : State) {s' : State} (h : execEvNot c w s = .next s') : Tidy s s'
    := by
  unfold execEvNot at h
  injection h with h
  subst h
  simp +contextual (maxDischargeDepth := 40) [Tidy]

theorem execEvShl_tidy (c : Fin 8) (w : Word) (s : State) {s' : State} (h : execEvShl c w s = .next s') : Tidy s s'
    := by
  unfold execEvShl at h
  injection h with h
  subst h
  simp +contextual (maxDischargeDepth := 40) [Tidy]

theorem execEvShr_tidy (c : Fin 8) (w : Word) (s : State) {s' : State} (h : execEvShr c w s = .next s') : Tidy s s'
    := by
  unfold execEvShr at h
  injection h with h
  subst h
  simp +contextual (maxDischargeDepth := 40) [Tidy]

theorem execEvSar_tidy (c : Fin 8) (w : Word) (s : State) {s' : State} (h : execEvSar c w s = .next s') : Tidy s s'
    := by
  unfold execEvSar at h
  injection h with h
  subst h
  simp +contextual (maxDischargeDepth := 40) [Tidy]

theorem execEvRol_tidy (c : Fin 8) (w : Word) (s : State) {s' : State} (h : execEvRol c w s = .next s') : Tidy s s'
    := by
  unfold execEvRol at h
  injection h with h
  subst h
  simp +contextual (maxDischargeDepth := 40) [Tidy]

theorem execEvRor_tidy (c : Fin 8) (w : Word) (s : State) {s' : State} (h : execEvRor c w s = .next s') : Tidy s s'
    := by
  unfold execEvRor at h
  injection h with h
  subst h
  simp +contextual (maxDischargeDepth := 40) [Tidy]

theorem execEvClz_tidy (c : Fin 8) (w : Word) (s : State) {s' : State} (h : execEvClz c w s = .next s') : Tidy s s'
    := by
  unfold execEvClz at h
  injection h with h
  subst h
  simp +contextual (maxDischargeDepth := 40) [Tidy]

theorem execEvCtz_tidy (c : Fin 8) (w : Word) (s : State) {s' : State} (h : execEvCtz c w s = .next s') : Tidy s s'
    := by
  unfold execEvCtz at h
  injection h with h
  subst h
  simp +contextual (maxDischargeDepth := 40) [Tidy]

theorem execEvPopc_tidy (c : Fin 8) (w : Word) (s : State) {s' : State} (h : execEvPopc c w s = .next s') : Tidy s s'
    := by
  unfold execEvPopc at h
  injection h with h
  subst h
  simp +contextual (maxDischargeDepth := 40) [Tidy]

theorem execEvMin_tidy (c : Fin 8) (w : Word) (s : State) {s' : State} (h : execEvMin c w s = .next s') : Tidy s s'
    := by
  unfold execEvMin at h
  injection h with h
  subst h
  simp +contextual (maxDischargeDepth := 40) [Tidy]

theorem execEvMax_tidy (c : Fin 8) (w : Word) (s : State) {s' : State} (h : execEvMax c w s = .next s') : Tidy s s'
    := by
  unfold execEvMax at h
  injection h with h
  subst h
  simp +contextual (maxDischargeDepth := 40) [Tidy]

theorem execEvMinu_tidy (c : Fin 8) (w : Word) (s : State) {s' : State} (h : execEvMinu c w s = .next s') : Tidy s s'
    := by
  unfold execEvMinu at h
  injection h with h
  subst h
  simp +contextual (maxDischargeDepth := 40) [Tidy]

theorem execEvMaxu_tidy (c : Fin 8) (w : Word) (s : State) {s' : State} (h : execEvMaxu c w s = .next s') : Tidy s s'
    := by
  unfold execEvMaxu at h
  injection h with h
  subst h
  simp +contextual (maxDischargeDepth := 40) [Tidy]

theorem execEvMul_tidy (c : Fin 8) (w : Word) (s : State) {s' : State} (h : execEvMul c w s = .next s') : Tidy s s'
    := by
  unfold execEvMul at h
  injection h with h
  subst h
  simp +contextual (maxDischargeDepth := 40) [Tidy]

theorem execEvMulh_tidy (c : Fin 8) (w : Word) (s : State) {s' : State} (h : execEvMulh c w s = .next s') : Tidy s s'
    := by
  unfold execEvMulh at h
  injection h with h
  subst h
  simp +contextual (maxDischargeDepth := 40) [Tidy]

theorem execEvMulhu_tidy (c : Fin 8) (w : Word) (s : State) {s' : State} (h : execEvMulhu c w s = .next s') : Tidy s
    s' := by
  unfold execEvMulhu at h
  injection h with h
  subst h
  simp +contextual (maxDischargeDepth := 40) [Tidy]

theorem execEvMulv_tidy (c : Fin 8) (w : Word) (s : State) {s' : State} (h : execEvMulv c w s = .next s') : Tidy s s'
    := by
  unfold execEvMulv at h
  injection h with h
  subst h
  simp +contextual (maxDischargeDepth := 40) [Tidy]

@[simp] theorem division_tidy (signed : Bool) (f : Word → Word → Word) (e : Ev) (s : State) : Tidy s (division signed
    f e s).1 := by
  simp +contextual (maxDischargeDepth := 40) [Tidy, division]

theorem execEvDiv_tidy (c : Fin 8) (w : Word) (s : State) {s' : State} (h : execEvDiv c w s = .next s') : Tidy s s'
    := by
  unfold execEvDiv at h
  injection h with h
  subst h
  simp +contextual (maxDischargeDepth := 40) [Tidy]

theorem execEvDivu_tidy (c : Fin 8) (w : Word) (s : State) {s' : State} (h : execEvDivu c w s = .next s') : Tidy s s'
    := by
  unfold execEvDivu at h
  injection h with h
  subst h
  simp +contextual (maxDischargeDepth := 40) [Tidy]

theorem execEvRem_tidy (c : Fin 8) (w : Word) (s : State) {s' : State} (h : execEvRem c w s = .next s') : Tidy s s'
    := by
  unfold execEvRem at h
  injection h with h
  subst h
  simp +contextual (maxDischargeDepth := 40) [Tidy]

theorem execEvRemu_tidy (c : Fin 8) (w : Word) (s : State) {s' : State} (h : execEvRemu c w s = .next s') : Tidy s s'
    := by
  unfold execEvRemu at h
  injection h with h
  subst h
  simp +contextual (maxDischargeDepth := 40) [Tidy]

theorem execEvMfpr_tidy (c : Fin 8) (w : Word) (s : State) {s' : State} (h : execEvMfpr c w s = .next s') : Tidy s s'
    := by
  unfold execEvMfpr at h
  injection h with h
  subst h
  simp +contextual (maxDischargeDepth := 40) [Tidy]

theorem execEvMtpr_tidy (c : Fin 8) (w : Word) (s : State) {s' : State} (h : execEvMtpr c w s = .next s') : Tidy s s'
    := by
  unfold execEvMtpr at h
  injection h with h
  subst h
  simp +contextual (maxDischargeDepth := 40) [Tidy]

theorem execEvAddi_tidy (c : Fin 8) (w : Word) (s : State) {s' : State} (h : execEvAddi c w s = .next s') : Tidy s s'
    := by
  unfold execEvAddi at h
  injection h with h
  subst h
  simp +contextual (maxDischargeDepth := 40) [Tidy]

theorem execEvAndi_tidy (c : Fin 8) (w : Word) (s : State) {s' : State} (h : execEvAndi c w s = .next s') : Tidy s s'
    := by
  unfold execEvAndi at h
  injection h with h
  subst h
  simp +contextual (maxDischargeDepth := 40) [Tidy]

theorem execEvOri_tidy (c : Fin 8) (w : Word) (s : State) {s' : State} (h : execEvOri c w s = .next s') : Tidy s s'
    := by
  unfold execEvOri at h
  injection h with h
  subst h
  simp +contextual (maxDischargeDepth := 40) [Tidy]

theorem execEvXori_tidy (c : Fin 8) (w : Word) (s : State) {s' : State} (h : execEvXori c w s = .next s') : Tidy s s'
    := by
  unfold execEvXori at h
  injection h with h
  subst h
  simp +contextual (maxDischargeDepth := 40) [Tidy]

theorem execEvShi_tidy (c : Fin 8) (w : Word) (s : State) {s' : State} (h : execEvShi c w s = .next s') : Tidy s s'
    := by
  unfold execEvShi at h
  injection h with h
  subst h
  simp +contextual (maxDischargeDepth := 40) [Tidy]

theorem execEvLui_tidy (c : Fin 8) (w : Word) (s : State) {s' : State} (h : execEvLui c w s = .next s') : Tidy s s'
    := by
  unfold execEvLui at h
  injection h with h
  subst h
  simp +contextual (maxDischargeDepth := 40) [Tidy]

theorem execEvMuli_tidy (c : Fin 8) (w : Word) (s : State) {s' : State} (h : execEvMuli c w s = .next s') : Tidy s s'
    := by
  unfold execEvMuli at h
  injection h with h
  subst h
  simp +contextual (maxDischargeDepth := 40) [Tidy]

theorem execEvBfx_tidy (c : Fin 8) (w : Word) (s : State) {s' : State} (h : execEvBfx c w s = .next s') : Tidy s s'
    := by
  unfold execEvBfx at h
  injection h with h
  subst h
  simp +contextual (maxDischargeDepth := 40) [Tidy]

theorem execEvBfxs_tidy (c : Fin 8) (w : Word) (s : State) {s' : State} (h : execEvBfxs c w s = .next s') : Tidy s s'
    := by
  unfold execEvBfxs at h
  injection h with h
  subst h
  simp +contextual (maxDischargeDepth := 40) [Tidy]

theorem execEvBfi_tidy (c : Fin 8) (w : Word) (s : State) {s' : State} (h : execEvBfi c w s = .next s') : Tidy s s'
    := by
  unfold execEvBfi at h
  injection h with h
  subst h
  simp +contextual (maxDischargeDepth := 40) [Tidy]

theorem execEvPerm_tidy (c : Fin 8) (w : Word) (s : State) {s' : State} (h : execEvPerm c w s = .next s') : Tidy s s'
    := by
  unfold execEvPerm at h
  injection h with h
  subst h
  simp +contextual (maxDischargeDepth := 40) [Tidy]

theorem execEvCmpeq_tidy (c : Fin 8) (w : Word) (s : State) {s' : State} (h : execEvCmpeq c w s = .next s') : Tidy s
    s' := by
  unfold execEvCmpeq at h
  injection h with h
  subst h
  simp +contextual (maxDischargeDepth := 40) [Tidy]

theorem execEvCmpne_tidy (c : Fin 8) (w : Word) (s : State) {s' : State} (h : execEvCmpne c w s = .next s') : Tidy s
    s' := by
  unfold execEvCmpne at h
  injection h with h
  subst h
  simp +contextual (maxDischargeDepth := 40) [Tidy]

theorem execEvCmplt_tidy (c : Fin 8) (w : Word) (s : State) {s' : State} (h : execEvCmplt c w s = .next s') : Tidy s
    s' := by
  unfold execEvCmplt at h
  injection h with h
  subst h
  simp +contextual (maxDischargeDepth := 40) [Tidy]

theorem execEvCmpge_tidy (c : Fin 8) (w : Word) (s : State) {s' : State} (h : execEvCmpge c w s = .next s') : Tidy s
    s' := by
  unfold execEvCmpge at h
  injection h with h
  subst h
  simp +contextual (maxDischargeDepth := 40) [Tidy]

theorem execEvCmpltu_tidy (c : Fin 8) (w : Word) (s : State) {s' : State} (h : execEvCmpltu c w s = .next s') : Tidy
    s s' := by
  unfold execEvCmpltu at h
  injection h with h
  subst h
  simp +contextual (maxDischargeDepth := 40) [Tidy]

theorem execEvCmpgeu_tidy (c : Fin 8) (w : Word) (s : State) {s' : State} (h : execEvCmpgeu c w s = .next s') : Tidy
    s s' := by
  unfold execEvCmpgeu at h
  injection h with h
  subst h
  simp +contextual (maxDischargeDepth := 40) [Tidy]

theorem execEvCmptst_tidy (c : Fin 8) (w : Word) (s : State) {s' : State} (h : execEvCmptst c w s = .next s') : Tidy
    s s' := by
  unfold execEvCmptst at h
  injection h with h
  subst h
  simp +contextual (maxDischargeDepth := 40) [Tidy]

theorem execEvCmpieq_tidy (c : Fin 8) (w : Word) (s : State) {s' : State} (h : execEvCmpieq c w s = .next s') : Tidy
    s s' := by
  unfold execEvCmpieq at h
  injection h with h
  subst h
  simp +contextual (maxDischargeDepth := 40) [Tidy]

theorem execEvCmpine_tidy (c : Fin 8) (w : Word) (s : State) {s' : State} (h : execEvCmpine c w s = .next s') : Tidy
    s s' := by
  unfold execEvCmpine at h
  injection h with h
  subst h
  simp +contextual (maxDischargeDepth := 40) [Tidy]

theorem execEvCmpilt_tidy (c : Fin 8) (w : Word) (s : State) {s' : State} (h : execEvCmpilt c w s = .next s') : Tidy
    s s' := by
  unfold execEvCmpilt at h
  injection h with h
  subst h
  simp +contextual (maxDischargeDepth := 40) [Tidy]

theorem execEvCmpiltu_tidy (c : Fin 8) (w : Word) (s : State) {s' : State} (h : execEvCmpiltu c w s = .next s') :
    Tidy s s' := by
  unfold execEvCmpiltu at h
  injection h with h
  subst h
  simp +contextual (maxDischargeDepth := 40) [Tidy]

theorem execEvPand_tidy (c : Fin 8) (w : Word) (s : State) {s' : State} (h : execEvPand c w s = .next s') : Tidy s s'
    := by
  unfold execEvPand at h
  injection h with h
  subst h
  simp +contextual (maxDischargeDepth := 40) [Tidy]

theorem execEvPor_tidy (c : Fin 8) (w : Word) (s : State) {s' : State} (h : execEvPor c w s = .next s') : Tidy s s'
    := by
  unfold execEvPor at h
  injection h with h
  subst h
  simp +contextual (maxDischargeDepth := 40) [Tidy]

theorem execEvPxor_tidy (c : Fin 8) (w : Word) (s : State) {s' : State} (h : execEvPxor c w s = .next s') : Tidy s s'
    := by
  unfold execEvPxor at h
  injection h with h
  subst h
  simp +contextual (maxDischargeDepth := 40) [Tidy]

theorem execEvPmov_tidy (c : Fin 8) (w : Word) (s : State) {s' : State} (h : execEvPmov c w s = .next s') : Tidy s s'
    := by
  unfold execEvPmov at h
  injection h with h
  subst h
  simp +contextual (maxDischargeDepth := 40) [Tidy]

@[simp] theorem ibit_tidy (f : Bool → Bool → Bool) (e : Ev) (s : State) : Tidy s (ibit f e s).1 := by
  unfold ibit
  (repeat' split) <;> simp +contextual (maxDischargeDepth := 40) [Tidy]

@[simp] theorem ibset_tidy (f : Bool → Option Bool) (e : Ev) (s : State) : Tidy s (ibset f e s).1 := by
  unfold ibset
  (repeat' split) <;> simp +contextual (maxDischargeDepth := 40) [Tidy]

theorem execEvIbld_tidy (c : Fin 8) (w : Word) (s : State) {s' : State} (h : execEvIbld c w s = .next s') : Tidy s s'
    := by
  unfold execEvIbld at h
  injection h with h
  subst h
  simp +contextual (maxDischargeDepth := 40) [Tidy]

theorem execEvIbldn_tidy (c : Fin 8) (w : Word) (s : State) {s' : State} (h : execEvIbldn c w s = .next s') : Tidy s
    s' := by
  unfold execEvIbldn at h
  injection h with h
  subst h
  simp +contextual (maxDischargeDepth := 40) [Tidy]

theorem execEvIband_tidy (c : Fin 8) (w : Word) (s : State) {s' : State} (h : execEvIband c w s = .next s') : Tidy s
    s' := by
  unfold execEvIband at h
  injection h with h
  subst h
  simp +contextual (maxDischargeDepth := 40) [Tidy]

theorem execEvIbor_tidy (c : Fin 8) (w : Word) (s : State) {s' : State} (h : execEvIbor c w s = .next s') : Tidy s s'
    := by
  unfold execEvIbor at h
  injection h with h
  subst h
  simp +contextual (maxDischargeDepth := 40) [Tidy]

theorem execEvIbst_tidy (c : Fin 8) (w : Word) (s : State) {s' : State} (h : execEvIbst c w s = .next s') : Tidy s s'
    := by
  unfold execEvIbst at h
  injection h with h
  subst h
  simp +contextual (maxDischargeDepth := 40) [Tidy]

theorem execEvIbstn_tidy (c : Fin 8) (w : Word) (s : State) {s' : State} (h : execEvIbstn c w s = .next s') : Tidy s
    s' := by
  unfold execEvIbstn at h
  injection h with h
  subst h
  simp +contextual (maxDischargeDepth := 40) [Tidy]

theorem execEvIbs1_tidy (c : Fin 8) (w : Word) (s : State) {s' : State} (h : execEvIbs1 c w s = .next s') : Tidy s s'
    := by
  unfold execEvIbs1 at h
  injection h with h
  subst h
  simp +contextual (maxDischargeDepth := 40) [Tidy]

theorem execEvIbs0_tidy (c : Fin 8) (w : Word) (s : State) {s' : State} (h : execEvIbs0 c w s = .next s') : Tidy s s'
    := by
  unfold execEvIbs0 at h
  injection h with h
  subst h
  simp +contextual (maxDischargeDepth := 40) [Tidy]

@[simp] theorem loadBytes_tidy (n : Nat) (f : Nat → Ctx → Ctx) (e : Ev) (s : State) : Tidy s (loadBytes n f e s).1 :=
    by
  unfold loadBytes
  dsimp only
  (repeat' split) <;> simp +contextual (maxDischargeDepth := 40) [Tidy]

@[simp] theorem storeBytes_tidy (n : Nat) (v : Ctx → Nat) (e : Ev) (s : State) : Tidy s (storeBytes n v e s).1 := by
  unfold storeBytes
  dsimp only
  (repeat' split) <;> simp +contextual (maxDischargeDepth := 40) [Tidy]

theorem execEvLdb_tidy (c : Fin 8) (w : Word) (s : State) {s' : State} (h : execEvLdb c w s = .next s') : Tidy s s'
    := by
  unfold execEvLdb at h
  injection h with h
  subst h
  simp +contextual (maxDischargeDepth := 40) [Tidy]

theorem execEvLdbu_tidy (c : Fin 8) (w : Word) (s : State) {s' : State} (h : execEvLdbu c w s = .next s') : Tidy s s'
    := by
  unfold execEvLdbu at h
  injection h with h
  subst h
  simp +contextual (maxDischargeDepth := 40) [Tidy]

theorem execEvLdh_tidy (c : Fin 8) (w : Word) (s : State) {s' : State} (h : execEvLdh c w s = .next s') : Tidy s s'
    := by
  unfold execEvLdh at h
  injection h with h
  subst h
  simp +contextual (maxDischargeDepth := 40) [Tidy]

theorem execEvLdhu_tidy (c : Fin 8) (w : Word) (s : State) {s' : State} (h : execEvLdhu c w s = .next s') : Tidy s s'
    := by
  unfold execEvLdhu at h
  injection h with h
  subst h
  simp +contextual (maxDischargeDepth := 40) [Tidy]

theorem execEvLdw_tidy (c : Fin 8) (w : Word) (s : State) {s' : State} (h : execEvLdw c w s = .next s') : Tidy s s'
    := by
  unfold execEvLdw at h
  injection h with h
  subst h
  simp +contextual (maxDischargeDepth := 40) [Tidy]

theorem execEvLdd_tidy (c : Fin 8) (w : Word) (s : State) {s' : State} (h : execEvLdd c w s = .next s') : Tidy s s'
    := by
  unfold execEvLdd at h
  injection h with h
  subst h
  simp +contextual (maxDischargeDepth := 40) [Tidy]

theorem execEvStb_tidy (c : Fin 8) (w : Word) (s : State) {s' : State} (h : execEvStb c w s = .next s') : Tidy s s'
    := by
  unfold execEvStb at h
  injection h with h
  subst h
  simp +contextual (maxDischargeDepth := 40) [Tidy]

theorem execEvSth_tidy (c : Fin 8) (w : Word) (s : State) {s' : State} (h : execEvSth c w s = .next s') : Tidy s s'
    := by
  unfold execEvSth at h
  injection h with h
  subst h
  simp +contextual (maxDischargeDepth := 40) [Tidy]

theorem execEvStw_tidy (c : Fin 8) (w : Word) (s : State) {s' : State} (h : execEvStw c w s = .next s') : Tidy s s'
    := by
  unfold execEvStw at h
  injection h with h
  subst h
  simp +contextual (maxDischargeDepth := 40) [Tidy]

theorem execEvStd_tidy (c : Fin 8) (w : Word) (s : State) {s' : State} (h : execEvStd c w s = .next s') : Tidy s s'
    := by
  unfold execEvStd at h
  injection h with h
  subst h
  simp +contextual (maxDischargeDepth := 40) [Tidy]

@[simp] theorem loadStack_tidy (e : Ev) (s : State) : Tidy s (loadStack e s).1 := by
  unfold loadStack
  dsimp only
  (repeat' split) <;> simp +contextual (maxDischargeDepth := 40) [Tidy]

theorem execEvLdsw_tidy (c : Fin 8) (w : Word) (s : State) {s' : State} (h : execEvLdsw c w s = .next s') : Tidy s s'
    := by
  unfold execEvLdsw at h
  injection h with h
  subst h
  simp +contextual (maxDischargeDepth := 40) [Tidy]

@[simp] theorem storeStack_tidy (e : Ev) (s : State) : Tidy s (storeStack e s).1 := by
  unfold storeStack
  (repeat' split) <;> simp +contextual (maxDischargeDepth := 40) [Tidy]

theorem execEvStsw_tidy (c : Fin 8) (w : Word) (s : State) {s' : State} (h : execEvStsw c w s = .next s') : Tidy s s'
    := by
  unfold execEvStsw at h
  injection h with h
  subst h
  simp +contextual (maxDischargeDepth := 40) [Tidy]

@[simp] theorem moveDs_tidy (v : Word) (e : Ev) (s : State) : Tidy s (moveDs v e s).1 := by
  unfold moveDs
  (repeat' split) <;> simp +contextual (maxDischargeDepth := 40) [Tidy]

theorem execEvDsadj_tidy (c : Fin 8) (w : Word) (s : State) {s' : State} (h : execEvDsadj c w s = .next s') : Tidy s
    s' := by
  unfold execEvDsadj at h
  injection h with h
  subst h
  simp +contextual (maxDischargeDepth := 40) [Tidy]

@[simp] theorem atomic_tidy (f : Word → Word → Word) (e : Ev) (s : State) : Tidy s (atomic f e s).1 := by
  unfold atomic
  dsimp only
  (repeat' split) <;> simp +contextual (maxDischargeDepth := 40) [Tidy]

theorem execEvAmoswap_tidy (c : Fin 8) (w : Word) (s : State) {s' : State} (h : execEvAmoswap c w s = .next s') :
    Tidy s s' := by
  unfold execEvAmoswap at h
  injection h with h
  subst h
  simp +contextual (maxDischargeDepth := 40) [Tidy]

theorem execEvAmoadd_tidy (c : Fin 8) (w : Word) (s : State) {s' : State} (h : execEvAmoadd c w s = .next s') : Tidy
    s s' := by
  unfold execEvAmoadd at h
  injection h with h
  subst h
  simp +contextual (maxDischargeDepth := 40) [Tidy]

@[simp] theorem jumpTo_tidy (a : Word) (e : Ev) (s : State) : Tidy s (jumpTo a e s).1 := by
  unfold jumpTo
  (repeat' split) <;> simp +contextual (maxDischargeDepth := 40) [Tidy]

@[simp] theorem callTo_tidy (a : Word) (e : Ev) (s : State) : Tidy s (callTo a e s).1 := by
  unfold callTo
  (repeat' split) <;> simp +contextual (maxDischargeDepth := 40) [Tidy]

theorem execEvBr_tidy (c : Fin 8) (w : Word) (s : State) {s' : State} (h : execEvBr c w s = .next s') : Tidy s s' :=
    by
  unfold execEvBr at h
  injection h with h
  subst h
  simp +contextual (maxDischargeDepth := 40) [Tidy]

theorem execEvCall_tidy (c : Fin 8) (w : Word) (s : State) {s' : State} (h : execEvCall c w s = .next s') : Tidy s s'
    := by
  unfold execEvCall at h
  injection h with h
  subst h
  simp +contextual (maxDischargeDepth := 40) [Tidy]

@[simp] theorem taskReturn_tidy (c : Nat) (x : Ctx) (s : State) : Tidy s (taskReturn c x s) := by
  unfold taskReturn
  (repeat' split) <;> simp +contextual (maxDischargeDepth := 40) [Tidy]

@[simp] theorem ret_tidy (e : Ev) (s : State) : Tidy s (ret e s).1 := by
  unfold ret
  (repeat' split) <;> simp +contextual (maxDischargeDepth := 40) [Tidy]

theorem execEvRet_tidy (c : Fin 8) (w : Word) (s : State) {s' : State} (h : execEvRet c w s = .next s') : Tidy s s'
    := by
  unfold execEvRet at h
  injection h with h
  subst h
  simp +contextual (maxDischargeDepth := 40) [Tidy]

theorem execEvJr_tidy (c : Fin 8) (w : Word) (s : State) {s' : State} (h : execEvJr c w s = .next s') : Tidy s s' :=
    by
  unfold execEvJr at h
  injection h with h
  subst h
  simp +contextual (maxDischargeDepth := 40) [Tidy]

theorem execEvCallr_tidy (c : Fin 8) (w : Word) (s : State) {s' : State} (h : execEvCallr c w s = .next s') : Tidy s
    s' := by
  unfold execEvCallr at h
  injection h with h
  subst h
  simp +contextual (maxDischargeDepth := 40) [Tidy]

theorem execEvRep_tidy (c : Fin 8) (w : Word) (s : State) {s' : State} (h : execEvRep c w s = .next s') : Tidy s s'
    := by
  unfold execEvRep at h
  injection h with h
  subst h
  simp +contextual (maxDischargeDepth := 40) [Tidy]

theorem execEvBreak_tidy (c : Fin 8) (w : Word) (s : State) {s' : State} (h : execEvBreak c w s = .next s') : Tidy s
    s' := by
  unfold execEvBreak at h
  injection h with h
  subst h
  simp +contextual (maxDischargeDepth := 40) [Tidy]

theorem execEvMfsr_tidy (c : Fin 8) (w : Word) (s : State) {s' : State} (h : execEvMfsr c w s = .next s') : Tidy s s'
    := by
  unfold execEvMfsr at h
  injection h with h
  subst h
  simp +contextual (maxDischargeDepth := 40) [Tidy]

@[simp] theorem srWrite_tidy (v : Word) (e : Ev) (s : State) : Tidy s (srWrite v e s).1 := by
  unfold srWrite
  (repeat' split) <;> simp +contextual (maxDischargeDepth := 40) [Tidy]

theorem execEvMtsr_tidy (c : Fin 8) (w : Word) (s : State) {s' : State} (h : execEvMtsr c w s = .next s') : Tidy s s'
    := by
  unfold execEvMtsr at h
  injection h with h
  subst h
  simp +contextual (maxDischargeDepth := 40) [Tidy]

theorem execEvEret_tidy (c : Fin 8) (w : Word) (s : State) {s' : State} (h : execEvEret c w s = .next s') : Tidy s s'
    := by
  unfold execEvEret at h
  injection h with h
  subst h
  simp +contextual (maxDischargeDepth := 40) [Tidy]

theorem execEvEretn_tidy (c : Fin 8) (w : Word) (s : State) {s' : State} (h : execEvEretn c w s = .next s') : Tidy s
    s' := by
  unfold execEvEretn at h
  injection h with h
  subst h
  simp +contextual (maxDischargeDepth := 40) [Tidy]

theorem execEvNop_tidy (c : Fin 8) (w : Word) (s : State) {s' : State} (h : execEvNop c w s = .next s') : Tidy s s'
    := by
  unfold execEvNop at h
  injection h with h
  subst h
  simp +contextual (maxDischargeDepth := 40) [Tidy]

theorem execEvMfence_tidy (c : Fin 8) (w : Word) (s : State) {s' : State} (h : execEvMfence c w s = .next s') : Tidy
    s s' := by
  unfold execEvMfence at h
  injection h with h
  subst h
  simp +contextual (maxDischargeDepth := 40) [Tidy]

theorem execEvEscapeServiceInstruction_tidy (c : Fin 8) (w : Word) (s : State) {s' : State} (h :
    execEvEscapeServiceInstruction c w s = .next s') : Tidy s s' := by
  unfold execEvEscapeServiceInstruction at h
  injection h with h
  subst h
  simp +contextual (maxDischargeDepth := 40) [Tidy]

theorem execEvReservedEncoding_tidy (c : Fin 8) (w : Word) (s : State) {s' : State} (h : execEvReservedEncoding c w s
    = .next s') : Tidy s s' := by
  unfold execEvReservedEncoding at h
  injection h with h
  subst h
  simp +contextual (maxDischargeDepth := 40) [Tidy]

@[simp] theorem takeLine_tidy (c line : Nat) (s : State) : Tidy s (takeLine c line s) := by
  simp +contextual (maxDischargeDepth := 40) [Tidy, takeLine]

@[simp] theorem abortCore_tidy (c : Nat) (s : State) : Tidy s (abortCore c s) := by
  simp +contextual (maxDischargeDepth := 40) [Tidy, abortCore]

@[simp] theorem saveCore_tidy (c : Nat) (s : State) : Tidy s (saveCore c s) := by
  unfold saveCore
  (repeat' split) <;> simp +contextual (maxDischargeDepth := 40) [Tidy]

@[simp] theorem laneDone_tidy (c : Nat) (s : State) : Tidy s (laneDone c s) := by
  simp +contextual (maxDischargeDepth := 40) [Tidy, laneDone]

theorem execInterruptTaken_tidy (c : Fin 8) (s : State) {s' : State} (h : execInterruptTaken c s = .next s') : Tidy s
    s' := by
  unfold execInterruptTaken at h
  injection h with h
  subst h
  (repeat' split) <;> simp +contextual (maxDischargeDepth := 40) [Tidy]

theorem sysRow_tidy (n : Nat) (c : Fin 8) (w : Word) (service : Nat → Ctx → State → Option State) (s s' : State)
    (hs : ∀ t x s s1, service t x s = some s1 → Tidy s s1) (h : sysRow n c w service s = .next s') : Tidy s s' := by
  unfold sysRow at h
  injection h with h
  subst h
  dsimp only
  (repeat' split) <;> first
    | (simp +contextual (maxDischargeDepth := 40) [Tidy]; done)
    | (generalize hx : service _ _ _ = o
       cases o with
       | none => simp +contextual (maxDischargeDepth := 40) [Tidy]
       | some s1 => exact Tidy.trans (by simp +contextual (maxDischargeDepth := 40) [Tidy]) (hs _ _ _ _ hx))

@[simp] theorem served_tidy (c : Nat) (s : State) : Tidy s (served c s) := by
  simp +contextual (maxDischargeDepth := 40) [Tidy, served]

theorem execSysLaneWait_tidy (c : Fin 8) (w : Word) (s : State) {s' : State} (h : execSysLaneWait c w s = .next s') :
    Tidy s s' := by
  refine sysRow_tidy _ _ _ _ _ _ ?_ h
  intro t x s s1 h
  split at h <;> (simp only [Option.some.injEq] at h; subst h; simp +contextual (maxDischargeDepth := 40) [Tidy])

theorem execSysTimerCounterRead_tidy (c : Fin 8) (w : Word) (s : State) {s' : State}
    (h : execSysTimerCounterRead c w s = .next s') : Tidy s s' := by
  refine sysRow_tidy _ _ _ _ _ _ ?_ h
  intro t x s s1 h
  simp only [Option.map_eq_some_iff] at h
  obtain ⟨b, -, rfl⟩ := h
  simp +contextual (maxDischargeDepth := 40) [Tidy]

@[simp] theorem checkIn_tidy (t : Nat) (s : State) : Tidy s (checkIn t s) := by
  simp +contextual (maxDischargeDepth := 40) [Tidy, checkIn]

theorem execRollCallCheckIn_tidy (c : Fin 8) (w : Word) (s : State) {s' : State} (h : execRollCallCheckIn c w s = .next s') : Tidy s s' := by
  refine sysRow_tidy _ _ _ _ _ _ ?_ h
  intro t x s s1 h
  simp only [Option.some.injEq] at h
  subst h
  simp +contextual (maxDischargeDepth := 40) [Tidy]

@[simp] theorem appEvent_tidy (x : Ctx) (s : State) : Tidy s (appEvent x s) := by
  simp +contextual (maxDischargeDepth := 40) [Tidy, appEvent]

theorem execSysApplicationEvent_tidy (c : Fin 8) (w : Word) (s : State) {s' : State} (h : execSysApplicationEvent c w s = .next s') : Tidy s s' := by
  refine sysRow_tidy _ _ _ _ _ _ ?_ h
  intro t x s s1 h
  simp only [Option.some.injEq] at h
  subst h
  simp +contextual (maxDischargeDepth := 40) [Tidy]

@[simp] theorem appMetric_tidy (x : Ctx) (s : State) : Tidy s (appMetric x s) := by
  simp +contextual (maxDischargeDepth := 40) [Tidy, appMetric]

theorem execSysApplicationMetric_tidy (c : Fin 8) (w : Word) (s : State) {s' : State} (h : execSysApplicationMetric c w s = .next s') : Tidy s s' := by
  refine sysRow_tidy _ _ _ _ _ _ ?_ h
  intro t x s s1 h
  simp only [Option.some.injEq] at h
  subst h
  simp +contextual (maxDischargeDepth := 40) [Tidy]

theorem execEvFp32Fadd_tidy (c : Fin 8) (w : Word) (s : State) {s' : State} (h : execEvFp32Fadd c w s = .next s') :
    Tidy s s' := by
  unfold execEvFp32Fadd at h
  injection h with h
  subst h
  simp +contextual (maxDischargeDepth := 40) [Tidy]

theorem execEvFp32Fsub_tidy (c : Fin 8) (w : Word) (s : State) {s' : State} (h : execEvFp32Fsub c w s = .next s') :
    Tidy s s' := by
  unfold execEvFp32Fsub at h
  injection h with h
  subst h
  simp +contextual (maxDischargeDepth := 40) [Tidy]

theorem execEvFp32Fmul_tidy (c : Fin 8) (w : Word) (s : State) {s' : State} (h : execEvFp32Fmul c w s = .next s') :
    Tidy s s' := by
  unfold execEvFp32Fmul at h
  injection h with h
  subst h
  simp +contextual (maxDischargeDepth := 40) [Tidy]

theorem execEvFp32Fdiv_tidy (c : Fin 8) (w : Word) (s : State) {s' : State} (h : execEvFp32Fdiv c w s = .next s') :
    Tidy s s' := by
  unfold execEvFp32Fdiv at h
  injection h with h
  subst h
  simp +contextual (maxDischargeDepth := 40) [Tidy]

theorem execEvFp32Fsqrt_tidy (c : Fin 8) (w : Word) (s : State) {s' : State} (h : execEvFp32Fsqrt c w s = .next s') :
    Tidy s s' := by
  unfold execEvFp32Fsqrt at h
  injection h with h
  subst h
  simp +contextual (maxDischargeDepth := 40) [Tidy]

theorem execEvFp32Fmin_tidy (c : Fin 8) (w : Word) (s : State) {s' : State} (h : execEvFp32Fmin c w s = .next s') :
    Tidy s s' := by
  unfold execEvFp32Fmin at h
  injection h with h
  subst h
  simp +contextual (maxDischargeDepth := 40) [Tidy]

theorem execEvFp32Fmax_tidy (c : Fin 8) (w : Word) (s : State) {s' : State} (h : execEvFp32Fmax c w s = .next s') :
    Tidy s s' := by
  unfold execEvFp32Fmax at h
  injection h with h
  subst h
  simp +contextual (maxDischargeDepth := 40) [Tidy]

theorem execEvFp32Fabs_tidy (c : Fin 8) (w : Word) (s : State) {s' : State} (h : execEvFp32Fabs c w s = .next s') :
    Tidy s s' := by
  unfold execEvFp32Fabs at h
  injection h with h
  subst h
  simp +contextual (maxDischargeDepth := 40) [Tidy]

theorem execEvFp32Fneg_tidy (c : Fin 8) (w : Word) (s : State) {s' : State} (h : execEvFp32Fneg c w s = .next s') :
    Tidy s s' := by
  unfold execEvFp32Fneg at h
  injection h with h
  subst h
  simp +contextual (maxDischargeDepth := 40) [Tidy]

theorem execEvFp64Fadd_tidy (c : Fin 8) (w : Word) (s : State) {s' : State} (h : execEvFp64Fadd c w s = .next s') :
    Tidy s s' := by
  unfold execEvFp64Fadd at h
  injection h with h
  subst h
  simp +contextual (maxDischargeDepth := 40) [Tidy]

theorem execEvFp64Fsub_tidy (c : Fin 8) (w : Word) (s : State) {s' : State} (h : execEvFp64Fsub c w s = .next s') :
    Tidy s s' := by
  unfold execEvFp64Fsub at h
  injection h with h
  subst h
  simp +contextual (maxDischargeDepth := 40) [Tidy]

theorem execEvFp64Fmul_tidy (c : Fin 8) (w : Word) (s : State) {s' : State} (h : execEvFp64Fmul c w s = .next s') :
    Tidy s s' := by
  unfold execEvFp64Fmul at h
  injection h with h
  subst h
  simp +contextual (maxDischargeDepth := 40) [Tidy]

theorem execEvFp64Fdiv_tidy (c : Fin 8) (w : Word) (s : State) {s' : State} (h : execEvFp64Fdiv c w s = .next s') :
    Tidy s s' := by
  unfold execEvFp64Fdiv at h
  injection h with h
  subst h
  simp +contextual (maxDischargeDepth := 40) [Tidy]

theorem execEvFp64Fsqrt_tidy (c : Fin 8) (w : Word) (s : State) {s' : State} (h : execEvFp64Fsqrt c w s = .next s') :
    Tidy s s' := by
  unfold execEvFp64Fsqrt at h
  injection h with h
  subst h
  simp +contextual (maxDischargeDepth := 40) [Tidy]

theorem execEvFp64Fmin_tidy (c : Fin 8) (w : Word) (s : State) {s' : State} (h : execEvFp64Fmin c w s = .next s') :
    Tidy s s' := by
  unfold execEvFp64Fmin at h
  injection h with h
  subst h
  simp +contextual (maxDischargeDepth := 40) [Tidy]

theorem execEvFp64Fmax_tidy (c : Fin 8) (w : Word) (s : State) {s' : State} (h : execEvFp64Fmax c w s = .next s') :
    Tidy s s' := by
  unfold execEvFp64Fmax at h
  injection h with h
  subst h
  simp +contextual (maxDischargeDepth := 40) [Tidy]

theorem execEvFp64Fabs_tidy (c : Fin 8) (w : Word) (s : State) {s' : State} (h : execEvFp64Fabs c w s = .next s') :
    Tidy s s' := by
  unfold execEvFp64Fabs at h
  injection h with h
  subst h
  simp +contextual (maxDischargeDepth := 40) [Tidy]

theorem execEvFp64Fneg_tidy (c : Fin 8) (w : Word) (s : State) {s' : State} (h : execEvFp64Fneg c w s = .next s') :
    Tidy s s' := by
  unfold execEvFp64Fneg at h
  injection h with h
  subst h
  simp +contextual (maxDischargeDepth := 40) [Tidy]

theorem execEvFeqs_tidy (c : Fin 8) (w : Word) (s : State) {s' : State} (h : execEvFeqs c w s = .next s') : Tidy s s'
    := by
  unfold execEvFeqs at h
  injection h with h
  subst h
  simp +contextual (maxDischargeDepth := 40) [Tidy]

theorem execEvFlts_tidy (c : Fin 8) (w : Word) (s : State) {s' : State} (h : execEvFlts c w s = .next s') : Tidy s s'
    := by
  unfold execEvFlts at h
  injection h with h
  subst h
  simp +contextual (maxDischargeDepth := 40) [Tidy]

theorem execEvFles_tidy (c : Fin 8) (w : Word) (s : State) {s' : State} (h : execEvFles c w s = .next s') : Tidy s s'
    := by
  unfold execEvFles at h
  injection h with h
  subst h
  simp +contextual (maxDischargeDepth := 40) [Tidy]

theorem execEvFuns_tidy (c : Fin 8) (w : Word) (s : State) {s' : State} (h : execEvFuns c w s = .next s') : Tidy s s'
    := by
  unfold execEvFuns at h
  injection h with h
  subst h
  simp +contextual (maxDischargeDepth := 40) [Tidy]

theorem execEvFeqd_tidy (c : Fin 8) (w : Word) (s : State) {s' : State} (h : execEvFeqd c w s = .next s') : Tidy s s'
    := by
  unfold execEvFeqd at h
  injection h with h
  subst h
  simp +contextual (maxDischargeDepth := 40) [Tidy]

theorem execEvFltd_tidy (c : Fin 8) (w : Word) (s : State) {s' : State} (h : execEvFltd c w s = .next s') : Tidy s s'
    := by
  unfold execEvFltd at h
  injection h with h
  subst h
  simp +contextual (maxDischargeDepth := 40) [Tidy]

theorem execEvFled_tidy (c : Fin 8) (w : Word) (s : State) {s' : State} (h : execEvFled c w s = .next s') : Tidy s s'
    := by
  unfold execEvFled at h
  injection h with h
  subst h
  simp +contextual (maxDischargeDepth := 40) [Tidy]

theorem execEvFund_tidy (c : Fin 8) (w : Word) (s : State) {s' : State} (h : execEvFund c w s = .next s') : Tidy s s'
    := by
  unfold execEvFund at h
  injection h with h
  subst h
  simp +contextual (maxDischargeDepth := 40) [Tidy]

theorem execEvSfw_tidy (c : Fin 8) (w : Word) (s : State) {s' : State} (h : execEvSfw c w s = .next s') : Tidy s s'
    := by
  unfold execEvSfw at h
  injection h with h
  subst h
  simp +contextual (maxDischargeDepth := 40) [Tidy]

theorem execEvSfwu_tidy (c : Fin 8) (w : Word) (s : State) {s' : State} (h : execEvSfwu c w s = .next s') : Tidy s s'
    := by
  unfold execEvSfwu at h
  injection h with h
  subst h
  simp +contextual (maxDischargeDepth := 40) [Tidy]

theorem execEvWfs_tidy (c : Fin 8) (w : Word) (s : State) {s' : State} (h : execEvWfs c w s = .next s') : Tidy s s'
    := by
  unfold execEvWfs at h
  injection h with h
  subst h
  simp +contextual (maxDischargeDepth := 40) [Tidy]

theorem execEvWufs_tidy (c : Fin 8) (w : Word) (s : State) {s' : State} (h : execEvWufs c w s = .next s') : Tidy s s'
    := by
  unfold execEvWufs at h
  injection h with h
  subst h
  simp +contextual (maxDischargeDepth := 40) [Tidy]

theorem execEvWfsr_tidy (c : Fin 8) (w : Word) (s : State) {s' : State} (h : execEvWfsr c w s = .next s') : Tidy s s'
    := by
  unfold execEvWfsr at h
  injection h with h
  subst h
  simp +contextual (maxDischargeDepth := 40) [Tidy]

theorem execEvDfw_tidy (c : Fin 8) (w : Word) (s : State) {s' : State} (h : execEvDfw c w s = .next s') : Tidy s s'
    := by
  unfold execEvDfw at h
  injection h with h
  subst h
  simp +contextual (maxDischargeDepth := 40) [Tidy]

theorem execEvDfwu_tidy (c : Fin 8) (w : Word) (s : State) {s' : State} (h : execEvDfwu c w s = .next s') : Tidy s s'
    := by
  unfold execEvDfwu at h
  injection h with h
  subst h
  simp +contextual (maxDischargeDepth := 40) [Tidy]

theorem execEvWfd_tidy (c : Fin 8) (w : Word) (s : State) {s' : State} (h : execEvWfd c w s = .next s') : Tidy s s'
    := by
  unfold execEvWfd at h
  injection h with h
  subst h
  simp +contextual (maxDischargeDepth := 40) [Tidy]

theorem execEvWufd_tidy (c : Fin 8) (w : Word) (s : State) {s' : State} (h : execEvWufd c w s = .next s') : Tidy s s'
    := by
  unfold execEvWufd at h
  injection h with h
  subst h
  simp +contextual (maxDischargeDepth := 40) [Tidy]

theorem execEvWfdr_tidy (c : Fin 8) (w : Word) (s : State) {s' : State} (h : execEvWfdr c w s = .next s') : Tidy s s'
    := by
  unfold execEvWfdr at h
  injection h with h
  subst h
  simp +contextual (maxDischargeDepth := 40) [Tidy]

theorem execEvDfs_tidy (c : Fin 8) (w : Word) (s : State) {s' : State} (h : execEvDfs c w s = .next s') : Tidy s s'
    := by
  unfold execEvDfs at h
  injection h with h
  subst h
  simp +contextual (maxDischargeDepth := 40) [Tidy]

theorem execEvSfd_tidy (c : Fin 8) (w : Word) (s : State) {s' : State} (h : execEvSfd c w s = .next s') : Tidy s s'
    := by
  unfold execEvSfd at h
  injection h with h
  subst h
  simp +contextual (maxDischargeDepth := 40) [Tidy]

end Sys2Proof.Machine
end

