-- ==== Sys2Proof/Laws/FrameMotion.lean ====
section
/-! SUPPORT. What Trellis, Graft, the network and the clock do keeps the queue, the life-cycle code and the canonical
forms. -/

namespace Sys2Proof.Machine

open Reg

@[simp] theorem setEntry_tidy (i : Nat) (e : Entry) (s : State) : Tidy s (setEntry i e s) := by
  simp +contextual (maxDischargeDepth := 40) [Tidy, setEntry]

@[simp] theorem measureEdge_tidy (n : Nat) (level : Bool) (s : State) : Tidy s (measureEdge n level s) := by
  simp +contextual (maxDischargeDepth := 40) [Tidy, measureEdge]

@[simp] theorem takeEdge_tidy (n : Nat) (level : Bool) (s : State) : Tidy s (takeEdge n level s) := by
  simp +contextual (maxDischargeDepth := 40) [Tidy, takeEdge]

@[simp] theorem driveEdge_tidy (n : Nat) (level : Bool) (s : State) : Tidy s (driveEdge n level s) := by
  simp +contextual (maxDischargeDepth := 40) [Tidy, driveEdge]

@[simp] theorem placeEdge_tidy (i : Nat) (e : Entry) (late : Bool) (tc : Option Nat) (s : State) : Tidy s (placeEdge
    i e late tc s) := by
  simp +contextual (maxDischargeDepth := 40) [Tidy, placeEdge]

@[simp] theorem writeCapture_tidy (c stamp : Nat) (rising soft : Bool) (s : State) : Tidy s (writeCapture c stamp
    rising soft s) := by
  unfold writeCapture
  (try dsimp only)
  refine forEach_to ?_ ?_ <;> (try intro x s) <;> (try dsimp only) <;> (repeat' split) <;> simp +contextual (maxDischargeDepth := 40) [Tidy]

@[simp] theorem giveTargets_tidy (c stamp : Nat) (s : State) : Tidy s (giveTargets c stamp s).1 := by
  unfold giveTargets
  refine foldlPair_to ?_ (Tidy.refl s)
  intro x p
  dsimp only
  (repeat' split) <;> simp +contextual (maxDischargeDepth := 40) [Tidy]

@[simp] theorem imageBit_tidy (e : Entry) (s : State) : Tidy s (imageBit e s) := by
  unfold imageBit
  dsimp only
  split
  · exact writeUnit_tidy _ _ _ (fun _ _ => rfl) (fun _ h => wrBit_wf _ _ _ h)
  · exact Tidy.refl s

@[simp] theorem countFire_tidy (i : Nat) (e : Entry) (late : Bool) (s : State) : Tidy s (countFire i e late s) := by
  simp +contextual (maxDischargeDepth := 40) [Tidy, countFire]

@[simp] theorem fireAction_tidy (f : Fire) (s : State) : Tidy s (fireAction f s) := by
  unfold fireAction
  (repeat' split) <;> simp +contextual (maxDischargeDepth := 40) [Tidy]

@[simp] theorem softCapture_tidy (c : Nat) (s : State) : Tidy s (softCapture c s).1 := by
  unfold softCapture
  (repeat' split) <;> simp +contextual (maxDischargeDepth := 40) [Tidy]

@[simp] theorem runFires_tidy (n : Nat) (fs : List Fire) (s : State) : Tidy s (runFires n fs s) := by
  induction n generalizing fs s with
  | zero =>
    unfold runFires
    split <;> simp +contextual (maxDischargeDepth := 40) [Tidy]
  | succ n ih =>
    cases fs with
    | nil => exact Tidy.refl s
    | cons f fs =>
      simp only [runFires]
      (repeat' split) <;> simp +contextual (maxDischargeDepth := 40) [Tidy, ih]

@[simp] theorem fireAll_tidy (fs : List Fire) (s : State) : Tidy s (fireAll fs s) := by
  simp +contextual (maxDischargeDepth := 40) [Tidy, fireAll]

@[simp] theorem captureEdge_tidy (c stamp : Nat) (rising : Bool) (s : State) : Tidy s (captureEdge c stamp rising
    s).1 := by
  unfold captureEdge
  dsimp only
  (repeat' split) <;> simp +contextual (maxDischargeDepth := 40) [Tidy]

@[simp] theorem rearmAll_tidy (k : Nat) (s : State) : Tidy s (rearmAll k s) := by
  simp +contextual (maxDischargeDepth := 40) [Tidy, rearmAll]

@[simp] theorem smallAlong_tidy (k : Nat) (eps dirn : Int) (s : State) : Tidy s (smallAlong k eps dirn s).1 := by
  unfold smallAlong
  refine foldlPair_to ?_ (Tidy.refl s)
  intro x p
  dsimp only
  (repeat' split) <;> simp +contextual (maxDischargeDepth := 40) [Tidy]

@[simp] theorem stepOf_tidy (k : Nat) (old new : Int) (large quiet : Bool) (s : State) : Tidy s (stepOf k old new
    large quiet s).1 := by
  unfold stepOf
  dsimp only
  (repeat' split) <;> simp +contextual (maxDischargeDepth := 40) [Tidy]

@[simp] theorem lostOutputs_tidy (k : Nat) (s : State) : Tidy s (lostOutputs k s) := by
  simp +contextual (maxDischargeDepth := 40) [Tidy, lostOutputs]

@[simp] theorem dropWaiting_tidy (k : Nat) (s : State) : Tidy s (dropWaiting k s) := by
  simp +contextual (maxDischargeDepth := 40) [Tidy, dropWaiting]

@[simp] theorem enterAxState_tidy (k new : Nat) (s : State) : Tidy s (enterAxState k new s) := by
  unfold enterAxState
  (repeat' split) <;> simp +contextual (maxDischargeDepth := 40) [Tidy]

@[simp] theorem setAxState_tidy (k new : Nat) (s : State) : Tidy s (setAxState k new s) := by
  simp +contextual (maxDischargeDepth := 40) [Tidy, setAxState]

@[simp] theorem withSteps_tidy (k : Nat) (large quiet : Bool) (change : State → State) (s : State)
    (hchange : ∀ x : State, Tidy x (change x)) : Tidy s (withSteps k large quiet change s) := by
  unfold withSteps
  dsimp only
  refine (foldlPair_to (fun x p => ?_) (hchange s)).trans (fireAll_tidy ..)
  split
  · exact stepOf_tidy ..
  · exact Tidy.refl _

@[simp] theorem loseAxis_tidy (k : Nat) (s : State) : Tidy s (loseAxis k s) := by
  simp +contextual (maxDischargeDepth := 40) [Tidy, loseAxis]

@[simp] theorem coastAxis_tidy (k : Nat) (s : State) : Tidy s (coastAxis k s) := by
  simp +contextual (maxDischargeDepth := 40) [Tidy, coastAxis]

@[simp] theorem accepted_tidy (k : Nat) (s : State) : Tidy s (accepted k s) := by
  simp +contextual (maxDischargeDepth := 40) [Tidy, accepted]

@[simp] theorem anchorAt_tidy (k : Nat) (th v a : Int) (t : Nat) (s : State) : Tidy s (anchorAt k th v a t s) := by
  simp +contextual (maxDischargeDepth := 40) [Tidy, anchorAt]

@[simp] theorem takeSample_tidy (k : Nat) (m : Sample) (ts : Nat) (s : State) : Tidy s (takeSample k m ts s) := by
  unfold takeSample
  (repeat' split) <;> simp +contextual (maxDischargeDepth := 40) [Tidy]

@[simp] theorem judgeSample_tidy (k : Nat) (m : Sample) (s : State) : Tidy s (judgeSample k m s) := by
  simp +contextual (maxDischargeDepth := 40) [Tidy, judgeSample]

@[simp] theorem sampleToAxes_tidy (stream : Nat) (m : Sample) (s : State) : Tidy s (sampleToAxes stream m s) := by
  simp +contextual (maxDischargeDepth := 40) [Tidy, sampleToAxes]

@[simp] theorem tickEntries_tidy (t : Nat) (s : State) : Tidy s (tickEntries t s).1 := by
  unfold tickEntries
  refine foldlPair_to ?_ (Tidy.refl s)
  intro x p
  dsimp only
  (repeat' split) <;> simp +contextual (maxDischargeDepth := 40) [Tidy]

@[simp] theorem showReverse_tidy (t : Nat) (s : State) : Tidy s (showReverse t s) := by
  simp +contextual (maxDischargeDepth := 40) [Tidy, showReverse]

@[simp] theorem tickEffect_tidy (s : State) : Tidy s (tickEffect s) := by
  simp +contextual (maxDischargeDepth := 40) [Tidy, tickEffect]

theorem execTrellisTick_tidy (s : State) {s' : State} (h : execTrellisTick s = .next s') : Tidy s s' := by
  unfold execTrellisTick at h
  injection h with h
  subst h
  simp +contextual (maxDischargeDepth := 40) [Tidy]

@[simp] theorem issueEdge_tidy (e : Edge) (s : State) : Tidy s (issueEdge e s) := by
  simp +contextual (maxDischargeDepth := 40) [Tidy, issueEdge]

theorem execEdgeIssue_tidy (s : State) {s' : State} (h : execEdgeIssue s = .next s') : Tidy s s' := by
  unfold execEdgeIssue at h
  injection h with h
  subst h
  (repeat' split) <;> simp +contextual (maxDischargeDepth := 40) [Tidy]

theorem execPulseEnd_tidy (ch : Fin 16) (s : State) {s' : State} (h : execPulseEnd ch s = .next s') : Tidy s s' := by
  unfold execPulseEnd at h
  injection h with h
  subst h
  (repeat' split) <;> simp +contextual (maxDischargeDepth := 40) [Tidy]

@[simp] theorem countEdge_tidy (k : Nat) (reverse : Bool) (s : State) : Tidy s (countEdge k reverse s) := by
  simp +contextual (maxDischargeDepth := 40) [Tidy, countEdge]

@[simp] theorem homeAxis_tidy (k : Nat) (s : State) : Tidy s (homeAxis k s) := by
  simp +contextual (maxDischargeDepth := 40) [Tidy, homeAxis]

@[simp] theorem encoderStep_tidy (k : Nat) (kind : EncEdge) (s : State) : Tidy s (encoderStep k kind s) := by
  unfold encoderStep
  (repeat' split) <;> simp +contextual (maxDischargeDepth := 40) [Tidy]

@[simp] theorem takeLevels_tidy (e : Nat) (s : State) : Tidy s (takeLevels e s) := by
  simp +contextual (maxDischargeDepth := 40) [Tidy, takeLevels]

theorem execEncoderEdge_tidy (e : Fin 4) (k : EncEdge) (s : State) {s' : State} (h : execEncoderEdge e k s = .next
    s') : Tidy s s' := by
  unfold execEncoderEdge at h
  injection h with h
  subst h
  simp +contextual (maxDischargeDepth := 40) [Tidy]

@[simp] theorem encoderConfigured_tidy (old : State) (e : Nat) (s : State) : Tidy s (encoderConfigured old e s) := by
  simp +contextual (maxDischargeDepth := 40) [Tidy, encoderConfigured]

@[simp] theorem encoderFault_tidy (ch : Nat) (s : State) : Tidy s (encoderFault ch s) := by
  simp +contextual (maxDischargeDepth := 40) [Tidy, encoderFault]

theorem execSampleTimeout_tidy (k : Fin 16) (s : State) {s' : State} (h : execSampleTimeout k s = .next s') : Tidy s
    s' := by
  unfold execSampleTimeout at h
  injection h with h
  subst h
  (repeat' split) <;> simp +contextual (maxDischargeDepth := 40) [Tidy]

theorem execCoastLimit_tidy (k : Fin 16) (s : State) {s' : State} (h : execCoastLimit k s = .next s') : Tidy s s' :=
    by
  unfold execCoastLimit at h
  injection h with h
  subst h
  simp +contextual (maxDischargeDepth := 40) [Tidy]

@[simp] theorem captureAll_tidy (ch stamp : Nat) (rising : Bool) (s : State) :
    Tidy s (captureAll ch stamp rising s) := by
  unfold captureAll
  dsimp only
  refine (foldlPair_to (fun c p => ?_) (Tidy.refl s)).trans (fireAll_tidy ..)
  split
  · exact captureEdge_tidy ..
  · exact Tidy.refl _

theorem execFastInputEdge_tidy (ch : Fin 16) (rising : Bool) (at_ : Nat) (s : State) {s' : State} (h :
    execFastInputEdge ch rising at_ s = .next s') : Tidy s s' := by
  unfold execFastInputEdge at h
  injection h with h
  subst h
  simp +contextual (maxDischargeDepth := 40) [Tidy]

@[simp] theorem applyTrim_tidy (k : Nat) (v : Nat) (s : State) : Tidy s (applyTrim k v s) := by
  simp +contextual (maxDischargeDepth := 40) [Tidy, applyTrim]

theorem execTrimSourceApply_tidy (s : State) {s' : State} (h : execTrimSourceApply s = .next s') : Tidy s s' := by
  unfold execTrimSourceApply at h
  injection h with h
  subst h
  (repeat' split) <;> simp +contextual (maxDischargeDepth := 40) [Tidy]

theorem execTrlEntryWrite_tidy (d : Desc) (s : State) {s' : State} (h : execTrlEntryWrite d s = .next s') : Tidy s s'
    := by
  unfold execTrlEntryWrite at h
  injection h with h
  subst h
  simp +contextual (maxDischargeDepth := 40) [Tidy]

@[simp] theorem lostNow_tidy (k : Nat) (s : State) : Tidy s (lostNow k s) := by
  simp +contextual (maxDischargeDepth := 40) [Tidy, lostNow]

@[simp] theorem installEntry_tidy (rec_ : List Byte) (s : State) : Tidy s (installEntry rec_ s) := by
  simp +contextual (maxDischargeDepth := 40) [Tidy, installEntry]

theorem execEntryBatchApply_tidy (s : State) {s' : State} (h : execEntryBatchApply s = .next s') : Tidy s s' := by
  unfold execEntryBatchApply at h
  injection h with h
  subst h
  simp +contextual (maxDischargeDepth := 40) [Tidy]

theorem execTrlEntryRead_tidy (d : Desc) (s : State) {s' : State} (h : execTrlEntryRead d s = .next s') : Tidy s s'
    := by
  unfold execTrlEntryRead at h
  injection h with h
  subst h
  simp +contextual (maxDischargeDepth := 40) [Tidy]

@[simp] theorem presetAngle_tidy (k : Nat) (p : Nat) (s : State) : Tidy s (presetAngle k p s) := by
  simp +contextual (maxDischargeDepth := 40) [Tidy, presetAngle]

@[simp] theorem reanchorVirtual_tidy (k : Nat) (s : State) : Tidy s (reanchorVirtual k s) := by
  simp +contextual (maxDischargeDepth := 40) [Tidy, reanchorVirtual]

@[simp] theorem setVelocity_tidy (k : Nat) (v : Int) (s : State) : Tidy s (setVelocity k v s) := by
  simp +contextual (maxDischargeDepth := 40) [Tidy, setVelocity]

theorem execTrlAxisSet_tidy (d : Desc) (s : State) {s' : State} (h : execTrlAxisSet d s = .next s') : Tidy s s' := by
  unfold execTrlAxisSet at h
  injection h with h
  subst h
  simp +contextual (maxDischargeDepth := 40) [Tidy]

@[simp] theorem axisSet_tidy (d : Desc) (s : State) : Tidy s (axisSet d s) := by
  simp +contextual (maxDischargeDepth := 40) [Tidy, axisSet]

theorem execAxisSetApply_tidy (s : State) {s' : State} (h : execAxisSetApply s = .next s') : Tidy s s' := by
  unfold execAxisSetApply at h
  injection h with h
  subst h
  simp +contextual (maxDischargeDepth := 40) [Tidy]

theorem execTrlTrimSet_tidy (d : Desc) (s : State) {s' : State} (h : execTrlTrimSet d s = .next s') : Tidy s s' := by
  unfold execTrlTrimSet at h
  injection h with h
  subst h
  simp +contextual (maxDischargeDepth := 40) [Tidy]

theorem execTrimSetApply_tidy (s : State) {s' : State} (h : execTrimSetApply s = .next s') : Tidy s s' := by
  unfold execTrimSetApply at h
  injection h with h
  subst h
  simp +contextual (maxDischargeDepth := 40) [Tidy]

theorem execTrlAxisRearm_tidy (d : Desc) (s : State) {s' : State} (h : execTrlAxisRearm d s = .next s') : Tidy s s'
    := by
  unfold execTrlAxisRearm at h
  injection h with h
  subst h
  simp +contextual (maxDischargeDepth := 40) [Tidy]

@[simp] theorem rearmAxis_tidy (k p : Nat) (s : State) : Tidy s (rearmAxis k p s) := by
  simp +contextual (maxDischargeDepth := 40) [Tidy, rearmAxis]

theorem execAxisRearmApply_tidy (s : State) {s' : State} (h : execAxisRearmApply s = .next s') : Tidy s s' := by
  unfold execAxisRearmApply at h
  injection h with h
  subst h
  simp +contextual (maxDischargeDepth := 40) [Tidy]

@[simp] theorem enableAxis_tidy (k : Nat) (s : State) : Tidy s (enableAxis k s) := by
  simp +contextual (maxDischargeDepth := 40) [Tidy, enableAxis]

@[simp] theorem sourceConfigured_tidy (old : State) (k : Nat) (s : State) : Tidy s (sourceConfigured old k s) := by
  simp +contextual (maxDischargeDepth := 40) [Tidy, sourceConfigured]

@[simp] theorem axisConfigured_tidy (old : State) (k : Nat) (s : State) : Tidy s (axisConfigured old k s) := by
  simp +contextual (maxDischargeDepth := 40) [Tidy, axisConfigured]

@[simp] theorem captureConfigured_tidy (old : State) (c : Nat) (s : State) : Tidy s (captureConfigured old c s) := by
  simp +contextual (maxDischargeDepth := 40) [Tidy, captureConfigured]

@[simp] theorem setKept_tidy (k : Option Kept) (s : State) : Tidy s (setKept k s) := by
  simp +contextual (maxDischargeDepth := 40) [Tidy, setKept]

@[simp] theorem closeGraft_tidy (s : State) : Tidy s (closeGraft s) := by
  simp +contextual (maxDischargeDepth := 40) [Tidy, closeGraft]

@[simp] theorem graftOpen_tidy (d : Desc) (s : State) : Tidy s (graftOpen d s) := by
  simp +contextual (maxDischargeDepth := 40) [Tidy, graftOpen]

theorem execGraftOpen_tidy (d : Desc) (s : State) {s' : State} (h : execGraftOpen d s = .next s') : Tidy s s' := by
  unfold execGraftOpen at h
  injection h with h
  subst h
  simp +contextual (maxDischargeDepth := 40) [Tidy]

@[simp] theorem graftLoad_tidy (d : Desc) (s : State) : Tidy s (graftLoad d s) := by
  simp +contextual (maxDischargeDepth := 40) [Tidy, graftLoad]

theorem execGraftLoad_tidy (d : Desc) (s : State) {s' : State} (h : execGraftLoad d s = .next s') : Tidy s s' := by
  unfold execGraftLoad at h
  injection h with h
  subst h
  simp +contextual (maxDischargeDepth := 40) [Tidy]

@[simp] theorem graftChecked_tidy (p : Program) (s : State) : Tidy s (graftChecked p s) := by
  have h : ∀ m : Mem, Mem.wf m = true → Mem.wf (p.code.foldl (fun m x => wr m x.1 x.2) m) = true :=
    fun _ hm => mem_foldl_wf (fun _ _ h => wr_wf _ _ _ h) hm
  unfold graftChecked
  simp +contextual (maxDischargeDepth := 40) [Tidy, h]

@[simp] theorem graftCheckEffect_tidy (d : Desc) (p : Program) (s : State) : Tidy s (graftCheckEffect d p s) := by
  simp +contextual (maxDischargeDepth := 40) [Tidy, graftCheckEffect]

theorem execGraftCheck_tidy (d : Desc) (p : Program) (s : State) {s' : State} (h : execGraftCheck d p s = .next s') :
    Tidy s s' := by
  unfold execGraftCheck at h
  injection h with h
  subst h
  simp +contextual (maxDischargeDepth := 40) [Tidy]

theorem execGraftAbort_tidy (d : Desc) (s : State) {s' : State} (h : execGraftAbort d s = .next s') : Tidy s s' := by
  unfold execGraftAbort at h
  injection h with h
  subst h
  simp +contextual (maxDischargeDepth := 40) [Tidy]

theorem execGraftConfirm_tidy (d : Desc) (s : State) {s' : State} (h : execGraftConfirm d s = .next s') : Tidy s s'
    := by
  unfold execGraftConfirm at h
  injection h with h
  subst h
  simp +contextual (maxDischargeDepth := 40) [Tidy]

@[simp] theorem startCommit_tidy (op : Nat) (d : Desc) (revert : Bool) (s : State) : Tidy s (startCommit op d revert
    s) := by
  simp +contextual (maxDischargeDepth := 40) [Tidy, startCommit]

theorem execGraftCommit_tidy (d : Desc) (s : State) {s' : State} (h : execGraftCommit d s = .next s') : Tidy s s' :=
    by
  unfold execGraftCommit at h
  injection h with h
  subst h
  simp +contextual (maxDischargeDepth := 40) [Tidy]

theorem execGraftRevert_tidy (d : Desc) (s : State) {s' : State} (h : execGraftRevert d s = .next s') : Tidy s s' :=
    by
  unfold execGraftRevert at h
  injection h with h
  subst h
  simp +contextual (maxDischargeDepth := 40) [Tidy]

@[simp] theorem graftHalt_tidy (cause : Nat) (ident : DWord) (s : State) : Tidy s (graftHalt cause ident s) := by
  simp +contextual (maxDischargeDepth := 40) [Tidy, graftHalt]

@[simp] theorem autoFailed_tidy (ident : DWord) (s : State) : Tidy s (autoFailed ident s) := by
  simp +contextual (maxDischargeDepth := 40) [Tidy, autoFailed]

@[simp] theorem commitFails_tidy (c : GraftCommit) (status reason : Nat) (s : State) : Tidy s (commitFails c status
    reason s) := by
  simp +contextual (maxDischargeDepth := 40) [Tidy, commitFails]

@[simp] theorem tellPeer_tidy (c : GraftCommit) (cycle : Nat) (s : State) : Tidy s (tellPeer c cycle s) := by
  simp +contextual (maxDischargeDepth := 40) [Tidy, tellPeer]

@[simp] theorem reportSwitch_tidy (c : GraftCommit) (kind mask ns cycle : Nat) (s : State) : Tidy s (reportSwitch c
    kind mask ns cycle s) := by
  simp +contextual (maxDischargeDepth := 40) [Tidy, reportSwitch]

@[simp] theorem afterSwitch_tidy (c : GraftCommit) (s : State) : Tidy s (afterSwitch c s) := by
  simp +contextual (maxDischargeDepth := 40) [Tidy, afterSwitch]

@[simp] theorem newGeneration_tidy (c : GraftCommit) (kind : Nat) (s : State) : Tidy s (newGeneration c kind s) := by
  simp +contextual (maxDischargeDepth := 40) [Tidy, newGeneration]

@[simp] theorem firstTable_tidy (s : State) : Tidy s (firstTable s) := by
  simp +contextual (maxDischargeDepth := 40) [Tidy, firstTable]

@[simp] theorem installCode_tidy (p : Program) (mask : Nat) (s : State) : Tidy s (installCode p mask s) := by
  simp +contextual (maxDischargeDepth := 40) [Tidy, installCode]

@[simp] theorem applyCode_tidy (c : GraftCommit) (s : State) : Tidy s (applyCode c s) := by
  unfold applyCode
  (repeat' split) <;> simp +contextual (maxDischargeDepth := 40) [Tidy]

theorem execCodeGraftApply_tidy (s : State) {s' : State} (h : execCodeGraftApply s = .next s') : Tidy s s' := by
  unfold execCodeGraftApply at h
  injection h with h
  subst h
  (repeat' split) <;> simp +contextual (maxDischargeDepth := 40) [Tidy]

@[simp] theorem startSwitch_tidy (c : GraftCommit) (kind : Nat) (s : State) : Tidy s (startSwitch c kind s) := by
  unfold startSwitch
  (repeat' split) <;> simp +contextual (maxDischargeDepth := 40) [Tidy]

theorem execGraftSwitchStart_tidy (s : State) {s' : State} (h : execGraftSwitchStart s = .next s') : Tidy s s' := by
  unfold execGraftSwitchStart at h
  injection h with h
  subst h
  (repeat' split) <;> simp +contextual (maxDischargeDepth := 40) [Tidy]

@[simp] theorem moveData_tidy (m : Move) (s : State) : Tidy s (moveData m s) := by
  simp +contextual (maxDischargeDepth := 40) [Tidy, moveData]

@[simp] theorem showMaps_tidy (p : Program) (s : State) : Tidy s (showMaps p s) := by
  simp +contextual (maxDischargeDepth := 40) [Tidy, showMaps]

@[simp] theorem installProgram_tidy (p : Program) (mask : Nat) (s : State) : Tidy s (installProgram p mask s) := by
  simp +contextual (maxDischargeDepth := 40) [Tidy, installProgram]

@[simp] theorem releaseHeldTasks_tidy (mask : Nat) (s : State) : Tidy s (releaseHeldTasks mask s) := by
  simp +contextual (maxDischargeDepth := 40) [Tidy, releaseHeldTasks]

@[simp] theorem afterwards_tidy (s : State) : Tidy s (afterwards s) := by
  unfold afterwards
  (repeat' split) <;> simp +contextual (maxDischargeDepth := 40) [Tidy]

@[simp] theorem finishSwitch_tidy (c : GraftCommit) (i : Nat) (s : State) : Tidy s (finishSwitch c i s) := by
  simp +contextual (maxDischargeDepth := 40) [Tidy, finishSwitch]

@[simp] theorem switchFault_tidy (c : GraftCommit) (s : State) : Tidy s (switchFault c s) := by
  simp +contextual (maxDischargeDepth := 40) [Tidy, switchFault]

theorem execGraftSwitchEnd_tidy (fault : Bool) (s : State) {s' : State} (h : execGraftSwitchEnd fault s = .next s') :
    Tidy s s' := by
  unfold execGraftSwitchEnd at h
  injection h with h
  subst h
  (repeat' split) <;> simp +contextual (maxDischargeDepth := 40) [Tidy]

theorem execGraftNoGap_tidy (s : State) {s' : State} (h : execGraftNoGap s = .next s') : Tidy s s' := by
  unfold execGraftNoGap at h
  injection h with h
  subst h
  (repeat' split) <;> simp +contextual (maxDischargeDepth := 40) [Tidy]

@[simp] theorem autoRevert_tidy (s : State) : Tidy s (autoRevert s) := by
  simp +contextual (maxDischargeDepth := 40) [Tidy, autoRevert]

theorem execConfirmWindowEnd_tidy (s : State) {s' : State} (h : execConfirmWindowEnd s = .next s') : Tidy s s' := by
  unfold execConfirmWindowEnd at h
  injection h with h
  subst h
  (repeat' split) <;> simp +contextual (maxDischargeDepth := 40) [Tidy]

@[simp] theorem standbyCheck_tidy (s : State) : Tidy s (standbyCheck s) := by
  unfold standbyCheck
  dsimp only
  (repeat' split) <;> simp +contextual (maxDischargeDepth := 40) [Tidy]

theorem standbySwitch_tidy {cycle : Nat} {s s1 : State} (h : standbySwitch cycle s = some s1) : Tidy s s1 := by
  unfold standbySwitch at h
  dsimp only at h
  split at h
  · simp at h
  · simp only [Option.some.injEq] at h
    subst h
    (repeat' split) <;> simp +contextual (maxDischargeDepth := 40) [Tidy]

@[simp] theorem seeEpoch_tidy (e : Nat) (s : State) : Tidy s (seeEpoch e s) := by
  simp +contextual (maxDischargeDepth := 40) [Tidy, seeEpoch]

@[simp] theorem raiseEpoch_tidy (s : State) : Tidy s (raiseEpoch s) := by
  simp +contextual (maxDischargeDepth := 40) [Tidy, raiseEpoch]

@[simp] theorem remember_tidy (kind : Nat) (s : State) : Tidy s (remember kind s) := by
  simp +contextual (maxDischargeDepth := 40) [Tidy, remember]

@[simp] theorem showPeer_tidy (s : State) : Tidy s (showPeer s) := by
  simp +contextual (maxDischargeDepth := 40) [Tidy, showPeer]

@[simp] theorem abortMailbox_tidy (s : State) : Tidy s (abortMailbox s) := by
  simp +contextual (maxDischargeDepth := 40) [Tidy, abortMailbox]

@[simp] theorem dropGated_tidy (s : State) : Tidy s (dropGated s) := by
  simp +contextual (maxDischargeDepth := 40) [Tidy, dropGated]

@[simp] theorem yieldNow_tidy (s : State) : Tidy s (yieldNow s) := by
  simp +contextual (maxDischargeDepth := 40) [Tidy, yieldNow]

@[simp] theorem epochReport_tidy (e : Nat) (s : State) : Tidy s (epochReport e s) := by
  simp +contextual (maxDischargeDepth := 40) [Tidy, epochReport]

@[simp] theorem peerEpoch_tidy (e : Nat) (s : State) : Tidy s (peerEpoch e s) := by
  simp +contextual (maxDischargeDepth := 40) [Tidy, peerEpoch]

@[simp] theorem declareFailed_tidy (s : State) : Tidy s (declareFailed s) := by
  unfold declareFailed
  dsimp only
  (repeat' split) <;> simp +contextual (maxDischargeDepth := 40) [Tidy]

@[simp] theorem handoverDone_tidy (x : Handover) (s : State) : Tidy s (handoverDone x s) := by
  unfold handoverDone
  (repeat' split) <;> simp +contextual (maxDischargeDepth := 40) [Tidy]

@[simp] theorem steer_tidy (b : Beat) (at_ : Nat) (s : State) : Tidy s (steer b at_ s) := by
  simp +contextual (maxDischargeDepth := 40) [Tidy, steer]

@[simp] theorem beatIn_tidy (path : HbPath) (b : Beat) (at_ : Nat) (s : State) : Tidy s (beatIn path b at_ s) := by
  unfold beatIn
  (repeat' split) <;> simp +contextual (maxDischargeDepth := 40) [Tidy]

@[simp] theorem setGate_tidy (p : Nat) (f : Gate → Gate) (s : State) : Tidy s (setGate p f s) := by
  simp +contextual (maxDischargeDepth := 40) [Tidy, setGate]

@[simp] theorem openSeven_tidy (ps : List Nat) (s : State) : Tidy s (openSeven ps s) := by
  simp +contextual (maxDischargeDepth := 40) [Tidy, openSeven]

@[simp] theorem nicComplete_tidy (r index : Nat) (tag : Word) (status reason stamp : Nat) (s : State) : Tidy s
    (nicComplete r index tag status reason stamp s) := by
  simp +contextual (maxDischargeDepth := 40) [Tidy, nicComplete]

@[simp] theorem emitPtp_tidy (p kind domain time prio clk : Nat) (s : State) : Tidy s (emitPtp p kind domain time
    prio clk s) := by
  simp +contextual (maxDischargeDepth := 40) [Tidy, emitPtp]

@[simp] theorem emitStamped_tidy (o : Output) (s : State) : Tidy s (emitStamped o s) := by
  unfold emitStamped
  (repeat' split) <;> simp +contextual (maxDischargeDepth := 40) [Tidy]

@[simp] theorem transmit_tidy (p : Nat) (w : TxWait) (s : State) : Tidy s (transmit p w s) := by
  unfold transmit
  (repeat' split) <;> simp +contextual (maxDischargeDepth := 40) [Tidy]

@[simp] theorem sendFrame_tidy (p : Nat) (w : TxWait) (s : State) : Tidy s (sendFrame p w s) := by
  simp +contextual (maxDischargeDepth := 40) [Tidy, sendFrame]

@[simp] theorem flushGate_tidy (p : Nat) (s : State) : Tidy s (flushGate p s) := by
  simp +contextual (maxDischargeDepth := 40) [Tidy, flushGate]

theorem execGateControlTransition_tidy (p : Fin 4) (at_ : Nat) (s : State) {s' : State} (h :
    execGateControlTransition p at_ s = .next s') : Tidy s s' := by
  unfold execGateControlTransition at h
  injection h with h
  subst h
  simp +contextual (maxDischargeDepth := 40) [Tidy]

@[simp] theorem beatStep_tidy (s : State) : Tidy s (beatStep s) := by
  simp +contextual (maxDischargeDepth := 40) [Tidy, beatStep]

@[simp] theorem setTpl_tidy (i : Nat) (f : TplRun → TplRun) (s : State) : Tidy s (setTpl i f s) := by
  simp +contextual (maxDischargeDepth := 40) [Tidy, setTpl]

@[simp] theorem gatherAll_tidy (kind n : Nat) (s : State) : Tidy s (gatherAll kind n s) := by
  simp +contextual (maxDischargeDepth := 40) [Tidy, gatherAll]

theorem execTxGather_tidy (s : State) {s' : State} (h : execTxGather s = .next s') : Tidy s s' := by
  unfold execTxGather at h
  injection h with h
  subst h
  simp +contextual (maxDischargeDepth := 40) [Tidy]

@[simp] theorem sendTemplate_tidy (n i : Nat) (t : Template) (s : State) : Tidy s (sendTemplate n i t s) := by
  unfold sendTemplate
  (repeat' split) <;> simp +contextual (maxDischargeDepth := 40) [Tidy]

@[simp] theorem txWindow_tidy (n : Nat) (s : State) : Tidy s (txWindow n s) := by
  unfold txWindow
  dsimp only
  (repeat' split) <;> simp +contextual (maxDischargeDepth := 40) [Tidy]

theorem execTxWindowOpen_tidy (s : State) {s' : State} (h : execTxWindowOpen s = .next s') : Tidy s s' := by
  unfold execTxWindowOpen at h
  injection h with h
  subst h
  simp +contextual (maxDischargeDepth := 40) [Tidy]

theorem execStatusGather_tidy (s : State) {s' : State} (h : execStatusGather s = .next s') : Tidy s s' := by
  unfold execStatusGather at h
  injection h with h
  subst h
  simp +contextual (maxDischargeDepth := 40) [Tidy]

@[simp] theorem statusFrames_tidy (n : Nat) (s : State) : Tidy s (statusFrames n s) := by
  simp +contextual (maxDischargeDepth := 40) [Tidy, statusFrames]

theorem execPlantWindowOpen_tidy (s : State) {s' : State} (h : execPlantWindowOpen s = .next s') : Tidy s s' := by
  unfold execPlantWindowOpen at h
  injection h with h
  subst h
  simp +contextual (maxDischargeDepth := 40) [Tidy]

theorem execCollectHeadSend_tidy (t : Nat) (s : State) {s' : State} (h : execCollectHeadSend t s = .next s') : Tidy s
    s' := by
  unfold execCollectHeadSend at h
  injection h with h
  subst h
  (repeat' split) <;> simp +contextual (maxDischargeDepth := 40) [Tidy]

@[simp] theorem sendPtp_tidy (p kind domain : Nat) (s : State) : Tidy s (sendPtp p kind domain s) := by
  simp +contextual (maxDischargeDepth := 40) [Tidy, sendPtp]

@[simp] theorem driveMessages_tidy (kinds : List Nat) (s : State) : Tidy s (driveMessages kinds s) := by
  simp +contextual (maxDischargeDepth := 40) [Tidy, driveMessages]

theorem execDriveSyncSend_tidy (s : State) {s' : State} (h : execDriveSyncSend s = .next s') : Tidy s s' := by
  unfold execDriveSyncSend at h
  injection h with h
  subst h
  (repeat' split) <;> simp +contextual (maxDischargeDepth := 40) [Tidy]

@[simp] theorem plantRequests_tidy (s : State) : Tidy s (plantRequests s) := by
  simp +contextual (maxDischargeDepth := 40) [Tidy, plantRequests]

theorem execAnnounceSend_tidy (s : State) {s' : State} (h : execAnnounceSend s = .next s') : Tidy s s' := by
  unfold execAnnounceSend at h
  injection h with h
  subst h
  (repeat' split) <;> simp +contextual (maxDischargeDepth := 40) [Tidy]

theorem execPdelayReqReceive_tidy (p : Fin 4) (req : PdelayReq) (at_ : Nat) (s : State) {s' : State}
    (h : execPdelayReqReceive p req at_ s = .next s') : Tidy s s' := by
  unfold execPdelayReqReceive at h
  injection h with h
  subst h
  simp +contextual (maxDischargeDepth := 40) [Tidy]

theorem execDriveAnnounceReceive_tidy (p : Fin 2) (s : State) {s' : State} (h : execDriveAnnounceReceive p s = .next
    s') : Tidy s s' := by
  unfold execDriveAnnounceReceive at h
  injection h with h
  subst h
  simp +contextual (maxDischargeDepth := 40) [Tidy]

@[simp] theorem losePlant_tidy (s : State) : Tidy s (losePlant s) := by
  simp +contextual (maxDischargeDepth := 40) [Tidy, losePlant]

@[simp] theorem takeMaster_tidy (gm : DWord) (s : State) : Tidy s (takeMaster gm s) := by
  simp +contextual (maxDischargeDepth := 40) [Tidy, takeMaster]

@[simp] theorem servo_tidy (dt : Nat) (s : State) : Tidy s (servo dt s) := by
  simp +contextual (maxDischargeDepth := 40) [Tidy, servo]

@[simp] theorem alignStep_tidy (p : Nat) (plantTime : Int) (at_ : Nat) (s : State) : Tidy s (alignStep p plantTime
    at_ s) := by
  simp +contextual (maxDischargeDepth := 40) [Tidy, alignStep]

@[simp] theorem plantSync_tidy (p : Nat) (gm : DWord) (plantTime : Int) (at_ : Nat) (s : State) : Tidy s (plantSync p
    gm plantTime at_ s) := by
  unfold plantSync
  dsimp only
  (repeat' split) <;> simp +contextual (maxDischargeDepth := 40) [Tidy]

theorem execPlantSyncReceive_tidy (p : Fin 2) (gm : DWord) (plantTime : Int) (at_ : Nat) (s : State) {s' : State} (h
    : execPlantSyncReceive p gm plantTime at_ s = .next s') : Tidy s s' := by
  unfold execPlantSyncReceive at h
  injection h with h
  subst h
  simp +contextual (maxDischargeDepth := 40) [Tidy]

theorem execPlantAnnounceReceive_tidy (p : Fin 2) (a : Announce) (s : State) {s' : State} (h :
    execPlantAnnounceReceive p a s = .next s') : Tidy s s' := by
  unfold execPlantAnnounceReceive at h
  injection h with h
  subst h
  simp +contextual (maxDischargeDepth := 40) [Tidy]

theorem execPlantSyncTimeout_tidy (s : State) {s' : State} (h : execPlantSyncTimeout s = .next s') : Tidy s s' := by
  unfold execPlantSyncTimeout at h
  injection h with h
  subst h
  (repeat' split) <;> simp +contextual (maxDischargeDepth := 40) [Tidy]

theorem execDriveCycleStart_tidy (s : State) {s' : State} (h : execDriveCycleStart s = .next s') : Tidy s s' := by
  unfold execDriveCycleStart at h
  injection h with h
  subst h
  (repeat' split) <;> simp +contextual (maxDischargeDepth := 40) [Tidy]

theorem execDriveCycleStop_tidy (s : State) {s' : State} (h : execDriveCycleStop s = .next s') : Tidy s s' := by
  unfold execDriveCycleStop at h
  injection h with h
  subst h
  (repeat' split) <;> simp +contextual (maxDischargeDepth := 40) [Tidy]

theorem execDriveCycleResume_tidy (s : State) {s' : State} (h : execDriveCycleResume s = .next s') : Tidy s s' := by
  unfold execDriveCycleResume at h
  injection h with h
  subst h
  (repeat' split) <;> simp +contextual (maxDischargeDepth := 40) [Tidy]

@[simp] theorem driveLinksLost_tidy (s : State) : Tidy s (driveLinksLost s) := by
  simp +contextual (maxDischargeDepth := 40) [Tidy, driveLinksLost]

@[simp] theorem portLink_tidy (p : Nat) (up verified : Bool) (s : State) : Tidy s (portLink p up verified s) := by
  simp +contextual (maxDischargeDepth := 40) [Tidy, portLink]

theorem execPortLinkChange_tidy (p : Fin 5) (up verified : Bool) (s : State) {s' : State} (h : execPortLinkChange p
    up verified s = .next s') : Tidy s s' := by
  unfold execPortLinkChange at h
  injection h with h
  subst h
  simp +contextual (maxDischargeDepth := 40) [Tidy]

@[simp] theorem nicDrop_tidy (p : Nat) (s : State) : Tidy s (nicDrop p s) := by
  simp +contextual (maxDischargeDepth := 40) [Tidy, nicDrop]

@[simp] theorem nicPlace_tidy (p : Nat) (f : RxFrame) (bytes : List Byte) (s : State) : Tidy s (nicPlace p f bytes s)
    := by
  unfold nicPlace
  (repeat' split) <;> simp +contextual (maxDischargeDepth := 40) [Tidy]

@[simp] theorem nicReceive_tidy (p : Nat) (f : RxFrame) (s : State) : Tidy s (nicReceive p f s) := by
  simp +contextual (maxDischargeDepth := 40) [Tidy, nicReceive]

@[simp] theorem writeTemplate_tidy (i : Nat) (t : Template) (n : Nat) (data : List Byte) (s : State) : Tidy s
    (writeTemplate i t n data s) := by
  simp +contextual (maxDischargeDepth := 40) [Tidy, writeTemplate]

@[simp] theorem missTemplate_tidy (i : Nat) (t : Template) (s : State) : Tidy s (missTemplate i t s) := by
  simp +contextual (maxDischargeDepth := 40) [Tidy, missTemplate]

theorem execRxCutoff_tidy (s : State) {s' : State} (h : execRxCutoff s = .next s') : Tidy s s' := by
  unfold execRxCutoff at h
  injection h with h
  subst h
  simp +contextual (maxDischargeDepth := 40) [Tidy]

theorem execSyncCycleBoundary_tidy (s : State) {s' : State} (h : execSyncCycleBoundary s = .next s') : Tidy s s' := by
  unfold execSyncCycleBoundary at h
  injection h with h
  subst h
  simp +contextual (maxDischargeDepth := 40) [Tidy]

@[simp] theorem takeCopy_tidy (p i : Nat) (t : Template) (f : RxFrame) (s : State) : Tidy s (takeCopy p i t f s) := by
  unfold takeCopy
  (repeat' split) <;> simp +contextual (maxDischargeDepth := 40) [Tidy]

@[simp] theorem secondCopy_tidy (p i : Nat) (t : Template) (n : Nat) (f : RxFrame) (s : State) : Tidy s (secondCopy p
    i t n f s) := by
  simp +contextual (maxDischargeDepth := 40) [Tidy, secondCopy]

theorem execFrerRecoveryReset_tidy (t : Nat) (s : State) {s' : State} (h : execFrerRecoveryReset t s = .next s') :
    Tidy s s' := by
  unfold execFrerRecoveryReset at h
  injection h with h
  subst h
  simp +contextual (maxDischargeDepth := 40) [Tidy]

@[simp] theorem mailboxSend_tidy (m : Mailbox) (s : State) : Tidy s (mailboxSend m s) := by
  simp +contextual (maxDischargeDepth := 40) [Tidy, mailboxSend]

@[simp] theorem mailboxStart_tidy (s : State) : Tidy s (mailboxStart s) := by
  simp +contextual (maxDischargeDepth := 40) [Tidy, mailboxStart]

@[simp] theorem mailboxEffect_tidy (d : Desc) (s : State) : Tidy s (mailboxEffect d s) := by
  simp +contextual (maxDischargeDepth := 40) [Tidy, mailboxEffect]

theorem execNetMailbox_tidy (d : Desc) (s : State) {s' : State} (h : execNetMailbox d s = .next s') : Tidy s s' := by
  unfold execNetMailbox at h
  injection h with h
  subst h
  simp +contextual (maxDischargeDepth := 40) [Tidy]

@[simp] theorem mailboxEnd_tidy (m : Mailbox) (status reason : Nat) (data : List Byte) (s : State) : Tidy s
    (mailboxEnd m status reason data s) := by
  simp +contextual (maxDischargeDepth := 40) [Tidy, mailboxEnd]

theorem execMailboxRetry_tidy (dest : Nat) (s : State) {s' : State} (h : execMailboxRetry dest s = .next s') : Tidy s
    s' := by
  unfold execMailboxRetry at h
  injection h with h
  subst h
  (repeat' split) <;> simp +contextual (maxDischargeDepth := 40) [Tidy]

@[simp] theorem mailboxResponse_tidy (f : RxFrame) (s : State) : Tidy s (mailboxResponse f s) := by
  unfold mailboxResponse
  dsimp only
  (repeat' split) <;> simp +contextual (maxDischargeDepth := 40) [Tidy]

@[simp] theorem judgeDrive_tidy (p i : Nat) (t : Template) (f : RxFrame) (s : State) : Tidy s (judgeDrive p i t f s)
    := by
  unfold judgeDrive
  (repeat' split) <;> simp +contextual (maxDischargeDepth := 40) [Tidy]

@[simp] theorem foreignSetpoint_tidy (f : RxFrame) (s : State) : Tidy s (foreignSetpoint f s) := by
  simp +contextual (maxDischargeDepth := 40) [Tidy, foreignSetpoint]

@[simp] theorem flanyDrive_tidy (p : Nat) (f : RxFrame) (s : State) : Tidy s (flanyDrive p f s) := by
  unfold flanyDrive
  (repeat' split) <;> simp +contextual (maxDischargeDepth := 40) [Tidy]

@[simp] theorem receive_tidy (p : Nat) (f : RxFrame) (flany : State → State) (s : State) (hflany : ∀ (x : State),
    Tidy x (flany x)) : Tidy s (receive p f flany s) := by
  simp +contextual (maxDischargeDepth := 40) [Tidy, receive, hflany]

theorem execDriveFrameReceive_tidy (p : Fin 2) (f : RxFrame) (s : State) {s' : State} (h : execDriveFrameReceive p f
    s = .next s') : Tidy s s' := by
  unfold execDriveFrameReceive at h
  injection h with h
  subst h
  simp +contextual (maxDischargeDepth := 40) [Tidy]

theorem execMbxRspReceive_tidy (p : Fin 2) (f : RxFrame) (s : State) {s' : State} (h : execMbxRspReceive p f s =
    .next s') : Tidy s s' := by
  unfold execMbxRspReceive at h
  injection h with h
  subst h
  simp +contextual (maxDischargeDepth := 40) [Tidy]

@[simp] theorem masterSample_tidy (f : RxFrame) (s : State) : Tidy s (masterSample f s) := by
  simp +contextual (maxDischargeDepth := 40) [Tidy, masterSample]

@[simp] theorem judgePlant_tidy (p : Nat) (f : RxFrame) (s : State) : Tidy s (judgePlant p f s) := by
  unfold judgePlant
  dsimp only
  (repeat' split) <;> simp +contextual (maxDischargeDepth := 40) [Tidy]

@[simp] theorem flanyPlant_tidy (p : Nat) (f : RxFrame) (s : State) : Tidy s (flanyPlant p f s) := by
  simp +contextual (maxDischargeDepth := 40) [Tidy, flanyPlant]

theorem execPlantFrameReceive_tidy (p : Fin 2) (f : RxFrame) (s : State) {s' : State} (h : execPlantFrameReceive p f
    s = .next s') : Tidy s s' := by
  unfold execPlantFrameReceive at h
  injection h with h
  subst h
  simp +contextual (maxDischargeDepth := 40) [Tidy]

theorem execNetTplRead_tidy (d : Desc) (s : State) {s' : State} (h : execNetTplRead d s = .next s') : Tidy s s' := by
  unfold execNetTplRead at h
  injection h with h
  subst h
  simp +contextual (maxDischargeDepth := 40) [Tidy]

theorem execNetPtpRead_tidy (d : Desc) (s : State) {s' : State} (h : execNetPtpRead d s = .next s') : Tidy s s' := by
  unfold execNetPtpRead at h
  injection h with h
  subst h
  simp +contextual (maxDischargeDepth := 40) [Tidy]

theorem execNetMcastRead_tidy (d : Desc) (s : State) {s' : State} (h : execNetMcastRead d s = .next s') : Tidy s s'
    := by
  unfold execNetMcastRead at h
  injection h with h
  subst h
  simp +contextual (maxDischargeDepth := 40) [Tidy]

@[simp] theorem nicTake_tidy (r : Nat) (s : State) : Tidy s (nicTake r s) := by
  simp +contextual (maxDischargeDepth := 40) [Tidy, nicTake]

@[simp] theorem nicError_tidy (r idx : Nat) (tag : Word) (reason : Nat) (s : State) : Tidy s (nicError r idx tag
    reason s) := by
  simp +contextual (maxDischargeDepth := 40) [Tidy, nicError]

@[simp] theorem nicSend_tidy (r : Nat) (raw frame : List Byte) (s : State) : Tidy s (nicSend r raw frame s) := by
  unfold nicSend
  (repeat' split) <;> simp +contextual (maxDischargeDepth := 40) [Tidy]

theorem execNicTxDescriptor_tidy (r : Fin 128) (raw : Option (List Byte)) (frame : List Byte) (s : State) {s' :
    State} (h : execNicTxDescriptor r raw frame s = .next s') : Tidy s s' := by
  unfold execNicTxDescriptor at h
  injection h with h
  subst h
  (repeat' split) <;> simp +contextual (maxDischargeDepth := 40) [Tidy]

theorem execNicRxBufferEntry_tidy (r : Fin 128) (raw : List Byte) (s : State) {s' : State} (h : execNicRxBufferEntry
    r raw s = .next s') : Tidy s s' := by
  unfold execNicRxBufferEntry at h
  injection h with h
  subst h
  dsimp only
  (repeat' split) <;> simp +contextual (maxDischargeDepth := 40) [Tidy]

@[simp] theorem wake_tidy (source : Nat) (s : State) : Tidy s (wake source s) := by
  simp +contextual (maxDischargeDepth := 40) [Tidy, wake]

@[simp] theorem fireAlarm_tidy (n : Nat) (s : State) : Tidy s (fireAlarm n s) := by
  simp +contextual (maxDischargeDepth := 40) [Tidy, fireAlarm]

@[simp] theorem secondTick_tidy (s0 : State) : Tidy s0 (secondTick s0) := by
  simp +contextual (maxDischargeDepth := 40) [Tidy, secondTick]

theorem execRtcSecondTick_tidy (s : State) {s' : State} (h : execRtcSecondTick s = .next s') : Tidy s s' := by
  unfold execRtcSecondTick at h
  injection h with h
  subst h
  simp +contextual (maxDischargeDepth := 40) [Tidy]

theorem execRtcFreezeExpiry_tidy (fw : Bool) (s : State) {s' : State} (h : execRtcFreezeExpiry fw s = .next s') :
    Tidy s s' := by
  unfold execRtcFreezeExpiry at h
  injection h with h
  subst h
  (repeat' split) <;> simp +contextual (maxDischargeDepth := 40) [Tidy]

@[simp] theorem commitTime_tidy (r : RtcTime) (s : State) : Tidy s (commitTime r s) := by
  simp +contextual (maxDischargeDepth := 40) [Tidy, commitTime]

@[simp] theorem commitPort_tidy (p : RtcPort) (s : State) : Tidy s (commitPort p s) := by
  unfold commitPort
  (repeat' split) <;> simp +contextual (maxDischargeDepth := 40) [Tidy]

theorem execRtcCommit_tidy (s : State) {s' : State} (h : execRtcCommit s = .next s') : Tidy s s' := by
  unfold execRtcCommit at h
  injection h with h
  subst h
  simp +contextual (maxDischargeDepth := 40) [Tidy]

theorem execRtcBackupLoss_tidy (s : State) {s' : State} (h : execRtcBackupLoss s = .next s') : Tidy s s' := by
  unfold execRtcBackupLoss at h
  injection h with h
  subst h
  simp +contextual (maxDischargeDepth := 40) [Tidy]

theorem execRtcRead_tidy (d : Desc) (s : State) {s' : State} (h : execRtcRead d s = .next s') : Tidy s s' := by
  unfold execRtcRead at h
  injection h with h
  subst h
  simp +contextual (maxDischargeDepth := 40) [Tidy]

theorem execRtcSet_tidy (d : Desc) (s : State) {s' : State} (h : execRtcSet d s = .next s') : Tidy s s' := by
  unfold execRtcSet at h
  injection h with h
  subst h
  simp +contextual (maxDischargeDepth := 40) [Tidy]

theorem execRtcAlarm_tidy (d : Desc) (s : State) {s' : State} (h : execRtcAlarm d s = .next s') : Tidy s s' := by
  unfold execRtcAlarm at h
  injection h with h
  subst h
  simp +contextual (maxDischargeDepth := 40) [Tidy]

end Sys2Proof.Machine
end

