-- ==== Sys2Proof/Laws/FramePair.lean ====
section
/-! SUPPORT. What the pair, the field and loop islands and the configuration do keeps the queue, the life-cycle code
and the canonical forms. -/

namespace Sys2Proof.Machine

open Reg

@[simp] theorem driveShadow_tidy (n : Nat) (s : State) : Tidy s (driveShadow n s) := by
  simp +contextual (maxDischargeDepth := 40) [Tidy, driveShadow]

@[simp] theorem goLive_tidy (s : State) : Tidy s (goLive s) := by
  simp +contextual (maxDischargeDepth := 40) [Tidy, goLive]

@[simp] theorem driveOutputs_tidy (code : Nat) (s : State) : Tidy s (driveOutputs code s) := by
  simp +contextual (maxDischargeDepth := 40) [Tidy, driveOutputs]

@[simp] theorem enterActive_tidy (code : Nat) (s : State) : Tidy s (enterActive code s) := by
  simp +contextual (maxDischargeDepth := 40) [Tidy, enterActive]

@[simp] theorem ownTasks_tidy (s : State) : Tidy s (ownTasks s) := by
  unfold ownTasks
  (try dsimp only)
  refine forEach_to ?_ ?_ <;> (try intro x s) <;> (try dsimp only) <;> (repeat' split) <;> simp +contextual (maxDischargeDepth := 40) [Tidy]

@[simp] theorem becomeActive_tidy (code : Nat) (s : State) : Tidy s (becomeActive code s) := by
  simp +contextual (maxDischargeDepth := 40) [Tidy, becomeActive]

@[simp] theorem pairEnabled_tidy (s : State) : Tidy s (pairEnabled s) := by
  simp +contextual (maxDischargeDepth := 40) [Tidy, pairEnabled]

@[simp] theorem pairDisabled_tidy (s : State) : Tidy s (pairDisabled s) := by
  simp +contextual (maxDischargeDepth := 40) [Tidy, pairDisabled]

@[simp] theorem agree_tidy (source : Bool) (s : State) : Tidy s (agree source s) := by
  unfold agree
  (repeat' split) <;> simp +contextual (maxDischargeDepth := 40) [Tidy]

@[simp] theorem meetPeer_tidy (h : Hello) (s : State) : Tidy s (meetPeer h s) := by
  simp +contextual (maxDischargeDepth := 40) [Tidy, meetPeer]

@[simp] theorem mayAgree_tidy (s : State) : Tidy s (mayAgree s).1 := by
  unfold mayAgree
  dsimp only
  (repeat' split) <;> simp +contextual (maxDischargeDepth := 40) [Tidy]

@[simp] theorem greet_tidy (s : State) : Tidy s (greet s) := by
  unfold greet
  dsimp only
  (repeat' split) <;> simp +contextual (maxDischargeDepth := 40) [Tidy]

theorem execHelloSend_tidy (s : State) {s' : State} (h : execHelloSend s = .next s') : Tidy s s' := by
  unfold execHelloSend at h
  injection h with h
  subst h
  simp +contextual (maxDischargeDepth := 40) [Tidy]

theorem execHelloReceive_tidy (h : Hello) (s : State) {s' : State} (h : execHelloReceive h s = .next s') : Tidy s s'
    := by
  unfold execHelloReceive at h
  injection h with h
  subst h
  dsimp only
  (repeat' split) <;> simp +contextual (maxDischargeDepth := 40) [Tidy]

theorem execPairWaitExpiry_tidy (s : State) {s' : State} (h : execPairWaitExpiry s = .next s') : Tidy s s' := by
  unfold execPairWaitExpiry at h
  injection h with h
  subst h
  simp +contextual (maxDischargeDepth := 40) [Tidy]

theorem execHeartbeatSend_tidy (s : State) {s' : State} (h : execHeartbeatSend s = .next s') : Tidy s s' := by
  unfold execHeartbeatSend at h
  injection h with h
  subst h
  (repeat' split) <;> simp +contextual (maxDischargeDepth := 40) [Tidy]

theorem execHeartbeatReceive_tidy (path : HbPath) (b : Beat) (at_ : Nat) (s : State) {s' : State} (h :
    execHeartbeatReceive path b at_ s = .next s') : Tidy s s' := by
  unfold execHeartbeatReceive at h
  injection h with h
  subst h
  (repeat' split) <;> simp +contextual (maxDischargeDepth := 40) [Tidy]

theorem execPathLossTimeout_tidy (pathB : Bool) (s : State) {s' : State} (h : execPathLossTimeout pathB s = .next s')
    : Tidy s s' := by
  unfold execPathLossTimeout at h
  injection h with h
  subst h
  (repeat' split) <;> simp +contextual (maxDischargeDepth := 40) [Tidy]

theorem execPeerFailureTimeout_tidy (s : State) {s' : State} (h : execPeerFailureTimeout s = .next s') : Tidy s s' :=
    by
  unfold execPeerFailureTimeout at h
  injection h with h
  subst h
  simp +contextual (maxDischargeDepth := 40) [Tidy]

@[simp] theorem reportUnfit_tidy (reason : Nat) (s : State) : Tidy s (reportUnfit reason s) := by
  simp +contextual (maxDischargeDepth := 40) [Tidy, reportUnfit]

@[simp] theorem unfitNow_tidy (reason : Nat) (s : State) : Tidy s (unfitNow reason s) := by
  simp +contextual (maxDischargeDepth := 40) [Tidy, unfitNow]

theorem execUnfitReceive_tidy (reason : Nat) (s : State) {s' : State} (h : execUnfitReceive reason s = .next s') :
    Tidy s s' := by
  unfold execUnfitReceive at h
  injection h with h
  subst h
  simp +contextual (maxDischargeDepth := 40) [Tidy]

theorem execHedgeLaneChange_tidy (lane : Fin 2) (up : Bool) (s : State) {s' : State} (h : execHedgeLaneChange lane up
    s = .next s') : Tidy s s' := by
  unfold execHedgeLaneChange at h
  injection h with h
  subst h
  simp +contextual (maxDischargeDepth := 40) [Tidy]

@[simp] theorem takeHeld_tidy (n : Nat) (s : State) : Tidy s (takeHeld n s) := by
  induction n generalizing s with
  | zero => exact Tidy.refl s
  | succ n ih =>
    simp only [takeHeld]
    (repeat' split) <;> simp +contextual (maxDischargeDepth := 40) [Tidy, ih]

@[simp] theorem orderFrame_tidy (seq : Nat) (raw : List Byte) (s : State) : Tidy s (orderFrame seq raw s) := by
  simp +contextual (maxDischargeDepth := 40) [Tidy, orderFrame]

theorem execHedgeFrameReceive_tidy (raw : List Byte) (at_ : Nat) (s : State) {s' : State} (h : execHedgeFrameReceive
    raw at_ s = .next s') : Tidy s s' := by
  unfold execHedgeFrameReceive at h
  injection h with h
  subst h
  simp +contextual (maxDischargeDepth := 40) [Tidy]

theorem execHedgeRepeat_tidy (seq : Nat) (s : State) {s' : State} (h : execHedgeRepeat seq s = .next s') : Tidy s s'
    := by
  unfold execHedgeRepeat at h
  injection h with h
  subst h
  (repeat' split) <;> simp +contextual (maxDischargeDepth := 40) [Tidy]

theorem execHedgeAckTimeout_tidy (seq : Nat) (s : State) {s' : State} (h : execHedgeAckTimeout seq s = .next s') :
    Tidy s s' := by
  unfold execHedgeAckTimeout at h
  injection h with h
  subst h
  (repeat' split) <;> simp +contextual (maxDischargeDepth := 40) [Tidy]

@[simp] theorem redrive_tidy (n : Nat) (s : State) : Tidy s (redrive n s) := by
  simp +contextual (maxDischargeDepth := 40) [Tidy, redrive]

@[simp] theorem terminalChange_tidy (n : Nat) (level : Bool) (s : State) : Tidy s (terminalChange n level s) := by
  simp +contextual (maxDischargeDepth := 40) [Tidy, terminalChange]

@[simp] theorem acceptLevel_tidy (n : Nat) (s : State) : Tidy s (acceptLevel n s) := by
  simp +contextual (maxDischargeDepth := 40) [Tidy, acceptLevel]

theorem execInputLevelChange_tidy (ch : Fin 32) (level : Bool) (at_ : Nat) (s : State) {s' : State} (h :
    execInputLevelChange ch level at_ s = .next s') : Tidy s s' := by
  unfold execInputLevelChange at h
  injection h with h
  subst h
  simp +contextual (maxDischargeDepth := 40) [Tidy]

theorem execDebounceAccept_tidy (ch : Fin 32) (s : State) {s' : State} (h : execDebounceAccept ch s = .next s') :
    Tidy s s' := by
  unfold execDebounceAccept at h
  injection h with h
  subst h
  simp +contextual (maxDischargeDepth := 40) [Tidy]

@[simp] theorem setFault_tidy (n bit : Nat) (f : Field) (s : State) : Tidy s (setFault n bit f s) := by
  simp +contextual (maxDischargeDepth := 40) [Tidy, setFault]

theorem execOpenWireDetect_tidy (ch : Fin 32) (s : State) {s' : State} (h : execOpenWireDetect ch s = .next s') :
    Tidy s s' := by
  unfold execOpenWireDetect at h
  injection h with h
  subst h
  simp +contextual (maxDischargeDepth := 40) [Tidy]

theorem execOpenWireClear_tidy (ch : Fin 32) (s : State) {s' : State} (h : execOpenWireClear ch s = .next s') : Tidy
    s s' := by
  unfold execOpenWireClear at h
  injection h with h
  subst h
  simp +contextual (maxDischargeDepth := 40) [Tidy]

@[simp] theorem redriveGang_tidy (n : Nat) (s : State) : Tidy s (redriveGang n s) := by
  simp +contextual (maxDischargeDepth := 40) [Tidy, redriveGang]

@[simp] theorem openSwitch_tidy (n bit : Nat) (f : Field) (s : State) : Tidy s (openSwitch n bit f s) := by
  simp +contextual (maxDischargeDepth := 40) [Tidy, openSwitch]

theorem execOverloadDetect_tidy (ch : Fin 32) (s : State) {s' : State} (h : execOverloadDetect ch s = .next s') :
    Tidy s s' := by
  unfold execOverloadDetect at h
  injection h with h
  subst h
  simp +contextual (maxDischargeDepth := 40) [Tidy]

theorem execThermalShutdown_tidy (ch : Fin 32) (s : State) {s' : State} (h : execThermalShutdown ch s = .next s') :
    Tidy s s' := by
  unfold execThermalShutdown at h
  injection h with h
  subst h
  simp +contextual (maxDischargeDepth := 40) [Tidy]

@[simp] theorem closeSwitches_tidy (n : Nat) (s : State) : Tidy s (closeSwitches n s) := by
  simp +contextual (maxDischargeDepth := 40) [Tidy, closeSwitches]

theorem execOverloadRetry_tidy (ch : Fin 32) (s : State) {s' : State} (h : execOverloadRetry ch s = .next s') : Tidy
    s s' := by
  unfold execOverloadRetry at h
  injection h with h
  subst h
  simp +contextual (maxDischargeDepth := 40) [Tidy]

theorem execShortDetect_tidy (ch : Fin 32) (s : State) {s' : State} (h : execShortDetect ch s = .next s') : Tidy s s'
    := by
  unfold execShortDetect at h
  injection h with h
  subst h
  simp +contextual (maxDischargeDepth := 40) [Tidy]

theorem execOpenLoadDetect_tidy (ch : Fin 32) (s : State) {s' : State} (h : execOpenLoadDetect ch s = .next s') :
    Tidy s s' := by
  unfold execOpenLoadDetect at h
  injection h with h
  subst h
  simp +contextual (maxDischargeDepth := 40) [Tidy]

theorem execExtHighDetect_tidy (ch : Fin 32) (s : State) {s' : State} (h : execExtHighDetect ch s = .next s') : Tidy
    s s' := by
  unfold execExtHighDetect at h
  injection h with h
  subst h
  simp +contextual (maxDischargeDepth := 40) [Tidy]

@[simp] theorem sampleMissed_tidy (s : State) : Tidy s (sampleMissed s) := by
  simp +contextual (maxDischargeDepth := 40) [Tidy, sampleMissed]

theorem execFieldSample_tidy (s : State) {s' : State} (h : execFieldSample s = .next s') : Tidy s s' := by
  unfold execFieldSample at h
  injection h with h
  subst h
  (repeat' split) <;> simp +contextual (maxDischargeDepth := 40) [Tidy]

@[simp] theorem restartCal_tidy (s : State) : Tidy s (restartCal s) := by
  simp +contextual (maxDischargeDepth := 40) [Tidy, restartCal]

@[simp] theorem markGroups_live (ok : Nat) (n : Mark) (i : Img) : (markGroups ok n i).live = i.live := rfl

@[simp] theorem inputFrame_tidy (f : InFrame) (s : State) : Tidy s (inputFrame f s) := by
  unfold inputFrame
  extract_lets s0 _ s1 s2 s3
  have h0 : Tidy s s0 := by
    show Tidy s (if fbit s FIO_STATUS_LINK_UP = true then s else restartCal s)
    split
    · exact Tidy.refl s
    · exact restartCal_tidy s
  have h1 : Tidy s0 s1 := ⟨rfl, rfl, id, id, id, id, id, id⟩
  have h2 : Tidy s1 s2 := (fput_tidy ..).trans ((fput_tidy ..).trans (fput_tidy ..))
  have h3 : Tidy s2 s3 := forEach_tidy _ _ _ (fun _ _ => fput_tidy ..)
  have h : Tidy s s3 := h0.trans (h1.trans (h2.trans h3))
  split
  · exact h.trans (writeBytes_tidy _ _ _ (fun _ _ => markGroups_live ..))
  · exact h

@[simp] theorem fieldCrc_tidy (s : State) : Tidy s (fieldCrc s) := by
  simp +contextual (maxDischargeDepth := 40) [Tidy, fieldCrc]

theorem execFieldInputRecordWrite_tidy (crcOk : Bool) (s : State) {s' : State}
    (h : execFieldInputRecordWrite crcOk s = .next s') : Tidy s s' := by
  unfold execFieldInputRecordWrite at h
  injection h with h
  subst h
  split
  · dsimp only
    split
    · exact (fresh_tidy s).trans ((advance_tidy _ _).trans (inputFrame_tidy _ _))
    · exact (fresh_tidy s).trans ((advance_tidy _ _).trans ((fieldCrc_tidy _).trans (sampleMissed_tidy _)))
  · exact Tidy.refl s

theorem execFieldOutputRefresh_tidy (s : State) {s' : State} (h : execFieldOutputRefresh s = .next s') : Tidy s s' :=
    by
  unfold execFieldOutputRefresh at h
  injection h with h
  subst h
  simp +contextual (maxDischargeDepth := 40) [Tidy]

@[simp] theorem applyWord_tidy (w : Word) (s : State) : Tidy s (applyWord w s) := by
  simp +contextual (maxDischargeDepth := 40) [Tidy, applyWord]

theorem execIslandOutputFrameReceive_tidy (crcOk : Bool) (s : State) {s' : State} (h : execIslandOutputFrameReceive
    crcOk s = .next s') : Tidy s s' := by
  unfold execIslandOutputFrameReceive at h
  injection h with h
  subst h
  (repeat' split) <;> simp +contextual (maxDischargeDepth := 40) [Tidy]

theorem execFieldLinkSilence_tidy (s : State) {s' : State} (h : execFieldLinkSilence s = .next s') : Tidy s s' := by
  unfold execFieldLinkSilence at h
  injection h with h
  subst h
  simp +contextual (maxDischargeDepth := 40) [Tidy]

theorem execFieldSafeTimeout_tidy (g : Fin 4) (s : State) {s' : State} (h : execFieldSafeTimeout g s = .next s') :
    Tidy s s' := by
  unfold execFieldSafeTimeout at h
  injection h with h
  subst h
  simp +contextual (maxDischargeDepth := 40) [Tidy]

@[simp] theorem measureWarn_tidy (g mv : Nat) (s : State) : Tidy s (measureWarn g mv s) := by
  simp +contextual (maxDischargeDepth := 40) [Tidy, measureWarn]

@[simp] theorem measureFail_tidy (g mv : Nat) (s : State) : Tidy s (measureFail g mv s) := by
  simp +contextual (maxDischargeDepth := 40) [Tidy, measureFail]

@[simp] theorem measureOv_tidy (g mv : Nat) (s : State) : Tidy s (measureOv g mv s) := by
  simp +contextual (maxDischargeDepth := 40) [Tidy, measureOv]

@[simp] theorem groupBack_tidy (g : Nat) (s : State) : Tidy s (groupBack g s) := by
  simp +contextual (maxDischargeDepth := 40) [Tidy, groupBack]

@[simp] theorem measureGroup_tidy (g mv : Nat) (s : State) : Tidy s (measureGroup g mv s) := by
  simp +contextual (maxDischargeDepth := 40) [Tidy, measureGroup]

theorem execGroupSupplyMeasure_tidy (mv0 mv1 mv2 mv3 : Nat) (s : State) {s' : State} (h : execGroupSupplyMeasure mv0
    mv1 mv2 mv3 s = .next s') : Tidy s s' := by
  unfold execGroupSupplyMeasure at h
  injection h with h
  subst h
  simp +contextual (maxDischargeDepth := 40) [Tidy]

theorem execFioClearLatch_tidy (d : Desc) (s : State) {s' : State} (h : execFioClearLatch d s = .next s') : Tidy s s'
    := by
  unfold execFioClearLatch at h
  injection h with h
  subst h
  simp +contextual (maxDischargeDepth := 40) [Tidy]

theorem execClearLatchApply_tidy (s : State) {s' : State} (h : execClearLatchApply s = .next s') : Tidy s s' := by
  unfold execClearLatchApply at h
  injection h with h
  subst h
  simp +contextual (maxDischargeDepth := 40) [Tidy]

theorem execFioRelease_tidy (d : Desc) (s : State) {s' : State} (h : execFioRelease d s = .next s') : Tidy s s' := by
  unfold execFioRelease at h
  injection h with h
  subst h
  simp +contextual (maxDischargeDepth := 40) [Tidy]

@[simp] theorem releaseGroups_tidy (mask : Nat) (s : State) : Tidy s (releaseGroups mask s) := by
  simp +contextual (maxDischargeDepth := 40) [Tidy, releaseGroups]

theorem execGroupReleaseApply_tidy (s : State) {s' : State} (h : execGroupReleaseApply s = .next s') : Tidy s s' := by
  unfold execGroupReleaseApply at h
  injection h with h
  subst h
  simp +contextual (maxDischargeDepth := 40) [Tidy]

theorem execFioRead_tidy (d : Desc) (s : State) {s' : State} (h : execFioRead d s = .next s') : Tidy s s' := by
  unfold execFioRead at h
  injection h with h
  subst h
  simp +contextual (maxDischargeDepth := 40) [Tidy]

@[simp] theorem configureIsland_tidy (s : State) : Tidy s (configureIsland s) := by
  simp +contextual (maxDischargeDepth := 40) [Tidy, configureIsland]

@[simp] theorem islandDown_tidy (s : State) : Tidy s (islandDown s) := by
  simp +contextual (maxDischargeDepth := 40) [Tidy, islandDown]

theorem execLoopOutputRefresh_tidy (x : Fin 2) (s : State) {s' : State} (h : execLoopOutputRefresh x s = .next s') :
    Tidy s s' := by
  unfold execLoopOutputRefresh at h
  injection h with h
  subst h
  simp +contextual (maxDischargeDepth := 40) [Tidy]

@[simp] theorem loopWordIn_tidy (x w : Nat) (s : State) : Tidy s (loopWordIn x w s) := by
  simp +contextual (maxDischargeDepth := 40) [Tidy, loopWordIn]

@[simp] theorem loopCrc_tidy (x : Nat) (s : State) : Tidy s (loopCrc x s) := by
  simp +contextual (maxDischargeDepth := 40) [Tidy, loopCrc]

theorem execLoopFrameReceive_tidy (x : Fin 2) (crcOk : Bool) (s : State) {s' : State} (h : execLoopFrameReceive x
    crcOk s = .next s') : Tidy s s' := by
  unfold execLoopFrameReceive at h
  injection h with h
  subst h
  (repeat' split) <;> simp +contextual (maxDischargeDepth := 40) [Tidy]

theorem execLoopLinkSilence_tidy (x : Fin 2) (s : State) {s' : State} (h : execLoopLinkSilence x s = .next s') : Tidy
    s s' := by
  unfold execLoopLinkSilence at h
  injection h with h
  subst h
  simp +contextual (maxDischargeDepth := 40) [Tidy]

theorem execLoopSafeTimeout_tidy (x : Fin 2) (s : State) {s' : State} (h : execLoopSafeTimeout x s = .next s') : Tidy
    s s' := by
  unfold execLoopSafeTimeout at h
  injection h with h
  subst h
  simp +contextual (maxDischargeDepth := 40) [Tidy]

theorem execLoopReadbackSilence_tidy (x : Fin 2) (s : State) {s' : State} (h : execLoopReadbackSilence x s = .next
    s') : Tidy s s' := by
  unfold execLoopReadbackSilence at h
  injection h with h
  subst h
  simp +contextual (maxDischargeDepth := 40) [Tidy]

@[simp] theorem loopFault_tidy (x : Nat) (f : Field) (s : State) : Tidy s (loopFault x f s) := by
  simp +contextual (maxDischargeDepth := 40) [Tidy, loopFault]

theorem execComplianceDetect_tidy (x : Fin 2) (s : State) {s' : State} (h : execComplianceDetect x s = .next s') :
    Tidy s s' := by
  unfold execComplianceDetect at h
  injection h with h
  subst h
  simp +contextual (maxDischargeDepth := 40) [Tidy]

theorem execComplianceClear_tidy (x : Fin 2) (s : State) {s' : State} (h : execComplianceClear x s = .next s') : Tidy
    s s' := by
  unfold execComplianceClear at h
  injection h with h
  subst h
  simp +contextual (maxDischargeDepth := 40) [Tidy]

@[simp] theorem noteDeviation_tidy (x na : Nat) (s : State) : Tidy s (noteDeviation x na s) := by
  simp +contextual (maxDischargeDepth := 40) [Tidy, noteDeviation]

theorem execReadbackDevDetect_tidy (x : Fin 2) (s : State) {s' : State} (h : execReadbackDevDetect x s = .next s') :
    Tidy s s' := by
  unfold execReadbackDevDetect at h
  injection h with h
  subst h
  (repeat' split) <;> simp +contextual (maxDischargeDepth := 40) [Tidy]

theorem execReadbackDevClear_tidy (x : Fin 2) (s : State) {s' : State} (h : execReadbackDevClear x s = .next s') :
    Tidy s s' := by
  unfold execReadbackDevClear at h
  injection h with h
  subst h
  (repeat' split) <;> simp +contextual (maxDischargeDepth := 40) [Tidy]

theorem execMiswireDetect_tidy (x : Fin 2) (s : State) {s' : State} (h : execMiswireDetect x s = .next s') : Tidy s
    s' := by
  unfold execMiswireDetect at h
  injection h with h
  subst h
  simp +contextual (maxDischargeDepth := 40) [Tidy]

theorem execMiswireClear_tidy (x : Fin 2) (s : State) {s' : State} (h : execMiswireClear x s = .next s') : Tidy s s'
    := by
  unfold execMiswireClear at h
  injection h with h
  subst h
  simp +contextual (maxDischargeDepth := 40) [Tidy]

@[simp] theorem readbackIn_tidy (x na mv t : Nat) (s : State) : Tidy s (readbackIn x na mv t s) := by
  simp +contextual (maxDischargeDepth := 40) [Tidy, readbackIn]

theorem execLoopReadbackConversion_tidy (x : Fin 2) (currentNa termMv : Nat) (crcOk : Bool) (s : State) {s' : State}
    (h : execLoopReadbackConversion x currentNa termMv crcOk s = .next s') : Tidy s s' := by
  unfold execLoopReadbackConversion at h
  injection h with h
  subst h
  simp +contextual (maxDischargeDepth := 40) [Tidy]

@[simp] theorem configureLoop_tidy (x : Nat) (s : State) : Tidy s (configureLoop x s) := by
  unfold configureLoop
  dsimp only
  (repeat' split) <;> simp +contextual (maxDischargeDepth := 40) [Tidy]

@[simp] theorem loopDown_tidy (x : Nat) (s : State) : Tidy s (loopDown x s) := by
  simp +contextual (maxDischargeDepth := 40) [Tidy, loopDown]

theorem execLoopPowerAppear_tidy (x : Fin 2) (s : State) {s' : State} (h : execLoopPowerAppear x s = .next s') : Tidy
    s s' := by
  unfold execLoopPowerAppear at h
  injection h with h
  subst h
  dsimp only
  (repeat' split) <;> simp +contextual (maxDischargeDepth := 40) [Tidy]

theorem execHartRequestReceive_tidy (x : Fin 2) (f : HartFrame) (s : State) {s' : State} (h : execHartRequestReceive
    x f s = .next s') : Tidy s s' := by
  unfold execHartRequestReceive at h
  injection h with h
  subst h
  dsimp only
  (repeat' split) <;> simp +contextual (maxDischargeDepth := 40) [Tidy]

theorem execHartReplyTimeout_tidy (x : Fin 2) (s : State) {s' : State} (h : execHartReplyTimeout x s = .next s') :
    Tidy s s' := by
  unfold execHartReplyTimeout at h
  injection h with h
  subst h
  (repeat' split) <;> simp +contextual (maxDischargeDepth := 40) [Tidy]

theorem execLptHartFetch_tidy (d : Desc) (s : State) {s' : State} (h : execLptHartFetch d s = .next s') : Tidy s s'
    := by
  unfold execLptHartFetch at h
  injection h with h
  subst h
  simp +contextual (maxDischargeDepth := 40) [Tidy]

@[simp] theorem hartReply_tidy (d : Desc) (s : State) : Tidy s (hartReply d s) := by
  unfold hartReply
  dsimp only
  (repeat' split) <;> simp +contextual (maxDischargeDepth := 40) [Tidy]

theorem execLptHartReply_tidy (d : Desc) (s : State) {s' : State} (h : execLptHartReply d s = .next s') : Tidy s s'
    := by
  unfold execLptHartReply at h
  injection h with h
  subst h
  simp +contextual (maxDischargeDepth := 40) [Tidy]

@[simp] theorem trimStep_tidy (d : Desc) (bad : State → Bool) (more : State → Option (Nat × Nat)) (effect : State →
    State) (s : State) (heffect : ∀ (x : State), Tidy x (effect x)) : Tidy s (trimStep d bad more effect s) := by
  simp +contextual (maxDischargeDepth := 40) [Tidy, trimStep, heffect]

theorem execTrimBegin_tidy (d : Desc) (s : State) {s' : State} (h : execTrimBegin d s = .next s') : Tidy s s' := by
  unfold execTrimBegin at h
  injection h with h
  subst h
  simp +contextual (maxDischargeDepth := 40) [Tidy]

@[simp] theorem trimPoint_tidy (d : Desc) (s : State) : Tidy s (trimPoint d s) := by
  unfold trimPoint
  (repeat' split) <;> simp +contextual (maxDischargeDepth := 40) [Tidy]

theorem execTrimPoint_tidy (d : Desc) (s : State) {s' : State} (h : execTrimPoint d s = .next s') : Tidy s s' := by
  unfold execTrimPoint at h
  injection h with h
  subst h
  simp +contextual (maxDischargeDepth := 40) [Tidy]

theorem execTrimApply_tidy (d : Desc) (s : State) {s' : State} (h : execTrimApply d s = .next s') : Tidy s s' := by
  unfold execTrimApply at h
  injection h with h
  subst h
  repeat' first
    | (simp +contextual (maxDischargeDepth := 40) [Tidy]; done)
    | split
    | refine forEach_to ?_ ?_
    | refine command_tidy _ _ _ _ _ ?_
    | refine judged_tidy _ _ _ _ _ _ ?_ ?_
    | refine immediate_tidy _ _ _ _ _ _ ?_
    | intro x

theorem execTrimCancel_tidy (d : Desc) (s : State) {s' : State} (h : execTrimCancel d s = .next s') : Tidy s s' := by
  unfold execTrimCancel at h
  injection h with h
  subst h
  simp +contextual (maxDischargeDepth := 40) [Tidy]

theorem execTrimIdleTimeout_tidy (x : Fin 2) (s : State) {s' : State} (h : execTrimIdleTimeout x s = .next s') : Tidy
    s s' := by
  unfold execTrimIdleTimeout at h
  injection h with h
  subst h
  (repeat' split) <;> simp +contextual (maxDischargeDepth := 40) [Tidy]

theorem execLptRead_tidy (d : Desc) (s : State) {s' : State} (h : execLptRead d s = .next s') : Tidy s s' := by
  unfold execLptRead at h
  injection h with h
  subst h
  simp +contextual (maxDischargeDepth := 40) [Tidy]

@[simp] theorem setReg_tidy (d : RegDef) (n v : Nat) (s : State) : Tidy s (setReg d n v s) := by
  simp +contextual (maxDischargeDepth := 40) [Tidy, setReg]

@[simp] theorem setTarget_tidy (x : Nat × List Byte) (s : State) : Tidy s (setTarget x s) := by
  unfold setTarget
  (repeat' split) <;> simp +contextual (maxDischargeDepth := 40) [Tidy]

@[simp] theorem setTargets_tidy (xs : List (Nat × List Byte)) (s : State) : Tidy s (setTargets xs s) := by
  simp +contextual (maxDischargeDepth := 40) [Tidy, setTargets]

@[simp] theorem regrid_tidy (s n : State) : Tidy n (regrid s n) := by
  simp +contextual (maxDischargeDepth := 40) [Tidy, regrid]

@[simp] theorem portChanged_tidy (p : Nat) (n : State) : Tidy n (portChanged p n) := by
  simp +contextual (maxDischargeDepth := 40) [Tidy, portChanged]

@[simp] theorem svcChanged_tidy (n : State) : Tidy n (svcChanged n) := by
  simp +contextual (maxDischargeDepth := 40) [Tidy, svcChanged]

@[simp] theorem runChanged_tidy (s n : State) : Tidy n (runChanged s n) := by
  simp +contextual (maxDischargeDepth := 40) [Tidy, runChanged]

@[simp] theorem netChanged_tidy (s n : State) : Tidy n (netChanged s n) := by
  simp +contextual (maxDischargeDepth := 40) [Tidy, netChanged]

@[simp] theorem filterChanged_tidy (s : State) (c : Nat) (n : State) : Tidy n (filterChanged s c n) := by
  simp +contextual (maxDischargeDepth := 40) [Tidy, filterChanged]

@[simp] theorem channelChanged_tidy (s : State) (c : Nat) (n : State) : Tidy n (channelChanged s c n) := by
  simp +contextual (maxDischargeDepth := 40) [Tidy, channelChanged]

@[simp] theorem recorderChanged_tidy (s n : State) : Tidy n (recorderChanged s n) := by
  simp +contextual (maxDischargeDepth := 40) [Tidy, recorderChanged]

@[simp] theorem rollCallChanged_tidy (s n : State) : Tidy n (rollCallChanged s n) := by
  simp +contextual (maxDischargeDepth := 40) [Tidy, rollCallChanged]

@[simp] theorem pairChanged_tidy (s n : State) : Tidy n (pairChanged s n) := by
  simp +contextual (maxDischargeDepth := 40) [Tidy, pairChanged]

@[simp] theorem loopsChanged_tidy (s n : State) : Tidy n (loopsChanged s n) := by
  simp +contextual (maxDischargeDepth := 40) [Tidy, loopsChanged]

@[simp] theorem configure_tidy (xs : List (Nat × List Byte)) (s : State) : Tidy s (configure xs s) := by
  simp +contextual (maxDischargeDepth := 40) [Tidy, configure]

@[simp] theorem setTxn_tidy (i : DWord) (f : Txn → Txn) (s : State) : Tidy s (setTxn i f s) := by
  simp +contextual (maxDischargeDepth := 40) [Tidy, setTxn]

@[simp] theorem closeTxn_tidy (i : DWord) (s : State) : Tidy s (closeTxn i s) := by
  simp +contextual (maxDischargeDepth := 40) [Tidy, closeTxn]

@[simp] theorem touchTxn_tidy (c : Card) (d : Desc) (s : State) : Tidy s (touchTxn c d s) := by
  simp +contextual (maxDischargeDepth := 40) [Tidy, touchTxn]

theorem execCfgBegin_tidy (d : Desc) (s : State) {s' : State} (h : execCfgBegin d s = .next s') : Tidy s s' := by
  unfold execCfgBegin at h
  injection h with h
  subst h
  simp +contextual (maxDischargeDepth := 40) [Tidy]

theorem execCfgPut_tidy (d : Desc) (s : State) {s' : State} (h : execCfgPut d s = .next s') : Tidy s s' := by
  unfold execCfgPut at h
  injection h with h
  subst h
  simp +contextual (maxDischargeDepth := 40) [Tidy]

@[simp] theorem txnDone_tidy (x : Txn) (status reason result : Nat) (s : State) : Tidy s (txnDone x status reason
    result s) := by
  unfold txnDone
  (repeat' split) <;> simp +contextual (maxDischargeDepth := 40) [Tidy]

@[simp] theorem commitRefused_tidy (x : Txn) (status reason : Nat) (s : State) : Tidy s (commitRefused x status
    reason s) := by
  unfold commitRefused
  (repeat' split) <;> simp +contextual (maxDischargeDepth := 40) [Tidy]

@[simp] theorem applyItems_tidy (x : Txn) (s : State) : Tidy s (applyItems x s) := by
  simp +contextual (maxDischargeDepth := 40) [Tidy, applyItems]

@[simp] theorem applyCommit_tidy (x : Txn) (s : State) : Tidy s (applyCommit x s) := by
  unfold applyCommit
  (repeat' split) <;> simp +contextual (maxDischargeDepth := 40) [Tidy]

@[simp] theorem startApply_tidy (d : Desc) (s : State) : Tidy s (startApply d s) := by
  unfold startApply
  (repeat' split) <;> simp +contextual (maxDischargeDepth := 40) [Tidy]

theorem execCfgCommit_tidy (d : Desc) (s : State) {s' : State} (h : execCfgCommit d s = .next s') : Tidy s s' := by
  unfold execCfgCommit at h
  injection h with h
  subst h
  simp +contextual (maxDischargeDepth := 40) [Tidy]

@[simp] theorem rollbackEnds_tidy (x : Txn) (auto : Bool) (status reason : Nat) (s : State) : Tidy s (rollbackEnds x
    auto status reason s) := by
  simp +contextual (maxDischargeDepth := 40) [Tidy, rollbackEnds]

@[simp] theorem mirrorRollback_tidy (x : Txn) (auto noGap : Bool) (cycle : Nat) (s : State) : Tidy s (mirrorRollback
    x auto noGap cycle s) := by
  simp +contextual (maxDischargeDepth := 40) [Tidy, mirrorRollback]

@[simp] theorem applyRollback_tidy (x : Txn) (auto : Bool) (s : State) : Tidy s (applyRollback x auto s) := by
  unfold applyRollback
  dsimp only
  (repeat' split) <;> simp +contextual (maxDischargeDepth := 40) [Tidy]

theorem execCfgApply_tidy (s : State) {s' : State} (h : execCfgApply s = .next s') : Tidy s s' := by
  unfold execCfgApply at h
  injection h with h
  subst h
  (repeat' split) <;> simp +contextual (maxDischargeDepth := 40) [Tidy]

theorem execTxnNoGap_tidy (s : State) {s' : State} (h : execTxnNoGap s = .next s') : Tidy s s' := by
  unfold execTxnNoGap at h
  injection h with h
  subst h
  (repeat' split) <;> simp +contextual (maxDischargeDepth := 40) [Tidy]

@[simp] theorem startRollback_tidy (x : Txn) (job : Option Job) (auto : Bool) (s : State) : Tidy s (startRollback x
    job auto s) := by
  simp +contextual (maxDischargeDepth := 40) [Tidy, startRollback]

@[simp] theorem mirrorTxn_tidy (x : Txn) (s : State) : Tidy s (mirrorTxn x s) := by
  unfold mirrorTxn
  (repeat' split) <;> simp +contextual (maxDischargeDepth := 40) [Tidy]

@[simp] theorem abortTxn_tidy (d : Desc) (s : State) : Tidy s (abortTxn d s) := by
  unfold abortTxn
  dsimp only
  (repeat' split) <;> simp +contextual (maxDischargeDepth := 40) [Tidy]

theorem execCfgAbort_tidy (d : Desc) (s : State) {s' : State} (h : execCfgAbort d s = .next s') : Tidy s s' := by
  unfold execCfgAbort at h
  injection h with h
  subst h
  simp +contextual (maxDischargeDepth := 40) [Tidy]

theorem execCfgConfirm_tidy (d : Desc) (s : State) {s' : State} (h : execCfgConfirm d s = .next s') : Tidy s s' := by
  unfold execCfgConfirm at h
  injection h with h
  subst h
  simp +contextual (maxDischargeDepth := 40) [Tidy]

theorem execCfgConfirmWindowEnd_tidy (ident : DWord) (s : State) {s' : State} (h : execCfgConfirmWindowEnd ident s =
    .next s') : Tidy s s' := by
  unfold execCfgConfirmWindowEnd at h
  injection h with h
  subst h
  (repeat' split) <;> simp +contextual (maxDischargeDepth := 40) [Tidy]

@[simp] theorem dropTxn_tidy (x : Txn) (reason : Nat) (s : State) : Tidy s (dropTxn x reason s) := by
  simp +contextual (maxDischargeDepth := 40) [Tidy, dropTxn]

theorem execTxnIdle_tidy (ident : DWord) (s : State) {s' : State} (h : execTxnIdle ident s = .next s') : Tidy s s' :=
    by
  unfold execTxnIdle at h
  injection h with h
  subst h
  (repeat' split) <;> simp +contextual (maxDischargeDepth := 40) [Tidy]

@[simp] theorem sessionTxns_tidy (num : Nat) (s : State) : Tidy s (sessionTxns num s) := by
  simp +contextual (maxDischargeDepth := 40) [Tidy, sessionTxns]

theorem execCfgRead_tidy (d : Desc) (s : State) {s' : State} (h : execCfgRead d s = .next s') : Tidy s s' := by
  unfold execCfgRead at h
  injection h with h
  subst h
  simp +contextual (maxDischargeDepth := 40) [Tidy]

@[simp] theorem acceptMirrored_tidy (op : Nat) (d : Desc) (cycle effect : Nat) (s : State) :
    Tidy s (acceptMirrored op d cycle effect s).1 := by
  have h : (acceptMirrored op d cycle effect s).1 =
      jadd { jcommand s 0x0001 op d with origin := 3, cycle, detailA := effect } s := rfl
  rw [h]
  exact jadd_tidy _ _

@[simp] theorem mirroredCommit_tidy (d : Desc) (cycle : Nat) (s : State) : Tidy s (mirroredCommit d cycle s) := by
  have hk := acceptMirrored_tidy 0x0303 d (paramN d 48 8) (if d.apply = 2 then 0 else cycle) s
  unfold mirroredCommit
  rcases h : acceptMirrored 0x0303 d (paramN d 48 8) (if d.apply = 2 then 0 else cycle) s with ⟨s1, job⟩
  rw [h] at hk
  exact hk.trans (by simp +contextual (maxDischargeDepth := 40) [Tidy])

@[simp] theorem mirroredRollback_tidy (d : Desc) (cycle : Nat) (s : State) : Tidy s (mirroredRollback d cycle s) := by
  unfold mirroredRollback
  dsimp only
  (repeat' split) <;> simp +contextual (maxDischargeDepth := 40) [Tidy]

theorem mirroredNow_tidy {op : Nat} {d : Desc} {f : State → State} (h : mirroredNow op d = some f) (s : State) :
    Tidy s (f s) := by
  unfold mirroredNow at h
  (repeat' split at h) <;> first
    | (simp only [Option.some.injEq] at h; subst h; simp +contextual (maxDischargeDepth := 40) [Tidy]; done)
    | (exact absurd h (by simp))

@[simp] theorem switchTold_tidy (d : Desc) (cycle : Nat) (s : State) : Tidy s (switchTold d cycle s) := by
  unfold switchTold
  dsimp only
  have h1 : Tidy s { s with prog.told := some (cycle, d) } := ⟨rfl, rfl, id, id, id, id, id, id⟩
  split
  · exact h1
  · rcases h : standbySwitch cycle { s with prog.told := some (cycle, d) } with _ | t
    · exact h1.trans (unfitNow_tidy ..)
    · exact h1.trans (standbySwitch_tidy h)

@[simp] theorem takeMirrored_tidy (op : Nat) (d : Desc) (cycle : Nat) (s : State) : Tidy s (takeMirrored op d cycle s) := by
  unfold takeMirrored
  split
  · have hk := acceptMirrored_tidy op d (cycle - 2) cycle s
    rcases h : acceptMirrored op d (cycle - 2) cycle s with ⟨s1, job⟩
    rw [h] at hk
    exact hk.trans (by simp +contextual (maxDischargeDepth := 40) [Tidy])
  · exact Tidy.trans (by simp +contextual (maxDischargeDepth := 40) [Tidy]) (mirroredNow_tidy (by assumption) _)
  · (repeat' split) <;> simp +contextual (maxDischargeDepth := 40) [Tidy]

@[simp] theorem mirroredRelease_tidy (m : SnapMsg) (s : State) : Tidy s (mirroredRelease m s) := by
  simp +contextual (maxDischargeDepth := 40) [Tidy, mirroredRelease]

@[simp] theorem takeSnapshot_tidy (m : SnapMsg) (s : State) : Tidy s (takeSnapshot m s) := by
  unfold takeSnapshot
  dsimp only
  (repeat' split) <;> first
    | (simp +contextual (maxDischargeDepth := 40) [Tidy]; done)
    | exact (standbySwitch_tidy (by assumption)).trans (by simp +contextual (maxDischargeDepth := 40) [Tidy])

@[simp] theorem drainQueue_tidy (n : Nat) (s : State) : Tidy s (drainQueue n s) := by
  induction n generalizing s with
  | zero => exact Tidy.refl s
  | succ n ih =>
    simp only [drainQueue]
    (repeat' split) <;> simp +contextual (maxDischargeDepth := 40) [Tidy, ih]

@[simp] theorem drain_tidy (s : State) : Tidy s (drain s) := by
  simp +contextual (maxDischargeDepth := 40) [Tidy, drain]

@[simp] theorem enqueueJoiner_tidy (x : Queued) (s : State) : Tidy s (enqueueJoiner x s) := by
  simp +contextual (maxDischargeDepth := 40) [Tidy, enqueueJoiner]

theorem execSnapshotMessageReceive_tidy (m : SnapMsg) (s : State) {s' : State} (h : execSnapshotMessageReceive m s =
    .next s') : Tidy s s' := by
  unfold execSnapshotMessageReceive at h
  injection h with h
  subst h
  simp +contextual (maxDischargeDepth := 40) [Tidy]

theorem execMirrorCmdReceive_tidy (opcode : Nat) (d : Desc) (cycle : Nat) (s : State) {s' : State} (h :
    execMirrorCmdReceive opcode d cycle s = .next s') : Tidy s s' := by
  unfold execMirrorCmdReceive at h
  injection h with h
  subst h
  simp +contextual (maxDischargeDepth := 40) [Tidy]

theorem execSnapshotTimeout_tidy (t : Fin 32) (snapTime : Nat) (s : State) {s' : State} (h : execSnapshotTimeout t
    snapTime s = .next s') : Tidy s s' := by
  unfold execSnapshotTimeout at h
  injection h with h
  subst h
  simp +contextual (maxDischargeDepth := 40) [Tidy]

theorem execDigestReceive_tidy (m : Digest) (s : State) {s' : State} (h : execDigestReceive m s = .next s') : Tidy s
    s' := by
  unfold execDigestReceive at h
  injection h with h
  subst h
  simp +contextual (maxDischargeDepth := 40) [Tidy]

theorem execDigestTimeout_tidy (t : Fin 32) (inst : Nat) (s : State) {s' : State} (h : execDigestTimeout t inst s =
    .next s') : Tidy s s' := by
  unfold execDigestTimeout at h
  injection h with h
  subst h
  dsimp only
  (repeat' split) <;> simp +contextual (maxDischargeDepth := 40) [Tidy]

@[simp] theorem sendRound_tidy (x : Xfer) (round : Nat) (items : List XferItem) (s : State) : Tidy s (sendRound x
    round items s) := by
  simp +contextual (maxDischargeDepth := 40) [Tidy, sendRound]

@[simp] theorem sendZero_tidy (x : Xfer) (s : State) : Tidy s (sendZero x s) := by
  simp +contextual (maxDischargeDepth := 40) [Tidy, sendZero]

@[simp] theorem mirrorBehind_tidy (x : Deferred) (s : State) : Tidy s (mirrorBehind x s) := by
  simp +contextual (maxDischargeDepth := 40) [Tidy, mirrorBehind]

@[simp] theorem mirrorWaiting_tidy (s : State) : Tidy s (mirrorWaiting s) := by
  simp +contextual (maxDischargeDepth := 40) [Tidy, mirrorWaiting]

@[simp] theorem transferStep_tidy (x : Xfer) (s : State) : Tidy s (transferStep x s) := by
  unfold transferStep
  (repeat' split) <;> simp +contextual (maxDischargeDepth := 40) [Tidy]

theorem execTransferQuiescentPoint_tidy (s : State) {s' : State} (h : execTransferQuiescentPoint s = .next s') : Tidy
    s s' := by
  unfold execTransferQuiescentPoint at h
  injection h with h
  subst h
  repeat' first
    | (simp +contextual (maxDischargeDepth := 40) [Tidy]; done)
    | split
    | refine forEach_to ?_ ?_
    | refine foldl_to ?_ ?_
    | intro x s
    | simp +contextual (maxDischargeDepth := 40) [Tidy]

theorem execTransferTimeout_tidy (s : State) {s' : State} (h : execTransferTimeout s = .next s') : Tidy s s' := by
  unfold execTransferTimeout at h
  injection h with h
  subst h
  repeat' first
    | (simp +contextual (maxDischargeDepth := 40) [Tidy]; done)
    | split
    | refine forEach_to ?_ ?_
    | refine foldl_to ?_ ?_
    | intro x s
    | simp +contextual (maxDischargeDepth := 40) [Tidy]

@[simp] theorem transferDone_tidy (code : Nat) (s : State) : Tidy s (transferDone code s) := by
  simp +contextual (maxDischargeDepth := 40) [Tidy, transferDone]

@[simp] theorem joinerInstalled_tidy (x : Xfer) (s : State) : Tidy s (joinerInstalled x s) := by
  unfold joinerInstalled
  dsimp only
  (repeat' split) <;> simp +contextual (maxDischargeDepth := 40) [Tidy]

theorem execTransferComplete_tidy (s : State) {s' : State} (h : execTransferComplete s = .next s') : Tidy s s' := by
  unfold execTransferComplete at h
  injection h with h
  subst h
  dsimp only
  (repeat' split) <;> simp +contextual (maxDischargeDepth := 40) [Tidy]

@[simp] theorem installBytes_tidy (x : XferItem) (b : List Byte) (s : State) : Tidy s (installBytes x b s) := by
  unfold installBytes
  (repeat' split) <;> simp +contextual (maxDischargeDepth := 40) [Tidy]

@[simp] theorem installItem_tidy (s : State) (x : XferItem) : Tidy s (installItem s x) := by
  unfold installItem
  (repeat' split) <;> simp +contextual (maxDischargeDepth := 40) [Tidy]

theorem execStateMessageReceive_tidy (items : List XferItem) (s : State) {s' : State} (h : execStateMessageReceive
    items s = .next s') : Tidy s s' := by
  unfold execStateMessageReceive at h
  injection h with h
  subst h
  simp +contextual (maxDischargeDepth := 40) [Tidy]

theorem execTakeoverBoundary_tidy (s : State) {s' : State} (h : execTakeoverBoundary s = .next s') : Tidy s s' := by
  unfold execTakeoverBoundary at h
  injection h with h
  subst h
  (repeat' split) <;> simp +contextual (maxDischargeDepth := 40) [Tidy]

theorem execRedHandover_tidy (d : Desc) (s : State) {s' : State} (h : execRedHandover d s = .next s') : Tidy s s' :=
    by
  unfold execRedHandover at h
  injection h with h
  subst h
  simp +contextual (maxDischargeDepth := 40) [Tidy]

@[simp] theorem answerHandover_tidy (h : Nat) (s : State) : Tidy s (answerHandover h s) := by
  simp +contextual (maxDischargeDepth := 40) [Tidy, answerHandover]

theorem execHandoverReceive_tidy (k : HandoverMsg) (h status reason : Nat) (s : State) {s' : State} (h :
    execHandoverReceive k h status reason s = .next s') : Tidy s s' := by
  unfold execHandoverReceive at h
  injection h with h
  subst h
  (repeat' split) <;> simp +contextual (maxDischargeDepth := 40) [Tidy]

@[simp] theorem becomeStandby_tidy (x : Handover) (s : State) : Tidy s (becomeStandby x s) := by
  simp +contextual (maxDischargeDepth := 40) [Tidy, becomeStandby]

theorem execHandoverBoundary_tidy (s : State) {s' : State} (h : execHandoverBoundary s = .next s') : Tidy s s' := by
  unfold execHandoverBoundary at h
  injection h with h
  subst h
  dsimp only
  (repeat' split) <;> simp +contextual (maxDischargeDepth := 40) [Tidy]

theorem execHandoverOutputRelease_tidy (s : State) {s' : State} (h : execHandoverOutputRelease s = .next s') : Tidy s
    s' := by
  unfold execHandoverOutputRelease at h
  injection h with h
  subst h
  (repeat' split) <;> simp +contextual (maxDischargeDepth := 40) [Tidy]

@[simp] theorem resyncEffect_tidy (d : Desc) (s : State) : Tidy s (resyncEffect d s) := by
  simp +contextual (maxDischargeDepth := 40) [Tidy, resyncEffect]

theorem execRedResync_tidy (d : Desc) (s : State) {s' : State} (h : execRedResync d s = .next s') : Tidy s s' := by
  unfold execRedResync at h
  injection h with h
  subst h
  simp +contextual (maxDischargeDepth := 40) [Tidy]

theorem execRedPark_tidy (d : Desc) (s : State) {s' : State} (h : execRedPark d s = .next s') : Tidy s s' := by
  unfold execRedPark at h
  injection h with h
  subst h
  simp +contextual (maxDischargeDepth := 40) [Tidy]

theorem execRedRead_tidy (d : Desc) (s : State) {s' : State} (h : execRedRead d s = .next s') : Tidy s s' := by
  unfold execRedRead at h
  injection h with h
  subst h
  simp +contextual (maxDischargeDepth := 40) [Tidy]

end Sys2Proof.Machine
end

