-- ==== Sys2Proof/Laws/FrameSecurity.lean ====
section
/-! SUPPORT. What security, debug and the recorder do: all is kept, but for the rows of R389 that move the life
cycle. -/

namespace Sys2Proof.Machine

open Reg

@[simp] theorem endSession_tidy (s : State) : Tidy s (endSession s) := by
  unfold endSession
  (repeat' split) <;> simp +contextual (maxDischargeDepth := 40) [Tidy]

@[simp] theorem emptySlots_tidy (s : State) : Tidy s (emptySlots s) := by
  simp +contextual (maxDischargeDepth := 40) [Tidy, emptySlots]

@[simp] theorem voidChallenge_tidy (o : Origin) (s : State) : Tidy s (voidChallenge o s) := by
  simp +contextual (maxDischargeDepth := 40) [Tidy, voidChallenge]

@[simp] theorem authFailure_tidy (s : State) : Tidy s (authFailure s) := by
  simp +contextual (maxDischargeDepth := 40) [Tidy, authFailure]

@[simp] theorem authSuccess_tidy (o : Origin) (s : State) : Tidy s (authSuccess o s) := by
  simp +contextual (maxDischargeDepth := 40) [Tidy, authSuccess]

theorem execSecChallenge_tidy (d : Desc) (s : State) {s' : State} (h : execSecChallenge d s = .next s') : Tidy s s'
    := by
  unfold execSecChallenge at h
  injection h with h
  subst h
  simp +contextual (maxDischargeDepth := 40) [Tidy]

theorem execChallengeExpiry_tidy (o : Origin) (s : State) {s' : State} (h : execChallengeExpiry o s = .next s') :
    Tidy s s' := by
  unfold execChallengeExpiry at h
  injection h with h
  subst h
  (repeat' split) <;> simp +contextual (maxDischargeDepth := 40) [Tidy]

@[simp] theorem responseNotes_tidy (d : Desc) (r : Nat × Nat) (s : State) : Tidy s (responseNotes d r s) := by
  simp +contextual (maxDischargeDepth := 40) [Tidy, responseNotes]

@[simp] theorem openSession_tidy (secret challenge : List Byte) (s : State) : Tidy s (openSession secret challenge s)
    := by
  simp +contextual (maxDischargeDepth := 40) [Tidy, openSession]

@[simp] theorem responseRight_tidy (d : Desc) (s : State) : Tidy s (responseRight d s) := by
  unfold responseRight
  (repeat' split) <;> simp +contextual (maxDischargeDepth := 40) [Tidy]

theorem execSecResponse_tidy (d : Desc) (s : State) {s' : State} (h : execSecResponse d s = .next s') : Tidy s s' :=
    by
  unfold execSecResponse at h
  injection h with h
  subst h
  simp +contextual (maxDischargeDepth := 40) [Tidy]

theorem execGrantExpiry_tidy (o : Origin) (s : State) {s' : State} (h : execGrantExpiry o s = .next s') : Tidy s s'
    := by
  unfold execGrantExpiry at h
  injection h with h
  subst h
  (repeat' split) <;> simp +contextual (maxDischargeDepth := 40) [Tidy]

theorem execCrLockoutEnd_tidy (s : State) {s' : State} (h : execCrLockoutEnd s = .next s') : Tidy s s' := by
  unfold execCrLockoutEnd at h
  injection h with h
  subst h
  (repeat' split) <;> simp +contextual (maxDischargeDepth := 40) [Tidy]

@[simp] theorem tokenNotes_tidy (d : Desc) (what : Option Nat) (r : Nat × Nat) (s : State) : Tidy s (tokenNotes d
    what r s) := by
  simp +contextual (maxDischargeDepth := 40) [Tidy, tokenNotes]

@[simp] theorem blobNotes_tidy (d : Desc) (s0 : State) (r : Nat × Nat) (s : State) : Tidy s (blobNotes d s0 r s) := by
  simp +contextual (maxDischargeDepth := 40) [Tidy, blobNotes]

@[simp] theorem loadSlot_tidy (d : Desc) (s : State) : Tidy s (loadSlot d s) := by
  simp +contextual (maxDischargeDepth := 40) [Tidy, loadSlot]

theorem execSecKeyLoad_tidy (d : Desc) (s : State) {s' : State} (h : execSecKeyLoad d s = .next s') : Tidy s s' := by
  unfold execSecKeyLoad at h
  injection h with h
  subst h
  simp +contextual (maxDischargeDepth := 40) [Tidy]

@[simp] theorem keyWrap_tidy (d : Desc) (s : State) : Tidy s (keyWrap d s) := by
  simp +contextual (maxDischargeDepth := 40) [Tidy, keyWrap]

theorem execSecKeyWrap_tidy (d : Desc) (s : State) {s' : State} (h : execSecKeyWrap d s = .next s') : Tidy s s' := by
  unfold execSecKeyWrap at h
  injection h with h
  subst h
  simp +contextual (maxDischargeDepth := 40) [Tidy]

theorem execSecKeyUnload_tidy (d : Desc) (s : State) {s' : State} (h : execSecKeyUnload d s = .next s') : Tidy s s'
    := by
  unfold execSecKeyUnload at h
  injection h with h
  subst h
  (repeat' split) <;> simp +contextual (maxDischargeDepth := 40) [Tidy]

theorem execSecAttest_tidy (d : Desc) (s : State) {s' : State} (h : execSecAttest d s = .next s') : Tidy s s' := by
  unfold execSecAttest at h
  injection h with h
  subst h
  simp +contextual (maxDischargeDepth := 40) [Tidy]

@[simp] theorem releaseDebug_tidy (s : State) : Tidy s (releaseDebug s) := by
  simp +contextual (maxDischargeDepth := 40) [Tidy, releaseDebug]

@[simp] theorem dropTrace_tidy (s : State) : Tidy s (dropTrace s) := by
  simp +contextual (maxDischargeDepth := 40) [Tidy, dropTrace]

@[simp] theorem setLevelDbg_tidy (level : Nat) (s : State) : Tidy s (setLevelDbg level s) := by
  simp +contextual (maxDischargeDepth := 40) [Tidy, setLevelDbg]

@[simp] theorem switchDebugRoot_tidy (s : State) : Tidy s (switchDebugRoot s) := by
  simp +contextual (maxDischargeDepth := 40) [Tidy, switchDebugRoot]

@[simp] theorem setDebug_tidy (d : Desc) (s : State) : Tidy s (setDebug d s) := by
  simp +contextual (maxDischargeDepth := 40) [Tidy, setDebug]

theorem execSecDebug_tidy (d : Desc) (s : State) {s' : State} (h : execSecDebug d s = .next s') : Tidy s s' := by
  unfold execSecDebug at h
  injection h with h
  subst h
  simp +contextual (maxDischargeDepth := 40) [Tidy]

@[simp] theorem lifeNotes_tidy (d : Desc) (r : Nat × Nat) (s : State) : Tidy s (lifeNotes d r s) := by
  simp +contextual (maxDischargeDepth := 40) [Tidy, lifeNotes]

@[simp] theorem lifeCommand_tidy (d : Desc) (own : State → Option (Nat × Nat)) (effect : State → State) (s : State)
    (heffect : ∀ (x : State), Tidy x (effect x)) : Tidy s (lifeCommand d own effect s) := by
  simp +contextual (maxDischargeDepth := 40) [Tidy, lifeCommand, heffect]

@[simp] theorem withFuses_tidy (d : Desc) (change : State → State) (result : Nat) (data : List Byte) (s : State)
    (hchange : ∀ (x : State), Tidy x (change x)) : Tidy s (withFuses d change result data s) := by
  simp +contextual (maxDischargeDepth := 40) [Tidy, withFuses, hchange]

/-- Only the life-cycle code moves, and the rest is kept. -/
abbrev LifeTidy (l : Nat) (s t : State) : Prop := Tidy { s with sec.life := l } t

theorem Tidy.life {s t : State} (l : Nat) (h : Tidy s t) : LifeTidy l s { t with sec.life := l } :=
  ⟨h.1, rfl, h.2.2⟩

theorem enterLife_tidy (life : Nat) (s : State) : LifeTidy life s (enterLife life s) := by
  unfold enterLife
  extract_lets _ s1 s2
  have h1 : LifeTidy life s s1 := ⟨rfl, rfl, id, id, id, id, id, id⟩
  have h2 : Tidy s1 s2 := (emptySlots_tidy ..).trans <| (endSession_tidy ..).trans <| (fput_tidy ..).trans <|
    (setLevelDbg_tidy ..).trans (raise_tidy ..)
  exact h1.trans (h2.trans ⟨rfl, rfl, id, id, id, id, id, id⟩)

theorem command_cases (c : Card) (d : Desc) (own : State → Option (Nat × Nat)) (effect : State → State) (s : State) :
    Tidy s (command c d own effect s) ∨
      (refusalOf c d own (openSlot d s) = none ∧ bufferLost c d = false ∧ command c d own effect s = effect (openSlot d s)) := by
  unfold command
  dsimp only
  split
  · exact Or.inl ((openSlot_tidy ..).trans (refuse_tidy ..))
  · split
    · exact Or.inl ((openSlot_tidy ..).trans (dmaError_tidy ..))
    · exact Or.inr ⟨by assumption, by simp_all, rfl⟩

theorem judged_cases (c : Card) (d : Desc) (own : State → Option (Nat × Nat)) (note : Nat × Nat → State → State)
    (effect : State → State) (s : State) (hnote : ∀ p x, Tidy x (note p x)) :
    ∃ x, Tidy s x ∧ judged c d own note effect s = command c d (fun _ => own s) effect x := by
  refine ⟨_, ?_, rfl⟩
  split
  · exact hnote _ _
  · exact Tidy.refl s

theorem withFuses_life (d : Desc) (change : State → State) (result : Nat) (data : List Byte) (l : Nat) (s : State)
    (h : ∀ x, LifeTidy l x (change x)) :
    Tidy s (withFuses d change result data s) ∨ LifeTidy l s (withFuses d change result data s) := by
  have hk : Tidy s (accept 0x0A06 d 0 (fresh s).1).1 := (fresh_tidy _).trans (accept_tidy ..)
  unfold withFuses
  dsimp only
  split
  · refine Or.inl (hk.trans ?_)
    simp +contextual (maxDischargeDepth := 40) [Tidy]
  · exact Or.inr ((hk.life l).trans ((h _).trans (done_tidy ..)))

theorem lifeCommand_life (d : Desc) (own : State → Option (Nat × Nat)) (effect : State → State) (l : Nat) (s : State)
    (he : ∀ x, Tidy x (effect x) ∨ LifeTidy l x (effect x)) :
    Tidy s (lifeCommand d own effect s) ∨
      (d.origin ≠ .svc ∧ lifeFrom (lifeOp d) s.sec.life = true ∧ 1 ≤ lifeOp d ∧ lifeOp d ≤ 8 ∧
        LifeTidy l s (lifeCommand d own effect s)) := by
  unfold lifeCommand
  obtain ⟨x, hsx, hj⟩ := judged_cases (lifeCard (lifeOp d)) d (lifeChecks own d) (lifeNotes d) effect s (lifeNotes_tidy d)
  rw [hj]
  rcases command_cases (lifeCard (lifeOp d)) d (fun _ => lifeChecks own d s) effect x with h | ⟨hr, hb, h⟩
  · exact Or.inl (hsx.trans h)
  · rw [h]
    have hy := hsx.trans (openSlot_tidy d x)
    rcases he (openSlot d x) with h1 | h1
    · exact Or.inl (hy.trans h1)
    · right
      have hg : gate (lifeCard (lifeOp d)) d (openSlot d x) = none := by
        unfold refusalOf at hr
        split at hr
        · simp at hr
        · assumption
      have ho : d.origin ≠ .svc := by
        intro he
        unfold gate at hg
        split at hg
        · simp at hg
        · simp only [Option.or_eq_none_iff] at hg
          simp [notOnSvc, isSvc, he, lifeCard] at hg
      have hc : lifeChecks own d s = none := by
        unfold refusalOf at hr
        simpa [hg, hb] using hr
      unfold lifeChecks at hc
      split at hc
      · simp at hc
      · rename_i hop
        simp only [Option.or_eq_none_iff] at hc
        have hl := hc.2.1
        unfold lifeState at hl
        simp only [firstOf] at hl
        refine ⟨ho, ?_, by omega, by omega, (hy.life l).trans h1⟩
        split at hl
        · simp at hl
        · split at hl
          · simp at hl
          · rename_i hn
            simpa using hn

/-- A command of SEC_LIFECYCLE keeps the state tidy, or, from a ring, moves the life cycle along a row of R389. -/
abbrev Moved (d : Desc) (s t : State) : Prop :=
  Tidy s t ∨ (d.origin ≠ .svc ∧ ∃ l, lifeMoves s.sec.life l = true ∧ LifeTidy l s t)

theorem execLcProvision_moved (d : Desc) (s : State) {s' : State} (h : execLcProvision d s = .next s') : Moved d s s' := by
  unfold execLcProvision at h
  injection h with h
  subst h
  split
  · exact Or.inl (Tidy.refl s)
  · refine Or.imp_right ?_ (lifeCommand_life d (provisionChecks d) _ 1 s ?_)
    · rintro ⟨ho, hf, h1, h8, h⟩
      refine ⟨ho, 1, ?_, h⟩
      have hop : lifeOp d = 1 := by omega
      rw [hop] at hf
      simp_all [lifeFrom, lifeMoves]
    · intro x
      have hk := fresh_tidy x
      rcases withFuses_life d (enterLife 1) 160 _ 1 (fresh x).1 (enterLife_tidy 1) with h | h
      · exact Or.inl (hk.trans h)
      · exact Or.inr ((hk.life 1).trans h)

theorem takeOwnership_tidy (d : Desc) (s : State) : LifeTidy 2 s (takeOwnership d s) := by
  unfold takeOwnership
  split
  · exact enterLife_tidy 2 s
  · exact Tidy.trans ⟨rfl, rfl, id, id, id, id, id, id⟩ (enterLife_tidy 2 _)

theorem execLcTakeOwnership_moved (d : Desc) (s : State) {s' : State} (h : execLcTakeOwnership d s = .next s') : Moved d s s' := by
  unfold execLcTakeOwnership at h
  injection h with h
  subst h
  split
  · refine Or.imp_right ?_ (lifeCommand_life d (takeChecks d) _ 2 s ?_)
    · rintro ⟨ho, hf, h1, h8, h⟩
      refine ⟨ho, 2, ?_, h⟩
      have hop : lifeOp d = 2 := by omega
      rw [hop] at hf
      simp_all [lifeFrom, lifeMoves]
    · intro x
      have hk : Tidy x { x with free := x.free + blobCount d + 1 } := ⟨rfl, rfl, id, id, id, id, id, id⟩
      rcases withFuses_life d (takeOwnership d) _ _ 2 { x with free := x.free + blobCount d + 1 } (takeOwnership_tidy d) with h | h
      · exact Or.inl (hk.trans h)
      · exact Or.inr ((hk.life 2).trans h)
  · exact Or.inl (Tidy.refl s)

theorem execLcReturn_moved (d : Desc) (s : State) {s' : State} (h : execLcReturn d s = .next s') : Moved d s s' := by
  unfold execLcReturn at h
  injection h with h
  subst h
  split
  · refine Or.imp_right ?_ (lifeCommand_life d (fun _ => none) _ 3 s ?_)
    · rintro ⟨ho, hf, h1, h8, h⟩
      refine ⟨ho, 3, ?_, h⟩
      have hop : lifeOp d = 3 := by omega
      rw [hop] at hf
      simp_all [lifeFrom, lifeMoves]
    · intro x
      exact withFuses_life d (enterLife 3) 0 [] 3 x (enterLife_tidy 3)
  · exact Or.inl (Tidy.refl s)

theorem execLcScrap_moved (d : Desc) (s : State) {s' : State} (h : execLcScrap d s = .next s') : Moved d s s' := by
  unfold execLcScrap at h
  injection h with h
  subst h
  split
  · refine Or.imp_right ?_ (lifeCommand_life d (fun _ => none) _ 4 s ?_)
    · rintro ⟨ho, hf, h1, h8, h⟩
      refine ⟨ho, 4, ?_, h⟩
      have hop : lifeOp d = 4 := by omega
      rw [hop] at hf
      simp_all [lifeFrom, lifeMoves]
    · intro x
      exact withFuses_life d (enterLife 4) 0 [] 4 x (enterLife_tidy 4)
  · exact Or.inl (Tidy.refl s)

@[simp] theorem setLock_tidy (lock : Bool) (s : State) : Tidy s (setLock lock s) := by
  simp +contextual (maxDischargeDepth := 40) [Tidy, setLock]

theorem execLcLock_tidy (d : Desc) (s : State) {s' : State} (h : execLcLock d s = .next s') : Tidy s s' := by
  unfold execLcLock at h
  injection h with h
  subst h
  simp +contextual (maxDischargeDepth := 40) [Tidy]

theorem execLcUnlock_tidy (d : Desc) (s : State) {s' : State} (h : execLcUnlock d s = .next s') : Tidy s s' := by
  unfold execLcUnlock at h
  injection h with h
  subst h
  simp +contextual (maxDischargeDepth := 40) [Tidy]

@[simp] theorem useToken_tidy (d : Desc) (s : State) : Tidy s (useToken d s) := by
  simp +contextual (maxDischargeDepth := 40) [Tidy, useToken]

theorem execLcRaiseSvn_tidy (d : Desc) (s : State) {s' : State} (h : execLcRaiseSvn d s = .next s') : Tidy s s' := by
  unfold execLcRaiseSvn at h
  injection h with h
  subst h
  simp +contextual (maxDischargeDepth := 40) [Tidy]

theorem execLcRevokeVkey_tidy (d : Desc) (s : State) {s' : State} (h : execLcRevokeVkey d s = .next s') : Tidy s s'
    := by
  unfold execLcRevokeVkey at h
  injection h with h
  subst h
  simp +contextual (maxDischargeDepth := 40) [Tidy]

theorem execRbgReseed_tidy (s : State) {s' : State} (h : execRbgReseed s = .next s') : Tidy s s' := by
  unfold execRbgReseed at h
  injection h with h
  subst h
  simp +contextual (maxDischargeDepth := 40) [Tidy]

theorem execRbgHealthFail_tidy (s : State) {s' : State} (h : execRbgHealthFail s = .next s') : Tidy s s' := by
  unfold execRbgHealthFail at h
  injection h with h
  subst h
  simp +contextual (maxDischargeDepth := 40) [Tidy]

@[simp] theorem attached_tidy (s : State) : Tidy s (attached s) := by
  simp +contextual (maxDischargeDepth := 40) [Tidy, attached]

theorem execJtagBoundaryScan_tidy (i : ScanInstr) (s : State) {s' : State} (h : execJtagBoundaryScan i s = .next s')
    : Tidy s s' := by
  unfold execJtagBoundaryScan at h
  injection h with h
  subst h
  (repeat' split) <;> simp +contextual (maxDischargeDepth := 40) [Tidy]

theorem lpddrByte_tidy {a : Nat} {s s1 : State} {b : Byte} (h : lpddrByte a s = some (s1, b)) : Tidy s s1 := by
  unfold lpddrByte at h
  (repeat' split at h) <;> first
    | (simp at h; done)
    | (simp only [Option.some.injEq, Prod.mk.injEq] at h
       rw [← h.1]
       first
         | exact Tidy.refl s
         | (rename_i hf
            have hk := fresh_tidy s
            rw [hf] at hk
            exact hk))

@[simp] theorem lpddrPut_tidy (a : Nat) (v : Byte) (s : State) : Tidy s (lpddrPut a v s) := by
  simp +contextual (maxDischargeDepth := 40) [Tidy, lpddrPut]

theorem jtagRead_tidy {m : DbgMem} {a : Nat} {s s1 : State} {b : Byte} (h : jtagRead m a s = some (s1, b)) : Tidy s s1 := by
  unfold jtagRead at h
  (repeat' split at h) <;> first
    | (simp at h; done)
    | exact lpddrByte_tidy h
    | (simp only [Option.some.injEq, Prod.mk.injEq] at h
       rw [← h.1]
       first
         | exact Tidy.refl s
         | exact fresh_tidy s)

@[simp] theorem jtagWrite_tidy (m : DbgMem) (a : Nat) (v : Byte) (s : State) : Tidy s (jtagWrite m a v s) := by
  unfold jtagWrite
  (repeat' split) <;> simp +contextual (maxDischargeDepth := 40) [Tidy]

@[simp] theorem showHold_tidy (c : Nat) (on : Bool) (s : State) : Tidy s (showHold c on s) := by
  simp +contextual (maxDischargeDepth := 40) [Tidy, showHold]

@[simp] theorem holdBy_tidy (c : Nat) (s : State) : Tidy s (holdBy c s) := by
  simp +contextual (maxDischargeDepth := 40) [Tidy, holdBy]

@[simp] theorem letRun_tidy (c : Nat) (once : Bool) (s : State) : Tidy s (letRun c once s) := by
  simp +contextual (maxDischargeDepth := 40) [Tidy, letRun]

theorem execJtagDebugAccess_tidy (a : JtagAccess) (s0 : State) {s' : State} (h : execJtagDebugAccess a s0 = .next s') :
    Tidy s0 s' := by
  unfold execJtagDebugAccess at h
  injection h with h
  subst h
  have h0 : Tidy s0 (attached { s0 with sec.extest := false }) :=
    Tidy.trans ⟨rfl, rfl, id, id, id, id, id, id⟩ (attached_tidy _)
  refine h0.trans ?_
  generalize attached { s0 with sec.extest := false } = s
  dsimp only
  cases a <;> dsimp only <;> (repeat' split) <;> first
    | (simp +contextual (maxDischargeDepth := 40) [Tidy]; done)
    | exact (jtagRead_tidy (by assumption)).trans (emit_tidy ..)

@[simp] theorem writeTrace_tidy (r : Nat) (e : BufEntry) (s : State) : Tidy s (writeTrace r e s) := by
  unfold writeTrace
  (repeat' split) <;> simp +contextual (maxDischargeDepth := 40) [Tidy]

theorem execTraceRecordWrite_tidy (e : BufEntry) (s : State) {s' : State} (h : execTraceRecordWrite e s = .next s') :
    Tidy s s' := by
  unfold execTraceRecordWrite at h
  injection h with h
  subst h
  (repeat' split) <;> simp +contextual (maxDischargeDepth := 40) [Tidy]

@[simp] theorem nextConsolPage_tidy (s : State) : Tidy s (nextConsolPage s) := by
  unfold nextConsolPage
  (repeat' split) <;> simp +contextual (maxDischargeDepth := 40) [Tidy]

theorem execConsolidationInterval_tidy (s : State) {s' : State} (h : execConsolidationInterval s = .next s') : Tidy s
    s' := by
  unfold execConsolidationInterval at h
  injection h with h
  subst h
  simp +contextual (maxDischargeDepth := 40) [Tidy]

@[simp] theorem startConsolidation_tidy (reason : Nat) (s : State) : Tidy s (startConsolidation reason s) := by
  simp +contextual (maxDischargeDepth := 40) [Tidy, startConsolidation]

theorem execConsolidationStart_tidy (s : State) {s' : State} (h : execConsolidationStart s = .next s') : Tidy s s' :=
    by
  unfold execConsolidationStart at h
  injection h with h
  subst h
  (repeat' split) <;> simp +contextual (maxDischargeDepth := 40) [Tidy]

@[simp] theorem consolPageDone_tidy (s : State) : Tidy s (consolPageDone s) := by
  simp +contextual (maxDischargeDepth := 40) [Tidy, consolPageDone]

@[simp] theorem zeroRecords_tidy (kind first count : Nat) (s : State) : Tidy s (zeroRecords kind first count s) := by
  simp +contextual (maxDischargeDepth := 40) [Tidy, zeroRecords]

@[simp] theorem clearRecords_tidy (jb : Job) (s : State) : Tidy s (clearRecords jb s) := by
  simp +contextual (maxDischargeDepth := 40) [Tidy, clearRecords]

@[simp] theorem endConsolidation_tidy (c : Consol) (s : State) : Tidy s (endConsolidation c s) := by
  simp +contextual (maxDischargeDepth := 40) [Tidy, endConsolidation]

@[simp] theorem finishConsolidation_tidy (s : State) : Tidy s (finishConsolidation s) := by
  unfold finishConsolidation
  (repeat' split) <;> simp +contextual (maxDischargeDepth := 40) [Tidy]

@[simp] theorem writeEmergency_tidy (s : State) : Tidy s (writeEmergency s) := by
  simp +contextual (maxDischargeDepth := 40) [Tidy, writeEmergency]

@[simp] theorem abandonConsolidation_tidy (s : State) : Tidy s (abandonConsolidation s) := by
  unfold abandonConsolidation
  (repeat' split) <;> simp +contextual (maxDischargeDepth := 40) [Tidy]

@[simp] theorem applyEmergency_tidy (b : List Byte) (s : State) : Tidy s (applyEmergency b s) := by
  simp +contextual (maxDischargeDepth := 40) [Tidy, applyEmergency]

@[simp] theorem loadCopy_tidy (s : State) : Tidy s (loadCopy s) := by
  unfold loadCopy
  (repeat' split) <;> simp +contextual (maxDischargeDepth := 40) [Tidy]

@[simp] theorem recorderLoad_tidy (s : State) : Tidy s (recorderLoad s) := by
  unfold recorderLoad
  dsimp only
  (repeat' split) <;> simp +contextual (maxDischargeDepth := 40) [Tidy]

theorem execRecRead_tidy (d : Desc) (s : State) {s' : State} (h : execRecRead d s = .next s') : Tidy s s' := by
  unfold execRecRead at h
  injection h with h
  subst h
  simp +contextual (maxDischargeDepth := 40) [Tidy]

@[simp] theorem recClearNotes_tidy (d : Desc) (r : Nat × Nat) (s : State) : Tidy s (recClearNotes d r s) := by
  simp +contextual (maxDischargeDepth := 40) [Tidy, recClearNotes]

@[simp] theorem recClearEffect_tidy (d : Desc) (s : State) : Tidy s (recClearEffect d s) := by
  simp +contextual (maxDischargeDepth := 40) [Tidy, recClearEffect]

theorem execRecClear_tidy (d : Desc) (s : State) {s' : State} (h : execRecClear d s = .next s') : Tidy s s' := by
  unfold execRecClear at h
  injection h with h
  subst h
  simp +contextual (maxDischargeDepth := 40) [Tidy]

theorem execRecConsolidate_tidy (d : Desc) (s : State) {s' : State} (h : execRecConsolidate d s = .next s') : Tidy s
    s' := by
  unfold execRecConsolidate at h
  injection h with h
  subst h
  simp +contextual (maxDischargeDepth := 40) [Tidy]

end Sys2Proof.Machine
end

