-- ==== Sys2Proof/Laws/FrameBoot.lean ====
section
/-! SUPPORT. What resets, boots and supervision do keeps the queue, the life-cycle code and the canonical forms. -/

namespace Sys2Proof.Machine

open Reg

@[simp] theorem wiped_tidy (kind : Nat) (s : State) : Tidy s (wiped kind s) := by
  unfold wiped
  (repeat' split) <;> simp +contextual (maxDischargeDepth := 40) [Tidy]

@[simp] theorem releasePins_tidy (s n : State) : Tidy n (releasePins s n) := by
  simp +contextual (maxDischargeDepth := 40) [Tidy, releasePins]

@[simp] theorem safeFirst_tidy (kind : Nat) (s : State) : Tidy s (safeFirst kind s) := by
  simp +contextual (maxDischargeDepth := 40) [Tidy, safeFirst]

@[simp] theorem coldReset_tidy (kind : Nat) (s : State) : Tidy s (coldReset kind s) := by
  simp +contextual (maxDischargeDepth := 40) [Tidy, coldReset]

theorem execPowerUp_tidy (s : State) {s' : State} (h : execPowerUp s = .next s') : Tidy s s' := by
  unfold execPowerUp at h
  injection h with h
  subst h
  simp +contextual (maxDischargeDepth := 40) [Tidy]

theorem execResetNAssert_tidy (s : State) {s' : State} (h : execResetNAssert s = .next s') : Tidy s s' := by
  unfold execResetNAssert at h
  injection h with h
  subst h
  simp +contextual (maxDischargeDepth := 40) [Tidy]

@[simp] theorem spoilPage_tidy (w : PageData) (s : State) : Tidy s (spoilPage w s) := by
  unfold spoilPage
  dsimp only
  (repeat' split) <;> simp +contextual (maxDischargeDepth := 40) [Tidy]

theorem execVinPowerOnReset_tidy (s : State) {s' : State} (h : execVinPowerOnReset s = .next s') : Tidy s s' := by
  unfold execVinPowerOnReset at h
  injection h with h
  subst h
  (repeat' split) <;> simp +contextual (maxDischargeDepth := 40) [Tidy]

@[simp] theorem clockReset_tidy (s : State) : Tidy s (clockReset s) := by
  simp +contextual (maxDischargeDepth := 40) [Tidy, clockReset]

theorem execReferenceClockLoss_tidy (s : State) {s' : State} (h : execReferenceClockLoss s = .next s') : Tidy s s' :=
    by
  unfold execReferenceClockLoss at h
  injection h with h
  subst h
  simp +contextual (maxDischargeDepth := 40) [Tidy]

theorem execReferenceClockValid_tidy (s : State) {s' : State} (h : execReferenceClockValid s = .next s') : Tidy s s'
    := by
  unfold execReferenceClockValid at h
  injection h with h
  subst h
  simp +contextual (maxDischargeDepth := 40) [Tidy]

@[simp] theorem setBoot_tidy (st : Nat) (s : State) : Tidy s (setBoot st s) := by
  simp +contextual (maxDischargeDepth := 40) [Tidy, setBoot]

@[simp] theorem failBoot_tidy (cause comp : Nat) (s : State) : Tidy s (failBoot cause comp s) := by
  simp +contextual (maxDischargeDepth := 40) [Tidy, failBoot]

@[simp] theorem readSeedbed_tidy (flips : Nat) (checkOk : Bool) (s : State) : Tidy s (readSeedbed flips checkOk s) :=
    by
  simp +contextual (maxDischargeDepth := 40) [Tidy, readSeedbed]

@[simp] theorem loadHoldup_tidy (s : State) : Tidy s (loadHoldup s) := by
  simp +contextual (maxDischargeDepth := 40) [Tidy, loadHoldup]

theorem execRomInitDone_tidy (selfTest training : Bool) (flips : Nat) (checkOk : Bool) (ms : Nat) (s : State) {s' :
    State} (h : execRomInitDone selfTest training flips checkOk ms s = .next s') : Tidy s s' := by
  unfold execRomInitDone at h
  injection h with h
  subst h
  simp +contextual (maxDischargeDepth := 40) [Tidy]

@[simp] theorem ctrlIgnored_tidy (s : State) : Tidy s (ctrlIgnored s) := by
  simp +contextual (maxDischargeDepth := 40) [Tidy, ctrlIgnored]

@[simp] theorem beginVerify_tidy (s : State) : Tidy s (beginVerify s) := by
  simp +contextual (maxDischargeDepth := 40) [Tidy, beginVerify]

@[simp] theorem bootCtrl_tidy (w : Word) (s : State) : Tidy s (bootCtrl w s) := by
  unfold bootCtrl
  (repeat' split) <;> simp +contextual (maxDischargeDepth := 40) [Tidy]

theorem execBootStart_tidy (w : Word) (s : State) {s' : State} (h : execBootStart w s = .next s') : Tidy s s' := by
  unfold execBootStart at h
  injection h with h
  subst h
  simp +contextual (maxDischargeDepth := 40) [Tidy]

theorem execBootRetry_tidy (w : Word) (s : State) {s' : State} (h : execBootRetry w s = .next s') : Tidy s s' := by
  unfold execBootRetry at h
  injection h with h
  subst h
  simp +contextual (maxDischargeDepth := 40) [Tidy]

theorem execStagingWindowWrite_tidy (off : Nat) (data : List Byte) (s : State) {s' : State} (h :
    execStagingWindowWrite off data s = .next s') : Tidy s s' := by
  unfold execStagingWindowWrite at h
  injection h with h
  subst h
  simp +contextual (maxDischargeDepth := 40) [Tidy]

@[simp] theorem copyComponent_tidy (i : Nat) (s : State) : Tidy s (copyComponent i s) := by
  unfold copyComponent
  (repeat' split) <;> simp +contextual (maxDischargeDepth := 40) [Tidy]

@[simp] theorem beginComponent_tidy (i : Nat) (s : State) : Tidy s (beginComponent i s) := by
  simp +contextual (maxDischargeDepth := 40) [Tidy, beginComponent]

@[simp] theorem beginLoading_tidy (s : State) : Tidy s (beginLoading s) := by
  simp +contextual (maxDischargeDepth := 40) [Tidy, beginLoading]

theorem execVerifyComplete_tidy (memOk : Bool) (ms : Nat) (s : State) {s' : State} (h : execVerifyComplete memOk ms s
    = .next s') : Tidy s s' := by
  unfold execVerifyComplete at h
  injection h with h
  subst h
  dsimp only
  (repeat' split) <;> simp +contextual (maxDischargeDepth := 40) [Tidy]

@[simp] theorem logConflicts_tidy (s : State) : Tidy s (logConflicts s) := by
  simp +contextual (maxDischargeDepth := 40) [Tidy, logConflicts]

@[simp] theorem serviceStart_tidy (s : State) : Tidy s (serviceStart s) := by
  simp +contextual (maxDischargeDepth := 40) [Tidy, serviceStart]

@[simp] theorem startLoop_tidy (x : Nat) (s : State) : Tidy s (startLoop x s) := by
  simp +contextual (maxDischargeDepth := 40) [Tidy, startLoop]

@[simp] theorem setPower_tidy (st : Nat) (s : State) : Tidy s (setPower st s) := by
  simp +contextual (maxDischargeDepth := 40) [Tidy, setPower]

@[simp] theorem leaveHold_tidy (s : State) : Tidy s (leaveHold s) := by
  simp +contextual (maxDischargeDepth := 40) [Tidy, leaveHold]

@[simp] theorem watchBegin_tidy (s : State) : Tidy s (watchBegin s) := by
  simp +contextual (maxDischargeDepth := 40) [Tidy, watchBegin]

@[simp] theorem endPage_tidy (w : PageWrite) (t0 : Nat) (s : State) : Tidy s (endPage w t0 s) := by
  simp +contextual (maxDischargeDepth := 40) [Tidy, endPage]

@[simp] theorem finishStart_tidy (s : State) : Tidy s (finishStart s) := by
  unfold finishStart
  dsimp only
  (repeat' split) <;> simp +contextual (maxDischargeDepth := 40) [Tidy]

@[simp] theorem bootRunning_tidy (s0 : State) : Tidy s0 (bootRunning s0) := by
  simp +contextual (maxDischargeDepth := 40) [Tidy, bootRunning]

@[simp] theorem nextComponent_tidy (i : Nat) (s : State) : Tidy s (nextComponent i s) := by
  simp +contextual (maxDischargeDepth := 40) [Tidy, nextComponent]

theorem execComponentStarted_tidy (c : Fin 4) (ms : Nat) (s : State) {s' : State} (h : execComponentStarted c ms s = .next s') :
    Tidy s s' := by
  unfold execComponentStarted at h
  injection h with h
  subst h
  dsimp only
  (repeat' split) <;> simp +contextual (maxDischargeDepth := 40) [Tidy]

theorem execComponentStartTimeout_tidy (islandLoad : Bool) (s : State) {s' : State} (h : execComponentStartTimeout
    islandLoad s = .next s') : Tidy s s' := by
  unfold execComponentStartTimeout at h
  injection h with h
  subst h
  simp +contextual (maxDischargeDepth := 40) [Tidy]

@[simp] theorem carryReset_tidy (s : State) : Tidy s (carryReset s) := by
  simp +contextual (maxDischargeDepth := 40) [Tidy, carryReset]

theorem execFwReset_tidy (d : Desc) (s : State) {s' : State} (h : execFwReset d s = .next s') : Tidy s s' := by
  unfold execFwReset at h
  injection h with h
  subst h
  simp +contextual (maxDischargeDepth := 40) [Tidy]

theorem execFwRead_tidy (d : Desc) (s : State) {s' : State} (h : execFwRead d s = .next s') : Tidy s s' := by
  unfold execFwRead at h
  injection h with h
  subst h
  simp +contextual (maxDischargeDepth := 40) [Tidy]

@[simp] theorem writeTimeReg_tidy (i : Nat) (v : Word) (s : State) : Tidy s (writeTimeReg i v s) := by
  simp +contextual (maxDischargeDepth := 40) [Tidy, writeTimeReg]

@[simp] theorem writeRegWord_tidy (off width : Nat) (v : Word) (s : State) : Tidy s (writeRegWord off width v s) := by
  simp +contextual (maxDischargeDepth := 40) [Tidy, writeRegWord]

@[simp] theorem readTimeReg_tidy (off : Nat) (s : State) : Tidy s (readTimeReg off s) := by
  simp +contextual (maxDischargeDepth := 40) [Tidy, readTimeReg]

@[simp] theorem readRegWord_tidy (off width : Nat) (s : State) : Tidy s (readRegWord off width s) := by
  simp +contextual (maxDischargeDepth := 40) [Tidy, readRegWord]

theorem execRegisterWrite_tidy (off width : Nat) (v : Word) (s : State) {s' : State} (h : execRegisterWrite off width
    v s = .next s') : Tidy s s' := by
  unfold execRegisterWrite at h
  injection h with h
  subst h
  simp +contextual (maxDischargeDepth := 40) [Tidy]

@[simp] theorem readWindow_tidy (off width : Nat) (s : State) : Tidy s (readWindow off width s) := by
  simp +contextual (maxDischargeDepth := 40) [Tidy, readWindow]

theorem execReadClearField_tidy (place : BarAt) (width : Nat) (s : State) {s' : State} (h : execReadClearField place
    width s = .next s') : Tidy s s' := by
  unfold execReadClearField at h
  injection h with h
  subst h
  (repeat' split) <;> simp +contextual (maxDischargeDepth := 40) [Tidy]

theorem execRead64bitLowWord_tidy (off width : Nat) (s : State) {s' : State} (h : execRead64bitLowWord off width s =
    .next s') : Tidy s s' := by
  unfold execRead64bitLowWord at h
  injection h with h
  subst h
  simp +contextual (maxDischargeDepth := 40) [Tidy]

theorem execWrite64bitHighWord_tidy (off width : Nat) (v : Word) (s : State) {s' : State} (h : execWrite64bitHighWord
    off width v s = .next s') : Tidy s s' := by
  unfold execWrite64bitHighWord at h
  injection h with h
  subst h
  simp +contextual (maxDischargeDepth := 40) [Tidy]

theorem execRtcTimeRegisterRead_tidy (off : Nat) (s : State) {s' : State} (h : execRtcTimeRegisterRead off s = .next
    s') : Tidy s s' := by
  unfold execRtcTimeRegisterRead at h
  injection h with h
  subst h
  simp +contextual (maxDischargeDepth := 40) [Tidy]

theorem execRtcStagingWrite_tidy (off : Nat) (v : Word) (s : State) {s' : State} (h : execRtcStagingWrite off v s =
    .next s') : Tidy s s' := by
  unfold execRtcStagingWrite at h
  injection h with h
  subst h
  simp +contextual (maxDischargeDepth := 40) [Tidy]

theorem execRtcSecWrite_tidy (v : Word) (s : State) {s' : State} (h : execRtcSecWrite v s = .next s') : Tidy s s' :=
    by
  unfold execRtcSecWrite at h
  injection h with h
  subst h
  simp +contextual (maxDischargeDepth := 40) [Tidy]

@[simp] theorem takeChange_tidy (k : Nat) (s : State) : Tidy s (takeChange k s) := by
  unfold takeChange
  (repeat' split) <;> simp +contextual (maxDischargeDepth := 40) [Tidy]

@[simp] theorem dropCheckIns_tidy (s : State) : Tidy s (dropCheckIns s) := by
  simp +contextual (maxDischargeDepth := 40) [Tidy, dropCheckIns]

@[simp] theorem judgeWindow_tidy (k mask lo hi : Nat) (s : State) : Tidy s (judgeWindow k mask lo hi s) := by
  unfold judgeWindow
  dsimp only
  (repeat' split) <;> simp +contextual (maxDischargeDepth := 40) [Tidy]

theorem execRollCallEvaluation_tidy (k : Fin 4) (s : State) {s' : State} (h : execRollCallEvaluation k s = .next s')
    : Tidy s s' := by
  unfold execRollCallEvaluation at h
  injection h with h
  subst h
  dsimp only
  (repeat' split) <;> simp +contextual (maxDischargeDepth := 40) [Tidy]

@[simp] theorem closeExpiry_tidy (s : State) : Tidy s (closeExpiry s) := by
  simp +contextual (maxDischargeDepth := 40) [Tidy, closeExpiry]

theorem execWatchdogCloseExpiry_tidy (s : State) {s' : State} (h : execWatchdogCloseExpiry s = .next s') : Tidy s s'
    := by
  unfold execWatchdogCloseExpiry at h
  injection h with h
  subst h
  simp +contextual (maxDischargeDepth := 40) [Tidy]

@[simp] theorem validServe_tidy (s : State) : Tidy s (validServe s) := by
  simp +contextual (maxDischargeDepth := 40) [Tidy, validServe]

@[simp] theorem timelyServe_tidy (s : State) : Tidy s (timelyServe s) := by
  simp +contextual (maxDischargeDepth := 40) [Tidy, timelyServe]

@[simp] theorem serve_tidy (at_ : Nat) (s : State) : Tidy s (serve at_ s) := by
  simp +contextual (maxDischargeDepth := 40) [Tidy, serve]

theorem execWatchdogServe_tidy (at_ : Nat) (s : State) {s' : State} (h : execWatchdogServe at_ s = .next s') : Tidy s
    s' := by
  unfold execWatchdogServe at h
  injection h with h
  subst h
  simp +contextual (maxDischargeDepth := 40) [Tidy]

@[simp] theorem stopAgent_tidy (who : Option Agent) (s : State) : Tidy s (stopAgent who s) := by
  cases who with
  | none => exact Tidy.refl s
  | some a => cases a <;> simp +contextual (maxDischargeDepth := 40) [Tidy, stopAgent]

@[simp] theorem memoryError_tidy (mem off : Nat) (who : Option Agent) (s : State) : Tidy s (memoryError mem off who
    s) := by
  unfold memoryError
  (try dsimp only)
  repeat' first
    | exact Tidy.refl _
    | with_reducible refine Tidy.trans ?_ (stopAgent_tidy ..)
    | with_reducible refine Tidy.trans ?_ (raise_tidy ..)
    | with_reducible refine Tidy.trans ?_ (bump_tidy ..)
    | with_reducible refine Tidy.trans ?_ (fput_tidy ..)
    | with_reducible refine Tidy.trans ?_ (interrupt_tidy ..)
    | with_reducible refine Tidy.trans ?_ (forceWarning_tidy ..)
    | split
    | with_reducible refine forEach_to ?_ ?_
    | intro x s
    | (simp +contextual (maxDischargeDepth := 40) [Tidy]; done)

theorem execUncorrectableError_tidy (mem off : Nat) (who : Option Agent) (s : State) {s' : State} (h :
    execUncorrectableError mem off who s = .next s') : Tidy s s' := by
  unfold execUncorrectableError at h
  injection h with h
  subst h
  simp +contextual (maxDischargeDepth := 40) [Tidy]

theorem execCorrectableError_tidy (s : State) {s' : State} (h : execCorrectableError s = .next s') : Tidy s s' := by
  unfold execCorrectableError at h
  injection h with h
  subst h
  simp +contextual (maxDischargeDepth := 40) [Tidy]

end Sys2Proof.Machine
end

