-- ==== Sys2Proof/Laws/FramePower.lean ====
section
/-! SUPPORT. What power changes and the journal do keeps the queue, the life-cycle code and the canonical forms. -/

namespace Sys2Proof.Machine

open Reg

@[simp] theorem noteRefused_tidy (target : Nat) (s : State) : Tidy s (noteRefused target s) := by
  simp +contextual (maxDischargeDepth := 40) [Tidy, noteRefused]

@[simp] theorem transitionTime_tidy (bound : Nat) (s : State) : Tidy s (transitionTime bound s) := by
  simp +contextual (maxDischargeDepth := 40) [Tidy, transitionTime]

@[simp] theorem enterHold_tidy (s : State) : Tidy s (enterHold s) := by
  simp +contextual (maxDischargeDepth := 40) [Tidy, enterHold]

@[simp] theorem hop_tidy (target : Nat) (s : State) : Tidy s (hop target s) := by
  unfold hop
  (repeat' split) <;> simp +contextual (maxDischargeDepth := 40) [Tidy]

@[simp] theorem moveBack_tidy (target : Nat) (s : State) : Tidy s (moveBack target s) := by
  simp +contextual (maxDischargeDepth := 40) [Tidy, moveBack]

@[simp] theorem railsOff_tidy (s : State) : Tidy s (railsOff s) := by
  unfold railsOff
  (try dsimp only)
  repeat' first
    | exact Tidy.refl _
    | with_reducible refine Tidy.trans ?_ (fput_tidy ..)
    | split
    | with_reducible refine forEach_to ?_ ?_
    | intro x s
    | (simp +contextual (maxDischargeDepth := 40) [Tidy]; done)

@[simp] theorem enterDormant_tidy (jb : Job) (s : State) : Tidy s (enterDormant jb s) := by
  unfold enterDormant
  dsimp only
  (repeat' split) <;> simp +contextual (maxDischargeDepth := 40) [Tidy]

@[simp] theorem abortEntry_tidy (cause : Nat) (s : State) : Tidy s (abortEntry cause s) := by
  unfold abortEntry
  (try dsimp only)
  repeat' first
    | exact Tidy.refl _
    | with_reducible refine Tidy.trans ?_ (watchUpdate_tidy ..)
    | with_reducible refine Tidy.trans ?_ (moveBack_tidy ..)
    | with_reducible refine Tidy.trans ?_ (bump_tidy ..)
    | with_reducible refine Tidy.trans ?_ (fput_tidy ..)
    | with_reducible refine Tidy.trans ?_ (raise_tidy ..)
    | with_reducible refine Tidy.trans ?_ (ended_tidy ..)
    | split
    | with_reducible refine forEach_to ?_ ?_
    | intro x s
    | (simp +contextual (maxDischargeDepth := 40) [Tidy]; done)

@[simp] theorem holdReached_tidy (target : Nat) (s : State) : Tidy s (holdReached target s) := by
  simp +contextual (maxDischargeDepth := 40) [Tidy, holdReached]

@[simp] theorem moveOn_tidy (jb : Job) (target : Nat) (s : State) : Tidy s (moveOn jb target s) := by
  simp +contextual (maxDischargeDepth := 40) [Tidy, moveOn]

@[simp] theorem carryPower_tidy (s : State) : Tidy s (carryPower s) := by
  unfold carryPower
  (repeat' split) <;> simp +contextual (maxDischargeDepth := 40) [Tidy]

@[simp] theorem carryOn_tidy (s : State) : Tidy s (carryOn s) := by
  simp +contextual (maxDischargeDepth := 40) [Tidy, carryOn]

@[simp] theorem pwrStateNotes_tidy (d : Desc) (r : Nat × Nat) (s : State) : Tidy s (pwrStateNotes d r s) := by
  simp +contextual (maxDischargeDepth := 40) [Tidy, pwrStateNotes]

@[simp] theorem pwrStateEffect_tidy (d : Desc) (s : State) : Tidy s (pwrStateEffect d s) := by
  unfold pwrStateEffect
  dsimp only
  split
  · exact immediate_tidy _ _ _ _ _ _ Tidy.refl
  · refine (accept_tidy 0x0E01 d 0 s).trans ?_
    refine Tidy.trans ?_ ((holdReached_tidy ..).trans ((fput_tidy ..).trans (watchUpdate_tidy ..)))
    exact ⟨rfl, rfl, id, id, id, id, id, id⟩

theorem execPwrState_tidy (d : Desc) (s : State) {s' : State} (h : execPwrState d s = .next s') : Tidy s s' := by
  unfold execPwrState at h
  injection h with h
  subst h
  simp +contextual (maxDischargeDepth := 40) [Tidy]

theorem execPwrRead_tidy (d : Desc) (s : State) {s' : State} (h : execPwrRead d s = .next s') : Tidy s s' := by
  unfold execPwrRead at h
  injection h with h
  subst h
  simp +contextual (maxDischargeDepth := 40) [Tidy]

theorem execWakePerstN_tidy (s : State) {s' : State} (h : execWakePerstN s = .next s') : Tidy s s' := by
  unfold execWakePerstN at h
  injection h with h
  subst h
  simp +contextual (maxDischargeDepth := 40) [Tidy]

@[simp] theorem loseProgram_tidy (s : State) : Tidy s (loseProgram s) := by
  unfold loseProgram
  generalize mapFields = l
  refine forEach_to (fun f s => fput_tidy f 0 s) ?_
  refine Tidy.trans ?_ (fput_tidy ..)
  exact ⟨rfl, rfl, id, id, fun _ => rfl, id, id, id⟩

@[simp] theorem waking_tidy (s : State) : Tidy s (waking s) := by
  simp +contextual (maxDischargeDepth := 40) [Tidy, waking]

@[simp] theorem wakeUp_tidy (t flips : Nat) (checkOk : Bool) (s : State) : Tidy s (wakeUp t flips checkOk s) := by
  unfold wakeUp
  dsimp only
  (repeat' split) <;> simp +contextual (maxDischargeDepth := 40) [Tidy]

theorem execWakeSequenceDone_tidy (flips : Nat) (checkOk : Bool) (s : State) {s' : State} (h : execWakeSequenceDone
    flips checkOk s = .next s') : Tidy s s' := by
  unfold execWakeSequenceDone at h
  injection h with h
  subst h
  (repeat' split) <;> simp +contextual (maxDischargeDepth := 40) [Tidy]

@[simp] theorem noteVin_tidy (mv : Nat) (s : State) : Tidy s (noteVin mv s) := by
  simp +contextual (maxDischargeDepth := 40) [Tidy, noteVin]

@[simp] theorem sagBudgets_tidy (s : State) : Tidy s (sagBudgets s) := by
  simp +contextual (maxDischargeDepth := 40) [Tidy, sagBudgets]

@[simp] theorem powerFail_tidy (s : State) : Tidy s (powerFail s) := by
  simp +contextual (maxDischargeDepth := 40) [Tidy, powerFail]

@[simp] theorem enterSag_tidy (k : Nat) (s : State) : Tidy s (enterSag k s) := by
  unfold enterSag
  (repeat' split) <;> simp +contextual (maxDischargeDepth := 40) [Tidy]

theorem execVinThresholdCross_tidy (mv : Nat) (s : State) {s' : State} (h : execVinThresholdCross mv s = .next s') :
    Tidy s s' := by
  unfold execVinThresholdCross at h
  injection h with h
  subst h
  simp +contextual (maxDischargeDepth := 40) [Tidy]

theorem execSagStageLeave_tidy (mv : Nat) (s : State) {s' : State} (h : execSagStageLeave mv s = .next s') : Tidy s
    s' := by
  unfold execSagStageLeave at h
  injection h with h
  subst h
  simp +contextual (maxDischargeDepth := 40) [Tidy]

theorem execHoldupSenseCrossing_tidy (mv : Nat) (s : State) {s' : State} (h : execHoldupSenseCrossing mv s = .next
    s') : Tidy s s' := by
  unfold execHoldupSenseCrossing at h
  injection h with h
  subst h
  simp +contextual (maxDischargeDepth := 40) [Tidy]

theorem execNvPageWriteDone_tidy (us : Nat) (s : State) {s' : State} (h : execNvPageWriteDone us s = .next s') : Tidy
    s s' := by
  unfold execNvPageWriteDone at h
  injection h with h
  subst h
  (repeat' split) <;> simp +contextual (maxDischargeDepth := 40) [Tidy]

theorem execConsolidationDone_tidy (s : State) {s' : State} (h : execConsolidationDone s = .next s') : Tidy s s' := by
  unfold execConsolidationDone at h
  injection h with h
  subst h
  simp +contextual (maxDischargeDepth := 40) [Tidy]

@[simp] theorem jrnlReadEffect_tidy (d : Desc) (s : State) : Tidy s (jrnlReadEffect d s) := by
  simp +contextual (maxDischargeDepth := 40) [Tidy, jrnlReadEffect]

theorem execJrnlRead_tidy (d : Desc) (s : State) {s' : State} (h : execJrnlRead d s = .next s') : Tidy s s' := by
  unfold execJrnlRead at h
  injection h with h
  subst h
  simp +contextual (maxDischargeDepth := 40) [Tidy]

end Sys2Proof.Machine
end

