-- ==== Sys2Proof/Laws/FrameFetch.lean ====
section
/-! SUPPORT. What a fetched descriptor and the service port do: all is kept, but for the rows of R389 that move the
life cycle. -/

namespace Sys2Proof.Machine

open Reg

@[simp] theorem unknownOpcode_tidy (op : Nat) (d : Desc) (s : State) : Tidy s (unknownOpcode op d s) :=
  (openSlot_tidy ..).trans (refuse_tidy ..)

theorem runTrim_moved (d : Desc) (s : State) {s' : State} (h : runTrim d s = .next s') : Moved d s s' := by
  unfold runTrim at h
  split at h
  · exact Or.inl (execTrimBegin_tidy _ _ h)
  · exact Or.inl (execTrimPoint_tidy _ _ h)
  · exact Or.inl (execTrimApply_tidy _ _ h)
  · exact Or.inl (execTrimCancel_tidy _ _ h)

theorem runLifecycle_moved (d : Desc) (s : State) {s' : State} (h : runLifecycle d s = .next s') : Moved d s s' := by
  unfold runLifecycle at h
  split at h
  · exact execLcTakeOwnership_moved _ _ h
  · exact execLcReturn_moved _ _ h
  · exact execLcScrap_moved _ _ h
  · exact Or.inl (execLcLock_tidy _ _ h)
  · exact Or.inl (execLcUnlock_tidy _ _ h)
  · exact Or.inl (execLcRaiseSvn_tidy _ _ h)
  · exact Or.inl (execLcRevokeVkey_tidy _ _ h)
  · exact execLcProvision_moved _ _ h

theorem runUnlock_moved (d : Desc) (s : State) {s' : State} (h : runUnlock d s = .next s') : Moved d s s' := by
  unfold runUnlock at h
  split at h
  · exact Or.inl (execUnlockRead_tidy _ _ h)
  · exact Or.inl (execUnlockWrite_tidy _ _ h)
  · exact Or.inl (execSetReadPw_tidy _ _ h)
  · exact Or.inl (execSetWritePw_tidy _ _ h)
  · exact Or.inl (execNvsLock_tidy _ _ h)

theorem runLow_moved (op : Nat) (d : Desc) (s : State) {s' : State} (h : runLow op d s = .next s') : Moved d s s' := by
  unfold runLow at h
  split at h
  · exact Or.inl (execRingNop_tidy _ _ h)
  · exact Or.inl (execFence_tidy _ _ h)
  · exact Or.inl (execCtlStart_tidy _ _ h)
  · exact Or.inl (execCtlStop_tidy _ _ h)
  · exact Or.inl (execCtlHalt_tidy _ _ h)
  · exact Or.inl (execCtlClearHalt_tidy _ _ h)
  · exact Or.inl (execCtlWarmRestart_tidy _ _ h)
  · exact Or.inl (execCtlTrigger_tidy _ _ h)
  · exact Or.inl (execJrnlRead_tidy _ _ h)
  · exact Or.inl (execGraftOpen_tidy _ _ h)
  · exact Or.inl (execGraftLoad_tidy _ _ h)
  · exact Or.inl (execGraftCheck_tidy _ _ _ h)
  · exact Or.inl (execGraftCommit_tidy _ _ h)
  · exact Or.inl (execGraftAbort_tidy _ _ h)
  · exact Or.inl (execGraftConfirm_tidy _ _ h)
  · exact Or.inl (execGraftRevert_tidy _ _ h)
  · exact Or.inl (execCfgBegin_tidy _ _ h)
  · exact Or.inl (execCfgPut_tidy _ _ h)
  · exact Or.inl (execCfgCommit_tidy _ _ h)
  · exact Or.inl (execCfgAbort_tidy _ _ h)
  · exact Or.inl (execCfgConfirm_tidy _ _ h)
  · exact Or.inl (execCfgRead_tidy _ _ h)
  · injection h with h; subst h; exact Or.inl (unknownOpcode_tidy ..)

theorem runMiddle_moved (op : Nat) (d : Desc) (s : State) {s' : State} (h : runMiddle op d s = .next s') : Moved d s s' := by
  unfold runMiddle at h
  split at h
  · exact Or.inl (execImgRead_tidy _ _ h)
  · exact Or.inl (execImgWrite_tidy _ _ h)
  · exact Or.inl (execRetainRestore_tidy _ _ h)
  · exact Or.inl (execForceWrite_tidy _ _ h)
  · exact Or.inl (execForceClear_tidy _ _ h)
  · exact Or.inl (execForceRead_tidy _ _ h)
  · exact Or.inl (execTrlEntryWrite_tidy _ _ h)
  · exact Or.inl (execTrlEntryRead_tidy _ _ h)
  · exact Or.inl (execTrlAxisSet_tidy _ _ h)
  · exact Or.inl (execTrlTrimSet_tidy _ _ h)
  · exact Or.inl (execTrlAxisRearm_tidy _ _ h)
  · exact Or.inl (execNetMailbox_tidy _ _ h)
  · exact Or.inl (execNetTplRead_tidy _ _ h)
  · exact Or.inl (execNetPtpRead_tidy _ _ h)
  · exact Or.inl (execNetMcastRead_tidy _ _ h)
  · exact Or.inl (execRedHandover_tidy _ _ h)
  · exact Or.inl (execRedResync_tidy _ _ h)
  · exact Or.inl (execRedPark_tidy _ _ h)
  · exact Or.inl (execRedRead_tidy _ _ h)
  · exact Or.inl (execFioClearLatch_tidy _ _ h)
  · exact Or.inl (execFioRelease_tidy _ _ h)
  · exact Or.inl (execFioRead_tidy _ _ h)
  · exact runTrim_moved _ _ h
  · exact Or.inl (execLptHartFetch_tidy _ _ h)
  · exact Or.inl (execLptHartReply_tidy _ _ h)
  · exact Or.inl (execLptRead_tidy _ _ h)
  · injection h with h; subst h; exact Or.inl (unknownOpcode_tidy ..)

theorem runHigh_moved (op : Nat) (d : Desc) (s : State) {s' : State} (h : runHigh op d s = .next s') : Moved d s s' := by
  unfold runHigh at h
  split at h
  · exact Or.inl (execSecChallenge_tidy _ _ h)
  · exact Or.inl (execSecResponse_tidy _ _ h)
  · split at h
    · exact Or.inl (execSecKeyWrap_tidy _ _ h)
    · exact Or.inl (execSecKeyLoad_tidy _ _ h)
  · exact Or.inl (execSecKeyUnload_tidy _ _ h)
  · exact Or.inl (execSecAttest_tidy _ _ h)
  · exact runLifecycle_moved _ _ h
  · exact Or.inl (execSecDebug_tidy _ _ h)
  · exact Or.inl (execNvsRead_tidy _ _ h)
  · exact Or.inl (execNvsWrite_tidy _ _ h)
  · exact runUnlock_moved _ _ h
  · exact Or.inl (execRtcRead_tidy _ _ h)
  · exact Or.inl (execRtcSet_tidy _ _ h)
  · exact Or.inl (execRtcAlarm_tidy _ _ h)
  · exact Or.inl (execRecRead_tidy _ _ h)
  · exact Or.inl (execRecClear_tidy _ _ h)
  · exact Or.inl (execRecConsolidate_tidy _ _ h)
  · exact Or.inl (execPwrState_tidy _ _ h)
  · exact Or.inl (execPwrRead_tidy _ _ h)
  · exact Or.inl (execFwRead_tidy _ _ h)
  · exact Or.inl (execFwReset_tidy _ _ h)
  · injection h with h; subst h; exact Or.inl (unknownOpcode_tidy ..)

theorem runOpcode_moved (op : Nat) (d : Desc) (s : State) {s' : State} (h : runOpcode op d s = .next s') : Moved d s s' := by
  unfold runOpcode at h
  (repeat' split at h)
  · exact runLow_moved _ _ _ h
  · exact runMiddle_moved _ _ _ h
  · exact runHigh_moved _ _ _ h

@[simp] theorem fetchLost_tidy (r : Fin 128) (index : Nat) (s : State) : Tidy s (fetchLost r index s) := by
  simp +contextual (maxDischargeDepth := 40) [Tidy, fetchLost]

/-- The life cycle stays or moves along a row of R389; the rest stays tidy. -/
abbrev LifeKept (s t : State) : Prop := Tidy s t ∨ ∃ l, lifeMoves s.sec.life l = true ∧ LifeTidy l s t

theorem LifeKept.before {s t u : State} (h : Tidy s t) (k : LifeKept t u) : LifeKept s u := by
  rcases k with k | ⟨l, hl, k⟩
  · exact Or.inl (h.trans k)
  · exact Or.inr ⟨l, by rw [← h.2.1]; exact hl, (h.life l).trans k⟩

theorem execDescriptorFetch_life (r : Fin 128) (raw : Option (List Byte)) (buf : List Byte) (s : State) {s' : State}
    (h : execDescriptorFetch r raw buf s = .next s') : LifeKept s s' := by
  unfold execDescriptorFetch at h
  split at h
  · dsimp only at h
    refine LifeKept.before (takeEntry_tidy r s) ?_
    split at h
    · injection h with h
      subst h
      exact Or.inl (fetchLost_tidy ..)
    · exact (runOpcode_moved _ _ _ h).imp_right And.right
  · injection h with h
    subst h
    exact Or.inl (Tidy.refl s)

theorem svcRequest_origin (raw : List Byte) (tagOk : Bool) : (svcRequest raw tagOk).origin = .svc := by
  unfold svcRequest
  dsimp only
  split <;> rfl

theorem svcRun_tidy {ip port : Nat} {raw : List Byte} {tagOk valid : Bool} {s s' : State}
    (h : svcRun ip port raw tagOk valid s = .next s') : Tidy s s' := by
  unfold svcRun at h
  rcases runOpcode_moved _ _ _ h with h | ⟨ho, -⟩
  · exact Tidy.trans ⟨rfl, rfl, id, id, id, id, id, id⟩ h
  · exact absurd (svcRequest_origin raw tagOk) ho

theorem Tidy.cmd (s : State) (c : Cmd) : Tidy s { s with cmd := c } := ⟨rfl, rfl, id, id, id, id, id, id⟩

theorem svcServe_tidy {ip port : Nat} {raw : List Byte} {s s' : State} (h : svcServe ip port raw s = .next s') :
    Tidy s s' := by
  unfold svcServe at h
  dsimp only at h
  split at h
  · exact svcRun_tidy h
  · split at h
    · exact svcRun_tidy h
    · split at h
      · injection h with h
        subst h
        exact Tidy.refl s
      · split at h
        · injection h with h
          rw [← h]
          exact (Tidy.cmd s _).trans (svcOut_tidy ..)
        · have k := svcRun_tidy h
          exact (Tidy.cmd s _).trans k

theorem svcDrain_tidy (n : Nat) (s : State) {s' : State} (h : svcDrain n s = .next s') : Tidy s s' := by
  induction n generalizing s with
  | zero =>
    injection h with h
    subst h
    exact Tidy.refl s
  | succ n ih =>
    unfold svcDrain at h
    split at h
    · split at h
      · rename_i hs
        exact Tidy.trans ⟨rfl, rfl, id, id, id, id, id, id⟩ ((svcServe_tidy hs).trans (ih _ h))
      · rename_i o ho
        exact absurd h (ho s')
    · injection h with h
      subst h
      exact Tidy.refl s

@[simp] theorem svcFrame_tidy (s : State) : Tidy s (svcFrame s) := by
  simp +contextual (maxDischargeDepth := 40) [Tidy, svcFrame]

@[simp] theorem svcError_tidy (s : State) : Tidy s (svcError s) := by
  simp +contextual (maxDischargeDepth := 40) [Tidy, svcError]

theorem svcTurn_tidy (s : State) {s' : State} (h : svcTurn s = .next s') : Tidy s s' := svcDrain_tidy _ _ h

theorem execSvcDatagram_tidy (srcIp srcPort : Nat) (d : Datagram) (s : State) {s' : State}
    (h : execSvcDatagram srcIp srcPort d s = .next s') : Tidy s s' := by
  unfold execSvcDatagram at h
  dsimp only at h
  split at h
  · injection h with h
    subst h
    exact svcError_tidy s
  · split at h
    · have k := svcTurn_tidy _ h
      exact (svcFrame_tidy s).trans ((Tidy.cmd _ _).trans k)
    · injection h with h
      subst h
      exact svcFrame_tidy s

theorem idle_tidy (s : State) {s' : State} (h : idle s = .next s') : Tidy s s' := by
  unfold idle at h
  split at h
  · rename_i s1 hs
    injection h with h
    subst h
    refine (svcTurn_tidy s hs).trans ?_
    split
    · exact carryPower_tidy _
    · exact (drain_tidy _).trans (carryPower_tidy _)
  · rename_i o ho
    exact absurd h (ho s')

theorem execSvcArpIcmp_tidy (q : Query) (s : State) {s' : State} (h : execSvcArpIcmp q s =
    .next s') : Tidy s s' := by
  unfold execSvcArpIcmp at h
  injection h with h
  subst h
  (repeat' split) <;> simp +contextual (maxDischargeDepth := 40) [Tidy]

theorem execSvcSessionTimeout_tidy (s : State) {s' : State} (h : execSvcSessionTimeout s = .next s') : Tidy s s' := by
  unfold execSvcSessionTimeout at h
  injection h with h
  subst h
  (repeat' split) <;> simp +contextual (maxDischargeDepth := 40) [Tidy]

end Sys2Proof.Machine
end

