-- ==== Sys2Proof/Laws/FrameHost.lean ====
section
/-! SUPPORT. What posting events, completions and journal entries keeps: everything outside the host interface, the register bank and
the journal. -/

namespace Sys2Proof.Machine

/-- Two states that differ at most in the registers, the host interface, the service port, the journal, bank 0 and what was sent. -/
abbrev Outside (s t : State) : Prop :=
  (t.now = s.now ∧ t.img = s.img ∧ t.seq = s.seq ∧ t.prog = s.prog ∧ t.trl = s.trl ∧ t.net = s.net ∧ t.red = s.red ∧
    t.cores = s.cores ∧ t.lanes = s.lanes ∧ t.fio = s.fio ∧ t.lpt = s.lpt) ∧
  (t.sec = s.sec ∧ t.sup = s.sup ∧ t.nv = s.nv ∧ t.recd = s.recd ∧ t.rtc = s.rtc ∧ t.boot = s.boot ∧ t.mem.code = s.mem.code ∧
    t.cmd.deferred = s.cmd.deferred ∧ t.cmd.txns = s.cmd.txns ∧ t.pending = s.pending)

theorem Outside.refl (s : State) : Outside s s := by simp [Outside]

theorem Outside.trans {s t u : State} (h : Outside s t) (k : Outside t u) : Outside s u := by simp_all [Outside]

theorem outside_ite {s a b : State} {c : Prop} [Decidable c] (ha : Outside s a) (hb : Outside s b) : Outside s (if c then a else b) := by
  split <;> assumption

theorem fput_outside (f : Field) (v : Nat) (s : State) : Outside s (fput f v s) := ⟨⟨rfl, rfl, rfl, rfl, rfl, rfl, rfl, rfl, rfl, rfl, rfl⟩,
  rfl, rfl, rfl, rfl, rfl, rfl, rfl, rfl, rfl, rfl⟩
theorem emit_outside (o : Output) (s : State) : Outside s (emit o s) := ⟨⟨rfl, rfl, rfl, rfl, rfl, rfl, rfl, rfl, rfl, rfl, rfl⟩,
  rfl, rfl, rfl, rfl, rfl, rfl, rfl, rfl, rfl, rfl⟩
theorem setRing_outside (r : Nat) (f : Ring → Ring) (s : State) : Outside s (setRing r f s) :=
  ⟨⟨rfl, rfl, rfl, rfl, rfl, rfl, rfl, rfl, rfl, rfl, rfl⟩, rfl, rfl, rfl, rfl, rfl, rfl, rfl, rfl, rfl, rfl⟩
theorem jadd_outside (e : JEntry) (s : State) : Outside s (jadd e s) :=
  ⟨⟨rfl, rfl, rfl, rfl, rfl, rfl, rfl, rfl, rfl, rfl, rfl⟩, rfl, rfl, rfl, rfl, rfl, rfl, rfl, rfl, rfl, rfl⟩
theorem hif_outside (h : Hif) (s : State) : Outside s { s with hif := h } :=
  ⟨⟨rfl, rfl, rfl, rfl, rfl, rfl, rfl, rfl, rfl, rfl, rfl⟩, rfl, rfl, rfl, rfl, rfl, rfl, rfl, rfl, rfl, rfl⟩

theorem raise_outside (f : Field) (s : State) : Outside s (raise f s) := fput_outside ..
theorem bump_outside (f : Field) (n : Nat) (s : State) : Outside s (bump f n s) := fput_outside ..
theorem dma_outside (o : Output) (s : State) : Outside s (dma o s) := outside_ite (emit_outside ..) (hif_outside _ _)
theorem interrupt_outside (v : Nat) (s : State) : Outside s (interrupt v s) :=
  outside_ite (emit_outside ..) (outside_ite (hif_outside _ _) (Outside.refl s))
theorem signalRing_outside (r : Nat) (s : State) : Outside s (signalRing r s) := (setRing_outside ..).trans (interrupt_outside ..)
theorem trySignal_outside (r : Nat) (s : State) : Outside s (trySignal r s) := outside_ite (signalRing_outside ..) (Outside.refl s)
theorem postCq_outside (r : Nat) (body : List Byte) (b : Bool) (s : State) : Outside s (postCq r body b s) :=
  (dma_outside ..).trans ((setRing_outside ..).trans ((fput_outside ..).trans ((fput_outside ..).trans (trySignal_outside ..))))

theorem event_outside (src code a b : Nat) (s : State) : Outside s (event src code a b s) := by
  unfold event
  split
  · exact Outside.refl s
  · exact outside_ite ((hif_outside _ s).trans ((setRing_outside ..).trans (postCq_outside ..)))
      ((hif_outside _ s).trans ((setRing_outside ..).trans ((bump_outside ..).trans (raise_outside ..))))

theorem fputBit_outside (f : Field) (n : Nat) (b : Bool) (s : State) : Outside s (fputBit f n b s) := fput_outside ..

theorem enterError_outside (r index reason : Nat) (s : State) : Outside s (enterError r index reason s) :=
  (fput_outside ..).trans ((fput_outside ..).trans ((fput_outside ..).trans ((fput_outside ..).trans ((fput_outside ..).trans
    ((fputBit_outside ..).trans ((raise_outside ..).trans (event_outside ..)))))))

theorem flush_outside (r n : Nat) (s : State) : Outside s (flush r n s) := by
  induction n generalizing s with
  | zero => exact Outside.refl s
  | succ n ih =>
    unfold flush
    split
    · exact Outside.refl s
    · split
      · exact Outside.refl s
      · split
        · exact Outside.refl s
        · have h := fun (f : Ring → Ring) body (b : Bool) => ((setRing_outside r f s).trans (postCq_outside r body b _)).trans
            (hif_outside { (postCq r body b (setRing r f s)).hif with fences := (postCq r body b (setRing r f s)).hif.fences.map (oweLess r) } _)
          split
          · exact (h ..).trans (enterError_outside ..)
          · exact (h ..).trans (ih _)

theorem svcAnswer_outside (body : List Byte) (s : State) : Outside s (svcAnswer body s) := by
  unfold svcAnswer
  split
  · exact Outside.refl s
  · exact ⟨⟨rfl, rfl, rfl, rfl, rfl, rfl, rfl, rfl, rfl, rfl, rfl⟩, rfl, rfl, rfl, rfl, rfl, rfl, rfl, rfl, rfl, rfl⟩

theorem deliver_outside (jb : Job) (status reason jseq result : Nat) (data : List Byte) (s : State) :
    Outside s (deliver jb status reason jseq result data s) := by
  unfold deliver
  refine outside_ite (Outside.refl s) ?_
  split
  · exact svcAnswer_outside ..
  · exact (outside_ite (Outside.refl s) (dma_outside ..)).trans ((setRing_outside ..).trans (flush_outside ..))

theorem finish_outside (jb : Job) (status reason result : Nat) (data : List Byte) (s : State) :
    Outside s (finish jb status reason result data s) := deliver_outside ..
theorem conclude_outside (jb : Job) (status reason result : Nat) (data : List Byte) (s : State) :
    Outside s (conclude jb status reason result data s) := (jadd_outside ..).trans (finish_outside ..)

theorem settleFences_outside (n : Nat) (s : State) : Outside s (settleFences n s) := by
  induction n generalizing s with
  | zero => exact Outside.refl s
  | succ n ih =>
    unfold settleFences
    split
    · exact Outside.trans ((hif_outside _ s).trans (conclude_outside ..)) (ih _)
    · split
      · exact Outside.trans ((hif_outside _ s).trans (conclude_outside ..)) (ih _)
      · exact Outside.refl s

theorem settle_outside (s : State) : Outside s (settle s) := settleFences_outside ..

theorem refuse_outside (op : Nat) (d : Desc) (status reason : Nat) (s : State) : Outside s (refuse op d status reason s) := by
  unfold refuse
  dsimp only
  refine Outside.trans ?_ ((finish_outside ..).trans (settle_outside ..))
  split
  · exact outside_ite ((jadd_outside ..).trans (setRing_outside ..)) (jadd_outside ..)
  · exact jadd_outside ..

theorem openSlot_outside (d : Desc) (s : State) : Outside s (openSlot d s) := by
  unfold openSlot
  split
  · exact setRing_outside ..
  · exact Outside.refl s

/-- No journal entry is written between two states, and where no FENCE waits none waits after it. -/
abbrev NoEntry (s t : State) : Prop := t.cmd.jrnl = s.cmd.jrnl ∧ (s.hif.fences = [] → t.hif.fences = [])

theorem NoEntry.refl (s : State) : NoEntry s s := ⟨rfl, id⟩
theorem NoEntry.trans {s t u : State} (h : NoEntry s t) (k : NoEntry t u) : NoEntry s u := ⟨k.1.trans h.1, fun x => k.2 (h.2 x)⟩
theorem noEntry_ite {s a b : State} {c : Prop} [Decidable c] (ha : NoEntry s a) (hb : NoEntry s b) : NoEntry s (if c then a else b) := by
  split <;> assumption

theorem fput_noEntry (f : Field) (v : Nat) (s : State) : NoEntry s (fput f v s) := ⟨rfl, id⟩
theorem emit_noEntry (o : Output) (s : State) : NoEntry s (emit o s) := ⟨rfl, id⟩
theorem setRing_noEntry (r : Nat) (f : Ring → Ring) (s : State) : NoEntry s (setRing r f s) := ⟨rfl, id⟩
theorem hif_noEntry (h : Hif) (s : State) (k : s.hif.fences = [] → h.fences = []) : NoEntry s { s with hif := h } := ⟨rfl, k⟩
theorem dma_noEntry (o : Output) (s : State) : NoEntry s (dma o s) := noEntry_ite ⟨rfl, id⟩ ⟨rfl, id⟩
theorem interrupt_noEntry (v : Nat) (s : State) : NoEntry s (interrupt v s) := noEntry_ite ⟨rfl, id⟩ (noEntry_ite ⟨rfl, id⟩ ⟨rfl, id⟩)
theorem trySignal_noEntry (r : Nat) (s : State) : NoEntry s (trySignal r s) :=
  noEntry_ite ((setRing_noEntry ..).trans (interrupt_noEntry ..)) (NoEntry.refl s)
theorem postCq_noEntry (r : Nat) (body : List Byte) (b : Bool) (s : State) : NoEntry s (postCq r body b s) :=
  (dma_noEntry ..).trans ((setRing_noEntry ..).trans ((fput_noEntry ..).trans ((fput_noEntry ..).trans (trySignal_noEntry ..))))

theorem event_noEntry (src code a b : Nat) (s : State) : NoEntry s (event src code a b s) := by
  unfold event
  split
  · exact NoEntry.refl s
  · exact noEntry_ite (NoEntry.trans (hif_noEntry { s.hif with evtSeq := (s.hif.evtSeq + 1) % 2 ^ 32 } s id) ((setRing_noEntry ..).trans (postCq_noEntry ..)))
      (NoEntry.trans (hif_noEntry { s.hif with evtSeq := (s.hif.evtSeq + 1) % 2 ^ 32 } s id) ((setRing_noEntry ..).trans ((fput_noEntry ..).trans (fput_noEntry ..))))

theorem enterError_noEntry (r index reason : Nat) (s : State) : NoEntry s (enterError r index reason s) :=
  (fput_noEntry ..).trans ((fput_noEntry ..).trans ((fput_noEntry ..).trans ((fput_noEntry ..).trans ((fput_noEntry ..).trans
    ((fput_noEntry ..).trans ((fput_noEntry ..).trans (event_noEntry ..)))))))

theorem flush_noEntry (r n : Nat) (s : State) : NoEntry s (flush r n s) := by
  induction n generalizing s with
  | zero => exact NoEntry.refl s
  | succ n ih =>
    unfold flush
    split
    · exact NoEntry.refl s
    · split
      · exact NoEntry.refl s
      · split
        · exact NoEntry.refl s
        · have h := fun (f : Ring → Ring) body (b : Bool) => ((setRing_noEntry r f s).trans (postCq_noEntry r body b _)).trans
            (hif_noEntry { (postCq r body b (setRing r f s)).hif with fences := (postCq r body b (setRing r f s)).hif.fences.map (oweLess r) } _
              (fun h => by dsimp only; rw [h]; rfl))
          split
          · exact (h ..).trans (enterError_noEntry ..)
          · exact (h ..).trans (ih _)

theorem svcAnswer_noEntry (body : List Byte) (s : State) : NoEntry s (svcAnswer body s) := by
  unfold svcAnswer
  split
  · exact NoEntry.refl s
  · exact ⟨rfl, id⟩

theorem finish_noEntry (jb : Job) (status reason result : Nat) (data : List Byte) (s : State) :
    NoEntry s (finish jb status reason result data s) := by
  unfold finish deliver
  refine noEntry_ite (NoEntry.refl s) ?_
  split
  · exact svcAnswer_noEntry ..
  · exact (noEntry_ite (NoEntry.refl s) (dma_noEntry ..)).trans ((setRing_noEntry ..).trans (flush_noEntry ..))

theorem settle_noEntry (s : State) (h : s.hif.fences = []) : settle s = s := by
  unfold settle; rw [h]; rfl

/-- Where no FENCE waits, the newest entry of the journal after a refusal is the refusal's own. -/
theorem refuse_jrnl (op : Nat) (d : Desc) (status reason : Nat) (s : State) (h : s.hif.fences = []) :
    (refuse op d status reason s).cmd.jrnl = ({ jcommand s 0x0002 op d with status, reason } :: s.cmd.jrnl).take 1048576 := by
  have k : ∀ t, NoEntry (jadd { jcommand s 0x0002 op d with status, reason } s) t →
      (settle (finish { op, d } status reason 0 [] t)).cmd.jrnl = ({ jcommand s 0x0002 op d with status, reason } :: s.cmd.jrnl).take 1048576 := by
    intro t ht
    have h2 := ht.trans (finish_noEntry { op, d } status reason 0 [] t)
    rw [settle_noEntry _ (h2.2 h), h2.1]; rfl
  unfold refuse
  dsimp only
  apply k
  split
  · exact noEntry_ite (setRing_noEntry ..) (NoEntry.refl _)
  · exact NoEntry.refl _

/-! ### The register bank -/

/-- A filtered map has nothing at a key that the filter drops. -/
theorem look_filter_out {α : Type} {f : Nat × α → Bool} {a : Nat} (h : ∀ v, f (a, v) = false) (m : SMap α) :
    look (m.filter f) a = none := by
  induction m with
  | nil => rfl
  | cons p m ih =>
    obtain ⟨k, w⟩ := p
    rw [List.filter_cons]
    split
    · rename_i hk
      have : a ≠ k := by rintro rfl; rw [h w] at hk; exact absurd hk (by decide)
      rw [look, if_neg this, ih]; exact ite_self _
    · exact ih

/-- A filtered map has at a key that the filter keeps what the map has. -/
theorem look_filter_in {α : Type} {f : Nat × α → Bool} {a : Nat} (h : ∀ v, f (a, v) = true) {m : SMap α} (hm : SMap.wf m = true) :
    look (m.filter f) a = look m a := by
  induction m with
  | nil => rfl
  | cons p m ih =>
    obtain ⟨k, w⟩ := p
    have hk := wf_cons.mp hm
    rw [List.filter_cons]
    by_cases ha : a = k
    · subst ha; rw [if_pos (h w)]; simp [look]
    · split
      · rw [look, look, if_neg ha, if_neg ha, ih hk.2]
      · rw [look, if_neg ha, ih hk.2]
        split
        · exact look_above (fun q hq => by have := hk.1 q hq; omega)
        · rfl

/-- The key of a field. -/
abbrev keyOf (f : Field) : Nat := 8 * f.off + f.lsb

/-- Writing a field leaves every other key of the bank. -/
theorem look_bput_ne {f : Field} {v k : Nat} {b : Bank} (hb : SMap.wf b = true) (h : k ≠ keyOf f) : look (bput f v b) k = look b k := by
  unfold bput; dsimp only
  split
  · exact look_del_of_ne h hb
  · exact look_put_of_ne h _ hb

/-- Writing a field keeps the bank canonical. -/
theorem bput_canonical (f : Field) (v : Nat) (b : Bank) (hb : SMap.wf b = true) : SMap.wf (bput f v b) = true := by
  unfold bput; dsimp only; split
  · exact del_wf _ _ hb
  · exact put_wf _ _ _ hb

/-- Every listed register of a state that `p` names is as in another state, and the bank stays canonical. -/
abbrev KeepsRegs (p : Nat → Prop) (s t : State) : Prop :=
  SMap.wf s.regs = true → SMap.wf t.regs = true ∧ ∀ k, p k → look t.regs k = look s.regs k

theorem KeepsRegs.refl (p : Nat → Prop) (s : State) : KeepsRegs p s s := fun h => ⟨h, fun _ _ => rfl⟩
theorem KeepsRegs.trans {p : Nat → Prop} {s t u : State} (h : KeepsRegs p s t) (k : KeepsRegs p t u) : KeepsRegs p s u := fun w =>
  have ht := h w
  have hu := k ht.1
  ⟨hu.1, fun x px => (hu.2 x px).trans (ht.2 x px)⟩
theorem keepsRegs_eq {p : Nat → Prop} {s t : State} (h : t.regs = s.regs) : KeepsRegs p s t := fun w => ⟨h ▸ w, fun _ _ => by rw [h]⟩
theorem keepsRegs_fput {p : Nat → Prop} {f : Field} (h : ¬ p (keyOf f)) (v : Nat) (s : State) : KeepsRegs p s (fput f v s) := fun w =>
  ⟨bput_canonical _ _ _ w, fun _ px => look_bput_ne w (by rintro rfl; exact h px)⟩
theorem keepsRegs_ite {p : Nat → Prop} {s a b : State} {c : Prop} [Decidable c] (ha : KeepsRegs p s a) (hb : KeepsRegs p s b) :
    KeepsRegs p s (if c then a else b) := by split <;> assumption
theorem keepsRegs_forEach {p : Nat → Prop} {α : Type} (l : List α) (f : α → State → State) (h : ∀ x ∈ l, ∀ s, KeepsRegs p s (f x s)) (s : State) :
    KeepsRegs p s (forEach l s f) := by
  induction l generalizing s with
  | nil => exact KeepsRegs.refl p s
  | cons a l ih => exact (h a (by simp) s).trans (ih (fun x hx => h x (by simp [hx])) (f a s))

/-- A field that is written reads back. -/
theorem fget_fput_self {f : Field} {v : Nat} {s : State} (w : SMap.wf s.regs = true) (h : v < 2 ^ f.width) : fget (fput f v s) f = v := by
  unfold fget fput bput; dsimp only
  rw [Nat.mod_eq_of_lt h]
  split
  · rename_i h; rw [look_del_self _ w, h]; rfl
  · rw [look_put_self]; rfl

/-! ### Rings and the journal -/

/-- A ring that does not run posts no completion. -/
theorem flush_off {r n : Nat} {s : State} (h : ringState s r ≠ 1) : flush r n s = s := by
  cases n with
  | zero => rfl
  | succ n =>
    unfold flush
    split
    · rfl
    · split
      · rfl
      · rw [if_pos (.inl h)]

theorem le_length (n v : Nat) : (le n v).length = n := by
  induction n generalizing v with
  | zero => rfl
  | succ n ih => simp [le, ih]

/-- A journal entry writes in bank 0 alone. -/
theorem jadd_banks (e : JEntry) (s : State) (h : Mem.wf s.mem.data = true) (a : Nat) (ha : 0x30010000 ≤ a) :
    rd (jadd e s).mem.data a = rd s.mem.data a := by
  unfold jadd; dsimp only
  have hn : (tailHead s).next < 4096 := by
    unfold tailHead; dsimp only; split
    · exact Nat.mod_lt _ (by decide)
    · decide
  have hl : ∀ x : TailHead, x.bytes.length = 16 := by intro x; simp [TailHead.bytes, le_length]
  rw [rd_wrN_outside _ _ _ _ (.inr (by rw [hl]; simp only [tailHeadAt, bank0]; omega)) (wrN_wf _ _ _ h),
    rd_wrN_outside _ _ _ _ (.inr (by simp only [summary, List.length_append, le_length, bank0]; omega)) h]

end Sys2Proof.Machine
end

