-- ==== Sys2Proof/Laws/State.lean ====
section
/-! SUPPORT. What the basic updates of the state leave alone, field by field, and what a read gives after one: later proofs
unfold no record update. -/

namespace Sys2Proof.Machine

/-! ### Maps under two writes of one key -/

@[simp] theorem put_put {α : Type} (a : Nat) (v w : α) (m : SMap α) : put a v (put a w m) = put a v m := by
  induction m with
  | nil => simp [put]
  | cons p m ih =>
    obtain ⟨k, u⟩ := p
    by_cases h1 : a < k
    · simp [put, h1]
    · by_cases h2 : a = k
      · simp [put, h2]
      · simp [put, h1, h2, ih]

@[simp] theorem lookD_upd_self {α : Type} (a : Nat) (d : α) (f : α → α) (m : SMap α) :
    lookD (upd a d f m) a d = f (lookD m a d) := by simp [lookD, upd]

@[simp] theorem upd_upd {α : Type} (a : Nat) (d : α) (f g : α → α) (m : SMap α) :
    upd a d f (upd a d g m) = upd a d (fun x => f (g x)) m := by simp [upd, lookD]

/-! ### fput -/

@[simp] theorem fput_now (f : Field) (v : Nat) (s : State) : (fput f v s).now = s.now := rfl
@[simp] theorem fput_hiLatch (f : Field) (v : Nat) (s : State) : (fput f v s).hiLatch = s.hiLatch := rfl
@[simp] theorem fput_loStage (f : Field) (v : Nat) (s : State) : (fput f v s).loStage = s.loStage := rfl
@[simp] theorem fput_img (f : Field) (v : Nat) (s : State) : (fput f v s).img = s.img := rfl
@[simp] theorem fput_seq (f : Field) (v : Nat) (s : State) : (fput f v s).seq = s.seq := rfl
@[simp] theorem fput_prog (f : Field) (v : Nat) (s : State) : (fput f v s).prog = s.prog := rfl
@[simp] theorem fput_trl (f : Field) (v : Nat) (s : State) : (fput f v s).trl = s.trl := rfl
@[simp] theorem fput_net (f : Field) (v : Nat) (s : State) : (fput f v s).net = s.net := rfl
@[simp] theorem fput_red (f : Field) (v : Nat) (s : State) : (fput f v s).red = s.red := rfl
@[simp] theorem fput_cores (f : Field) (v : Nat) (s : State) : (fput f v s).cores = s.cores := rfl
@[simp] theorem fput_lanes (f : Field) (v : Nat) (s : State) : (fput f v s).lanes = s.lanes := rfl
@[simp] theorem fput_mem (f : Field) (v : Nat) (s : State) : (fput f v s).mem = s.mem := rfl
@[simp] theorem fput_fio (f : Field) (v : Nat) (s : State) : (fput f v s).fio = s.fio := rfl
@[simp] theorem fput_lpt (f : Field) (v : Nat) (s : State) : (fput f v s).lpt = s.lpt := rfl
@[simp] theorem fput_hif (f : Field) (v : Nat) (s : State) : (fput f v s).hif = s.hif := rfl
@[simp] theorem fput_cmd (f : Field) (v : Nat) (s : State) : (fput f v s).cmd = s.cmd := rfl
@[simp] theorem fput_boot (f : Field) (v : Nat) (s : State) : (fput f v s).boot = s.boot := rfl
@[simp] theorem fput_sec (f : Field) (v : Nat) (s : State) : (fput f v s).sec = s.sec := rfl
@[simp] theorem fput_sup (f : Field) (v : Nat) (s : State) : (fput f v s).sup = s.sup := rfl
@[simp] theorem fput_nv (f : Field) (v : Nat) (s : State) : (fput f v s).nv = s.nv := rfl
@[simp] theorem fput_rtc (f : Field) (v : Nat) (s : State) : (fput f v s).rtc = s.rtc := rfl
@[simp] theorem fput_recd (f : Field) (v : Nat) (s : State) : (fput f v s).recd = s.recd := rfl
@[simp] theorem fput_out (f : Field) (v : Nat) (s : State) : (fput f v s).out = s.out := rfl
@[simp] theorem fput_free (f : Field) (v : Nat) (s : State) : (fput f v s).free = s.free := rfl
@[simp] theorem fput_pending (f : Field) (v : Nat) (s : State) : (fput f v s).pending = s.pending := rfl

/-! ### raise -/

@[simp] theorem raise_now (f : Field) (s : State) : (raise f s).now = s.now := rfl
@[simp] theorem raise_hiLatch (f : Field) (s : State) : (raise f s).hiLatch = s.hiLatch := rfl
@[simp] theorem raise_loStage (f : Field) (s : State) : (raise f s).loStage = s.loStage := rfl
@[simp] theorem raise_img (f : Field) (s : State) : (raise f s).img = s.img := rfl
@[simp] theorem raise_seq (f : Field) (s : State) : (raise f s).seq = s.seq := rfl
@[simp] theorem raise_prog (f : Field) (s : State) : (raise f s).prog = s.prog := rfl
@[simp] theorem raise_trl (f : Field) (s : State) : (raise f s).trl = s.trl := rfl
@[simp] theorem raise_net (f : Field) (s : State) : (raise f s).net = s.net := rfl
@[simp] theorem raise_red (f : Field) (s : State) : (raise f s).red = s.red := rfl
@[simp] theorem raise_cores (f : Field) (s : State) : (raise f s).cores = s.cores := rfl
@[simp] theorem raise_lanes (f : Field) (s : State) : (raise f s).lanes = s.lanes := rfl
@[simp] theorem raise_mem (f : Field) (s : State) : (raise f s).mem = s.mem := rfl
@[simp] theorem raise_fio (f : Field) (s : State) : (raise f s).fio = s.fio := rfl
@[simp] theorem raise_lpt (f : Field) (s : State) : (raise f s).lpt = s.lpt := rfl
@[simp] theorem raise_hif (f : Field) (s : State) : (raise f s).hif = s.hif := rfl
@[simp] theorem raise_cmd (f : Field) (s : State) : (raise f s).cmd = s.cmd := rfl
@[simp] theorem raise_boot (f : Field) (s : State) : (raise f s).boot = s.boot := rfl
@[simp] theorem raise_sec (f : Field) (s : State) : (raise f s).sec = s.sec := rfl
@[simp] theorem raise_sup (f : Field) (s : State) : (raise f s).sup = s.sup := rfl
@[simp] theorem raise_nv (f : Field) (s : State) : (raise f s).nv = s.nv := rfl
@[simp] theorem raise_rtc (f : Field) (s : State) : (raise f s).rtc = s.rtc := rfl
@[simp] theorem raise_recd (f : Field) (s : State) : (raise f s).recd = s.recd := rfl
@[simp] theorem raise_out (f : Field) (s : State) : (raise f s).out = s.out := rfl
@[simp] theorem raise_free (f : Field) (s : State) : (raise f s).free = s.free := rfl
@[simp] theorem raise_pending (f : Field) (s : State) : (raise f s).pending = s.pending := rfl

/-! ### fputBit -/

@[simp] theorem fputBit_now (f : Field) (i : Nat) (v : Bool) (s : State) : (fputBit f i v s).now = s.now := rfl
@[simp] theorem fputBit_hiLatch (f : Field) (i : Nat) (v : Bool) (s : State) : (fputBit f i v s).hiLatch = s.hiLatch := rfl
@[simp] theorem fputBit_loStage (f : Field) (i : Nat) (v : Bool) (s : State) : (fputBit f i v s).loStage = s.loStage := rfl
@[simp] theorem fputBit_img (f : Field) (i : Nat) (v : Bool) (s : State) : (fputBit f i v s).img = s.img := rfl
@[simp] theorem fputBit_seq (f : Field) (i : Nat) (v : Bool) (s : State) : (fputBit f i v s).seq = s.seq := rfl
@[simp] theorem fputBit_prog (f : Field) (i : Nat) (v : Bool) (s : State) : (fputBit f i v s).prog = s.prog := rfl
@[simp] theorem fputBit_trl (f : Field) (i : Nat) (v : Bool) (s : State) : (fputBit f i v s).trl = s.trl := rfl
@[simp] theorem fputBit_net (f : Field) (i : Nat) (v : Bool) (s : State) : (fputBit f i v s).net = s.net := rfl
@[simp] theorem fputBit_red (f : Field) (i : Nat) (v : Bool) (s : State) : (fputBit f i v s).red = s.red := rfl
@[simp] theorem fputBit_cores (f : Field) (i : Nat) (v : Bool) (s : State) : (fputBit f i v s).cores = s.cores := rfl
@[simp] theorem fputBit_lanes (f : Field) (i : Nat) (v : Bool) (s : State) : (fputBit f i v s).lanes = s.lanes := rfl
@[simp] theorem fputBit_mem (f : Field) (i : Nat) (v : Bool) (s : State) : (fputBit f i v s).mem = s.mem := rfl
@[simp] theorem fputBit_fio (f : Field) (i : Nat) (v : Bool) (s : State) : (fputBit f i v s).fio = s.fio := rfl
@[simp] theorem fputBit_lpt (f : Field) (i : Nat) (v : Bool) (s : State) : (fputBit f i v s).lpt = s.lpt := rfl
@[simp] theorem fputBit_hif (f : Field) (i : Nat) (v : Bool) (s : State) : (fputBit f i v s).hif = s.hif := rfl
@[simp] theorem fputBit_cmd (f : Field) (i : Nat) (v : Bool) (s : State) : (fputBit f i v s).cmd = s.cmd := rfl
@[simp] theorem fputBit_boot (f : Field) (i : Nat) (v : Bool) (s : State) : (fputBit f i v s).boot = s.boot := rfl
@[simp] theorem fputBit_sec (f : Field) (i : Nat) (v : Bool) (s : State) : (fputBit f i v s).sec = s.sec := rfl
@[simp] theorem fputBit_sup (f : Field) (i : Nat) (v : Bool) (s : State) : (fputBit f i v s).sup = s.sup := rfl
@[simp] theorem fputBit_nv (f : Field) (i : Nat) (v : Bool) (s : State) : (fputBit f i v s).nv = s.nv := rfl
@[simp] theorem fputBit_rtc (f : Field) (i : Nat) (v : Bool) (s : State) : (fputBit f i v s).rtc = s.rtc := rfl
@[simp] theorem fputBit_recd (f : Field) (i : Nat) (v : Bool) (s : State) : (fputBit f i v s).recd = s.recd := rfl
@[simp] theorem fputBit_out (f : Field) (i : Nat) (v : Bool) (s : State) : (fputBit f i v s).out = s.out := rfl
@[simp] theorem fputBit_free (f : Field) (i : Nat) (v : Bool) (s : State) : (fputBit f i v s).free = s.free := rfl
@[simp] theorem fputBit_pending (f : Field) (i : Nat) (v : Bool) (s : State) : (fputBit f i v s).pending = s.pending := rfl

/-! ### bump -/

@[simp] theorem bump_now (f : Field) (n : Nat) (s : State) : (bump f n s).now = s.now := rfl
@[simp] theorem bump_hiLatch (f : Field) (n : Nat) (s : State) : (bump f n s).hiLatch = s.hiLatch := rfl
@[simp] theorem bump_loStage (f : Field) (n : Nat) (s : State) : (bump f n s).loStage = s.loStage := rfl
@[simp] theorem bump_img (f : Field) (n : Nat) (s : State) : (bump f n s).img = s.img := rfl
@[simp] theorem bump_seq (f : Field) (n : Nat) (s : State) : (bump f n s).seq = s.seq := rfl
@[simp] theorem bump_prog (f : Field) (n : Nat) (s : State) : (bump f n s).prog = s.prog := rfl
@[simp] theorem bump_trl (f : Field) (n : Nat) (s : State) : (bump f n s).trl = s.trl := rfl
@[simp] theorem bump_net (f : Field) (n : Nat) (s : State) : (bump f n s).net = s.net := rfl
@[simp] theorem bump_red (f : Field) (n : Nat) (s : State) : (bump f n s).red = s.red := rfl
@[simp] theorem bump_cores (f : Field) (n : Nat) (s : State) : (bump f n s).cores = s.cores := rfl
@[simp] theorem bump_lanes (f : Field) (n : Nat) (s : State) : (bump f n s).lanes = s.lanes := rfl
@[simp] theorem bump_mem (f : Field) (n : Nat) (s : State) : (bump f n s).mem = s.mem := rfl
@[simp] theorem bump_fio (f : Field) (n : Nat) (s : State) : (bump f n s).fio = s.fio := rfl
@[simp] theorem bump_lpt (f : Field) (n : Nat) (s : State) : (bump f n s).lpt = s.lpt := rfl
@[simp] theorem bump_hif (f : Field) (n : Nat) (s : State) : (bump f n s).hif = s.hif := rfl
@[simp] theorem bump_cmd (f : Field) (n : Nat) (s : State) : (bump f n s).cmd = s.cmd := rfl
@[simp] theorem bump_boot (f : Field) (n : Nat) (s : State) : (bump f n s).boot = s.boot := rfl
@[simp] theorem bump_sec (f : Field) (n : Nat) (s : State) : (bump f n s).sec = s.sec := rfl
@[simp] theorem bump_sup (f : Field) (n : Nat) (s : State) : (bump f n s).sup = s.sup := rfl
@[simp] theorem bump_nv (f : Field) (n : Nat) (s : State) : (bump f n s).nv = s.nv := rfl
@[simp] theorem bump_rtc (f : Field) (n : Nat) (s : State) : (bump f n s).rtc = s.rtc := rfl
@[simp] theorem bump_recd (f : Field) (n : Nat) (s : State) : (bump f n s).recd = s.recd := rfl
@[simp] theorem bump_out (f : Field) (n : Nat) (s : State) : (bump f n s).out = s.out := rfl
@[simp] theorem bump_free (f : Field) (n : Nat) (s : State) : (bump f n s).free = s.free := rfl
@[simp] theorem bump_pending (f : Field) (n : Nat) (s : State) : (bump f n s).pending = s.pending := rfl

/-! ### bumpWrap -/

@[simp] theorem bumpWrap_now (f : Field) (n : Nat) (s : State) : (bumpWrap f n s).now = s.now := rfl
@[simp] theorem bumpWrap_hiLatch (f : Field) (n : Nat) (s : State) : (bumpWrap f n s).hiLatch = s.hiLatch := rfl
@[simp] theorem bumpWrap_loStage (f : Field) (n : Nat) (s : State) : (bumpWrap f n s).loStage = s.loStage := rfl
@[simp] theorem bumpWrap_img (f : Field) (n : Nat) (s : State) : (bumpWrap f n s).img = s.img := rfl
@[simp] theorem bumpWrap_seq (f : Field) (n : Nat) (s : State) : (bumpWrap f n s).seq = s.seq := rfl
@[simp] theorem bumpWrap_prog (f : Field) (n : Nat) (s : State) : (bumpWrap f n s).prog = s.prog := rfl
@[simp] theorem bumpWrap_trl (f : Field) (n : Nat) (s : State) : (bumpWrap f n s).trl = s.trl := rfl
@[simp] theorem bumpWrap_net (f : Field) (n : Nat) (s : State) : (bumpWrap f n s).net = s.net := rfl
@[simp] theorem bumpWrap_red (f : Field) (n : Nat) (s : State) : (bumpWrap f n s).red = s.red := rfl
@[simp] theorem bumpWrap_cores (f : Field) (n : Nat) (s : State) : (bumpWrap f n s).cores = s.cores := rfl
@[simp] theorem bumpWrap_lanes (f : Field) (n : Nat) (s : State) : (bumpWrap f n s).lanes = s.lanes := rfl
@[simp] theorem bumpWrap_mem (f : Field) (n : Nat) (s : State) : (bumpWrap f n s).mem = s.mem := rfl
@[simp] theorem bumpWrap_fio (f : Field) (n : Nat) (s : State) : (bumpWrap f n s).fio = s.fio := rfl
@[simp] theorem bumpWrap_lpt (f : Field) (n : Nat) (s : State) : (bumpWrap f n s).lpt = s.lpt := rfl
@[simp] theorem bumpWrap_hif (f : Field) (n : Nat) (s : State) : (bumpWrap f n s).hif = s.hif := rfl
@[simp] theorem bumpWrap_cmd (f : Field) (n : Nat) (s : State) : (bumpWrap f n s).cmd = s.cmd := rfl
@[simp] theorem bumpWrap_boot (f : Field) (n : Nat) (s : State) : (bumpWrap f n s).boot = s.boot := rfl
@[simp] theorem bumpWrap_sec (f : Field) (n : Nat) (s : State) : (bumpWrap f n s).sec = s.sec := rfl
@[simp] theorem bumpWrap_sup (f : Field) (n : Nat) (s : State) : (bumpWrap f n s).sup = s.sup := rfl
@[simp] theorem bumpWrap_nv (f : Field) (n : Nat) (s : State) : (bumpWrap f n s).nv = s.nv := rfl
@[simp] theorem bumpWrap_rtc (f : Field) (n : Nat) (s : State) : (bumpWrap f n s).rtc = s.rtc := rfl
@[simp] theorem bumpWrap_recd (f : Field) (n : Nat) (s : State) : (bumpWrap f n s).recd = s.recd := rfl
@[simp] theorem bumpWrap_out (f : Field) (n : Nat) (s : State) : (bumpWrap f n s).out = s.out := rfl
@[simp] theorem bumpWrap_free (f : Field) (n : Nat) (s : State) : (bumpWrap f n s).free = s.free := rfl
@[simp] theorem bumpWrap_pending (f : Field) (n : Nat) (s : State) : (bumpWrap f n s).pending = s.pending := rfl

/-! ### bumpMax -/

@[simp] theorem bumpMax_now (f : Field) (v : Nat) (s : State) : (bumpMax f v s).now = s.now := rfl
@[simp] theorem bumpMax_hiLatch (f : Field) (v : Nat) (s : State) : (bumpMax f v s).hiLatch = s.hiLatch := rfl
@[simp] theorem bumpMax_loStage (f : Field) (v : Nat) (s : State) : (bumpMax f v s).loStage = s.loStage := rfl
@[simp] theorem bumpMax_img (f : Field) (v : Nat) (s : State) : (bumpMax f v s).img = s.img := rfl
@[simp] theorem bumpMax_seq (f : Field) (v : Nat) (s : State) : (bumpMax f v s).seq = s.seq := rfl
@[simp] theorem bumpMax_prog (f : Field) (v : Nat) (s : State) : (bumpMax f v s).prog = s.prog := rfl
@[simp] theorem bumpMax_trl (f : Field) (v : Nat) (s : State) : (bumpMax f v s).trl = s.trl := rfl
@[simp] theorem bumpMax_net (f : Field) (v : Nat) (s : State) : (bumpMax f v s).net = s.net := rfl
@[simp] theorem bumpMax_red (f : Field) (v : Nat) (s : State) : (bumpMax f v s).red = s.red := rfl
@[simp] theorem bumpMax_cores (f : Field) (v : Nat) (s : State) : (bumpMax f v s).cores = s.cores := rfl
@[simp] theorem bumpMax_lanes (f : Field) (v : Nat) (s : State) : (bumpMax f v s).lanes = s.lanes := rfl
@[simp] theorem bumpMax_mem (f : Field) (v : Nat) (s : State) : (bumpMax f v s).mem = s.mem := rfl
@[simp] theorem bumpMax_fio (f : Field) (v : Nat) (s : State) : (bumpMax f v s).fio = s.fio := rfl
@[simp] theorem bumpMax_lpt (f : Field) (v : Nat) (s : State) : (bumpMax f v s).lpt = s.lpt := rfl
@[simp] theorem bumpMax_hif (f : Field) (v : Nat) (s : State) : (bumpMax f v s).hif = s.hif := rfl
@[simp] theorem bumpMax_cmd (f : Field) (v : Nat) (s : State) : (bumpMax f v s).cmd = s.cmd := rfl
@[simp] theorem bumpMax_boot (f : Field) (v : Nat) (s : State) : (bumpMax f v s).boot = s.boot := rfl
@[simp] theorem bumpMax_sec (f : Field) (v : Nat) (s : State) : (bumpMax f v s).sec = s.sec := rfl
@[simp] theorem bumpMax_sup (f : Field) (v : Nat) (s : State) : (bumpMax f v s).sup = s.sup := rfl
@[simp] theorem bumpMax_nv (f : Field) (v : Nat) (s : State) : (bumpMax f v s).nv = s.nv := rfl
@[simp] theorem bumpMax_rtc (f : Field) (v : Nat) (s : State) : (bumpMax f v s).rtc = s.rtc := rfl
@[simp] theorem bumpMax_recd (f : Field) (v : Nat) (s : State) : (bumpMax f v s).recd = s.recd := rfl
@[simp] theorem bumpMax_out (f : Field) (v : Nat) (s : State) : (bumpMax f v s).out = s.out := rfl
@[simp] theorem bumpMax_free (f : Field) (v : Nat) (s : State) : (bumpMax f v s).free = s.free := rfl
@[simp] theorem bumpMax_pending (f : Field) (v : Nat) (s : State) : (bumpMax f v s).pending = s.pending := rfl

/-! ### resetBlock -/

@[simp] theorem resetBlock_now (lo hi : Nat) (s : State) : (resetBlock lo hi s).now = s.now := rfl
@[simp] theorem resetBlock_hiLatch (lo hi : Nat) (s : State) : (resetBlock lo hi s).hiLatch = s.hiLatch := rfl
@[simp] theorem resetBlock_loStage (lo hi : Nat) (s : State) : (resetBlock lo hi s).loStage = s.loStage := rfl
@[simp] theorem resetBlock_img (lo hi : Nat) (s : State) : (resetBlock lo hi s).img = s.img := rfl
@[simp] theorem resetBlock_seq (lo hi : Nat) (s : State) : (resetBlock lo hi s).seq = s.seq := rfl
@[simp] theorem resetBlock_prog (lo hi : Nat) (s : State) : (resetBlock lo hi s).prog = s.prog := rfl
@[simp] theorem resetBlock_trl (lo hi : Nat) (s : State) : (resetBlock lo hi s).trl = s.trl := rfl
@[simp] theorem resetBlock_net (lo hi : Nat) (s : State) : (resetBlock lo hi s).net = s.net := rfl
@[simp] theorem resetBlock_red (lo hi : Nat) (s : State) : (resetBlock lo hi s).red = s.red := rfl
@[simp] theorem resetBlock_cores (lo hi : Nat) (s : State) : (resetBlock lo hi s).cores = s.cores := rfl
@[simp] theorem resetBlock_lanes (lo hi : Nat) (s : State) : (resetBlock lo hi s).lanes = s.lanes := rfl
@[simp] theorem resetBlock_mem (lo hi : Nat) (s : State) : (resetBlock lo hi s).mem = s.mem := rfl
@[simp] theorem resetBlock_fio (lo hi : Nat) (s : State) : (resetBlock lo hi s).fio = s.fio := rfl
@[simp] theorem resetBlock_lpt (lo hi : Nat) (s : State) : (resetBlock lo hi s).lpt = s.lpt := rfl
@[simp] theorem resetBlock_hif (lo hi : Nat) (s : State) : (resetBlock lo hi s).hif = s.hif := rfl
@[simp] theorem resetBlock_cmd (lo hi : Nat) (s : State) : (resetBlock lo hi s).cmd = s.cmd := rfl
@[simp] theorem resetBlock_boot (lo hi : Nat) (s : State) : (resetBlock lo hi s).boot = s.boot := rfl
@[simp] theorem resetBlock_sec (lo hi : Nat) (s : State) : (resetBlock lo hi s).sec = s.sec := rfl
@[simp] theorem resetBlock_sup (lo hi : Nat) (s : State) : (resetBlock lo hi s).sup = s.sup := rfl
@[simp] theorem resetBlock_nv (lo hi : Nat) (s : State) : (resetBlock lo hi s).nv = s.nv := rfl
@[simp] theorem resetBlock_rtc (lo hi : Nat) (s : State) : (resetBlock lo hi s).rtc = s.rtc := rfl
@[simp] theorem resetBlock_recd (lo hi : Nat) (s : State) : (resetBlock lo hi s).recd = s.recd := rfl
@[simp] theorem resetBlock_out (lo hi : Nat) (s : State) : (resetBlock lo hi s).out = s.out := rfl
@[simp] theorem resetBlock_free (lo hi : Nat) (s : State) : (resetBlock lo hi s).free = s.free := rfl
@[simp] theorem resetBlock_pending (lo hi : Nat) (s : State) : (resetBlock lo hi s).pending = s.pending := rfl

/-! ### advance -/

@[simp] theorem advance_regs (t : Nat) (s : State) : (advance t s).regs = s.regs := rfl
@[simp] theorem advance_hiLatch (t : Nat) (s : State) : (advance t s).hiLatch = s.hiLatch := rfl
@[simp] theorem advance_loStage (t : Nat) (s : State) : (advance t s).loStage = s.loStage := rfl
@[simp] theorem advance_img (t : Nat) (s : State) : (advance t s).img = s.img := rfl
@[simp] theorem advance_seq (t : Nat) (s : State) : (advance t s).seq = s.seq := rfl
@[simp] theorem advance_prog (t : Nat) (s : State) : (advance t s).prog = s.prog := rfl
@[simp] theorem advance_trl (t : Nat) (s : State) : (advance t s).trl = s.trl := rfl
@[simp] theorem advance_net (t : Nat) (s : State) : (advance t s).net = s.net := rfl
@[simp] theorem advance_red (t : Nat) (s : State) : (advance t s).red = s.red := rfl
@[simp] theorem advance_cores (t : Nat) (s : State) : (advance t s).cores = s.cores := rfl
@[simp] theorem advance_lanes (t : Nat) (s : State) : (advance t s).lanes = s.lanes := rfl
@[simp] theorem advance_mem (t : Nat) (s : State) : (advance t s).mem = s.mem := rfl
@[simp] theorem advance_fio (t : Nat) (s : State) : (advance t s).fio = s.fio := rfl
@[simp] theorem advance_lpt (t : Nat) (s : State) : (advance t s).lpt = s.lpt := rfl
@[simp] theorem advance_hif (t : Nat) (s : State) : (advance t s).hif = s.hif := rfl
@[simp] theorem advance_cmd (t : Nat) (s : State) : (advance t s).cmd = s.cmd := rfl
@[simp] theorem advance_boot (t : Nat) (s : State) : (advance t s).boot = s.boot := rfl
@[simp] theorem advance_sec (t : Nat) (s : State) : (advance t s).sec = s.sec := rfl
@[simp] theorem advance_sup (t : Nat) (s : State) : (advance t s).sup = s.sup := rfl
@[simp] theorem advance_nv (t : Nat) (s : State) : (advance t s).nv = s.nv := rfl
@[simp] theorem advance_rtc (t : Nat) (s : State) : (advance t s).rtc = s.rtc := rfl
@[simp] theorem advance_recd (t : Nat) (s : State) : (advance t s).recd = s.recd := rfl
@[simp] theorem advance_out (t : Nat) (s : State) : (advance t s).out = s.out := rfl
@[simp] theorem advance_free (t : Nat) (s : State) : (advance t s).free = s.free := rfl
@[simp] theorem advance_pending (t : Nat) (s : State) : (advance t s).pending = s.pending := rfl

/-! ### toBoundary -/

@[simp] theorem toBoundary_regs (n : Nat) (s : State) : (toBoundary n s).regs = s.regs := rfl
@[simp] theorem toBoundary_hiLatch (n : Nat) (s : State) : (toBoundary n s).hiLatch = s.hiLatch := rfl
@[simp] theorem toBoundary_loStage (n : Nat) (s : State) : (toBoundary n s).loStage = s.loStage := rfl
@[simp] theorem toBoundary_img (n : Nat) (s : State) : (toBoundary n s).img = s.img := rfl
@[simp] theorem toBoundary_seq (n : Nat) (s : State) : (toBoundary n s).seq = s.seq := rfl
@[simp] theorem toBoundary_prog (n : Nat) (s : State) : (toBoundary n s).prog = s.prog := rfl
@[simp] theorem toBoundary_trl (n : Nat) (s : State) : (toBoundary n s).trl = s.trl := rfl
@[simp] theorem toBoundary_net (n : Nat) (s : State) : (toBoundary n s).net = s.net := rfl
@[simp] theorem toBoundary_red (n : Nat) (s : State) : (toBoundary n s).red = s.red := rfl
@[simp] theorem toBoundary_cores (n : Nat) (s : State) : (toBoundary n s).cores = s.cores := rfl
@[simp] theorem toBoundary_lanes (n : Nat) (s : State) : (toBoundary n s).lanes = s.lanes := rfl
@[simp] theorem toBoundary_mem (n : Nat) (s : State) : (toBoundary n s).mem = s.mem := rfl
@[simp] theorem toBoundary_fio (n : Nat) (s : State) : (toBoundary n s).fio = s.fio := rfl
@[simp] theorem toBoundary_lpt (n : Nat) (s : State) : (toBoundary n s).lpt = s.lpt := rfl
@[simp] theorem toBoundary_hif (n : Nat) (s : State) : (toBoundary n s).hif = s.hif := rfl
@[simp] theorem toBoundary_cmd (n : Nat) (s : State) : (toBoundary n s).cmd = s.cmd := rfl
@[simp] theorem toBoundary_boot (n : Nat) (s : State) : (toBoundary n s).boot = s.boot := rfl
@[simp] theorem toBoundary_sec (n : Nat) (s : State) : (toBoundary n s).sec = s.sec := rfl
@[simp] theorem toBoundary_sup (n : Nat) (s : State) : (toBoundary n s).sup = s.sup := rfl
@[simp] theorem toBoundary_nv (n : Nat) (s : State) : (toBoundary n s).nv = s.nv := rfl
@[simp] theorem toBoundary_rtc (n : Nat) (s : State) : (toBoundary n s).rtc = s.rtc := rfl
@[simp] theorem toBoundary_recd (n : Nat) (s : State) : (toBoundary n s).recd = s.recd := rfl
@[simp] theorem toBoundary_out (n : Nat) (s : State) : (toBoundary n s).out = s.out := rfl
@[simp] theorem toBoundary_free (n : Nat) (s : State) : (toBoundary n s).free = s.free := rfl
@[simp] theorem toBoundary_pending (n : Nat) (s : State) : (toBoundary n s).pending = s.pending := rfl

/-! ### emit -/

@[simp] theorem emit_now (o : Output) (s : State) : (emit o s).now = s.now := rfl
@[simp] theorem emit_regs (o : Output) (s : State) : (emit o s).regs = s.regs := rfl
@[simp] theorem emit_hiLatch (o : Output) (s : State) : (emit o s).hiLatch = s.hiLatch := rfl
@[simp] theorem emit_loStage (o : Output) (s : State) : (emit o s).loStage = s.loStage := rfl
@[simp] theorem emit_img (o : Output) (s : State) : (emit o s).img = s.img := rfl
@[simp] theorem emit_seq (o : Output) (s : State) : (emit o s).seq = s.seq := rfl
@[simp] theorem emit_prog (o : Output) (s : State) : (emit o s).prog = s.prog := rfl
@[simp] theorem emit_trl (o : Output) (s : State) : (emit o s).trl = s.trl := rfl
@[simp] theorem emit_net (o : Output) (s : State) : (emit o s).net = s.net := rfl
@[simp] theorem emit_red (o : Output) (s : State) : (emit o s).red = s.red := rfl
@[simp] theorem emit_cores (o : Output) (s : State) : (emit o s).cores = s.cores := rfl
@[simp] theorem emit_lanes (o : Output) (s : State) : (emit o s).lanes = s.lanes := rfl
@[simp] theorem emit_mem (o : Output) (s : State) : (emit o s).mem = s.mem := rfl
@[simp] theorem emit_fio (o : Output) (s : State) : (emit o s).fio = s.fio := rfl
@[simp] theorem emit_lpt (o : Output) (s : State) : (emit o s).lpt = s.lpt := rfl
@[simp] theorem emit_hif (o : Output) (s : State) : (emit o s).hif = s.hif := rfl
@[simp] theorem emit_cmd (o : Output) (s : State) : (emit o s).cmd = s.cmd := rfl
@[simp] theorem emit_boot (o : Output) (s : State) : (emit o s).boot = s.boot := rfl
@[simp] theorem emit_sec (o : Output) (s : State) : (emit o s).sec = s.sec := rfl
@[simp] theorem emit_sup (o : Output) (s : State) : (emit o s).sup = s.sup := rfl
@[simp] theorem emit_nv (o : Output) (s : State) : (emit o s).nv = s.nv := rfl
@[simp] theorem emit_rtc (o : Output) (s : State) : (emit o s).rtc = s.rtc := rfl
@[simp] theorem emit_recd (o : Output) (s : State) : (emit o s).recd = s.recd := rfl
@[simp] theorem emit_free (o : Output) (s : State) : (emit o s).free = s.free := rfl
@[simp] theorem emit_pending (o : Output) (s : State) : (emit o s).pending = s.pending := rfl

/-! ### setRing -/

@[simp] theorem setRing_now (r : Nat) (f : Ring → Ring) (s : State) : (setRing r f s).now = s.now := rfl
@[simp] theorem setRing_regs (r : Nat) (f : Ring → Ring) (s : State) : (setRing r f s).regs = s.regs := rfl
@[simp] theorem setRing_hiLatch (r : Nat) (f : Ring → Ring) (s : State) : (setRing r f s).hiLatch = s.hiLatch := rfl
@[simp] theorem setRing_loStage (r : Nat) (f : Ring → Ring) (s : State) : (setRing r f s).loStage = s.loStage := rfl
@[simp] theorem setRing_img (r : Nat) (f : Ring → Ring) (s : State) : (setRing r f s).img = s.img := rfl
@[simp] theorem setRing_seq (r : Nat) (f : Ring → Ring) (s : State) : (setRing r f s).seq = s.seq := rfl
@[simp] theorem setRing_prog (r : Nat) (f : Ring → Ring) (s : State) : (setRing r f s).prog = s.prog := rfl
@[simp] theorem setRing_trl (r : Nat) (f : Ring → Ring) (s : State) : (setRing r f s).trl = s.trl := rfl
@[simp] theorem setRing_net (r : Nat) (f : Ring → Ring) (s : State) : (setRing r f s).net = s.net := rfl
@[simp] theorem setRing_red (r : Nat) (f : Ring → Ring) (s : State) : (setRing r f s).red = s.red := rfl
@[simp] theorem setRing_cores (r : Nat) (f : Ring → Ring) (s : State) : (setRing r f s).cores = s.cores := rfl
@[simp] theorem setRing_lanes (r : Nat) (f : Ring → Ring) (s : State) : (setRing r f s).lanes = s.lanes := rfl
@[simp] theorem setRing_mem (r : Nat) (f : Ring → Ring) (s : State) : (setRing r f s).mem = s.mem := rfl
@[simp] theorem setRing_fio (r : Nat) (f : Ring → Ring) (s : State) : (setRing r f s).fio = s.fio := rfl
@[simp] theorem setRing_lpt (r : Nat) (f : Ring → Ring) (s : State) : (setRing r f s).lpt = s.lpt := rfl
@[simp] theorem setRing_cmd (r : Nat) (f : Ring → Ring) (s : State) : (setRing r f s).cmd = s.cmd := rfl
@[simp] theorem setRing_boot (r : Nat) (f : Ring → Ring) (s : State) : (setRing r f s).boot = s.boot := rfl
@[simp] theorem setRing_sec (r : Nat) (f : Ring → Ring) (s : State) : (setRing r f s).sec = s.sec := rfl
@[simp] theorem setRing_sup (r : Nat) (f : Ring → Ring) (s : State) : (setRing r f s).sup = s.sup := rfl
@[simp] theorem setRing_nv (r : Nat) (f : Ring → Ring) (s : State) : (setRing r f s).nv = s.nv := rfl
@[simp] theorem setRing_rtc (r : Nat) (f : Ring → Ring) (s : State) : (setRing r f s).rtc = s.rtc := rfl
@[simp] theorem setRing_recd (r : Nat) (f : Ring → Ring) (s : State) : (setRing r f s).recd = s.recd := rfl
@[simp] theorem setRing_out (r : Nat) (f : Ring → Ring) (s : State) : (setRing r f s).out = s.out := rfl
@[simp] theorem setRing_free (r : Nat) (f : Ring → Ring) (s : State) : (setRing r f s).free = s.free := rfl
@[simp] theorem setRing_pending (r : Nat) (f : Ring → Ring) (s : State) : (setRing r f s).pending = s.pending := rfl

/-! ### setCore -/

@[simp] theorem setCore_now (c : Nat) (f : Core → Core) (s : State) : (setCore c f s).now = s.now := rfl
@[simp] theorem setCore_regs (c : Nat) (f : Core → Core) (s : State) : (setCore c f s).regs = s.regs := rfl
@[simp] theorem setCore_hiLatch (c : Nat) (f : Core → Core) (s : State) : (setCore c f s).hiLatch = s.hiLatch := rfl
@[simp] theorem setCore_loStage (c : Nat) (f : Core → Core) (s : State) : (setCore c f s).loStage = s.loStage := rfl
@[simp] theorem setCore_img (c : Nat) (f : Core → Core) (s : State) : (setCore c f s).img = s.img := rfl
@[simp] theorem setCore_seq (c : Nat) (f : Core → Core) (s : State) : (setCore c f s).seq = s.seq := rfl
@[simp] theorem setCore_prog (c : Nat) (f : Core → Core) (s : State) : (setCore c f s).prog = s.prog := rfl
@[simp] theorem setCore_trl (c : Nat) (f : Core → Core) (s : State) : (setCore c f s).trl = s.trl := rfl
@[simp] theorem setCore_net (c : Nat) (f : Core → Core) (s : State) : (setCore c f s).net = s.net := rfl
@[simp] theorem setCore_red (c : Nat) (f : Core → Core) (s : State) : (setCore c f s).red = s.red := rfl
@[simp] theorem setCore_lanes (c : Nat) (f : Core → Core) (s : State) : (setCore c f s).lanes = s.lanes := rfl
@[simp] theorem setCore_mem (c : Nat) (f : Core → Core) (s : State) : (setCore c f s).mem = s.mem := rfl
@[simp] theorem setCore_fio (c : Nat) (f : Core → Core) (s : State) : (setCore c f s).fio = s.fio := rfl
@[simp] theorem setCore_lpt (c : Nat) (f : Core → Core) (s : State) : (setCore c f s).lpt = s.lpt := rfl
@[simp] theorem setCore_hif (c : Nat) (f : Core → Core) (s : State) : (setCore c f s).hif = s.hif := rfl
@[simp] theorem setCore_cmd (c : Nat) (f : Core → Core) (s : State) : (setCore c f s).cmd = s.cmd := rfl
@[simp] theorem setCore_boot (c : Nat) (f : Core → Core) (s : State) : (setCore c f s).boot = s.boot := rfl
@[simp] theorem setCore_sec (c : Nat) (f : Core → Core) (s : State) : (setCore c f s).sec = s.sec := rfl
@[simp] theorem setCore_sup (c : Nat) (f : Core → Core) (s : State) : (setCore c f s).sup = s.sup := rfl
@[simp] theorem setCore_nv (c : Nat) (f : Core → Core) (s : State) : (setCore c f s).nv = s.nv := rfl
@[simp] theorem setCore_rtc (c : Nat) (f : Core → Core) (s : State) : (setCore c f s).rtc = s.rtc := rfl
@[simp] theorem setCore_recd (c : Nat) (f : Core → Core) (s : State) : (setCore c f s).recd = s.recd := rfl
@[simp] theorem setCore_out (c : Nat) (f : Core → Core) (s : State) : (setCore c f s).out = s.out := rfl
@[simp] theorem setCore_free (c : Nat) (f : Core → Core) (s : State) : (setCore c f s).free = s.free := rfl
@[simp] theorem setCore_pending (c : Nat) (f : Core → Core) (s : State) : (setCore c f s).pending = s.pending := rfl

/-! ### setLane -/

@[simp] theorem setLane_now (l : Nat) (f : Lane → Lane) (s : State) : (setLane l f s).now = s.now := rfl
@[simp] theorem setLane_regs (l : Nat) (f : Lane → Lane) (s : State) : (setLane l f s).regs = s.regs := rfl
@[simp] theorem setLane_hiLatch (l : Nat) (f : Lane → Lane) (s : State) : (setLane l f s).hiLatch = s.hiLatch := rfl
@[simp] theorem setLane_loStage (l : Nat) (f : Lane → Lane) (s : State) : (setLane l f s).loStage = s.loStage := rfl
@[simp] theorem setLane_img (l : Nat) (f : Lane → Lane) (s : State) : (setLane l f s).img = s.img := rfl
@[simp] theorem setLane_seq (l : Nat) (f : Lane → Lane) (s : State) : (setLane l f s).seq = s.seq := rfl
@[simp] theorem setLane_prog (l : Nat) (f : Lane → Lane) (s : State) : (setLane l f s).prog = s.prog := rfl
@[simp] theorem setLane_trl (l : Nat) (f : Lane → Lane) (s : State) : (setLane l f s).trl = s.trl := rfl
@[simp] theorem setLane_net (l : Nat) (f : Lane → Lane) (s : State) : (setLane l f s).net = s.net := rfl
@[simp] theorem setLane_red (l : Nat) (f : Lane → Lane) (s : State) : (setLane l f s).red = s.red := rfl
@[simp] theorem setLane_cores (l : Nat) (f : Lane → Lane) (s : State) : (setLane l f s).cores = s.cores := rfl
@[simp] theorem setLane_mem (l : Nat) (f : Lane → Lane) (s : State) : (setLane l f s).mem = s.mem := rfl
@[simp] theorem setLane_fio (l : Nat) (f : Lane → Lane) (s : State) : (setLane l f s).fio = s.fio := rfl
@[simp] theorem setLane_lpt (l : Nat) (f : Lane → Lane) (s : State) : (setLane l f s).lpt = s.lpt := rfl
@[simp] theorem setLane_hif (l : Nat) (f : Lane → Lane) (s : State) : (setLane l f s).hif = s.hif := rfl
@[simp] theorem setLane_cmd (l : Nat) (f : Lane → Lane) (s : State) : (setLane l f s).cmd = s.cmd := rfl
@[simp] theorem setLane_boot (l : Nat) (f : Lane → Lane) (s : State) : (setLane l f s).boot = s.boot := rfl
@[simp] theorem setLane_sec (l : Nat) (f : Lane → Lane) (s : State) : (setLane l f s).sec = s.sec := rfl
@[simp] theorem setLane_sup (l : Nat) (f : Lane → Lane) (s : State) : (setLane l f s).sup = s.sup := rfl
@[simp] theorem setLane_nv (l : Nat) (f : Lane → Lane) (s : State) : (setLane l f s).nv = s.nv := rfl
@[simp] theorem setLane_rtc (l : Nat) (f : Lane → Lane) (s : State) : (setLane l f s).rtc = s.rtc := rfl
@[simp] theorem setLane_recd (l : Nat) (f : Lane → Lane) (s : State) : (setLane l f s).recd = s.recd := rfl
@[simp] theorem setLane_out (l : Nat) (f : Lane → Lane) (s : State) : (setLane l f s).out = s.out := rfl
@[simp] theorem setLane_free (l : Nat) (f : Lane → Lane) (s : State) : (setLane l f s).free = s.free := rfl
@[simp] theorem setLane_pending (l : Nat) (f : Lane → Lane) (s : State) : (setLane l f s).pending = s.pending := rfl

/-! ### setRun -/

@[simp] theorem setRun_now (t : Nat) (f : TaskRun → TaskRun) (s : State) : (setRun t f s).now = s.now := rfl
@[simp] theorem setRun_regs (t : Nat) (f : TaskRun → TaskRun) (s : State) : (setRun t f s).regs = s.regs := rfl
@[simp] theorem setRun_hiLatch (t : Nat) (f : TaskRun → TaskRun) (s : State) : (setRun t f s).hiLatch = s.hiLatch := rfl
@[simp] theorem setRun_loStage (t : Nat) (f : TaskRun → TaskRun) (s : State) : (setRun t f s).loStage = s.loStage := rfl
@[simp] theorem setRun_img (t : Nat) (f : TaskRun → TaskRun) (s : State) : (setRun t f s).img = s.img := rfl
@[simp] theorem setRun_prog (t : Nat) (f : TaskRun → TaskRun) (s : State) : (setRun t f s).prog = s.prog := rfl
@[simp] theorem setRun_trl (t : Nat) (f : TaskRun → TaskRun) (s : State) : (setRun t f s).trl = s.trl := rfl
@[simp] theorem setRun_net (t : Nat) (f : TaskRun → TaskRun) (s : State) : (setRun t f s).net = s.net := rfl
@[simp] theorem setRun_red (t : Nat) (f : TaskRun → TaskRun) (s : State) : (setRun t f s).red = s.red := rfl
@[simp] theorem setRun_cores (t : Nat) (f : TaskRun → TaskRun) (s : State) : (setRun t f s).cores = s.cores := rfl
@[simp] theorem setRun_lanes (t : Nat) (f : TaskRun → TaskRun) (s : State) : (setRun t f s).lanes = s.lanes := rfl
@[simp] theorem setRun_mem (t : Nat) (f : TaskRun → TaskRun) (s : State) : (setRun t f s).mem = s.mem := rfl
@[simp] theorem setRun_fio (t : Nat) (f : TaskRun → TaskRun) (s : State) : (setRun t f s).fio = s.fio := rfl
@[simp] theorem setRun_lpt (t : Nat) (f : TaskRun → TaskRun) (s : State) : (setRun t f s).lpt = s.lpt := rfl
@[simp] theorem setRun_hif (t : Nat) (f : TaskRun → TaskRun) (s : State) : (setRun t f s).hif = s.hif := rfl
@[simp] theorem setRun_cmd (t : Nat) (f : TaskRun → TaskRun) (s : State) : (setRun t f s).cmd = s.cmd := rfl
@[simp] theorem setRun_boot (t : Nat) (f : TaskRun → TaskRun) (s : State) : (setRun t f s).boot = s.boot := rfl
@[simp] theorem setRun_sec (t : Nat) (f : TaskRun → TaskRun) (s : State) : (setRun t f s).sec = s.sec := rfl
@[simp] theorem setRun_sup (t : Nat) (f : TaskRun → TaskRun) (s : State) : (setRun t f s).sup = s.sup := rfl
@[simp] theorem setRun_nv (t : Nat) (f : TaskRun → TaskRun) (s : State) : (setRun t f s).nv = s.nv := rfl
@[simp] theorem setRun_rtc (t : Nat) (f : TaskRun → TaskRun) (s : State) : (setRun t f s).rtc = s.rtc := rfl
@[simp] theorem setRun_recd (t : Nat) (f : TaskRun → TaskRun) (s : State) : (setRun t f s).recd = s.recd := rfl
@[simp] theorem setRun_out (t : Nat) (f : TaskRun → TaskRun) (s : State) : (setRun t f s).out = s.out := rfl
@[simp] theorem setRun_free (t : Nat) (f : TaskRun → TaskRun) (s : State) : (setRun t f s).free = s.free := rfl
@[simp] theorem setRun_pending (t : Nat) (f : TaskRun → TaskRun) (s : State) : (setRun t f s).pending = s.pending := rfl

/-! ### setAxis -/

@[simp] theorem setAxis_now (k : Nat) (f : Axis → Axis) (s : State) : (setAxis k f s).now = s.now := rfl
@[simp] theorem setAxis_regs (k : Nat) (f : Axis → Axis) (s : State) : (setAxis k f s).regs = s.regs := rfl
@[simp] theorem setAxis_hiLatch (k : Nat) (f : Axis → Axis) (s : State) : (setAxis k f s).hiLatch = s.hiLatch := rfl
@[simp] theorem setAxis_loStage (k : Nat) (f : Axis → Axis) (s : State) : (setAxis k f s).loStage = s.loStage := rfl
@[simp] theorem setAxis_img (k : Nat) (f : Axis → Axis) (s : State) : (setAxis k f s).img = s.img := rfl
@[simp] theorem setAxis_seq (k : Nat) (f : Axis → Axis) (s : State) : (setAxis k f s).seq = s.seq := rfl
@[simp] theorem setAxis_prog (k : Nat) (f : Axis → Axis) (s : State) : (setAxis k f s).prog = s.prog := rfl
@[simp] theorem setAxis_net (k : Nat) (f : Axis → Axis) (s : State) : (setAxis k f s).net = s.net := rfl
@[simp] theorem setAxis_red (k : Nat) (f : Axis → Axis) (s : State) : (setAxis k f s).red = s.red := rfl
@[simp] theorem setAxis_cores (k : Nat) (f : Axis → Axis) (s : State) : (setAxis k f s).cores = s.cores := rfl
@[simp] theorem setAxis_lanes (k : Nat) (f : Axis → Axis) (s : State) : (setAxis k f s).lanes = s.lanes := rfl
@[simp] theorem setAxis_mem (k : Nat) (f : Axis → Axis) (s : State) : (setAxis k f s).mem = s.mem := rfl
@[simp] theorem setAxis_fio (k : Nat) (f : Axis → Axis) (s : State) : (setAxis k f s).fio = s.fio := rfl
@[simp] theorem setAxis_lpt (k : Nat) (f : Axis → Axis) (s : State) : (setAxis k f s).lpt = s.lpt := rfl
@[simp] theorem setAxis_hif (k : Nat) (f : Axis → Axis) (s : State) : (setAxis k f s).hif = s.hif := rfl
@[simp] theorem setAxis_cmd (k : Nat) (f : Axis → Axis) (s : State) : (setAxis k f s).cmd = s.cmd := rfl
@[simp] theorem setAxis_boot (k : Nat) (f : Axis → Axis) (s : State) : (setAxis k f s).boot = s.boot := rfl
@[simp] theorem setAxis_sec (k : Nat) (f : Axis → Axis) (s : State) : (setAxis k f s).sec = s.sec := rfl
@[simp] theorem setAxis_sup (k : Nat) (f : Axis → Axis) (s : State) : (setAxis k f s).sup = s.sup := rfl
@[simp] theorem setAxis_nv (k : Nat) (f : Axis → Axis) (s : State) : (setAxis k f s).nv = s.nv := rfl
@[simp] theorem setAxis_rtc (k : Nat) (f : Axis → Axis) (s : State) : (setAxis k f s).rtc = s.rtc := rfl
@[simp] theorem setAxis_recd (k : Nat) (f : Axis → Axis) (s : State) : (setAxis k f s).recd = s.recd := rfl
@[simp] theorem setAxis_out (k : Nat) (f : Axis → Axis) (s : State) : (setAxis k f s).out = s.out := rfl
@[simp] theorem setAxis_free (k : Nat) (f : Axis → Axis) (s : State) : (setAxis k f s).free = s.free := rfl
@[simp] theorem setAxis_pending (k : Nat) (f : Axis → Axis) (s : State) : (setAxis k f s).pending = s.pending := rfl

/-! ### setChan -/

@[simp] theorem setChan_now (n : Nat) (f : Channel → Channel) (s : State) : (setChan n f s).now = s.now := rfl
@[simp] theorem setChan_regs (n : Nat) (f : Channel → Channel) (s : State) : (setChan n f s).regs = s.regs := rfl
@[simp] theorem setChan_hiLatch (n : Nat) (f : Channel → Channel) (s : State) : (setChan n f s).hiLatch = s.hiLatch := rfl
@[simp] theorem setChan_loStage (n : Nat) (f : Channel → Channel) (s : State) : (setChan n f s).loStage = s.loStage := rfl
@[simp] theorem setChan_img (n : Nat) (f : Channel → Channel) (s : State) : (setChan n f s).img = s.img := rfl
@[simp] theorem setChan_seq (n : Nat) (f : Channel → Channel) (s : State) : (setChan n f s).seq = s.seq := rfl
@[simp] theorem setChan_prog (n : Nat) (f : Channel → Channel) (s : State) : (setChan n f s).prog = s.prog := rfl
@[simp] theorem setChan_trl (n : Nat) (f : Channel → Channel) (s : State) : (setChan n f s).trl = s.trl := rfl
@[simp] theorem setChan_net (n : Nat) (f : Channel → Channel) (s : State) : (setChan n f s).net = s.net := rfl
@[simp] theorem setChan_red (n : Nat) (f : Channel → Channel) (s : State) : (setChan n f s).red = s.red := rfl
@[simp] theorem setChan_cores (n : Nat) (f : Channel → Channel) (s : State) : (setChan n f s).cores = s.cores := rfl
@[simp] theorem setChan_lanes (n : Nat) (f : Channel → Channel) (s : State) : (setChan n f s).lanes = s.lanes := rfl
@[simp] theorem setChan_mem (n : Nat) (f : Channel → Channel) (s : State) : (setChan n f s).mem = s.mem := rfl
@[simp] theorem setChan_lpt (n : Nat) (f : Channel → Channel) (s : State) : (setChan n f s).lpt = s.lpt := rfl
@[simp] theorem setChan_hif (n : Nat) (f : Channel → Channel) (s : State) : (setChan n f s).hif = s.hif := rfl
@[simp] theorem setChan_cmd (n : Nat) (f : Channel → Channel) (s : State) : (setChan n f s).cmd = s.cmd := rfl
@[simp] theorem setChan_boot (n : Nat) (f : Channel → Channel) (s : State) : (setChan n f s).boot = s.boot := rfl
@[simp] theorem setChan_sec (n : Nat) (f : Channel → Channel) (s : State) : (setChan n f s).sec = s.sec := rfl
@[simp] theorem setChan_sup (n : Nat) (f : Channel → Channel) (s : State) : (setChan n f s).sup = s.sup := rfl
@[simp] theorem setChan_nv (n : Nat) (f : Channel → Channel) (s : State) : (setChan n f s).nv = s.nv := rfl
@[simp] theorem setChan_rtc (n : Nat) (f : Channel → Channel) (s : State) : (setChan n f s).rtc = s.rtc := rfl
@[simp] theorem setChan_recd (n : Nat) (f : Channel → Channel) (s : State) : (setChan n f s).recd = s.recd := rfl
@[simp] theorem setChan_out (n : Nat) (f : Channel → Channel) (s : State) : (setChan n f s).out = s.out := rfl
@[simp] theorem setChan_free (n : Nat) (f : Channel → Channel) (s : State) : (setChan n f s).free = s.free := rfl
@[simp] theorem setChan_pending (n : Nat) (f : Channel → Channel) (s : State) : (setChan n f s).pending = s.pending := rfl

/-! ### setLoop -/

@[simp] theorem setLoop_now (x : Nat) (f : Loop → Loop) (s : State) : (setLoop x f s).now = s.now := rfl
@[simp] theorem setLoop_regs (x : Nat) (f : Loop → Loop) (s : State) : (setLoop x f s).regs = s.regs := rfl
@[simp] theorem setLoop_hiLatch (x : Nat) (f : Loop → Loop) (s : State) : (setLoop x f s).hiLatch = s.hiLatch := rfl
@[simp] theorem setLoop_loStage (x : Nat) (f : Loop → Loop) (s : State) : (setLoop x f s).loStage = s.loStage := rfl
@[simp] theorem setLoop_img (x : Nat) (f : Loop → Loop) (s : State) : (setLoop x f s).img = s.img := rfl
@[simp] theorem setLoop_seq (x : Nat) (f : Loop → Loop) (s : State) : (setLoop x f s).seq = s.seq := rfl
@[simp] theorem setLoop_prog (x : Nat) (f : Loop → Loop) (s : State) : (setLoop x f s).prog = s.prog := rfl
@[simp] theorem setLoop_trl (x : Nat) (f : Loop → Loop) (s : State) : (setLoop x f s).trl = s.trl := rfl
@[simp] theorem setLoop_net (x : Nat) (f : Loop → Loop) (s : State) : (setLoop x f s).net = s.net := rfl
@[simp] theorem setLoop_red (x : Nat) (f : Loop → Loop) (s : State) : (setLoop x f s).red = s.red := rfl
@[simp] theorem setLoop_cores (x : Nat) (f : Loop → Loop) (s : State) : (setLoop x f s).cores = s.cores := rfl
@[simp] theorem setLoop_lanes (x : Nat) (f : Loop → Loop) (s : State) : (setLoop x f s).lanes = s.lanes := rfl
@[simp] theorem setLoop_mem (x : Nat) (f : Loop → Loop) (s : State) : (setLoop x f s).mem = s.mem := rfl
@[simp] theorem setLoop_fio (x : Nat) (f : Loop → Loop) (s : State) : (setLoop x f s).fio = s.fio := rfl
@[simp] theorem setLoop_hif (x : Nat) (f : Loop → Loop) (s : State) : (setLoop x f s).hif = s.hif := rfl
@[simp] theorem setLoop_cmd (x : Nat) (f : Loop → Loop) (s : State) : (setLoop x f s).cmd = s.cmd := rfl
@[simp] theorem setLoop_boot (x : Nat) (f : Loop → Loop) (s : State) : (setLoop x f s).boot = s.boot := rfl
@[simp] theorem setLoop_sec (x : Nat) (f : Loop → Loop) (s : State) : (setLoop x f s).sec = s.sec := rfl
@[simp] theorem setLoop_sup (x : Nat) (f : Loop → Loop) (s : State) : (setLoop x f s).sup = s.sup := rfl
@[simp] theorem setLoop_nv (x : Nat) (f : Loop → Loop) (s : State) : (setLoop x f s).nv = s.nv := rfl
@[simp] theorem setLoop_rtc (x : Nat) (f : Loop → Loop) (s : State) : (setLoop x f s).rtc = s.rtc := rfl
@[simp] theorem setLoop_recd (x : Nat) (f : Loop → Loop) (s : State) : (setLoop x f s).recd = s.recd := rfl
@[simp] theorem setLoop_out (x : Nat) (f : Loop → Loop) (s : State) : (setLoop x f s).out = s.out := rfl
@[simp] theorem setLoop_free (x : Nat) (f : Loop → Loop) (s : State) : (setLoop x f s).free = s.free := rfl
@[simp] theorem setLoop_pending (x : Nat) (f : Loop → Loop) (s : State) : (setLoop x f s).pending = s.pending := rfl

/-! ### setCtx -/

@[simp] theorem setCtx_now (c : Nat) (x : Ctx) (s : State) : (setCtx c x s).now = s.now := rfl
@[simp] theorem setCtx_regs (c : Nat) (x : Ctx) (s : State) : (setCtx c x s).regs = s.regs := rfl
@[simp] theorem setCtx_hiLatch (c : Nat) (x : Ctx) (s : State) : (setCtx c x s).hiLatch = s.hiLatch := rfl
@[simp] theorem setCtx_loStage (c : Nat) (x : Ctx) (s : State) : (setCtx c x s).loStage = s.loStage := rfl
@[simp] theorem setCtx_img (c : Nat) (x : Ctx) (s : State) : (setCtx c x s).img = s.img := rfl
@[simp] theorem setCtx_seq (c : Nat) (x : Ctx) (s : State) : (setCtx c x s).seq = s.seq := rfl
@[simp] theorem setCtx_prog (c : Nat) (x : Ctx) (s : State) : (setCtx c x s).prog = s.prog := rfl
@[simp] theorem setCtx_trl (c : Nat) (x : Ctx) (s : State) : (setCtx c x s).trl = s.trl := rfl
@[simp] theorem setCtx_net (c : Nat) (x : Ctx) (s : State) : (setCtx c x s).net = s.net := rfl
@[simp] theorem setCtx_red (c : Nat) (x : Ctx) (s : State) : (setCtx c x s).red = s.red := rfl
@[simp] theorem setCtx_lanes (c : Nat) (x : Ctx) (s : State) : (setCtx c x s).lanes = s.lanes := rfl
@[simp] theorem setCtx_mem (c : Nat) (x : Ctx) (s : State) : (setCtx c x s).mem = s.mem := rfl
@[simp] theorem setCtx_fio (c : Nat) (x : Ctx) (s : State) : (setCtx c x s).fio = s.fio := rfl
@[simp] theorem setCtx_lpt (c : Nat) (x : Ctx) (s : State) : (setCtx c x s).lpt = s.lpt := rfl
@[simp] theorem setCtx_hif (c : Nat) (x : Ctx) (s : State) : (setCtx c x s).hif = s.hif := rfl
@[simp] theorem setCtx_cmd (c : Nat) (x : Ctx) (s : State) : (setCtx c x s).cmd = s.cmd := rfl
@[simp] theorem setCtx_boot (c : Nat) (x : Ctx) (s : State) : (setCtx c x s).boot = s.boot := rfl
@[simp] theorem setCtx_sec (c : Nat) (x : Ctx) (s : State) : (setCtx c x s).sec = s.sec := rfl
@[simp] theorem setCtx_sup (c : Nat) (x : Ctx) (s : State) : (setCtx c x s).sup = s.sup := rfl
@[simp] theorem setCtx_nv (c : Nat) (x : Ctx) (s : State) : (setCtx c x s).nv = s.nv := rfl
@[simp] theorem setCtx_rtc (c : Nat) (x : Ctx) (s : State) : (setCtx c x s).rtc = s.rtc := rfl
@[simp] theorem setCtx_recd (c : Nat) (x : Ctx) (s : State) : (setCtx c x s).recd = s.recd := rfl
@[simp] theorem setCtx_out (c : Nat) (x : Ctx) (s : State) : (setCtx c x s).out = s.out := rfl
@[simp] theorem setCtx_free (c : Nat) (x : Ctx) (s : State) : (setCtx c x s).free = s.free := rfl
@[simp] theorem setCtx_pending (c : Nat) (x : Ctx) (s : State) : (setCtx c x s).pending = s.pending := rfl

/-! ### fresh -/

@[simp] theorem fresh_now (s : State) : (fresh s).1.now = s.now := rfl
@[simp] theorem fresh_regs (s : State) : (fresh s).1.regs = s.regs := rfl
@[simp] theorem fresh_hiLatch (s : State) : (fresh s).1.hiLatch = s.hiLatch := rfl
@[simp] theorem fresh_loStage (s : State) : (fresh s).1.loStage = s.loStage := rfl
@[simp] theorem fresh_img (s : State) : (fresh s).1.img = s.img := rfl
@[simp] theorem fresh_seq (s : State) : (fresh s).1.seq = s.seq := rfl
@[simp] theorem fresh_prog (s : State) : (fresh s).1.prog = s.prog := rfl
@[simp] theorem fresh_trl (s : State) : (fresh s).1.trl = s.trl := rfl
@[simp] theorem fresh_net (s : State) : (fresh s).1.net = s.net := rfl
@[simp] theorem fresh_red (s : State) : (fresh s).1.red = s.red := rfl
@[simp] theorem fresh_cores (s : State) : (fresh s).1.cores = s.cores := rfl
@[simp] theorem fresh_lanes (s : State) : (fresh s).1.lanes = s.lanes := rfl
@[simp] theorem fresh_mem (s : State) : (fresh s).1.mem = s.mem := rfl
@[simp] theorem fresh_fio (s : State) : (fresh s).1.fio = s.fio := rfl
@[simp] theorem fresh_lpt (s : State) : (fresh s).1.lpt = s.lpt := rfl
@[simp] theorem fresh_hif (s : State) : (fresh s).1.hif = s.hif := rfl
@[simp] theorem fresh_cmd (s : State) : (fresh s).1.cmd = s.cmd := rfl
@[simp] theorem fresh_boot (s : State) : (fresh s).1.boot = s.boot := rfl
@[simp] theorem fresh_sec (s : State) : (fresh s).1.sec = s.sec := rfl
@[simp] theorem fresh_sup (s : State) : (fresh s).1.sup = s.sup := rfl
@[simp] theorem fresh_nv (s : State) : (fresh s).1.nv = s.nv := rfl
@[simp] theorem fresh_rtc (s : State) : (fresh s).1.rtc = s.rtc := rfl
@[simp] theorem fresh_recd (s : State) : (fresh s).1.recd = s.recd := rfl
@[simp] theorem fresh_out (s : State) : (fresh s).1.out = s.out := rfl
@[simp] theorem fresh_pending (s : State) : (fresh s).1.pending = s.pending := rfl

/-! ### Reads after writes -/

theorem fget_of_regs {s t : State} (h : t.regs = s.regs) (f : Field) : fget t f = fget s f := by simp [fget, h]

@[simp] theorem advance_fget (t : Nat) (s : State) (g : Field) : fget (advance t s) g = fget s g := rfl
@[simp] theorem toBoundary_fget (n : Nat) (s : State) (g : Field) : fget (toBoundary n s) g = fget s g := rfl
@[simp] theorem emit_fget (o : Output) (s : State) (g : Field) : fget (emit o s) g = fget s g := rfl
@[simp] theorem setRing_fget (r : Nat) (h : Ring → Ring) (s : State) (g : Field) : fget (setRing r h s) g = fget s g := rfl
@[simp] theorem setCore_fget (c : Nat) (h : Core → Core) (s : State) (g : Field) : fget (setCore c h s) g = fget s g := rfl
@[simp] theorem setLane_fget (l : Nat) (h : Lane → Lane) (s : State) (g : Field) : fget (setLane l h s) g = fget s g := rfl
@[simp] theorem setRun_fget (t : Nat) (h : TaskRun → TaskRun) (s : State) (g : Field) : fget (setRun t h s) g = fget s g := rfl
@[simp] theorem setAxis_fget (k : Nat) (h : Axis → Axis) (s : State) (g : Field) : fget (setAxis k h s) g = fget s g := rfl
@[simp] theorem setChan_fget (n : Nat) (h : Channel → Channel) (s : State) (g : Field) : fget (setChan n h s) g = fget s g := rfl
@[simp] theorem setLoop_fget (x : Nat) (h : Loop → Loop) (s : State) (g : Field) : fget (setLoop x h s) g = fget s g := rfl
@[simp] theorem setCtx_fget (c : Nat) (x : Ctx) (s : State) (g : Field) : fget (setCtx c x s) g = fget s g := rfl

@[simp] theorem core_setCore (k : Nat) (f : Core → Core) (s : State) : core (setCore k f s) k = f (core s k) := by
  simp [core, setCore]

@[simp] theorem setCore_setCore (k : Nat) (f g : Core → Core) (s : State) :
    setCore k f (setCore k g s) = setCore k (fun x => f (g x)) s := by
  simp [setCore]

@[simp] theorem lane_setLane (k : Nat) (f : Lane → Lane) (s : State) : lane (setLane k f s) k = f (lane s k) := by
  simp [lane, setLane]

@[simp] theorem setLane_setLane (k : Nat) (f g : Lane → Lane) (s : State) :
    setLane k f (setLane k g s) = setLane k (fun x => f (g x)) s := by
  simp [setLane]

@[simp] theorem run_setRun (k : Nat) (f : TaskRun → TaskRun) (s : State) : run (setRun k f s) k = f (run s k) := by
  simp [run, setRun]

@[simp] theorem setRun_setRun (k : Nat) (f g : TaskRun → TaskRun) (s : State) :
    setRun k f (setRun k g s) = setRun k (fun x => f (g x)) s := by
  simp [setRun]

@[simp] theorem axis_setAxis (k : Nat) (f : Axis → Axis) (s : State) : axis (setAxis k f s) k = f (axis s k) := by
  simp [axis, setAxis]

@[simp] theorem setAxis_setAxis (k : Nat) (f g : Axis → Axis) (s : State) :
    setAxis k f (setAxis k g s) = setAxis k (fun x => f (g x)) s := by
  simp [setAxis]

@[simp] theorem chan_setChan (k : Nat) (f : Channel → Channel) (s : State) : chan (setChan k f s) k = f (chan s k) := by
  simp [chan, setChan]

@[simp] theorem setChan_setChan (k : Nat) (f g : Channel → Channel) (s : State) :
    setChan k f (setChan k g s) = setChan k (fun x => f (g x)) s := by
  simp [setChan]

@[simp] theorem loop_setLoop (k : Nat) (f : Loop → Loop) (s : State) : loop (setLoop k f s) k = f (loop s k) := by
  simp [loop, setLoop]

@[simp] theorem setLoop_setLoop (k : Nat) (f g : Loop → Loop) (s : State) :
    setLoop k f (setLoop k g s) = setLoop k (fun x => f (g x)) s := by
  simp [setLoop]

@[simp] theorem ring_setRing (k : Nat) (f : Ring → Ring) (s : State) : ring (setRing k f s) k = f (ring s k) := by
  simp [ring, setRing]

@[simp] theorem setRing_setRing (k : Nat) (f g : Ring → Ring) (s : State) :
    setRing k f (setRing k g s) = setRing k (fun x => f (g x)) s := by
  simp [setRing]

theorem setCtx_eq (c : Nat) (x : Ctx) (s : State) : setCtx c x s = setCore c (fun k => { k with ctx := x }) s := rfl

end Sys2Proof.Machine
end

