-- ==== Sys2Proof/Tests/Slice0.lean ====
section
/-! SUPPORT. Concrete states that meet the hypotheses of every statement, terms that each check of WellFormed refuses, and the
check values and worked examples of the spec. -/

set_option maxRecDepth 100000

namespace Sys2Proof.Machine.Tests

open Reg Claims

theorem unrefused_before {k : Card} {d : Desc} {own : State → Option (Nat × Nat)} {s : State} (h1 : gate k d s = none)
    (h2 : gate k d (openSlot d s) = none) (h3 : bufferLost k d = false) (h4 : own s = none) : UnrefusedBefore k d own s := by
  unfold UnrefusedBefore refusalOf
  rw [h1, h2, h3, h4]
  exact ⟨rfl, rfl, rfl⟩

/-! ### Cycle cores and lanes -/

/-- Core 0 in RUNTIME mode with DZTRAP, g2 in data SRAM and a count in g3. -/
def evTrapState : State := setCore 0 (fun k => { k with ctx := { k.ctx with
  stat := 0x100, g := [(2, 0x10000000), (3, 65536)] } }) State.reset

/-- A SYNC task on core 0 and lane 0 that owns the first 64 bits of the view, a small data stack slice and timer 0. -/
def smallTask : TaskDef :=
  { kind := .sync, prio := 1, budget := 100, budgetSag := 50, lanes := 1, ranges := [{ start := 0, len := 64, out := true }]
    cores := [{ core := 0, entry := 0, dsLo := 0x1000, dsHi := 0x1100, depth := 8, pages := [0] }] }

def taskOn (rs : Nat) : State := setCore 0 (fun k => { k with task := some 0, ctx := { k.ctx with
  mode := .task, masked := false, ds := 0x1080, dsLo := 0x1000, dsHi := 0x1100, rs, rsLo := 0, rsHi := 8 } })
  { State.reset with prog.cur := { tasks := [(0, smallTask)], timers := [(0, { task := 0, preset := 10 })] } }

/-- Core 0 serving task 0 in its outermost frame, and one frame deeper. -/
def evTaskState : State := taskOn 1
def evFrameState : State := taskOn 2

/-- Lane 0 running a network of a task that owns the first 64 bits of the view and entry 0 of each table. -/
def laneState : State := setLane 0 (fun x => { x with task := some 0, running := true, ctx := {
    stack := [true, false], index := 0, net := some { lane := 0, first := 0, count := 8, reads := [], writes := [(0, 8)] } } })
  { State.reset with prog.cur := { tasks := [(0, smallTask)], timers := [(0, { task := 0, preset := 10 })]
                                   counters := [(0, { task := 0, preset := 3 })] } }

/-! ### Rings and commands -/

/-- Ring 5 in a set-up: its fields, its indices and its state. -/
def ringOf (kind state : Nat) : State :=
  State.reset |> fput (HIF_RING_CFG_KIND 5) kind |> fput (HIF_RING_CFG_LOG2SIZE 5) 4 |> fput (HIF_RING_STATUS_STATE 5) state

/-- Ring 5 RUNNING with two entries waiting. -/
def runningRing (kind : Nat) : State :=
  ringOf kind 1 |> fput (HIF_RING_CFG_ENABLE 5) 1 |> fput (HIF_RING_CFG_IRQ_EN 5) 1 |> fput HIF_STATUS_FW_UP 1
    |> fput HIF_STATUS_BME 1 |> setRing 5 (fun g => { g with sqTail := 2 })

def ringState3 : State := fput (HIF_RING_CFG_ENABLE 5) 1 (ringOf 0 3)
def mirrorState3 : State := fput (HIF_RING_CFG_ENABLE 5) 1 (ringOf 3 3)
def ringState1 : State := setRing 5 (fun g => { g with posted := [{ at_ := 0, irqNow := false }] }) (runningRing 0)
def nicState : State := runningRing 5

/-- A descriptor of ring 0 whose PARAMS are all 0, one with PARAMS, and one that names a buffer of 64 bytes. -/
def plainDesc : Desc := { origin := .ring 0, index := 0 }
def paramDesc (v : Nat) : Desc := { plainDesc with params := BitVec.ofNat 256 v }
def bufDesc (v : Nat) : Desc := { paramDesc v with bufAddr := 8, bufLen := 64 }

def imgReadDesc : Desc := bufDesc (2 ^ 32)
def forceReadDesc : Desc := bufDesc 0

/-! ### Controller and tasks -/

/-- A booted unit with a charged holdup store in a controller state. -/
def ctlIn (n : Nat) : State :=
  State.reset |> fput CTL_STATE_STATE n |> fput BOOT_STATUS_STATE 4 |> fput PWR_HOLDUP_SENSE_MV 24000
def runState : State := ctlIn 3
def stopState : State := ctlIn 2
def haltState : State := ctlIn 4

/-- A unit in RUN with a SYNC, a CYCLIC and a BACKGROUND task, and the same with task 0 in a phase. -/
def taskState : State :=
  { runState with
    prog.cur := { tasks := [(0, smallTask), (1, { smallTask with kind := .cyclic, period := 4 }),
                            (2, { smallTask with kind := .background, period := 100 })] }
    seq.bgDue := [(2, 0)] } |> fput NET_STATUS_CYCLE_RUN 1
def taskIn (p : Phase) : State := setRun 0 (fun r => { r with phase := p }) taskState
def pendingState : State := taskIn .pending
def copyingState : State := taskIn .copying
def runningState : State := taskIn .running

/-! ### Grafts -/

def graftOpenDesc : Desc := { paramDesc (112 * 2 ^ 64) with ident := 7 }
def graftDesc : Desc := { plainDesc with ident := 7 }

/-- Graft 7 of ring 0 in a state. -/
def graftIn (n : Nat) : State :=
  { State.reset with prog.origin := some (.ring 0) } |> fput CTL_GRAFT_STATUS_STATE n |> fput CTL_GRAFT_ID_ID 7

/-- A commit of selector 2 in cycle 1 in a unit that does not run, and its kinds. -/
def commitState : State :=
  { graftIn 3 with
    prog.commit := some ({ job := { op := 0x0204, d := graftDesc }, revert := false, auto := false, sel := 2, cycle := 1
                           gapUntil := secs 1, gapMs := 1000, confirmS := 0, sag2 := false, back := 2 } : GraftCommit) }
def layoutState : State := fput CTL_GRAFT_STATUS_KIND 1 commitState

/-- A confirm window that ends at time 0, with a kept generation. -/
def confirmState : State :=
  { graftIn 4 with prog.confirmUntil := some 0
                   prog.kept := some { prog := {}, kind := 0, reversible := true, reconvert := [], sag2 := false } }

/-! ### Trellis -/

def trellisState : State :=
  { runState with trl.edges := [{ time := 0, ch := 0, level := true, entry := 0 }], trl.pulses := [(0, 0)], fio.powerUp := false
                  fio.fail := 0, trl.axes := [(0, { sampleAt := some 0 })], trl.trimDue := [{ axis := 0, value := 5, cycle := 2 }] }
    |> fput (FIO_ENC_CFG_ENABLE 0) 1 |> fput (TRL_AXIS_CFG_ENABLE 0) 1 |> fput (TRL_AXIS_CFG_SOURCE 0) 1
    |> fput (TRL_AXIS_STATUS_STATE 0) 1 |> fput (FIO_CH_CFG_MODE 0) 3 |> fput (TRL_AXIS_CFG_SOURCE 1) 2
/-- Encoder 0 with A and Z at 1, which it has not taken yet. -/
def encoderState : State :=
  { trellisState with fio.ch := [(0, { level := true }), (2, { level := true, levelAt := 5 })] }
    |> fput (FIO_ENC_CFG_Z_EN 0) 1 |> fput (FIO_ENC_CFG_B_CH 0) 1 |> fput (FIO_ENC_CFG_Z_CH 0) 2
def coastState : State := fput (TRL_AXIS_STATUS_STATE 0) 2 trellisState
def axisSetDesc : Desc := paramDesc (1 + 2 ^ 8)
def entryReadDesc : Desc := bufDesc (256 * 2 ^ 16)

/-! ### Network -/

/-- A running drive cycle with a SETPOINT template due in cycle 0 and a plant window, without link. -/
def setpointTemplate : Template := { tx := true, port := 4, kind := 1, payloadLen := 8 }
def netState : State :=
  { runState with
    prog.cur := { templates := [(0, setpointTemplate)] }
    net.gatherCycle := 1, net.startFrom := some 0, net.stopFrom := some 0, net.resumeFrom := some 0
    net.ptp.lastDriveSync := some 0, net.ptp.lastDriveAnnounce := some 0 }
    |> fput NET_STATUS_CYCLE_RUN 1 |> fput NET_CYCLE_CFG_RUN 1 |> fput NET_PLANT_WIN_PLANT_LEN 10 |> fput (NET_PORT_CFG_ENABLE 0) 1
    |> fput (NET_PORT_CFG_PREEMPT_EN 0) 1 |> fput PWR_STATUS_STATE 1 |> fput NET_PTP_CFG_PLANT_EN 1

/-- Port 0 with link, and the plant domain with a slave port and a good Announce. -/
def linkState : State :=
  { netState with net.ptp.rank := some 5, net.ptp.lastAnnounce := some 0 }
    |> fput NET_STATUS_LINK 1 |> fput NET_STATUS_PLANT_PORT 1
def syncState : State := { netState with net.ptp.lastSync := some 0 } |> fput NET_PTP_CFG_SYNC_INTERVAL 0

/-- The payload of a drive frame with its 24-byte header (R160): kind, SENDER, epoch, PAIR_ID and cycle. -/
def frameBytes (kind sender ep pairId cycle : Nat) : List Byte :=
  let head := be 1 1 ++ be 1 kind ++ be 2 pairId ++ be 4 ep ++ be 8 cycle ++ be 2 sender ++ be 2 0 ++ be 2 4
  head ++ be 2 (crc16 head) ++ be 4 0
def frame (kind sender ep pairId cycle : Nat) : RxFrame :=
  { dst := 0, src := 0, etherType := BitVec.ofNat 16 (fget State.reset NET_FLANY_CFG_ETHERTYPE), at_ := 0
    payload := frameBytes kind sender ep pairId cycle }
def badFrame : RxFrame := { frame 2 7 0 1 0 with payload := be 4 1 }
def collectTemplate : Template := { tx := false, port := 4, kind := 2, sender := 7, payloadLen := 4 }
def mailbox (n : Nat) : Mailbox :=
  { dest := n, port := 0, service := 0, txn := 0, request := [], job := { op := 0x0901, d := plainDesc } }

/-- Drive port 0 and plant port 2 with link, a COLLECT template that has received, and two mailbox requests. -/
def frameState : State :=
  { runState with
    prog.cur := { templates := [(0, collectTemplate)] }
    net.tpl := [(0, { history := [1] })], net.mailbox := [mailbox 1, mailbox 2] }
    |> fput NET_STATUS_LINK 5 |> fput NET_PAIR_ID_PAIR_ID 1

/-! ### Pair -/

/-- A unit in pair code 1 that seeks a peer on lane 0, and what it may hear. -/
def pairState : State :=
  { runState with red.helloAt := some 0 } |> fput RED_CFG_PAIR_EN 1 |> fput RED_STATUS_PAIR_STATE 1 |> fput RED_STATUS_LANE0 1
def peerHello : Hello :=
  { pairId := 0, side := 1, code := 1, ctl := 3, epoch := 0, versions := [0, 0, 0, 0]
    fmt := fget State.reset RED_COMPAT_OWN_FMT, winMin := 0, winMax := 65535, at_ := 0 }
def oldHello : Hello := { peerHello with winMax := 0, winMin := 1 }

/-- An active unit of a REDUNDANT pair that hears its peer on both paths. -/
def redundantState : State :=
  { runState with
    red.lastA := some 0, red.lastB := some 0, red.faultSent := true
    red.unacked := [{ seq := 1, frag := 0, count := 1, msgId := 1, msg := .unfit 1, first := 0, last := 0 }]
    red.ownDigests := [{ task := 0, aborted := false, fromStandby := false, gen := 0, inst := 1, time := 0, digest := 0 }] }
    |> fput RED_STATUS_PAIR_STATE 4 |> fput RED_STATUS_LANE0 1 |> fput RED_STATUS_PATH_A 1 |> fput RED_STATUS_PATH_B 1
    |> fput RED_STATUS_FIT 1

/-- A Hedge frame of a type with no payload (R196). -/
def hedgeFrame (type : Nat) : List Byte :=
  let head := be 1 1 ++ be 1 type ++ be 22 0
  head ++ be 4 (crc32c head)
def ackFrame : List Byte := hedgeFrame 2
def digestFrame : List Byte := hedgeFrame 4

def shadowState : State :=
  { runState with red.mirrored := [(0, (1, 5))] } |> fput RED_STATUS_PAIR_STATE 5 |> fput RED_STATUS_FIT 1
def sourceState : State := { runState with red.xfer := some { started := 0, round := 0 } } |> fput RED_STATUS_PAIR_STATE 2
def joinState : State :=
  { runState with red.xfer := some { started := 0, round := 0, instant := some 0 } } |> fput RED_STATUS_PAIR_STATE 3
def overState : State := { shadowState with red.takeover := some 0 }

/-- A handover that the active has asked for, and one that the standby carries out. -/
def offerState : State :=
  { redundantState with red.handover := some ({ h := 2, source := true, accepted := false, outputsAt := none
                                                job := some { op := 0x0801, d := plainDesc } } : Handover) }
def releaseState : State :=
  { shadowState with red.handover := some ({ h := 2, source := false, accepted := true, outputsAt := some 0, job := none } : Handover) }
def degradedState : State :=
  { runState with red.peer := some peerHello } |> fput RED_CFG_PAIR_EN 1 |> fput RED_STATUS_PAIR_STATE 6

/-! ### Field channels and loops -/

/-- Channels 0 and 1 inputs, 2 to 4 outputs: 2 and 4 driven, 4 opened by an overload without latch. -/
def fieldState : State :=
  { runState with
    fio.powerUp := false, fio.fail := 0, fio.word := 0x14
    fio.ch := [(1, { comp := true }), (4, { opened := true })] }
    |> fput (FIO_CH_CFG_MODE 0) 1 |> fput (FIO_CH_CFG_MODE 1) 1 |> fput (FIO_CH_CFG_DEBOUNCE 0) 0 |> fput (FIO_CH_CFG_DEBOUNCE 1) 5
    |> fput (FIO_CH_CFG_OPEN_DET 1) 1 |> fput (FIO_CH_CFG_MODE 2) 2 |> fput (FIO_CH_CFG_MODE 3) 2 |> fput (FIO_CH_CFG_MODE 4) 2
    |> fput (FIO_CH_CFG_OVL_LATCH 2) 1 |> fput (FIO_CH_CFG_OVL_LATCH 4) 0 |> fput FIO_OUTPUT_LEVEL 4 |> fput FIO_OUTPUT_LEVEL 0x14
def sampledState : State := { fieldState with fio.inFrame := some { time := 0, seq := 1, st := 0, fl := 0, ok := 0, safe := 0 }, fio.outFrame := some 1 }
def silentState : State :=
  { fieldState with fio.silent := true, fio.timeouts := [(0, 10), (1, 0xFFFF)], fio.safeLatched := 2 }

/-- A deferred command of cycle 1 at the head of its list, in a controller state. -/
def dueJob (a : DefAct) : Deferred := { act := a, cycle := 1, job := { op := 0x0901, d := plainDesc } }
def due (a : DefAct) (n : Nat) : State := { ctlIn n with cmd.deferred := [dueJob a] }

/-- Loop 0 enabled, linked, silent, with a HART request and a trim; loop 1 with a frame on its way. -/
def loopState : State :=
  { runState with
    now := msec 200
    lpt := [(0, { powered := true, powerUp := false, silent := true
                  req := some { token := 3, long := false, primary := true, addr := 0, cmd := 0, data := [], at_ := 0 }
                  trim := some { stage := 1, stepAt := 0 } }),
            (1, { powered := true, powerUp := false, frame := some 5 })] }
    |> fput (LPT_LT_CFG_SAFE_TIMEOUT 0) 7 |> fput (LPT_LT_STAT_LINK_UP 0) 1 |> fput (LPT_LT_CFG_EN 0) 1
    |> fput (LPT_LT_CFG_HART_EN 0) 1 |> fput (LPT_LT_CFG_POLL_ADDR 0) 0
/-- Two preambles, a short frame of the primary master to address 0 with command 0, no data, and its check byte. -/
def hartGood : HartFrame := { raw := [0xFF, 0xFF, 0x02, 0x80, 0x00, 0x00, 0x82], at_ := 0 }
/-- Loop 0 off and then near its target for its times. -/
def devState : State := setLoop 0 (fun l => { l with devSince := some (secs 1), nearSince := some 0 }) { loopState with now := secs 1 }
def hartDesc : Desc := paramDesc (3 * 2 ^ 16)
def trimDesc (n : Nat) : Desc := paramDesc (n * 2 ^ 8)
def trimState : State := setLoop 0 (fun l => { l with trim := some { stage := 3, a1 := 4000000, a2 := 20000000, stepAt := 0 } }) loopState

/-! ### Transactions, NV store and clock -/

/-- Transaction 7 of ring 0 in a state. -/
def txnDesc : Desc := graftDesc
def plainTxn (st : TxnState) : Txn := { ident := 7, structural := false, origin := .ring 0, state := st }
def txnIn (x : Txn) : State := { runState with cmd.txns := [x] }
def txnState0 : State := txnIn (plainTxn .open_)
def commitTxn : State := txnIn { plainTxn .committing with due := 5 }
def rollbackTxn : State := txnIn { plainTxn .confirming with rollback := some true }
def gapTxn : State := txnIn { plainTxn .committing with sel := 2 }
def confirmTxn : State := txnIn { plainTxn .confirming with confirmUntil := some (secs 60) }

/-- One item: REC_CFG of 60 min. -/
def putDesc : Desc :=
  { txnDesc with bufAddr := 8, bufLen := 16, buf := le 4 0x8008 ++ le 4 4 ++ le 4 60 ++ le 4 0 }
def commitDesc : Desc := txnDesc

/-- A stopped unit with page writes waiting, an epoch record due and both ports of the clock in use. -/
def nvState : State :=
  { stopState with
    red.epochDue := some 0, rtc.counting := true, rtc.bar0 := { shadow := some ({}, 0), staging := some {}, commit := true } }
/-- A page write in progress, and an invalid time staged. -/
def busyState : State :=
  { stopState with
    nv.writing := some ({ fw := true, what := .record .pairEpoch false 1 [0] }, 0)
    rtc.fw.shadow := some ({}, 0), rtc.bar0 := { staging := some { month := 13 }, commit := true } }
/-- Four bytes of area USER0. -/
def nvReadDesc : Desc := bufDesc (0x30000 + 4 * 2 ^ 32)
def nvWriteDesc : Desc := { paramDesc (0x30000 + 4 * 2 ^ 32) with bufAddr := 8, bufLen := 4, buf := [1, 2, 3, 4] }
def rtcSetDesc : Desc := paramDesc (2 ^ 24 + 2 ^ 32)
def rtcAlarmDesc : Desc := paramDesc (2 ^ 8)
def unlockDesc (op : Nat) : Desc :=
  { paramDesc (4 + op * 2 ^ 8) with
    bufAddr := if op = 0 then 0 else 8, bufLen := if op = 0 then 0 else 16, buf := if op = 0 then [] else List.replicate 16 1 }

/-! ### Service port, boot and security -/

def svcState : State := fput NET_STATUS_SVC_LINK 1 stopState
/-- A request for RTC_READ in a session: header, tag and descriptor. -/
def svcHead (session seq : Nat) : List Byte := be 2 0x5653 ++ be 1 1 ++ be 1 0 ++ be 4 session ++ be 4 seq ++ be 2 64 ++ be 2 0
def svcBody : List Byte := be 2 0x0C01 ++ be 62 0
def svcRaw : List Byte := svcHead 0 0 ++ be 16 0 ++ svcBody
def sessionState : State := { svcState with cmd.session := some { num := 9, key := [1], lastSeq := some 5, lastAt := 0 } }
def sessionRaw : List Byte := svcHead 9 6 ++ svcTag [1] (svcHead 9 6) svcBody ++ svcBody
def jrnlDesc : Desc := bufDesc (2 ^ 64)

/-- OWNED, with a grant of ring 0, a slot of each usage for hosts, and a challenge of ring 0 and of the service port. -/
def secState : State :=
  { stopState with
    sec.life := 2, sec.grants := [(0, secs 50)], sec.challenges := [(.svc, le 32 1, 0), (.ring 0, le 32 2, 0)]
    sec.slots := [(1, { usage := 1, partners := 3, states := 15, key := [1] }), (2, { usage := 2, partners := 1, states := 15, key := [2] }),
                  (3, { usage := 3, partners := 1, states := 15, key := [3] })] }
    |> fput SEC_STATUS_RBG_OK 1 |> fput BOOT_SEC_VER_VERSION 3
def lockState : State := { secState with sec.lockUntil := some 7 }
def challengeDesc : Desc := bufDesc 0
def blobBytes (unit : List Byte) : List Byte :=
  le 4 0x424B5856 ++ le 1 1 ++ le 1 1 ++ le 1 1 ++ le 1 15 ++ le 1 2 ++ le 1 48 ++ le 2 0 ++ unit ++ le 4 0 ++ le 76 5
def wrapDesc : Desc := { plainDesc with flags := 16, bufAddr := 8, bufLen := 100, buf := blobBytes (le 8 0) }
def blobDesc (_ : State) : Desc := { plainDesc with bufAddr := 8, bufLen := 100, buf := blobBytes unitIdLe }
def responseDesc : Desc :=
  { plainDesc with bufAddr := 8, bufLen := 48, buf := Config.hmac384 [1] (responseInput secState (le 32 2)) }
def attestDesc : Desc := { bufDesc 1 with bufLen := 409 }
def debugDesc : Desc := paramDesc 1

/-- BLANK, with a TRANSPORT key in slot 0. -/
def blankState : State :=
  { secState with sec.life := 0, sec.slots := [(0, { usage := 3, partners := 1, states := 15, key := [3] })] }
def provisionDesc : Desc := { paramDesc 1 with bufAddr := 8, bufLen := 160, buf := List.replicate 160 0 }
def takeDesc : Desc := { paramDesc 2 with bufAddr := 8, bufLen := 160, buf := List.replicate 160 0 }
def lifeDesc (op value : Nat) : Desc := paramDesc (op + value * 2 ^ 32)

/-! ### Supervision, power and the recorder -/

/-- Debug level 2 with a RUNNING trace ring and one trace record. -/
def debugState : State :=
  { runState with sec.trace := [(0, 2, 0, 0, 0)] }
    |> fput DBG_STATUS_LEVEL 2 |> fput DBG_TRACE_CFG_EN 1 |> fput (HIF_RING_CFG_KIND 3) 4 |> fput (HIF_RING_STATUS_STATE 3) 1
    |> fput HIF_STATUS_FW_UP 1 |> fput HIF_STATUS_BME 1 |> fput (HIF_RING_CFG_LOG2SIZE 3) 4 |> setRing 3 (fun g => { g with sqTail := 2 })
def rollState : State := { runState with sup.rcChanged := [(0, 0, 2, 1, true)], sup.tOpen := 1, sup.tClose := 10 }
def powerDesc (t : Nat) : Desc := paramDesc t
def dormantState : State := fput PWR_STATUS_STATE 3 nvState
def wakingState : State := { dormantState with sup.wakeAt := some 5 }
def enteringState : State := { fput PWR_STATUS_STATE 2 nvState with sup.powerJob := some ({ op := 0x0E01, d := powerDesc 3 }, 3, 0) }
/-- On the way to HOLD, where nothing refuses it, and in RUN, where the controller does. -/
def movingState : State := { nvState with sup.powerJob := some ({ op := 0x0E01, d := powerDesc 2 }, 2, 0) }
def refusedMove : State := { runState with sup.powerJob := some ({ op := 0x0E01, d := powerDesc 2 }, 2, 0) }
/-- A page write of each kind in progress. -/
def writingState (n : Nat) : State :=
  { nvState with nv.writing := some ({ fw := true, what := match n with
    | 0 => .bytes 0x30000 [1]
    | 1 => .record .pairEpoch false 1 [0]
    | 2 => .consol 0x10000 [1]
    | _ => .emergency 0x10000 [1] }, 0) }
def consolState : State :=
  { nvState with recd.running := some { toB := false, seq := 1, time := 0, image := [], codes := [], page := 402 } }
def recState : State :=
  { nvState with recd.due := some 1, sec.challenges := secState.sec.challenges, sec.slots := secState.sec.slots } |> fput REC_CFG_INTERVAL_MIN 5
def clearingState : State :=
  { recState with recd.running := some { toB := false, seq := 1, time := 0, image := [], codes := [] } }
def recReadDesc : Desc := { bufDesc (2 ^ 32) with bufLen := 4096 }
def clearDesc (n : Nat) : Desc := paramDesc n
def tokenDesc (_ : State) : Desc :=
  { plainDesc with bufAddr := 8, bufLen := 48, buf := clearToken plainDesc [2] (le 32 2) }

/-! ### Witnesses of the hypotheses -/

/-- Words of the rows of IntegerArithmeticWritesItsResult that core 0 issues right after reset. -/
theorem witness_IntegerArithmetic : ∀ fn ∈ [0, 1, 2, 3, 4, 8, 9, 10, 11, 12, 24, 25, 26, 32, 33, 34, 35, 48, 49, 50, 51, 64, 65], EvGo State.reset 0 (BitVec.ofNat 32 (0 + fn)) ∧
      evOp (BitVec.ofNat 32 (0 + fn)) = 0 ∧ evFn (BitVec.ofNat 32 (0 + fn)) = fn := by decide

/-- Register shifts that core 0 issues right after reset. -/
theorem witness_RegisterShifts : ∀ fn ∈ [16, 17, 18, 19, 20], EvGo State.reset 0 (BitVec.ofNat 32 (0 + fn)) ∧
      evOp (BitVec.ofNat 32 (0 + fn)) = 0 ∧ evFn (BitVec.ofNat 32 (0 + fn)) = fn := by decide

/-- Divisions by 0 that core 0 issues: without DZTRAP as it stands after reset, and with it. -/
theorem witness_Division : ∀ fn ∈ [56, 57, 58, 59], EvGo State.reset 0 (BitVec.ofNat 32 (0 + fn)) ∧
      evOp (BitVec.ofNat 32 (0 + fn)) = 0 ∧ evFn (BitVec.ofNat 32 (0 + fn)) = fn := by decide

theorem witness_DivisionTrap : EvGo evTrapState 0 0x38 ∧ gReg (core evTrapState 0).ctx 0 = 0 ∧
    (core evTrapState 0).ctx.stat.getLsbD 8 = true := by decide

/-- Words of the immediate, field and permutation rows that core 0 issues right after reset; the five KINDs of SHI. -/
theorem witness_Immediate : ∀ op ∈ [1, 2, 3, 4, 6, 7, 0x11], EvGo State.reset 0 (BitVec.ofNat 32 (op * 4194304)) ∧
    evOp (BitVec.ofNat 32 (op * 4194304)) = op := by decide

theorem witness_Shi : ∀ k ∈ [0, 1, 2, 3, 4], EvGo State.reset 0 (BitVec.ofNat 32 (5 * 4194304 + k * 512)) ∧
    evOp (BitVec.ofNat 32 (5 * 4194304 + k * 512)) = 5 ∧ bits (BitVec.ofNat 32 (5 * 4194304 + k * 512)).toNat 9 3 = k := by
  decide

theorem witness_Field : ∀ op ∈ [8, 9, 10], EvGo State.reset 0 (BitVec.ofNat 32 (op * 4194304 + 2048)) ∧
    evOp (BitVec.ofNat 32 (op * 4194304 + 2048)) = op := by decide

/-- Words of the comparison rows that core 0 issues right after reset, for CMODE 0, 1 and 2. -/
theorem witness_Comparison : ∀ m ∈ [0, 1, 2], ∀ fn ∈ [0, 1, 2, 3, 4, 5, 6],
    EvGo State.reset 0 (BitVec.ofNat 32 (0x0B * 4194304 + m * 131072 + fn)) ∧
      evOp (BitVec.ofNat 32 (0x0B * 4194304 + m * 131072 + fn)) = 0x0B ∧
      evFn (BitVec.ofNat 32 (0x0B * 4194304 + m * 131072 + fn)) = fn ∧
      bits (BitVec.ofNat 32 (0x0B * 4194304 + m * 131072 + fn)).toNat 17 2 = m := by decide

theorem witness_ComparisonImmediate : ∀ m ∈ [0, 1, 2], ∀ op ∈ [12, 13, 14, 15],
    EvGo State.reset 0 (BitVec.ofNat 32 (op * 4194304 + m * 131072)) ∧
      evOp (BitVec.ofNat 32 (op * 4194304 + m * 131072)) = op ∧
      bits (BitVec.ofNat 32 (op * 4194304 + m * 131072)).toNat 17 2 = m := by decide

theorem witness_Predicate : ∀ n ∈ [0, 1, 2, 3], EvGo State.reset 0 (BitVec.ofNat 32 (0x10 * 4194304 + n * 256)) ∧
    evOp (BitVec.ofNat 32 (0x10 * 4194304 + n * 256)) = 0x10 ∧
    bits (BitVec.ofNat 32 (0x10 * 4194304 + n * 256)).toNat 8 3 = n := by decide

/-- Words of the floating-point rows that core 0 issues right after reset. -/
theorem witness_Fp32 : ∀ fn ∈ [0, 1, 2, 3, 4, 5, 6, 7, 8], EvGo State.reset 0 (BitVec.ofNat 32 (159383552 + fn)) ∧
      evOp (BitVec.ofNat 32 (159383552 + fn)) = 38 ∧ evFn (BitVec.ofNat 32 (159383552 + fn)) = fn := by decide

theorem witness_Fp64 : ∀ fn ∈ [0, 1, 2, 3, 4, 5, 6, 7, 8], EvGo State.reset 0 (BitVec.ofNat 32 (163577856 + fn)) ∧
      evOp (BitVec.ofNat 32 (163577856 + fn)) = 39 ∧ evFn (BitVec.ofNat 32 (163577856 + fn)) = fn := by decide

theorem witness_Fcvt : ∀ fn ∈ [0, 1, 2, 3, 4, 8, 9, 10, 11, 12, 16, 17], EvGo State.reset 0 (BitVec.ofNat 32 (171966464 + fn)) ∧
      evOp (BitVec.ofNat 32 (171966464 + fn)) = 41 ∧ evFn (BitVec.ofNat 32 (171966464 + fn)) = fn := by decide

/-- Words of the floating-point comparisons, with CMODE 0, 1 and 2, that core 0 issues right after reset. -/
theorem witness_Fcmp : ∀ m ∈ [0, 1, 2], ∀ fn ∈ [0, 1, 2, 3, 16, 17, 18, 19],
    EvGo State.reset 0 (BitVec.ofNat 32 (0x28 * 4194304 + m * 131072 + fn)) ∧
      evOp (BitVec.ofNat 32 (0x28 * 4194304 + m * 131072 + fn)) = 0x28 ∧
      evFn (BitVec.ofNat 32 (0x28 * 4194304 + m * 131072 + fn)) = fn ∧
      bits (BitVec.ofNat 32 (0x28 * 4194304 + m * 131072 + fn)).toNat 17 2 = m := by decide

/-- Image-bit words of a task that owns the first 64 bits of the view as an output range. -/
theorem witness_ImageBits : (∀ op ∈ [0x12, 0x13], ∀ m ∈ [0, 1, 2, 3],
    EvGo evTaskState 0 (BitVec.ofNat 32 (op * 4194304 + m * 131072 + 63)) ∧
      evOp (BitVec.ofNat 32 (op * 4194304 + m * 131072 + 63)) = op ∧
      bits (BitVec.ofNat 32 (op * 4194304 + m * 131072 + 63)).toNat 17 2 = m) ∧
    bitPlace evTaskState 0 63 false = .ok 0 ∧ bitPlace evTaskState 0 63 true = .ok 0 ∧
    bitOf (core evTaskState 0).ctx 63 = 63 ∧ pReg (core evTaskState 0).ctx 0 = true ∧ pReg (core evTaskState 0).ctx 1 = false := by
  decide

/-- Loads of local memory by the runtime on core 0 right after reset, at address 0. -/
theorem witness_Loads : (∀ op ∈ [0x14, 0x15, 0x16, 0x17, 0x18, 0x1C, 0x20],
    EvGo State.reset 0 (BitVec.ofNat 32 (op * 4194304)) ∧ evOp (BitVec.ofNat 32 (op * 4194304)) = op) ∧
    (∀ n ∈ [1, 2, 4, 8], place State.reset 0 (core State.reset 0).ctx (addrOf (core State.reset 0).ctx 0 n) n false false = .ok .local_) ∧
    place State.reset 0 (core State.reset 0).ctx (slotOf (core State.reset 0).ctx 0) 4 false false = .ok .local_ ∧
    offStack (core State.reset 0).ctx (slotOf (core State.reset 0).ctx 0) = false := by decide

/-- Stores to local memory, an atomic on data SRAM at the address that g2 holds, and a stack step, by the runtime on core 0. -/
theorem witness_Stores : (∀ op ∈ [0x19, 0x1A, 0x1B, 0x1D, 0x1F, 0x21],
    EvGo State.reset 0 (BitVec.ofNat 32 (op * 4194304)) ∧ evOp (BitVec.ofNat 32 (op * 4194304)) = op) ∧
    (∀ n ∈ [1, 2, 4, 8], place State.reset 0 (core State.reset 0).ctx (addrOf (core State.reset 0).ctx 0 n) n true false = .ok .local_) ∧
    place State.reset 0 (core State.reset 0).ctx (slotOf (core State.reset 0).ctx 0) 4 true false = .ok .local_ ∧
    (core State.reset 0).ctx.mode = .runtime := by decide

theorem witness_Atomics : ∀ fn ∈ [0, 1], EvGo evTrapState 0 (BitVec.ofNat 32 (0x1E * 4194304 + 2 * 4096 + fn)) ∧
    evOp (BitVec.ofNat 32 (0x1E * 4194304 + 2 * 4096 + fn)) = 0x1E ∧ evFn (BitVec.ofNat 32 (0x1E * 4194304 + 2 * 4096 + fn)) = fn ∧
    place evTrapState 0 (core evTrapState 0).ctx (gReg (core evTrapState 0).ctx 2 + 0) 4 true true = .ok .sram := by decide

theorem witness_StackStepInTask : EvGo evTaskState 0 (BitVec.ofNat 32 (0x1F * 4194304)) ∧
    (core evTaskState 0).ctx.mode = .task ∧ (core evTaskState 0).ctx.dsLo ≤ (core evTaskState 0).ctx.ds ∧
    (core evTaskState 0).ctx.ds ≤ (core evTaskState 0).ctx.dsHi := by decide

/-- Canonical memories right after reset: the premises of StoresChangeOnlyTheirBytes beside those of witness_Stores. -/
theorem witness_StoreFrame : SMap.wf State.reset.seq.runs = true ∧ SMap.wf State.reset.cores = true ∧
    SMap.wf evTrapState.cores = true ∧ Mem.wf State.reset.mem.data = true ∧
    Mem.wf (core State.reset 0).mem = true ∧ SMap.wf evTrapState.seq.runs = true ∧ Mem.wf evTrapState.mem.data = true ∧
    Mem.wf (core evTrapState 0).mem = true := by decide

theorem witness_StoreFrameViews : (∀ u, Mem.wf (run State.reset u).view = true) ∧ ∀ u, Mem.wf (run evTrapState u).view = true :=
  ⟨fun _ => rfl, fun _ => rfl⟩

/-- Control transfers of the runtime on core 0 right after reset, to address 0, and the RETs of a task. -/
theorem witness_ControlTransfers : (∀ op ∈ [0x22, 0x23], EvGo State.reset 0 (BitVec.ofNat 32 (op * 4194304)) ∧
      evOp (BitVec.ofNat 32 (op * 4194304)) = op) ∧
    (∀ fn ∈ [0, 1, 2], EvGo State.reset 0 (BitVec.ofNat 32 (0x24 * 4194304 + fn)) ∧
      evOp (BitVec.ofNat 32 (0x24 * 4194304 + fn)) = 0x24 ∧ evFn (BitVec.ofNat 32 (0x24 * 4194304 + fn)) = fn) ∧
    (core State.reset 0).ctx.mode = .runtime ∧ badTarget State.reset 0 (core State.reset 0).ctx 0 = false := by decide

theorem witness_TaskReturns : EvGo evTaskState 0 (BitVec.ofNat 32 (0x24 * 4194304)) ∧ (core evTaskState 0).ctx.mode = .task ∧
    (core evTaskState 0).ctx.rs = (core evTaskState 0).ctx.rsLo + 1 ∧ (core evTaskState 0).task = some 0 ∧
    (core evTaskState 0).ctx.rs < (core evTaskState 0).ctx.rsHi ∧
    EvGo evFrameState 0 (BitVec.ofNat 32 (0x24 * 4194304)) ∧ (core evFrameState 0).ctx.mode = .task ∧
    (core evFrameState 0).ctx.rsLo + 1 < (core evFrameState 0).ctx.rs := by decide

/-- System words of the runtime on core 0 right after reset: in RUNTIME mode every special register is readable and writable,
and the word behind a REP is the 0 of an unwritten code byte. -/
theorem witness_SystemInstructions : (∀ op ∈ [0x25], EvGo State.reset 0 (BitVec.ofNat 32 (op * 4194304)) ∧
      evOp (BitVec.ofNat 32 (op * 4194304)) = op) ∧
    evNoRepeat 0 = false ∧ BitVec.ofNat 32 (ofLe (rdN State.reset.mem.code 4 4)) = 0 ∧
    (∀ op ∈ [0x2C, 0x2E], ∀ fn ∈ [0, 1], EvGo State.reset 0 (BitVec.ofNat 32 (op * 4194304 + fn)) ∧
      evOp (BitVec.ofNat 32 (op * 4194304 + fn)) = op ∧ evFn (BitVec.ofNat 32 (op * 4194304 + fn)) = fn) ∧
    (core State.reset 0).ctx.mode = .runtime ∧ (core State.reset 0).ctx.pc = 0 := by decide

theorem witness_SpecialRegisterReads : ∀ n ∈ List.range 14, EvGo State.reset 0 (BitVec.ofNat 32 (0x2B * 4194304 + n * 4096)) ∧
    evOp (BitVec.ofNat 32 (0x2B * 4194304 + n * 4096)) = 0x2B ∧ evFn (BitVec.ofNat 32 (0x2B * 4194304 + n * 4096)) = 0 ∧
    evRa (BitVec.ofNat 32 (0x2B * 4194304 + n * 4096)) = n := by decide

theorem witness_SpecialRegisterWrites : ∀ n ∈ [1, 2, 3, 4, 5, 6, 7, 8, 9, 10, 11, 12],
    EvGo State.reset 0 (BitVec.ofNat 32 (0x2B * 4194304 + n * 131072 + 1)) ∧
    evOp (BitVec.ofNat 32 (0x2B * 4194304 + n * 131072 + 1)) = 0x2B ∧ evFn (BitVec.ofNat 32 (0x2B * 4194304 + n * 131072 + 1)) = 1 ∧
    evRd (BitVec.ofNat 32 (0x2B * 4194304 + n * 131072 + 1)) = n := by decide

theorem witness_RegisterCount : EvGo evTrapState 0 (BitVec.ofNat 32 (0x25 * 4194304 + 2097152 + 3 * 65536)) ∧
    (gReg (core evTrapState 0).ctx 3).toNat = 65536 := by decide

/-- Escape words that core 0 issues right after reset, at the first and the last XOP of each range. -/
theorem witness_EscapeWords : ∀ xop ∈ [0, 15, 16, 63], issues State.reset 0 = true ∧ (core State.reset 0).stepping = false ∧
    canFetch State.reset 0 (core State.reset 0).ctx.mode (core State.reset 0).ctx.pc = true ∧
    evOp (BitVec.ofNat 32 (0x3F * 4194304 + xop * 65536)) = 0x3F ∧ evXop (BitVec.ofNat 32 (0x3F * 4194304 + xop * 65536)) = xop ∧
    guardHolds (core State.reset 0).ctx (BitVec.ofNat 32 (0x3F * 4194304 + xop * 65536)) = true := by decide

/-- Core 0 right after reset: the vectors lie far below 2^32, the cores are in canonical form, and BREAK is issued. -/
theorem witness_TrapEntry : (core State.reset 0).vbase.toNat < 2 ^ 32 - 2048 ∧ SMap.wf State.reset.cores = true ∧
    EvGo State.reset 0 (BitVec.ofNat 32 (0x2D * 4194304)) ∧ evOp (BitVec.ofNat 32 (0x2D * 4194304)) = 0x2D := by decide

/-- SYS words of the five services that a task on core 0 issues, and the timer entry 0 that it may ask for. -/
theorem witness_Services : (∀ n ∈ [1, 16, 32, 48, 49], EvGo evTaskState 0 (BitVec.ofNat 32 (0x2A * 4194304 + n)) ∧
      evOp (BitVec.ofNat 32 (0x2A * 4194304 + n)) = 0x2A ∧ sysCode (BitVec.ofNat 32 (0x2A * 4194304 + n)) = n) ∧
    (core evTaskState 0).ctx.mode = .task ∧ (core evTaskState 0).task = some 0 := by decide

theorem witness_EntryAsked : (entryAsked 0 (core evTaskState 0).ctx evTaskState).isSome = true := by decide

/-- A core with one line raised, for each of the four lines. -/
theorem witness_Interrupts : ∀ line ∈ [0, 1, 2, 3], let s := setCore 0 (fun k => { k with
      lines := BitVec.ofNat 4 (2 ^ line), ctx := { k.ctx with masked := false } }) State.reset
    (core s 0).ctx.masked = false ∧ (core s 0).halted = false ∧ (core s 0).stopped = false ∧
    power s = 0 ∧ (∀ j < line, (core s 0).lines.getLsbD j = false) ∧ (core s 0).lines.getLsbD line = true := by decide

/-- A queue with one command, and the empty queue of the reset state. -/
theorem witness_Step : ({ State.reset with pending := [.d3hotEntry] } : State).pending = .d3hotEntry :: [] ∧
    State.reset.pending = [] ∧ State.reset.cmd.svcWait = [] ∧ State.reset.red.queued = [] ∧
    State.reset.sup.powerJob = none := by decide

/-- The reset state with a command in front is well kept, and its step answers a next state. -/
theorem witness_WellKept : WellKept { State.reset with pending := [.d3hotEntry] } := by
  refine ⟨?_, by unfold LifeLegal; decide⟩
  unfold Canonical; decide

/-- A legal life cycle with a command in front, and a command that is none of the five. -/
theorem witness_LifeCycle : LifeLegal { State.reset with pending := [.d3hotEntry] } ∧ (∀ d, Instr.d3hotEntry ≠ .lcProvision d) ∧
    (∀ d, Instr.d3hotEntry ≠ .lcTakeOwnership d) ∧ (∀ d, Instr.d3hotEntry ≠ .lcReturn d) ∧ (∀ d, Instr.d3hotEntry ≠ .lcScrap d) ∧
    ∀ r raw buf, Instr.d3hotEntry ≠ .descriptorFetch r raw buf :=
  ⟨by unfold LifeLegal; decide, nofun, nofun, nofun, nofun, nofun⟩

/-- The bank right after reset is canonical, and there are fields of each access type. -/
theorem witness_Fields : SMap.wf State.reset.regs = true ∧ ownRow IMG_FAULT_LANE = false ∧ IMG_FAULT_LANE.acc = .w1c ∧
    IMG_SNAP_MAX_NS.acc = .rc ∧ SYS_ID_FAMILY.acc = .ro ∧ ownRow SYS_ID_FAMILY = false ∧
    (table.any fun d => (d.fields 0).any fun f => f.acc = .rw ∧ !ownRow f) = true ∧
    ownRow { off := 0, lsb := 0, width := 1, acc := .w1s, reset := 0 } = false := by decide

theorem witness_OtherWidth : (2 : Nat) ≠ 4 := by decide

/-- A 32-bit register, and a 64-bit register that no rule holds right after reset. -/
theorem witness_Words : (locate 0x1804).isSome = true ∧ (locate 0x1804).all (fun x => !x.2.2 && !x.1.wide) = true ∧
    traceHeld State.reset 0x1804 = false ∧ lengthHeld State.reset 0x1804 = false ∧ 0x1804 % 4 = 0 ∧ 6 % 4 ≠ 0 ∧
    ¬(0x7C00 ≤ 0x1804 ∧ 0x1804 ≤ 0x7C18) := by decide

theorem witness_PlainWords : ¬ ownWord 0x1804 ∧ ¬ ownWord 0x0500 ∧ ¬ ownWord 0x0504 := by unfold ownWord; decide

theorem witness_WideWords : (locate 0x0500).all (fun x => !x.2.2 && x.1.wide) = true ∧ (locate 0x0500).isSome = true ∧
    (locate 0x0504).all (fun x => x.2.2) = true ∧ (locate 0x0504).isSome = true ∧ baseHeld State.reset 0x0500 = false ∧
    traceHeld State.reset 0x0504 = false ∧ lengthHeld State.reset 0x0504 = false := by decide

theorem witness_SameWideRegister : locate 0x0504 = (locate 0x0500).map (fun x => (x.1, x.2.1, true)) := rfl

/-- Core 0 right after reset issues; a word with a false guard, an illegal word, and a PC that may not be fetched. -/
theorem witness_GuardsAndTraps : issues State.reset 0 = true ∧ (core State.reset 0).stepping = false ∧
    canFetch State.reset 0 (core State.reset 0).ctx.mode (core State.reset 0).ctx.pc = true ∧
    guardHolds (core State.reset 0).ctx 0x80000000 = false ∧ evIllegal 0x80000000 = false ∧
    evIllegal (BitVec.ofNat 32 (8 * 4194304)) = true := by decide

theorem witness_FetchTrap : let s := setCore 0 (fun k => { k with ctx := { k.ctx with pc := 2 } }) State.reset
    issues s 0 = true ∧ (core s 0).stepping = false ∧ canFetch s 0 (core s 0).ctx.mode (core s 0).ctx.pc = false := by decide

/-- Refused accesses of the runtime and of a task, each at the edge of its range. -/
theorem witness_RefusedAccesses : place State.reset 0 (core State.reset 0).ctx 0xE0000001 4 false false = .error (0x06, 0xE0000001) ∧
    place State.reset 0 (core State.reset 0).ctx 2 4 false false = .error (0x09, 2) ∧
    place State.reset 0 (core State.reset 0).ctx 0x20000 4 false false = .error (0x08, 0x20000) ∧
    place evTaskState 0 (core evTaskState 0).ctx 0xF0000000 4 true false = .error (0x07, 0xF0000000) ∧
    place evTaskState 0 (core evTaskState 0).ctx 0x10400000 4 true false = .error (0x07, 0x10400000) ∧
    place State.reset 0 (core State.reset 0).ctx 0xC0000000 4 true false = .error (0x07, 0xC0000000) ∧
    place evTaskState 0 (core evTaskState 0).ctx 0x1FFFC 4 true false = .error (0x0C, 0x1FFFC) ∧
    (core evTaskState 0).ctx.mode = .task ∧ (core State.reset 0).ctx.mode = .runtime := by decide

theorem witness_RefusedLoad : EvGo State.reset 0 (BitVec.ofNat 32 (0x16 * 4194304 + 1)) ∧
    evOp (BitVec.ofNat 32 (0x16 * 4194304 + 1)) = 0x16 ∧
    place State.reset 0 (core State.reset 0).ctx (addrOf (core State.reset 0).ctx (BitVec.ofNat 32 (0x16 * 4194304 + 1)) 2) 2 false false =
      .error (0x09, 1) := by decide

/-- The reset state with a clock, and with the clock lost. -/
theorem witness_Resets : SMap.wf State.reset.regs = true ∧ Mem.wf State.reset.mem.data = true ∧ SMap.wf State.reset.lpt = true ∧
    State.reset.sup.clockLost = false ∧ State.reset.rtc.onVbat = false ∧
    ({ State.reset with sup.clockLost := true } : State).sup.clockLost = true := by decide

/-- Rings right after reset are disabled; a ring made RUNNING, RESETTING or waiting to signal by its own fields. -/
theorem witness_Rings : fbit State.reset (HIF_RING_CFG_ENABLE 5) = false ∧ ringState State.reset 5 = 0 ∧
    setupCause (State.reset |> writeRingFields 5 0x81000000 |> fput (HIF_RING_CFG_ENABLE 5) 1) 5 = none ∧
    (setupCause (State.reset |> writeRingFields 5 0x80000000 |> fput (HIF_RING_CFG_ENABLE 5) 1) 5).isSome = true ∧
    ringState ringState3 5 = 3 ∧ fbit ringState1 (HIF_RING_CFG_ENABLE 5) = true ∧ ringState ringState1 5 = 1 ∧
    ringKind ringState1 5 = 0 ∧ 15 < ringN ringState1 5 ∧ ringN ringState1 5 = 16 ∧ unsignalled (ring ringState1 5) = some 0 ∧
    fbit ringState1 (HIF_RING_CFG_IRQ_EN 5) = true ∧ (ring ringState1 5).signalled = false := by decide

theorem witness_MirrorRing : ringState mirrorState3 5 = 3 ∧ ringKind mirrorState3 5 = 3 ∧
    fbit mirrorState3 (HIF_RING_CFG_ENABLE 5) = true ∧ setupCause mirrorState3 5 = none ∧ setupCause ringState3 5 = none ∧
    fbit ringState3 (HIF_RING_CFG_ENABLE 5) = true := by decide

/-- The reset state is canonical and is not in DORMANT; WAKE_N low in another. -/
theorem witness_HostResets : SMap.wf State.reset.regs = true ∧ power State.reset ≠ 3 ∧ State.reset.sup.wakeN = false ∧
    ({ State.reset with sup.wakeN := true } : State).sup.wakeN = true := by decide

/-- A running ring of each kind with an entry, and what the other rows wait for. -/
theorem witness_RingEntries : entryReady ringState1 5 = true ∧ ringHolds ringState1 5 = false ∧ ringKind ringState1 5 = 0 ∧
    nicRuns ringState1 = true ∧ (ring nicState 5).slots = [] ∧ ringKind nicState 5 = 5 ∧ entryReady nicState 5 = true ∧
    nicRuns nicState = true ∧ look nicState.net.nicBad 5 = none := by decide

/-- NOP on ring 0 is not refused, a reserved byte makes it malformed, and a PARAMS byte that FENCE does not define refuses it. -/
theorem witness_Refusals : refusalOf nopCard { origin := .ring 0, index := 0 } (fun _ => none) (openSlot { origin := .ring 0, index := 0 } State.reset) = none ∧ bufferLost nopCard { origin := .ring 0, index := 0 } = false ∧
    bufferLost nopCard { origin := .ring 0, index := 0 } = false ∧
    malformedReason nopCard { origin := .ring 0, index := 0, byte3 := 1 } = some 0x0104 ∧
    refusalOf fenceCard { origin := .svc, index := 0 } (fun _ => none) State.reset = some (0x07, 0) ∧
    State.reset.hif.fences = [] := by decide

/-- A unit in RUN with a SYNC, a CYCLIC and a BACKGROUND task and each kind of request at the head of the image queue. -/
theorem witness_Tasks : releasing taskState = true ∧ syncTask taskState = some 0 ∧
    (taskDef taskState 1).any (fun d => d.kind = .cyclic) = true ∧
    look taskState.seq.bgDue 2 = some 0 ∧ ctl taskState = 3 ∧ standby taskState = false ∧ nextPending pendingState = some 0 ∧
    (run copyingState 0).phase = .copying ∧ (run runningState 0).phase = .running ∧ budgetOf runningState 0 ≠ 0 ∧
    (run taskState 0).phase = .idle ∧ occupied taskState 0 = false := by decide

/-- Descriptors that nothing refuses, and deferred commands whose turn has come. -/
theorem witness_ImageCommands : refusalOf imgReadCard imgReadDesc (fun _ => imgReadChecks imgReadDesc) (openSlot imgReadDesc runState) = none ∧ bufferLost imgReadCard imgReadDesc = false ∧
    refusalOf forceReadCard forceReadDesc (fun _ => none) (openSlot forceReadDesc runState) = none ∧
    bufferLost forceReadCard forceReadDesc = false ∧
    refusalOf forceClearCard plainDesc (fun _ => none) (openSlot plainDesc runState) = none ∧
    bufferLost forceClearCard plainDesc = false := by decide

/-- A lane that runs a network of a task owning the first 64 bits of the view, with two entries on its stack. -/
theorem witness_RungLogic : (rungEnv laneState 0).isSome = true ∧ (lane laneState 0).ctx.stack = [true, false] ∧
    (rungEnv laneState 0).all (fun e => bitReadable e.d 3 && bitWritable e.d 3 && decide ((lane laneState 0).ctx.index < netEnd e.net)) = true ∧
    (∀ op ∈ [0x00, 0x01, 0x08, 0x09, 0x0A, 0x0B, 0x0C, 0x0D], rungOp (BitVec.ofNat 32 (op * 67108864)) = op ∧
      rungWellFormed (BitVec.ofNat 32 (op * 67108864)) = true) ∧
    (∀ op ∈ [0x04, 0x05, 0x06, 0x07, 0x10, 0x11, 0x12, 0x14, 0x15], rungOp (BitVec.ofNat 32 (op * 67108864 + 3)) = op ∧
      rungWellFormed (BitVec.ofNat 32 (op * 67108864 + 3)) = true ∧ rungAddr (BitVec.ofNat 32 (op * 67108864 + 3)) = 3 ∧
      rungN (BitVec.ofNat 32 (op * 67108864 + 3)) = false) ∧
    rungWellFormed (BitVec.ofNat 32 (0x11 * 67108864 + 33554432 + 3)) = true ∧
    rungN (BitVec.ofNat 32 (0x11 * 67108864 + 33554432 + 3)) = true := by
  decide

/-- Timer, counter, reset, skip and END words of the lane of witness_RungLogic, its entries, and its network's last word. -/
theorem witness_RungTimers : (rungEnv laneState 0).all (fun e => (assigned laneState.prog.cur.timers e.t 0).isSome &&
      (assigned laneState.prog.cur.counters e.t 0).isSome && decide ((lane laneState 0).ctx.index + 1 + 1 ≤ netEnd e.net - 1)) = true ∧
    (∀ op ∈ [0x18, 0x19, 0x1A, 0x1B, 0x1C, 0x1D, 0x02], rungOp (BitVec.ofNat 32 (op * 67108864)) = op ∧
      rungWellFormed (BitVec.ofNat 32 (op * 67108864)) = true ∧ rungLow (BitVec.ofNat 32 (op * 67108864)) = 0) ∧
    (∀ op ∈ [0x20, 0x21], rungOp (BitVec.ofNat 32 (op * 67108864 + 1)) = op ∧
      rungWellFormed (BitVec.ofNat 32 (op * 67108864 + 1)) = true ∧ rungLow (BitVec.ofNat 32 (op * 67108864 + 1)) = 1) ∧
    rungWellFormed 0xFFFFFFFF = false ∧ rungK (BitVec.ofNat 32 (0x1D * 67108864 + 65536)) = true := by decide

/-- A bit outside the task's ranges, an entry that is not assigned, and the last skip within the network beside the first beyond it. -/
theorem witness_RungRange : (rungEnv laneState 0).all (fun e => !bitReadable e.d 1000 && !bitWritable e.d 1000 &&
      (assigned laneState.prog.cur.timers e.t 5).isNone && (assigned laneState.prog.cur.counters e.t 5).isNone &&
      decide ((lane laneState 0).ctx.index + 1 + (netEnd e.net - 2 - (lane laneState 0).ctx.index) = netEnd e.net - 1) &&
      decide (netEnd e.net - 1 < (lane laneState 0).ctx.index + 1 + (netEnd e.net - 1 - (lane laneState 0).ctx.index)) &&
      decide (1 ≤ netEnd e.net - 2 - (lane laneState 0).ctx.index)) = true := by decide

theorem witness_RungStackEdges :
    (lane (setLane 0 (fun x => { x with ctx := { x.ctx with stack := List.replicate 32 true } }) laneState) 0).ctx.stack.length = 32 ∧
    (rungEnv (setLane 0 (fun x => { x with ctx := { x.ctx with stack := List.replicate 32 true } }) laneState) 0).isSome = true ∧
    (lane (setLane 0 (fun x => { x with ctx := { x.ctx with stack := [] } }) laneState) 0).ctx.stack = [] ∧
    (rungEnv (setLane 0 (fun x => { x with ctx := { x.ctx with stack := [] } }) laneState) 0).isSome = true := by decide

/-- Commands that nothing refuses in READY, RUN, STOP and HALT, and deferred ones whose turn has come. -/
theorem witness_Controller : refusalOf startCard { plainDesc with flags := 16 } (startChecks { plainDesc with flags := 16 }) (openSlot plainDesc stopState) = none ∧ bufferLost startCard { plainDesc with flags := 16 } = false ∧
    refusalOf stopCard plainDesc stopChecks (openSlot plainDesc runState) = none ∧ bufferLost stopCard plainDesc = false ∧
    refusalOf haltCard plainDesc (fun _ => none) (openSlot plainDesc runState) = none ∧ bufferLost haltCard plainDesc = false ∧
    ctl (openSlot plainDesc runState) = 3 ∧
    refusalOf clearHaltCard plainDesc (fun _ => none) (openSlot plainDesc haltState) = none ∧
    bufferLost clearHaltCard plainDesc = false ∧ ctl (openSlot plainDesc haltState) = 4 ∧
    refusalOf warmCard plainDesc (fun _ => none) (openSlot plainDesc stopState) = none ∧ bufferLost warmCard plainDesc = false ∧
    ctl (openSlot plainDesc stopState) = 2 := by decide

/-- Graft commands that nothing refuses: with no Graft, one OPEN, one CHECKED and one CONFIRMING. -/
theorem witness_GraftCommands : refusalOf graftOpenCard graftOpenDesc (graftOpenChecks graftOpenDesc) (openSlot graftOpenDesc State.reset) = none ∧ bufferLost graftOpenCard graftOpenDesc = false ∧
    refusalOf graftAbortCard graftDesc (graftBound [1, 2] graftDesc) (openSlot graftDesc (graftIn 1)) = none ∧
    bufferLost graftAbortCard graftDesc = false ∧
    refusalOf graftConfirmCard graftDesc (graftBound [4] graftDesc) (openSlot graftDesc (graftIn 4)) = none ∧
    bufferLost graftConfirmCard graftDesc = false ∧
    pair (openSlot graftDesc (graftIn 1)) ≠ 4 := by decide

/-- A commit of no program in a stopped unit at each stage, and a confirm window with and without a kept generation. -/
theorem witness_GraftSwitch : commitState.prog.commit.isSome = true ∧ commitState.prog.switchAt = none ∧
    (commitState.prog.commit.all fun c => (commitPlan commitState c).1 = 0 ∧ c.sel = 2 ∧
      gapNow (toBoundary c.cycle commitState) 0 0 ∧ (toBoundary c.cycle commitState).now ≤ c.gapUntil) = true ∧
    (layoutState.prog.commit.all fun c => (commitPlan layoutState c).1 = 1 ∧
      gapNow (toBoundary c.cycle layoutState) 0 0 ∧ (toBoundary c.cycle layoutState).now ≤ c.gapUntil) = true ∧
    confirmState.prog.confirmUntil = some 0 ∧ graftState confirmState = 4 ∧ confirmState.prog.kept.isSome = true ∧
    (graftIn 4).prog.kept = none := by decide

/-- The reset state ticks; states with an edge, a pulse, an encoder, axes and a trim word due. -/
theorem witness_TrellisEvents : trellisState.trl.edges ≠ [] ∧ ctl trellisState = 3 ∧ lostSafe trellisState 0 = false ∧
    look trellisState.trl.pulses 0 = some 0 ∧ fbit trellisState (FIO_ENC_CFG_ENABLE 0) = true ∧ trellisState.fio.powerUp = false ∧
    groupBad trellisState 0 = false ∧ levelsCarry encoderState 0 .forward = true ∧
    levelsCarry encoderState 0 .z = true ∧ fbit encoderState (FIO_ENC_CFG_ENABLE 0) = true ∧
    fbit encoderState (FIO_ENC_CFG_Z_EN 0) = true ∧
    encoderState.fio.powerUp = false ∧ groupBad encoderState 0 = false ∧ axEnabled trellisState 0 = true ∧
    axSource trellisState 0 = 1 ∧ axState trellisState 0 = 1 ∧
    (axis trellisState 0).sampleAt = some 0 ∧ axState coastState 0 = 2 ∧ chMode trellisState 0 = 3 ∧
    (nextTrim trellisState).isSome = true := by decide

/-- Trellis commands that nothing refuses in RUN. -/
theorem witness_TrellisCommands : refusalOf axisSetCard axisSetDesc (axisSetChecks axisSetDesc) (openSlot axisSetDesc trellisState) = none ∧ bufferLost axisSetCard axisSetDesc = false ∧
    refusalOf trimSetCard plainDesc (trimSetChecks plainDesc) (openSlot plainDesc trellisState) = none ∧
    bufferLost trimSetCard plainDesc = false ∧
    refusalOf entryReadCard entryReadDesc (fun _ => none) (openSlot entryReadDesc trellisState) = none ∧
    bufferLost entryReadCard entryReadDesc = false ∧ paramN entryReadDesc 34 2 = 256 := by decide

/-- A running cycle with a plant window and a template to gather; ports without and with link. -/
theorem witness_FramesAreGathered : cycleRuns netState = true ∧ standby netState = false ∧ ctl netState = 3 ∧
    netState.net.gatherCycle = 1 ∧ (dueTx netState kSetpoint 0).length = 1 ∧ fget netState NET_PLANT_WIN_PLANT_LEN ≠ 0 ∧
    (look netState.prog.cur.templates 0).isSome = true ∧ fbit netState (NET_PORT_CFG_ENABLE 0) = true ∧ power netState = 1 ∧
    fbit netState (NET_PORT_CFG_PREEMPT_EN 0) = true ∧ linkUp netState 0 = false ∧
    fbit netState (NET_PORT_CFG_PREEMPT_EN 1) = false ∧
    linkUp netState 1 = false ∧ fbit linkState (NET_PORT_CFG_ENABLE 0) = true ∧ power linkState = 1 ∧ linkUp linkState 0 = true ∧
    pair (fputBit NET_STATUS_PREEMPT 0 false (raise NET_EVENTS_LINK_CHANGE (fputBit NET_STATUS_LINK 0 false linkState))) ≠ 4 := by decide

/-- Messages, deadlines and cycle times of every case of the statement. -/
theorem witness_TimeSync : talks netState = true ∧ ptpRuns netState = true ∧ netState.net.ptp.lastDriveSync = some 0 ∧
    netState.net.ptp.lastDriveAnnounce = some 0 ∧ linkUp linkState 0 = true ∧ ptpRuns linkState = true ∧
    fbit netState NET_PTP_CFG_PLANT_EN = true ∧ fget netState NET_STATUS_PLANT_PORT = 0 ∧ fget linkState NET_STATUS_PLANT_PORT = 1 ∧
    fbit linkState NET_PTP_CFG_PLANT_EN = true ∧ standby linkState = false ∧
    linkState.net.ptp.rank = some 5 ∧ plantDeadline netState = none ∧ plantDeadline linkState = some (secs 3, true) ∧
    plantDeadline syncState = some (secs 3, false) ∧ netState.net.startFrom = some 0 ∧ netState.net.stopFrom = some 0 ∧
    netState.net.resumeFrom = some 0 ∧ fbit netState NET_CYCLE_CFG_RUN = true ∧ power netState = 1 := by decide

/-- Frames of every row at a drive port with link, a plant frame, and the mailbox. -/
theorem witness_ReceivedFrames : linkUp State.reset 0 = false ∧ linkUp frameState 0 = true ∧ linkUp frameState 2 = true ∧
    isFlany frameState (frame 2 7 0 1 0) = true ∧ headerBad (frame 2 7 0 1 0) = false ∧ headerBad badFrame = true ∧
    fPairId (frame 2 7 0 1 0) = fget frameState NET_PAIR_ID_PAIR_ID ∧
    fPairId (frame 2 7 0 9 0) ≠ fget frameState NET_PAIR_ID_PAIR_ID ∧
    sizeBad collectTemplate (frame 2 7 0 1 0) = false ∧ fEpoch (frame 2 7 0 1 0) ≤ epoch frameState ∧
    (tplRun frameState 0).history ≠ [] ∧ frameState.net.mailbox.length = 2 := by decide

theorem witness_CollectArrives : CollectArrives frameState 0 0 collectTemplate (frame 2 7 0 1 0) := by
  unfold CollectArrives; decide

/-- Seeking, meeting, waiting, beating and losing pairs. -/
theorem witness_PairsMeet : seeks pairState = true ∧ hedgeUp pairState = true ∧ fbit State.reset RED_CFG_PAIR_EN = false ∧
    fbit pairState RED_CFG_PAIR_EN = true ∧ pair pairState = 1 ∧ pairState.red.paired = false ∧
    fbit pairState RED_STATUS_PARKED = false ∧
    heldByPeer pairState = false ∧ formatsFit pairState peerHello = true ∧ formatsFit pairState oldHello = false ∧
    pairState.red.helloAt = some 0 ∧ mayPair pairState = true ∧ peerHello.side ≠ fget pairState RED_STATUS_SIDE ∧
    peerHello.pairId = fget pairState NET_PAIR_ID_PAIR_ID ∧ beating pairState = true ∧ redundantState.red.lastA = some 0 ∧
    redundantState.red.lastB = some 0 ∧ fbit redundantState RED_STATUS_PATH_A = true ∧
    fbit redundantState RED_STATUS_PATH_B = true ∧
    redundantState.red.peerFailed = false ∧ pair redundantState = 4 ∧ fbit redundantState RED_STATUS_LANE0 = true ∧
    fbit redundantState RED_STATUS_LANE1 = false ∧ hedgeBad [] = true ∧ hedgeBad ackFrame = false ∧ hedgeBad digestFrame = false ∧
    beAt ackFrame 1 1 = 2 ∧ beAt digestFrame 1 1 = 4 ∧ redundantState.red.unacked.length = 1 := by decide

/-- Standbys, actives, sources and joiners of the statement. -/
theorem witness_ShadowsFollow : pair shadowState = 5 ∧ shadowState.red.takeover = none ∧ shadowState.red.queued = [] ∧
    look shadowState.red.mirrored 0 = some (1, 5) ∧ look shadowState.red.mirrored 1 = none ∧ pair redundantState = 4 ∧
    redundantState.red.ownDigests.length = 1 ∧ pair sourceState = 2 ∧ sourceState.red.xfer = some { started := 0, round := 0 } ∧
    quiescent sourceState 32000 = true ∧ takingOver shadowState = false ∧
    takingOver { shadowState with red.takeover := some 0 } = true ∧
    twinned shadowState = true ∧ pair joinState = 3 ∧ joinState.red.xfer = some { started := 0, round := 0, instant := some 0 } ∧
    joinState.red.peerBeat = none ∧ joinState.red.queued = [] ∧ allIdle joinState (2 ^ 32 - 1) = true ∧
    mirrorLate 0x0102 plainDesc 0 { shadowState with now := 1 } = true ∧
    mirrorLate 0x0102 plainDesc 5 shadowState = false := by decide

/-- Takeover, yield, handover in both roles, and the commands that nothing refuses. -/
theorem witness_TakeoverAndHandover : pair overState = 5 ∧ overState.red.takeover = some 0 ∧ redundantState.red.takeover = none ∧
    redundantState.red.faultSent = true ∧ standby redundantState = false ∧ pair shadowState = 5 ∧ shadowState.red.takeover = none ∧
    fbit shadowState RED_STATUS_FIT = true ∧ pair redundantState = 4 ∧
    (offerState.red.handover.elim false (fun x => x.source && x.job.isSome)) = true ∧
    (releaseState.red.handover.elim false (fun x => x.outputsAt.isSome && x.job.isNone)) = true ∧
    refusalOf (handoverCard redundantState) plainDesc handoverChecks (openSlot plainDesc redundantState) = none ∧
    bufferLost (handoverCard redundantState) plainDesc = false ∧
    refusalOf parkCard plainDesc (fun _ => none) (openSlot plainDesc redundantState) = none ∧
    bufferLost parkCard plainDesc = false ∧
    refusalOf redReadCard plainDesc (fun _ => none) (openSlot plainDesc redundantState) = none ∧
    bufferLost redReadCard plainDesc = false ∧
    refusalOf resyncCard plainDesc (fun _ => none) (openSlot plainDesc degradedState) = none ∧
    bufferLost resyncCard plainDesc = false ∧ pair degradedState = 6 ∧
    fbit degradedState RED_CFG_PAIR_EN = true ∧ degradedState.red.peer.isSome = true ∧
    degradedState.red.resyncJob.isNone = true := by decide

/-- Channels in every situation of the statement. -/
theorem witness_FieldInputs : fieldState.fio.inFrame = none ∧ fieldState.fio.powerUp = false ∧
    isInput fieldState 0 = true ∧ fget fieldState (FIO_CH_CFG_DEBOUNCE 0) = 0 ∧ fget fieldState (FIO_CH_CFG_DEBOUNCE 1) = 5 ∧
    isInput fieldState 1 = true ∧ (chan fieldState 1).comp ≠ (chan fieldState 1).level ∧
    fbit fieldState (FIO_CH_CFG_OPEN_DET 1) = true ∧
    chMode fieldState 2 = 2 ∧ chMode fieldState 3 = 2 ∧ (fget fieldState FIO_OUTPUT_LEVEL).testBit 2 = true ∧
    (fget fieldState FIO_OUTPUT_LEVEL).testBit 3 = false ∧ chMode fieldState 4 = 2 ∧
    (fget fieldState FIO_OUTPUT_LEVEL).testBit 4 = true ∧
    fbit fieldState (FIO_CH_CFG_OVL_LATCH (leadOf fieldState 2)) = true ∧
    fbit fieldState (FIO_CH_CFG_OVL_LATCH (leadOf fieldState 4)) = false ∧ isOutput fieldState 0 = false ∧
    isOutput fieldState 2 = true ∧ (chan fieldState 4).opened = true ∧ commandOf fieldState 4 = true ∧
    logicOff fieldState = false ∧ sampledState.fio.inFrame.isSome = true := by decide

/-- Islands with a frame, in silence, with timeouts; field commands that nothing refuses; their turns. -/
theorem witness_FieldOutputs : fieldState.fio.outFrame = none ∧ fieldState.fio.powerUp = false ∧ fieldState.fio.silent = false ∧
    (sampledState.fio.outFrame.isSome && !sampledState.fio.powerUp) = true ∧ silentState.fio.silent = true ∧
    look silentState.fio.timeouts 0 = some 10 ∧ silentState.fio.safeLatched = 2 ∧ look silentState.fio.timeouts 1 = some 0xFFFF ∧
    ctl fieldState = 3 ∧ param plainDesc 32 ≤ 15 ∧
    refusalOf clearLatchCard plainDesc (fun _ => none) (openSlot plainDesc fieldState) = none ∧
    bufferLost clearLatchCard plainDesc = false ∧
    refusalOf fioReleaseCard plainDesc (fun _ => none) (openSlot plainDesc fieldState) = none ∧
    bufferLost fioReleaseCard plainDesc = false ∧
    refusalOf fioReadCard plainDesc (fun _ => none) (openSlot plainDesc fieldState) = none ∧
    bufferLost fioReadCard plainDesc = false := by decide

theorem witness_FieldTurns : (∃ x, Takes (· = .clearLatch) x (due .clearLatch 3)) ∧ (∃ x, Takes (· = .release) x (due .release 3)) ∧
    (∃ x, Takes (· = .release) x (due .release 2)) ∧ ctl (due .release 3) = 3 ∧ ctl (due .release 2) = 2 := by
  unfold Takes; exact ⟨⟨dueJob .clearLatch, by decide⟩, ⟨dueJob .release, by decide⟩, ⟨dueJob .release, by decide⟩, by decide⟩

/-- Transmitters in every situation of the statement, and the commands that nothing refuses. -/
theorem witness_Loops : (loop loopState 0).frame = none ∧ loopPowerUp loopState 0 = false ∧ (loop loopState 1).frame = some 5 ∧
    (loop loopState 1).powered = true ∧ (loop loopState 1).powerUp = false ∧ (loop loopState 1).silent = false ∧
    (loop loopState 0).silent = true ∧ fget loopState (LPT_LT_CFG_SAFE_TIMEOUT 0) = 7 ∧ (loop loopState 0).safeOnTimeout = false ∧
    fbit loopState (LPT_LT_STAT_LINK_UP 0) = true ∧ (loop devState 0).devSince = some (secs 1) ∧ compares devState 0 = true ∧
    (loop devState 0).targetAt + msec 100 ≤ secs 1 ∧ (loop devState 0).nearSince = some 0 ∧ (loop loopState 0).powered = true ∧
    (loop loopState 0).powerUp = false ∧ boot loopState = 4 ∧
    boot State.reset ≠ 4 ∧ (hartAccepts loopState 0 hartGood).isSome = true ∧
    (hartAccepts loopState 0 { hartGood with raw := [] }).isSome = false ∧
    standby loopState = false ∧ (loop loopState 0).req.isSome = true ∧ (loop loopState 0).trim.isSome = true ∧
    refusalOf hartFetchCard hartDesc (tokenCheck hartDesc) (openSlot hartDesc loopState) = none ∧
    bufferLost hartFetchCard hartDesc = false ∧
    refusalOf hartReplyCard hartDesc (tokenCheck hartDesc) (openSlot hartDesc loopState) = none ∧
    bufferLost hartReplyCard hartDesc = false ∧
    refusalOf trimCard (trimDesc 1) (fun _ => none) (openSlot (trimDesc 1) loopState) = none ∧
    bufferLost trimCard (trimDesc 1) = false ∧
    (loop loopState 1).trim = none ∧ refusalOf { trimCard with guards := [2] } (trimDesc 2) (fun _ => none) trimState = none ∧
    refusalOf { trimCard with guards := [2] } (trimDesc 2) (fun _ => none) (openSlot (trimDesc 2) trimState) = none ∧
    bufferLost { trimCard with guards := [2] } (trimDesc 2) = false ∧
    (loop trimState 0).trim.any (fun t => t.stage = 3 && trimInRange t) = true ∧
    refusalOf lptReadCard (trimDesc 0) (fun _ => none) (openSlot (trimDesc 0) loopState) = none ∧
    bufferLost lptReadCard (trimDesc 0) = false := by decide

/-- Open, committing and confirming transactions with their times, and the commands that nothing refuses. -/
theorem witness_Transactions : refusalOf beginCard txnDesc (beginChecks txnDesc) (openSlot txnDesc runState) = none ∧
    bufferLost beginCard txnDesc = false ∧
    refusalOf cfgReadCard plainDesc (fun _ => none) (openSlot plainDesc runState) = none ∧
    bufferLost cfgReadCard plainDesc = false ∧
    refusalOf putCard putDesc (putChecks putDesc) (openSlot putDesc (touchTxn putCard putDesc txnState0)) = none ∧
    bufferLost putCard putDesc = false ∧
    refusalOf (cfgCommitCard txnState0 commitDesc) commitDesc (cfgCommitChecks commitDesc)
      (openSlot commitDesc (touchTxn (cfgCommitCard txnState0 commitDesc) commitDesc txnState0)) = none ∧
      bufferLost (cfgCommitCard txnState0 commitDesc) commitDesc = false ∧
    (nextApply commitTxn).isSome = true ∧ (nextApply rollbackTxn).isSome = true ∧ (nextGap gapTxn).isSome = true ∧
    refusalOf cfgAbortCard txnDesc (fun s => (txnState [.open_, .confirming] txnDesc s).or (txnBound txnDesc s))
      (openSlot txnDesc (touchTxn cfgAbortCard txnDesc txnState0)) = none ∧ bufferLost cfgAbortCard txnDesc = false ∧
    refusalOf cfgConfirmCard txnDesc (fun s => (txnState [.confirming] txnDesc s).or (txnBound txnDesc s))
      (openSlot txnDesc confirmTxn) = none ∧ bufferLost cfgConfirmCard txnDesc = false ∧
    (txn confirmTxn 7).any (fun x => x.confirmUntil.isSome) = true ∧ standby confirmTxn = false ∧
    (txn txnState0 7).any (fun x => x.state = .open_) = true := by decide

/-- NV and clock states and commands of every case of the statement. -/
theorem witness_NvAndClock : refusalOf nvsReadCard nvReadDesc (nvsReadChecks nvReadDesc) (openSlot nvReadDesc nvState) = none ∧
    bufferLost nvsReadCard nvReadDesc = false ∧
    nvState.nv.writing.isNone = true ∧ busyState.nv.writing.isSome = true ∧
    refusalOf nvsReadCard nvReadDesc (nvsReadChecks nvReadDesc) (openSlot nvReadDesc busyState) = none ∧
    bufferLost nvsReadCard nvReadDesc = false ∧
    refusalOf nvsWriteCard nvWriteDesc (nvsWriteChecks nvWriteDesc) nvState = none ∧
    refusalOf nvsWriteCard nvWriteDesc (fun _ => nvsWriteChecks nvWriteDesc nvState) (openSlot nvWriteDesc nvState) = none ∧
    bufferLost nvsWriteCard nvWriteDesc = false ∧
    refusalOf rtcReadCard plainDesc (fun _ => none) (openSlot plainDesc nvState) = none ∧ bufferLost rtcReadCard plainDesc = false ∧
    refusalOf rtcSetCard rtcSetDesc (fun _ => none) (openSlot rtcSetDesc nvState) = none ∧
    bufferLost rtcSetCard rtcSetDesc = false ∧ validTime (rtcParams rtcSetDesc) = true ∧
    refusalOf rtcAlarmCard rtcAlarmDesc (fun _ => rtcAlarmChecks rtcAlarmDesc) (openSlot rtcAlarmDesc nvState) = none ∧
    bufferLost rtcAlarmCard rtcAlarmDesc = false ∧
    ([0, 1, 2, 3, 4].all fun op => refusalOf (unlockCard op) (unlockDesc op) (unlockChecks (unlockDesc op)) nvState = none ∧
      refusalOf (unlockCard op) (unlockDesc op) (fun _ => unlockChecks (unlockDesc op) nvState) (openSlot (unlockDesc op) nvState) = none ∧ bufferLost (unlockCard op) (unlockDesc op) = false) = true ∧
    (nextPage (abortWrites nvState)).isSome = true ∧ nvState.nv.readWaits = [] ∧ power nvState ≠ 3 ∧ nvState.red.epochDue = some 0 ∧
    nvState.rtc.counting = true ∧ (nvState.rtc.fw.shadow.isNone && nvState.rtc.bar0.shadow.isSome) = true ∧
    busyState.rtc.fw.shadow.isSome = true ∧ nvState.rtc.fw.commit = false ∧ nvState.rtc.fw.jobs = [] ∧
    nvState.rtc.bar0.commit = true ∧
    nvState.rtc.bar0.staging.any validTime = true ∧ busyState.rtc.bar0.commit = true ∧
    busyState.rtc.bar0.staging.any (fun r => !validTime r) = true := by decide

/-- A serving port without and with a session, its datagrams, and a journal to read. -/
theorem witness_ServicePort : svcServes State.reset = false ∧ svcServes svcState = true ∧ svcHeaderOk svcRaw = true ∧
    svcHeaderOk [] = false ∧
    svcState.cmd.svc.isNone = true ∧ svcState.cmd.svcWait = [] ∧ (namedSession svcState svcRaw).isNone = true ∧
    beAt svcRaw 32 2 = 0x0C01 ∧
    sessionState.cmd.session.isSome = true ∧ svcServes sessionState = true ∧
    refusalOf jrnlReadCard jrnlDesc (fun _ => jrnlReadChecks jrnlDesc) (openSlot jrnlDesc runState) = none ∧
    bufferLost jrnlReadCard jrnlDesc = false := by decide

/-- A request of the open session whose tag is the one its key gives. -/
theorem witness_SessionRequest : (namedSession sessionState sessionRaw).any (fun x => x.lastSeq = some 5) = true ∧
    svcTagOk [1] sessionRaw = true ∧ beAt sessionRaw 8 4 = 6 := ⟨by decide, decide_eq_true rfl, by decide⟩

/-- Each boot state that the statement starts from, and the two commands. -/
theorem witness_Boot : boot State.reset = 0 ∧ powered State.reset = true ∧ boot (setBoot 1 State.reset) = 1 ∧
    boot (setBoot 5 State.reset) = 5 ∧ (setBoot 5 State.reset).boot.selfTestFailed = false ∧ sag (setBoot 5 State.reset) ≠ 3 ∧
    boot (setBoot 2 State.reset) = 2 ∧ boot (setBoot 3 State.reset) = 3 ∧
    ([0, 1, 2, 3].all fun i => msec 1 ≤ startBound { setBoot 3 State.reset with boot.started := i } i ∧
      startBound { setBoot 3 State.reset with boot.started := i } i < msec 500) = true ∧
    refusalOf (fwResetCard stopState) plainDesc fwResetChecks (openSlot plainDesc stopState) = none ∧
    bufferLost (fwResetCard stopState) plainDesc = false ∧
    refusalOf fwReadCard plainDesc (fun _ => none) (openSlot plainDesc stopState) = none ∧
    bufferLost fwReadCard plainDesc = false ∧ paramN plainDesc 32 4 ≤ 1343 := by decide

/-- Security states and commands that nothing refuses. -/
theorem witness_Security : refusalOf challengeCard challengeDesc (challengeChecks challengeDesc) (openSlot challengeDesc secState) = none ∧ bufferLost challengeCard challengeDesc = false ∧
    refusalOf (keyLoadCard true) wrapDesc (keyWrapChecks wrapDesc) (openSlot wrapDesc secState) = none ∧
    bufferLost (keyLoadCard true) wrapDesc = false ∧ opflag wrapDesc 4 = true ∧
    refusalOf keyUnloadCard plainDesc (fun _ => none) (openSlot plainDesc secState) = none ∧
    bufferLost keyUnloadCard plainDesc = false ∧ param plainDesc 32 ≤ 31 ∧
    refusalOf attestCard attestDesc (attestChecks attestDesc) (openSlot attestDesc secState) = none ∧
    bufferLost attestCard attestDesc = false ∧
    refusalOf debugCard debugDesc (debugChecks debugDesc) secState = none ∧
    refusalOf debugCard debugDesc (fun _ => debugChecks debugDesc secState) (openSlot debugDesc secState) = none ∧
    bufferLost debugCard debugDesc = false ∧
    (secState.sec.challenges.find? (fun x => x.1 = .svc)).isSome = true ∧ look secState.sec.grants 0 = some (secs 50) ∧
    secState.sec.lockUntil = none ∧ lockState.sec.lockUntil = some 7 ∧ fbit secState SEC_STATUS_RBG_OK = true := by decide

theorem witness_KeyLoad : opflag (blobDesc secState) 4 = false ∧
    (∀ v ∈ [secState, openSlot (blobDesc secState) secState, openSlot (blobDesc secState) (raise SEC_EVENTS_BLOB_REJECT secState)],
      gate (keyLoadCard false) (blobDesc secState) v = none) ∧
    bufferLost (keyLoadCard false) (blobDesc secState) = false ∧ debugRoot secState = false ∧ (blobDesc secState).buf.length = 100 ∧
    blobHead (blobDesc secState).buf = true ∧ param (blobDesc secState) 32 ≤ 31 ∧
    look secState.sec.slots (param (blobDesc secState) 32) = none := by decide

theorem witness_KeyBound : blobBound (blobDesc secState).buf secState.sec.life = true := by
  unfold blobBound; exact decide_eq_true ⟨rfl, rfl, by decide⟩

/-- A response that is the keyed digest of its challenge. -/
theorem witness_Response : UnrefusedBefore responseCard responseDesc (responseChecks responseDesc) secState :=
  unrefused_before (by decide) (by decide) (by decide) (if_pos rfl)

/-- Each operation in a state that refuses nothing. -/
theorem witness_LifeProvision : refusalOf (lifeCard 1) provisionDesc (lifeChecks (provisionChecks provisionDesc) provisionDesc) blankState = none ∧
    refusalOf (lifeCard 1) provisionDesc (fun _ => lifeChecks (provisionChecks provisionDesc) provisionDesc blankState)
      (openSlot provisionDesc blankState) = none ∧ bufferLost (lifeCard 1) provisionDesc = false := by decide

theorem witness_LifeTake : refusalOf (lifeCard 2) takeDesc (lifeChecks (takeChecks takeDesc) takeDesc) { blankState with sec.life := 1 } = none ∧
    refusalOf (lifeCard 2) takeDesc (fun _ => lifeChecks (takeChecks takeDesc) takeDesc { blankState with sec.life := 1 })
      (openSlot takeDesc { blankState with sec.life := 1 }) = none ∧ bufferLost (lifeCard 2) takeDesc = false := by decide

theorem witness_LifeOwned : ([3, 4, 5, 6].all fun op =>
    refusalOf (lifeCard op) (lifeDesc op 0) (lifeChecks (fun _ => none) (lifeDesc op 0)) secState = none ∧
      refusalOf (lifeCard op) (lifeDesc op 0) (fun _ => lifeChecks (fun _ => none) (lifeDesc op 0) secState)
        (openSlot (lifeDesc op 0) secState) = none ∧ bufferLost (lifeCard op) (lifeDesc op 0) = false) = true ∧
    ([7, 8].all fun op => refusalOf (lifeCard op) (lifeDesc op 2) (lifeChecks (fun _ => none) (lifeDesc op 2)) secState = none) = true ∧
    2 > secState.sec.minSvn ∧ 2 ≤ fget secState BOOT_SEC_VER_VERSION ∧ secState.boot.signer ≠ 2 := by decide

/-- States of every case of the statement. -/
theorem witness_DebugAndSupervision : boot runState = 4 ∧ scanOpen (attached runState) = false ∧
    scanOpen (attached State.reset) = true ∧
    fget (attached debugState) DBG_STATUS_LEVEL = 2 ∧ (jtagRead .data 0 (attached debugState)).isSome = true ∧
    mayHold (attached debugState) 0 = true ∧ mayHold (attached State.reset) 0 = false ∧ traceRing debugState = some 3 ∧
    debugState.sec.trace.length = 1 ∧ traceOn debugState = true ∧ entryReady debugState 3 = true ∧ sag debugState = 0 ∧
    sag (fput PWR_STATUS_SAG 2 debugState) = 2 ∧ ctl rollState = 3 ∧
    look (takeChange 0 rollState).sup.inForce 0 = some (2, 1, true) ∧
    watchIdle rollState = false ∧ servable rollState = true ∧ traceOn debugState = true ∧ entryReady runState 3 = false ∧
    fbit rollState WDG_STATUS_FORCED = false ∧ elapsedAt rollState 0 < rollState.sup.tClose * 1600000 ∧
    rollState.sup.tOpen = 1 ∧ rollState.sup.tClose = 10 ∧ rollState.sup.ref = 0 ∧ rollState.sup.notCounted = 0 ∧
    boot (setBoot 2 State.reset) = 2 ∧ boot (setBoot 3 State.reset) = 3 := by decide

/-- Power states, sag stages and writes of every case of the statement. -/
theorem witness_Power : ([0, 2, 3].all fun t => refusalOf pwrStateCard (powerDesc t) (pwrStateChecks (powerDesc t)) nvState = none ∧
      refusalOf pwrStateCard (powerDesc t) (fun _ => pwrStateChecks (powerDesc t) nvState) (openSlot (powerDesc t) nvState) = none ∧ bufferLost pwrStateCard (powerDesc t) = false) = true ∧
    power nvState = 0 ∧ param (powerDesc 3) 32 = 3 ∧
    refusalOf pwrReadCard plainDesc (fun _ => none) (openSlot plainDesc nvState) = none ∧ bufferLost pwrReadCard plainDesc = false ∧
    power dormantState = 3 ∧ dormantState.sup.wakeAt = none ∧ power wakingState = 3 ∧ wakingState.sup.wakeAt = some 5 ∧
    enteringDormant nvState = false ∧ enteringDormant enteringState = true ∧ power enteringState ≠ 3 ∧
    sag (fput PWR_STATUS_SAG 1 nvState) = 1 ∧ power (fput PWR_STATUS_SAG 1 nvState) ≠ 3 ∧
    ([writingState 0, writingState 1, writingState 2, writingState 3].all fun s => s.nv.writing.isSome) = true ∧
    consolState.recd.running.any (fun c => decide (402 ≤ c.page)) = true := by decide

/-- A move up from RUN that nothing refuses, a finished one, and one into DORMANT with all written. -/
theorem witness_PowerHops : movingState.pending = [] ∧ movingState.cmd.svcWait = [] ∧ movingState.red.queued = [] ∧
    movingState.sup.powerJob.isSome = true ∧ power movingState = 0 ∧ entryRefuser 2 movingState = none ∧
    (entryRefuser 2 refusedMove).isSome = true ∧ refusedMove.pending = [] ∧ refusedMove.cmd.svcWait = [] ∧
    refusedMove.red.queued = [] ∧ power (fput PWR_STATUS_STATE 2 movingState) = 2 := by decide

/-- A recorder due by time and by command, with and without a running consolidation. -/
theorem witness_Recorder : fget recState REC_CFG_INTERVAL_MIN = 5 ∧ boot recState = 4 ∧ power recState ≠ 3 ∧
    recState.recd.due = some 1 ∧
    recState.recd.running.isNone = true ∧ sag recState < 2 ∧ holdupLow recState = false ∧ (consolInUse recState).isNone = true ∧
    refusalOf recReadCard recReadDesc (fun _ => recReadChecks recReadDesc) (openSlot recReadDesc recState) = none ∧
    bufferLost recReadCard recReadDesc = false ∧
    refusalOf recConsolidateCard plainDesc (fun _ => none) recState = none ∧
    refusalOf recConsolidateCard plainDesc (fun _ => none) (openSlot plainDesc recState) = none ∧
    bufferLost recConsolidateCard plainDesc = false ∧
    consolState.recd.running.isSome = true ∧ param (clearDesc 0) 32 = 0 ∧ param (clearDesc 1) 32 = 1 ∧
    param (clearDesc 2) 32 = 2 := by decide

/-- A clear whose token is the one its key gives, without and with a consolidation that runs. -/
theorem witness_RecClear : UnrefusedBefore recClearCard (tokenDesc recState) (recClearChecks (tokenDesc recState)) recState ∧
    UnrefusedBefore recClearCard (tokenDesc clearingState) (recClearChecks (tokenDesc clearingState)) clearingState := by
  have h1 : recClearAuth (tokenDesc recState) recState = none := if_pos rfl
  have h2 : recClearAuth (tokenDesc clearingState) clearingState = none := if_pos rfl
  exact ⟨unrefused_before (by decide) (by decide) (by decide) (by unfold recClearChecks; rw [h1]; decide),
    unrefused_before (by decide) (by decide) (by decide) (by unfold recClearChecks; rw [h2]; decide)⟩

theorem witness_RecClearWaits :
    (accept 0x0D02 (tokenDesc recState) 0 (authSuccess (.ring 0) (openSlot (tokenDesc recState) recState))).1.recd.running = none ∧
    (accept 0x0D02 (tokenDesc clearingState) 0
      (authSuccess (.ring 0) (openSlot (tokenDesc clearingState) clearingState))).1.recd.running ≠ none := by decide

/-! ### Further cases of the statements -/

def publishState : State :=
  { runningRing 2 with
    hif.pubs := [(5, { task := 0, every := 1, ranges := [(0, 64)] })], img.queue := [{ at_ := 0, rank := 1, kind := .publish 5 0 1 1 }]
    hif.fences := [{ job := { op := 2, d := plainDesc }, owed := [(1, 1)], until_ := 5 }] }
def lineState : State := { runningRing 3 with mem.pend := [(0x30010000, false)] }
def nicRxRaw : List Byte := le 8 64 ++ le 4 1536 ++ le 4 0

/-- A publish copy, a mirror line, a receive buffer and a fence that wait, and a FENCE that nothing refuses. -/
theorem witness_RingsServe : publishState.img.queue.any (fun q => q.kind = .publish 5 0 1 1) = true ∧
    (look publishState.hif.pubs 5).isSome = true ∧ (nextFence publishState).isSome = true ∧
    mirrorRing lineState = some 5 ∧ entryReady lineState 5 = true ∧ lineState.mem.pend ≠ [] ∧
    ringKind (runningRing 6) 5 = 6 ∧ entryReady (runningRing 6) 5 = true ∧ nicRuns (runningRing 6) = true ∧
    leAt nicRxRaw 12 4 = 0 ∧ leAt nicRxRaw 0 8 % 64 = 0 ∧ 1536 ≤ leAt nicRxRaw 8 4 ∧
    Unrefused fenceCard plainDesc (fenceChecks plainDesc) State.reset := by unfold Unrefused; decide

/-- A snapshot and a commit at the head of the image queue. -/
theorem witness_ImageRequests :
    ({ taskState with img.queue := [{ at_ := 0, rank := 1, kind := .snapshot 0 }] } : State).img.queue.any
      (fun q => q.kind = .snapshot 0) = true ∧
    ({ taskState with img.queue := [{ at_ := 0, rank := 0, kind := .commit 0 1 }] } : State).img.queue.any
      (fun q => q.kind = .commit 0 1) = true ∧ (taskDef taskState 0).isSome = true := by decide

/-- One chunk of retained SRAM, one of the M area, and one force record of a byte. -/
def restoreDesc : Desc := { plainDesc with bufAddr := 8, bufLen := 72, buf := le 4 0x30010000 ++ le 4 64 ++ le 64 0 }
def imgWriteDesc : Desc := { plainDesc with bufAddr := 8, bufLen := 10, buf := le 4 0x20000 ++ le 4 1 ++ [1, 0xFF] }
def forceDesc : Desc := { plainDesc with bufAddr := 8, bufLen := 12, buf := le 4 0 ++ le 4 0x04000000 ++ le 4 1 }

theorem witness_ImageWrites : Unrefused restoreCard restoreDesc (restoreChecks restoreDesc) stopState ∧
    (restoreChunks 72 restoreDesc.buf).toOption.isSome = true ∧
    Unrefused imgWriteCard imgWriteDesc (imgWriteChecks imgWriteDesc) runState ∧ (chunksOf 10 imgWriteDesc.buf).isSome = true ∧
    Unrefused forceWriteCard forceDesc (forceWriteChecks forceDesc) runState := by unfold Unrefused; decide

/-- A unit in RUN whose HOST task is asked for, and the state behind the boundary of a start. -/
def hostTaskState (n : Nat) : State :=
  { due (.trigger 0) n with prog.cur := { tasks := [(0, { smallTask with kind := .event, source := .host })] } }
theorem witness_ControllerTurns : Unrefused triggerCard plainDesc (triggerChecks plainDesc) (hostTaskState 3) ∧
    isHostEvent (turnOf (dueJob (.trigger 0)) (hostTaskState 3)) 0 = true ∧
    serviceOpen (turnOf (dueJob (.start false)) (due (.start false) 2)) = false ∧
    power (turnOf (dueJob (.start false)) (due (.start false) 2)) = 0 ∧
    ctl (turnOf (dueJob (.start false)) (due (.start false) 2)) = 2 ∧
    (due (.start false) 2).seq.warm = none ∧ ctl (due .stop 3) = 3 ∧ (due .stop 3).prog.switchAt = none ∧
    (openSlot plainDesc runState).seq.warm = none ∧ pair shadowState = 5 ∧ (4 : Nat) ∉ [3, 5, 9] ∧
    ({ stopState with seq.warm := some { op := 0x0105, d := plainDesc } } : State).seq.warm.isSome = true := by
  unfold Unrefused; decide

/-- A byte to load into the open Graft, a CODE commit of a checked one, and a revert in a confirm window. -/
def loadDesc : Desc := { graftDesc with bufAddr := 8, bufLen := 1, buf := [0] }
def loadState : State := { graftIn 1 with prog.length := 112 }
def keptState : State := { confirmState with prog.origin := some (.ring 0) }
theorem witness_GraftCommits : Unrefused graftLoadCard loadDesc (graftLoadChecks loadDesc) loadState ∧
    Unrefused (commitCard (graftKind (graftIn 2))) graftDesc (commitChecks graftDesc) (graftIn 2) ∧
    Unrefused (revertCard (keptKind keptState)) graftDesc (revertChecks graftDesc) keptState ∧
    pair (openSlot graftDesc (graftIn 2)) ≠ 4 := by unfold Unrefused; decide

/-- A loaded CODE image of one empty section under its digest, and the program of it, which changes nothing. -/
def imageBody : List Byte := le 2 1 ++ le 2 0 ++ le 4 112 ++ le 8 0
def imageHead : List Byte := le 4 0x54465247 ++ le 2 1 ++ le 2 0 ++ le 4 0 ++ le 4 1 ++ le 8 112 ++ le 8 0
def checkState : State :=
  { graftIn 1 with
    prog.length := 112, prog.loaded := [(0, 112)]
    prog.image := (imageHead.zipIdx.map fun (b, i) => (i, b)) ++ ((Config.sha384 imageBody).zipIdx.map fun (b, i) => (32 + i, b)) ++
      (imageBody.zipIdx.map fun (b, i) => (96 + i, b)) }
theorem checkState_digest : digestRefusal (openSlot graftDesc checkState) = none := by
  have h : rdN (openSlot graftDesc checkState).prog.image 32 48 = Config.sha384 (rdN (openSlot graftDesc checkState).prog.image 96
    ((openSlot graftDesc checkState).prog.length - 96)) := rfl
  unfold digestRefusal
  rw [h]
  simp only [ne_eq, not_true_eq_false, false_or]
  decide
theorem witness_GraftCheck :
    Unrefused graftCheckCard graftDesc (fun s => (graftBound [1] graftDesc s).or (graftRefusal s (graftKind s) {})) checkState ∧
    pair (openSlot graftDesc checkState) ≠ 4 := by
  have h := checkState_digest
  unfold Unrefused refusalOf graftRefusal
  dsimp only
  rw [h]
  decide

/-- A selector-2 commit whose gap time is past at its boundary. -/
def lateState : State := { commitState with prog.commit := commitState.prog.commit.map (fun c => { c with gapUntil := 0 }) }
theorem witness_NoGap : lateState.prog.commit.any (fun c => c.sel = 2 && !gapFound c lateState) = true ∧
    lateState.prog.switchAt = none := by decide

/-- One entry record, a LOST encoder axis, and an edge that the accepted level shows. -/
def entryDesc : Desc := { plainDesc with bufAddr := 8, bufLen := 20, buf := le 20 0 }
def lostState (n : Nat) : State :=
  due .rearm n |> fput (TRL_AXIS_CFG_ENABLE 0) 1 |> fput (TRL_AXIS_CFG_SOURCE 0) 3 |> fput (TRL_AXIS_STATUS_STATE 0) 3
theorem witness_TrellisTurns : Unrefused entryWriteCard entryDesc (entryWriteChecks entryDesc) trellisState ∧
    Unrefused rearmCard plainDesc (rearmChecks plainDesc) (lostState 3) ∧ axSource (turnOf (dueJob .rearm) (lostState 3)) 0 = 3 ∧
    axState (turnOf (dueJob .rearm) (lostState 3)) 0 = 3 ∧ axState (turnOf (dueJob .rearm) (due .rearm 3)) 0 ≠ 3 ∧
    (chan trellisState 0).level = false ∧ (chan trellisState 0).levelAt = 0 ∧
    ({ trellisState with trl.firedAt := 1 } : State).trl.firedAt ≠ tickAt trellisState trellisState.now := by unfold Unrefused; decide

/-- Service and drive ports that change, a lost slave port, and a window with a template to send. -/
theorem witness_LinksChange : fbit svcState NET_STATUS_SVC_LINK = true ∧ fbit netState NET_STATUS_SVC_LINK = false ∧
    fget (fputBit NET_STATUS_LINK 2 true (fput NET_STATUS_PLANT_PORT 1 linkState)) NET_STATUS_PLANT_PORT + 1 = 2 ∧
    talks netState = true ∧ cycleRuns netState = true ∧ power netState = 1 := by decide

/-- A frame of the coordinator at a plant port, a request that has been sent, and reads that nothing refuses. -/
def plantTemplate : Template := { tx := false, port := 4, kind := 7, sender := 9, payloadLen := 4 }
def plantState : State :=
  { frameState with
    prog.cur := { templates := [(0, { plantTemplate with port := 5 })] }
    net.mailbox := [{ mailbox 1 with sent := some 0 }, { mailbox 2 with sent := some 0, tries := 2 }] }
    |> fput NET_PAIR_ID_COORD_ADDR 9
def mailDesc : Desc :=
  { paramDesc (1 + 2 ^ 16 + 2 ^ 32) with bufAddr := 8, bufLen := 64, buf := List.replicate 64 0 }
theorem witness_PlantFrames : fKind (frame 7 9 0 1 0) = kPlantData ∧ headerBad (frame 7 9 0 1 0) = false ∧
    fSender (frame 7 9 0 1 0) = fget plantState NET_PAIR_ID_COORD_ADDR ∧
    (matchTpl plantState 2 (frame 7 9 0 1 0)).any (fun x => !sizeBad x.2 (frame 7 9 0 1 0)) = true ∧
    plantState.net.coordEpoch ≤ fEpoch (frame 7 9 0 1 0) ∧
    (plantState.net.mailbox.find? (fun m => m.dest = 1 ∧ m.sent.isSome)).any (fun m => m.tries < 2) = true ∧
    (plantState.net.mailbox.find? (fun m => m.dest = 2 ∧ m.sent.isSome)).any (fun m => 2 ≤ m.tries) = true ∧
    Unrefused mailboxCard mailDesc (fun _ => mailboxChecks mailDesc) runState ∧
    Unrefused tplReadCard (bufDesc 65536) (fun _ => none) runState ∧ Unrefused ptpReadCard (bufDesc 0) (fun _ => none) runState ∧
    Unrefused mcastReadCard { bufDesc 0 with bufLen := 776 } (fun _ => none) runState := by unfold Unrefused; decide

/-- A unit whose own HELLO has left, one that may agree at once, and a peer that may have crossed its UNFIT. -/
def heardState : State := { pairState with red.helloOut := true }
def crossState : State :=
  { sourceState with red.unfitSent := some 6 }
def soughtJoin : State := { joinState with red.xfer := some { started := 0, round := 1 } }
theorem witness_PairsAgree : heardState.red.helloOut = true ∧ mayAgree heardState = (heardState, true) ∧
    peerHello.code ∈ [0, 1, 6] ∧
    (redundantState.red.unacked.find? (fun x => x.seq = 1)).isSome = true ∧ twinned shadowState = true ∧
    twinned redundantState = true ∧
    crossed 6 sourceState = false ∧ crossed 6 crossState = true ∧ crossed 6 shadowState = false ∧
    pair soughtJoin = 3 ∧ soughtJoin.red.xfer.any (·.complete) = false ∧
    ({ sourceState with red.xfer := some { started := 0, round := 1, sent := some ([], []) } } : State).red.xfer.any
      (fun x => x.qualified.isNone && x.sent.isSome) = true ∧
    ({ shadowState with red.peerDigests := redundantState.red.ownDigests } : State).red.peerDigests.find?
      (fun m => m.task = 0 ∧ m.inst = 1) ≠ none := by decide

/-- A handover that the standby has accepted and that may go through, on both sides. -/
theorem witness_HandoverGoes :
    ({ offerState with red.handover := some { h := 2, source := true, accepted := true, outputsAt := none, job := none } } : State).red.handover.any
      (fun x => x.accepted && x.source && x.outputsAt.isNone) = true ∧ pair offerState = 4 ∧
    ({ shadowState with red.handover := some { h := 2, source := false, accepted := true, outputsAt := none, job := none } } : State).red.handover.any
      (fun x => x.accepted && !x.source && x.outputsAt.isNone) = true ∧ pair shadowState = 5 := by decide

/-- Outputs and loops whose logic runs, and a second that no waiting commit stops. -/
theorem witness_LogicRuns : logicOff fieldState = false ∧ logicOff loopState = false ∧
    ({ busyState with rtc.counting := true } : State).rtc.counting = true ∧
    (∀ p ∈ [busyState.rtc.fw, busyState.rtc.bar0], p.commit = true → p.staging.all (fun x => !validTime x) = true) := by decide

/-- The service port behind a frame that it has counted. -/
theorem witness_PortCounts : svcServes (svcFrame svcState) = true ∧ (svcFrame svcState).cmd.svc.isNone = true ∧
    (svcFrame svcState).cmd.svcWait = [] ∧ (namedSession (svcFrame svcState) svcRaw).isNone = true ∧
    svcServes (svcFrame State.reset) = false ∧ svcServes (svcFrame sessionState) = true := by decide

theorem witness_PortSession : (namedSession (svcFrame sessionState) sessionRaw).any (fun x => x.lastSeq = some 5) = true := by decide

/-! ### Turns of commands with a later effect -/

/-- A command of each kind at the head of its list, whose turn comes in RUN. -/
theorem witness_Turns : ∀ a ∈ [DefAct.imgWrite, .force, .forceClear, .start true, .stop, .trigger 0, .entryBatch, .axisSet, .trimSet,
    .rearm, .clearLatch, .release], nextDeferred (fun x => decide (x = a)) (due a 3) = some (dueJob a) ∧
      standby (turnOf (dueJob a) (due a 3)) = false := by decide

/-! ### Operands that the checks refuse -/

def badHello : Hello := { peerHello with side := 2 }
def aBeat : Beat :=
  { sendTime := 0, echoTime := 0, echoRx := 0, beat := 0, code := 0, ctl := 0, fault := false, side := 0, unfit := 0, epoch := 0
    pairId := 0 }
def longFrame : RxFrame := { badFrame with payload := List.replicate 1501 0 }

theorem test_wf_register_access : Instr.wf (.registerWrite 0 3 0) = false ∧ Instr.wf (.readClearField ⟨.bar0, 0xFFFD⟩ 4) = false ∧
    Instr.wf (.read64bitLowWord 0 0) = false ∧ Instr.wf (.write64bitHighWord 0x10000 4 0) = false := by decide

theorem test_wf_descriptor : Instr.wf (.ctlStart { plainDesc with index := 65536 }) = false ∧
    Instr.wf (.ctlStart { plainDesc with bufLen := 2 ^ 32 }) = false ∧
    Instr.wf (.ctlStart { plainDesc with apply := 2 ^ 32 }) = false ∧
    Instr.wf (.ctlStart { plainDesc with session := 2 ^ 32 }) = false ∧ Instr.wf (.ctlStart plainDesc) = true := by decide

theorem test_wf_frames : Instr.wf (.driveFrameReceive 0 longFrame) = false ∧ Instr.wf (.plantFrameReceive 0 longFrame) = false ∧
    Instr.wf (.collectHeadSend 256) = false ∧ Instr.wf (.frerRecoveryReset 256) = false ∧ Instr.wf (.mailboxRetry 65536) = false ∧
    Instr.wf (.plantAnnounceReceive 0 { domain := 256, rank := 0, gm := 0, at_ := 0 }) = false := by decide

theorem test_wf_pair : Instr.wf (.helloReceive badHello) = false ∧ Instr.wf (.helloReceive { peerHello with code := 256 }) = false ∧
    Instr.wf (.helloReceive { peerHello with ctl := 256 }) = false ∧
    Instr.wf (.helloReceive { peerHello with epoch := 2 ^ 32 }) = false ∧
    Instr.wf (.heartbeatReceive (.laneA 0) { aBeat with code := 256 } 0) = false ∧
    Instr.wf (.heartbeatReceive (.laneA 0) { aBeat with ctl := 256 } 0) = false ∧
    Instr.wf (.heartbeatReceive (.laneA 0) { aBeat with side := 2 } 0) = false ∧
    Instr.wf (.heartbeatReceive (.laneA 0) { aBeat with unfit := 256 } 0) = false ∧
    Instr.wf (.heartbeatReceive (.laneA 0) { aBeat with epoch := 2 ^ 32 } 0) = false ∧
    Instr.wf (.hedgeRepeat (2 ^ 32)) = false ∧ Instr.wf (.hedgeAckTimeout (2 ^ 32)) = false ∧ Instr.wf (.pairHalt 16 0) = false ∧
    Instr.wf (.unfitReceive 256) = false ∧ Instr.wf (.mirrorCmdReceive 65536 plainDesc 0) = false := by decide

theorem test_wf_handover : Instr.wf (.handoverReceive .request 0 65536 0) = false ∧
    Instr.wf (.handoverReceive .request 0 0 65536) = false := by
  decide

theorem test_wf_rings : Instr.wf (.nicTxDescriptor 0 (some []) []) = false ∧ Instr.wf (.nicRxBufferEntry 0 []) = false ∧
    Instr.wf (.descriptorFetch 0 (some []) []) = false ∧ Instr.wf (.traceRecordWrite { addr := 2 ^ 64, len := 0 }) = false ∧
    Instr.wf (.mirrorSend { addr := 0, len := 2 ^ 32 }) = false ∧
    Instr.wf (.publishCopy 0 { addr := 2 ^ 64, len := 0 }) = false := by decide

theorem test_wf_others : Instr.wf (.svcDatagram (2 ^ 32) 0 ⟨[], true⟩) = false ∧
    Instr.wf (.svcDatagram 0 65536 ⟨[], true⟩) = false ∧
    Instr.wf (.stagingWindowWrite (2 ^ 26) [0]) = false ∧ Instr.wf (.rtcTimeRegisterRead 1) = false ∧
    Instr.wf (.rtcStagingWrite 2 0) = false ∧ Instr.wf (.pcieLinkUp 16 0) = false ∧ Instr.wf (.pcieLinkUp 0 64) = false := by decide

/-! ### No row of the table has bits -/

theorem test_no_word_spells_a_command : decodeTableWord 32 0 = none ∧
    State.withFetchWord State.reset 32 0 = State.reset := ⟨rfl, rfl⟩

/-! ### Check values and worked examples of the spec -/

/-- The check values for the ASCII string 123456789 (table of R160, R207). -/
theorem test_crc16_check_value : crc16 (ascii "123456789") = 0x29B1 := by decide
theorem test_crc64_check_value : crc64 (ascii "123456789") = 0x995DC9BBDF1939FA := by decide

/-- SYS_ID of R3 for ordering code VX4860-IA. -/
theorem test_sys_id : regWord State.reset 0 = 0x48600201 := by decide

/-- The word of DIV g5, g6, g7 under p3 that chapter 9 takes apart. -/
theorem test_divide_word : evOp 0x300A63B8 = 0 ∧ evFn 0x300A63B8 = 0x38 ∧ evRd 0x300A63B8 = 5 ∧ evRa 0x300A63B8 = 6 ∧
    evRb 0x300A63B8 = 7 ∧
    guardHolds { p := 9 } 0x300A63B8 = true ∧ guardHolds { p := 1 } 0x300A63B8 = false := by decide

/-- Core 0 with operands of a division and p3. -/
def divState (a b : Word) (p3 : Bool) : State := setCore 0 (fun k => { k with ctx := { k.ctx with
  g := [(5, 1), (6, a), (7, b)], p := if p3 then 9 else 1 } }) State.reset
/-- g5 and STAT after the guarded division. -/
def divResult (a b : Word) (p3 : Bool) : Option (Word × Word) := match exec (.evDiv 0 0x300A63B8) (divState a b p3) with
  | .next t => some (gReg (core t 0).ctx 5, (core t 0).ctx.stat)
  | _ => none

/-- The rows of the example's table; OV is bit 0 of STAT and DZ bit 1. -/
theorem test_divide_table : divResult 0x4E20 0x64 false = some (1, 0) ∧ divResult 0x4E20 0x64 true = some (200, 0) ∧
    divResult 0xFFFFB1E0 3 true = some (0xFFFFE5F6, 0) ∧
    (divResult 0x80000000 0xFFFFFFFF true).map (·.1) = some 0x80000000 := by decide
theorem test_divide_by_zero : (divResult 0xFFFFB1E0 0 true).map (·.1) = some 0x80000000 ∧
    (divResult 0x4E20 0 true).map (·.1) = some 0x7FFFFFFF ∧
    ((divResult 0x4E20 0 true).map (fun x => decide (x.2 = 0))) = some false := by decide

/-- NVS_WRITE of 20 bytes at 0x3_007A wraps within its page (the example below R444). -/
theorem test_page_wraps : (latchPage [] 0x3007A (List.replicate 20 1)).map (·.1) =
    (List.range 14).map (0x30000 + ·) ++ (List.range 6).map (0x3007A + ·) := by decide

/-- The example below R449: copy B is in use at SEQ 0xFFFF_FFFF, and copy A with SEQ 0 is later. -/
theorem test_twin_selection : (selectTwin (some (0xFFFFFFFE, [1])) (some (0xFFFFFFFF, [2]))).1 = some (true, 0xFFFFFFFF, [2]) ∧
    (selectTwin (some (0, [3])) (some (0xFFFFFFFF, [2]))).1 = some (false, 0, [3]) ∧
    (selectTwin none (some (0xFFFFFFFF, [2]))).1 = some (true, 0xFFFFFFFF, [2]) := by decide

end Sys2Proof.Machine.Tests
end

section
/-! PROOFS. Host accesses to BAR0 of another width (R14). -/

namespace Sys2Proof.Machine

variable {off width : Nat} (v : Word) (s : State)

/-! ### What the four accesses to a BAR0 word do -/

theorem exec_registerWrite (off width : Nat) :
    exec (.registerWrite off width v) s = .next (writeRegWord off width v s) := rfl

theorem exec_write64bitHighWord (off width : Nat) :
    exec (.write64bitHighWord off width v) s = .next (writeRegWord off width v s) := rfl

theorem exec_readClearField_bar0 (off width : Nat) :
    exec (.readClearField ⟨.bar0, off⟩ width) s = .next (readRegWord off width s) := rfl

theorem exec_read64bitLowWord (off width : Nat) :
    exec (.read64bitLowWord off width) s = .next (readRegWord off width s) := rfl

/-! ### Accesses that are not of one whole aligned word (R14; for the offset, log entry 72) -/

theorem writeRegWord_of_not_word (h : width ≠ 4 ∨ off % 4 ≠ 0) : writeRegWord off width v s = s := if_pos h

theorem hostRead_of_not_word (h : width ≠ 4 ∨ off % 4 ≠ 0) :
    hostRead off width s = emit (.read off 0xFFFFFFFF) s := if_pos h

/-- The time registers' own row asks for a whole aligned word too, so such a read freezes no shadow. -/
theorem readRegWord_of_not_word (h : width ≠ 4 ∨ off % 4 ≠ 0) :
    readRegWord off width s = emit (.read off 0xFFFFFFFF) s := by
  have hnotTime : ¬(width = 4 ∧ off % 4 = 0 ∧ 0x7C00 ≤ off ∧ off ≤ 0x7C18) := by omega
  calc readRegWord off width s
      _ = hostRead off width s := if_neg hnotTime
      _ = emit (.read off 0xFFFFFFFF) s := hostRead_of_not_word s h

end Sys2Proof.Machine
end

section

namespace Sys2Proof.Machine

/-- Settles O25: both writes are `writeRegWord` and both reads are `readRegWord`, which test the width before the offset
is looked up. -/
theorem accessesOfAnotherWidthAreDiscarded : Obligations.AccessesOfAnotherWidthAreDiscarded := by
  intro off width v s hwidth
  have hwrite := writeRegWord_of_not_word (off := off) v s (.inl hwidth)
  have hread := readRegWord_of_not_word (off := off) s (.inl hwidth)
  refine ⟨?registerWrite, ?highWordWrite, ?fieldRead, ?lowWordRead⟩
  case registerWrite => rw [exec_registerWrite, hwrite]
  case highWordWrite => rw [exec_write64bitHighWord, hwrite]
  case fieldRead => rw [exec_readClearField_bar0, hread]
  case lowWordRead => rw [exec_read64bitLowWord, hread]

end Sys2Proof.Machine
end

section
/-! PROOFS. What a cycle core does with a word before its effect, and the traps of the escape opcode. -/

namespace Sys2Proof.Machine

variable {s : State} {c : Nat} {w : Word}

/-! ### The words of the escape opcode (R245) -/

/-- No encoding of the escape opcode is illegal: format X gives it no reserved field (R243). -/
theorem evIllegal_of_escape (hop : evOp w = 0x3F) : evIllegal w = false := by
  simp only [evIllegal, hop]

/-- The reserved words of the escape opcode are those of XOP 0x10 and above. -/
theorem evReserved_of_escape (hop : evOp w = 0x3F) : evReserved w = decide (0x10 ≤ evXop w) := by
  simp only [evReserved, hop, ge_iff_le]

/-! ### The steps of `evRun` before the effect of the instruction -/

theorem afterStep_of_not_stepping (hstep : (core s c).stepping = false) : afterStep c s = s := by
  simp [afterStep, hstep]

theorem decodeTrap_of_fetched_legal (hfetch : canFetch s c (core s c).ctx.mode (core s c).ctx.pc = true)
    (hlegal : evIllegal w = false) : decodeTrap s c w none false = none := by
  simp [decodeTrap, hfetch, hlegal]

/-- An instruction whose effect is a trap takes it, at a breakpoint too: a breakpoint has the lowest priority. -/
theorem evRun_of_effect_traps {form : Option Trap} {priv : Bool} {skip after : State → State} {act : EvAct} {s' : State}
    {code : Nat} {word : Word} (hstep : (core s c).stepping = false) (hdecode : decodeTrap s c w form priv = none)
    (hguard : guardHolds (core s c).ctx w = true)
    (hact : act ⟨c, w, (core s c).ctx, iteration (core s c).ctx⟩ s = (s', some (code, word))) :
    evRun c w form priv skip act after s = evTrap c code word false s' := by
  simp [evRun, afterStep_of_not_stepping hstep, hdecode, hguard, hact]

/-! ### The two rows of the escape opcode (R227, R245) -/

theorem exec_evEscapeServiceInstruction (c : Fin 8) (w : Word) (s : State) :
    exec (.evEscapeServiceInstruction c w) s = .next (evJump (isOp 0x3F c.val w s && decide (evXop w < 0x10)) c.val w
      false (fun e s => (s, some (6, e.w))) s) := rfl

theorem exec_evReservedEncoding_of_fetched {c : Fin 8} (hissues : issues s c = true)
    (hstep : (core s c).stepping = false)
    (hfetch : canFetch s c (core s c).ctx.mode (core s c).ctx.pc = true) (hres : evReserved w = true) :
    exec (.evReservedEncoding c w) s = .next (evTrap c 0x01 w false s) := by
  change execEvReservedEncoding c w s = _
  simp [execEvReservedEncoding, hissues, hres, afterStep_of_not_stepping hstep, hfetch]

end Sys2Proof.Machine
end

section

namespace Sys2Proof.Machine

/-- Settles O15: no word of the escape opcode is illegal, so its service words reach the guard and trap as their effect;
its reserved words trap before the guard is looked at. -/
theorem escapeWordsTrap : Obligations.EscapeWordsTrap := by
  intro c w s hissues hstep hfetch hop
  refine ⟨?service, ?reserved⟩
  case service =>
    intro hxop hguard
    have hmine : (isOp 0x3F c.val w s && decide (evXop w < 0x10)) = true := by simp [isOp, hissues, hop, hxop]
    have hdecode := decodeTrap_of_fetched_legal hfetch (evIllegal_of_escape hop)
    rw [exec_evEscapeServiceInstruction, evJump, if_pos hmine, evRun_of_effect_traps hstep hdecode hguard rfl]
  case reserved =>
    intro hxop
    have hreserved : evReserved w = true := by simpa [evReserved_of_escape hop] using hxop
    exact exec_evReservedEncoding_of_fetched hissues hstep hfetch hreserved

end Sys2Proof.Machine
end

section
/-! PROOFS. A row of major opcode 0x00 on a core that completes it, and the register shifts against the amount table of
R253. -/

namespace Sys2Proof.Machine

open Claims

/-! ### A row that completes -/

/-- An instruction whose guard holds and whose effect does not trap goes on to what follows it: the breakpoint, the only
other end, does not stand at it. -/
theorem evRun_of_effect_completes {c : Fin 8} {w : Word} {s s' : State} {skip after : State → State} {act : EvAct}
    (hgo : EvGo s c w) (hact : act ⟨c, w, (core s c).ctx, iteration (core s c).ctx⟩ s = (s', none)) :
    evRun c w none false skip act after s = after (setCore c (fun k => { k with passBreak := false }) s') := by
  obtain ⟨-, hstep, hdecode, hguard, hbreak⟩ := hgo
  simp [evRun, afterStep_of_not_stepping hstep, hdecode, hguard, hact, hbreak]

/-- Moving on behind an instruction that only left a context is `evWith`. -/
theorem evNext_setCtx (c : Fin 8) (x : Ctx) (s : State) :
    evNext c (setCore c (fun k => { k with passBreak := false }) (setCtx c x s)) = evWith c x s := by
  simp [evNext, setCtx_eq, evWith]

theorem evRow_evPure_completes {c : Fin 8} {w : Word} {s : State} {mine : Bool} (f : Word → Ctx → Ctx) (hgo : EvGo s c w)
    (hmine : mine = true) : evRow mine c w (evPure f) s = evWith c (f w (core s c).ctx) s := by
  rw [evRow, if_pos hmine, evRun_of_effect_completes hgo rfl, evNext_setCtx]

theorem isFn_of_issues {op fn c : Nat} {w : Word} {s : State} (hissues : issues s c = true) (hop : evOp w = op)
    (hfn : evFn w = fn) : isFn op fn c w s = true := by
  simp [isFn, hissues, hop, hfn]

/-- A row of major opcode 0x00 that only changes the context answers the state moved on with that context. -/
theorem aluRow_completes {c : Fin 8} {w : Word} {s : State} {fn : Nat} (f : Word → Ctx → Ctx) (hgo : EvGo s c w)
    (hop : evOp w = 0x00) (hfn : evFn w = fn) : aluRow fn c w f s = .next (evWith c (f w (core s c).ctx) s) := by
  rw [aluRow, evRow_evPure_completes f hgo (isFn_of_issues hgo.1 hop hfn)]

theorem aluRow_alu_completes {c : Fin 8} {w : Word} {s : State} {fn : Nat} {f : Word → Word → Word} (hgo : EvGo s c w)
    (hop : evOp w = 0x00) (hfn : evFn w = fn) : aluRow fn c w (alu f) s = .next (evWith c (setG (evRd w)
      (f (gReg (core s c).ctx (evRa w)) (gReg (core s c).ctx (evRb w))) (core s c).ctx) s) :=
  aluRow_completes (alu f) hgo hop hfn

/-! ### The register shifts are rows of `alu` (R250) -/

section
variable (c : Fin 8) (w : Word) (s : State)

theorem exec_evShl : exec (.evShl c w) s = aluRow 0x10 c w (alu fun a b => shlW a b.toNat) s := rfl
theorem exec_evShr : exec (.evShr c w) s = aluRow 0x11 c w (alu fun a b => shrW a b.toNat) s := rfl
theorem exec_evSar : exec (.evSar c w) s = aluRow 0x12 c w (alu fun a b => sarW a b.toNat) s := rfl
theorem exec_evRol : exec (.evRol c w) s = aluRow 0x13 c w (alu fun a b => rolW a b.toNat) s := rfl
theorem exec_evRor : exec (.evRor c w) s = aluRow 0x14 c w (alu fun a b => rorW a b.toNat) s := rfl

end

/-! ### The amount table (R253) -/

section
variable (a : Word) (n : Nat)

theorem shlW_eq_product : shlW a n = if n < 32 then BitVec.ofNat 32 (a.toNat * 2 ^ n) else 0 := by
  have hshift : a <<< n = BitVec.ofNat 32 (a.toNat * 2 ^ n) :=
    BitVec.eq_of_toNat_eq (by rw [BitVec.toNat_shiftLeft, Nat.shiftLeft_eq, BitVec.toNat_ofNat])
  rw [shlW, hshift]

theorem shrW_eq_quotient : shrW a n = if n < 32 then BitVec.ofNat 32 (a.toNat / 2 ^ n) else 0 := by
  have hshift : a >>> n = BitVec.ofNat 32 (a.toNat / 2 ^ n) := by
    rw [← Nat.shiftRight_eq_div_pow, ← BitVec.toNat_ushiftRight, BitVec.ofNat_toNat, BitVec.setWidth_eq]
  rw [shrW, hshift]

/-- The division of the integers rounds toward minus infinity by a positive divisor. -/
theorem sshiftRight_eq_floor : a.sshiftRight n = BitVec.ofInt 32 (a.toInt / 2 ^ n) := by
  rw [BitVec.sshiftRight, Int.shiftRight_eq_div_pow, Nat.cast_pow, Nat.cast_ofNat]

/-- An amount of 32 or more shifts by 31, which leaves the sign alone. -/
theorem sshiftRight_31_eq_sign : a.sshiftRight 31 = if 0 ≤ a.toInt then 0 else 0xFFFFFFFF := by
  have hlow : -2 ^ 31 ≤ a.toInt := a.le_toInt
  have hhigh : a.toInt < 2 ^ 31 := a.toInt_lt
  rw [sshiftRight_eq_floor]
  split
  case isTrue hpos => rw [Int.ediv_eq_zero_of_lt hpos hhigh]; rfl
  case isFalse hneg => rw [Int.ediv_eq_neg_one_of_neg_of_le (by omega) (by omega)]; rfl

theorem sarW_eq_floor_or_sign : sarW a n =
    if n < 32 then BitVec.ofInt 32 (a.toInt / 2 ^ n) else if 0 ≤ a.toInt then 0 else 0xFFFFFFFF := by
  rw [sarW]
  split
  case isTrue hsmall => rw [Nat.min_eq_left (by omega), sshiftRight_eq_floor]
  case isFalse hlarge => rw [Nat.min_eq_right (by omega), sshiftRight_31_eq_sign]

theorem rolW_eq_rotate : rolW a n = if n < 32 then a.rotateLeft n else a.rotateLeft (n % 32) := by
  rw [rolW, BitVec.rotateLeft_mod_eq_rotateLeft, ite_self]

theorem rorW_eq_rotate : rorW a n = if n < 32 then a.rotateRight n else a.rotateRight (n % 32) := by
  rw [rorW, BitVec.rotateRight_mod_eq_rotateRight, ite_self]

end

end Sys2Proof.Machine
end

section

namespace Sys2Proof.Machine

/-- Settles O2: each shift is a row of `alu` and completes as one, and its operation is a column of the amount table. -/
theorem registerShiftsFollowTheAmountTable : Obligations.RegisterShiftsFollowTheAmountTable := by
  intro c w s hgo hop
  dsimp only
  refine ⟨fun hfn => ?shl, fun hfn => ?shr, fun hfn => ?sar, fun hfn => ?rol, fun hfn => ?ror⟩
  case shl => rw [exec_evShl, aluRow_alu_completes hgo hop hfn, shlW_eq_product]
  case shr => rw [exec_evShr, aluRow_alu_completes hgo hop hfn, shrW_eq_quotient]
  case sar => rw [exec_evSar, aluRow_alu_completes hgo hop hfn, sarW_eq_floor_or_sign]
  case rol => rw [exec_evRol, aluRow_alu_completes hgo hop hfn, rolW_eq_rotate]
  case ror => rw [exec_evRor, aluRow_alu_completes hgo hop hfn, rorW_eq_rotate]

end Sys2Proof.Machine
end

section
/-! PROOFS. Every command answers a next state, keeps the queue and the canonical forms, and leaves the life cycle or
moves it along a row of R389; so does a step. -/

namespace Sys2Proof.Machine

/-! ### Every command answers -/

/-- An outcome is a next state, neither a fault nor a refusal. -/
abbrev Answers (o : Host.Outcome State Fault Refusal) : Prop := ∃ t, o = .next t

theorem answers_next (s : State) : Answers (.next s) := ⟨s, rfl⟩

theorem runTrim_answers (d : Desc) (s : State) : Answers (runTrim d s) := by
  unfold runTrim
  split <;> exact ⟨_, rfl⟩

theorem runLifecycle_answers (d : Desc) (s : State) : Answers (runLifecycle d s) := by
  unfold runLifecycle
  split <;> exact ⟨_, rfl⟩

theorem runUnlock_answers (d : Desc) (s : State) : Answers (runUnlock d s) := by
  unfold runUnlock
  split <;> exact ⟨_, rfl⟩

theorem runLow_answers (op : Nat) (d : Desc) (s : State) : Answers (runLow op d s) := by
  unfold runLow
  split <;> exact ⟨_, rfl⟩

theorem runMiddle_answers (op : Nat) (d : Desc) (s : State) : Answers (runMiddle op d s) := by
  unfold runMiddle
  split
  case h_23 => exact runTrim_answers d s
  all_goals exact ⟨_, rfl⟩

theorem runHigh_answers (op : Nat) (d : Desc) (s : State) : Answers (runHigh op d s) := by
  unfold runHigh
  split
  case h_3 => split <;> exact ⟨_, rfl⟩
  case h_6 => exact runLifecycle_answers d s
  case h_10 => exact runUnlock_answers d s
  all_goals exact ⟨_, rfl⟩

theorem runOpcode_answers (op : Nat) (d : Desc) (s : State) : Answers (runOpcode op d s) := by
  unfold runOpcode
  (repeat' split)
  · exact runLow_answers op d s
  · exact runMiddle_answers op d s
  · exact runHigh_answers op d s

theorem execDescriptorFetch_answers (r : Fin 128) (raw : Option (List Byte)) (buf : List Byte) (s : State) :
    Answers (execDescriptorFetch r raw buf s) := by
  unfold execDescriptorFetch
  dsimp only
  split
  · split
    · exact answers_next _
    · exact runOpcode_answers ..
  · exact answers_next s

theorem svcServe_answers (ip port : Nat) (raw : List Byte) (s : State) : Answers (svcServe ip port raw s) := by
  unfold svcServe svcRun
  dsimp only
  split
  · exact runOpcode_answers ..
  · split
    · exact runOpcode_answers ..
    · split
      · exact answers_next s
      · split
        · exact answers_next _
        · exact runOpcode_answers ..

theorem svcDrain_answers (n : Nat) (s : State) : Answers (svcDrain n s) := by
  induction n generalizing s with
  | zero => exact answers_next s
  | succ n ih =>
    unfold svcDrain
    split
    case h_1 ip port raw rest _ _ =>
      obtain ⟨t, hserved⟩ := svcServe_answers ip port raw { s with cmd.svcWait := rest }
      rw [hserved]
      exact ih t
    case h_2 => exact answers_next s

theorem execSvcDatagram_answers (srcIp srcPort : Nat) (d : Datagram) (s : State) :
    Answers (execSvcDatagram srcIp srcPort d s) := by
  unfold execSvcDatagram
  dsimp only
  split
  · exact answers_next _
  · split
    · exact svcDrain_answers ..
    · exact answers_next _

/-- All rows but the two that run a command of their data end in a next state as they stand. -/
theorem exec_answers (i : Instr) (s : State) : Answers (exec i s) := by
  cases i with
  | descriptorFetch r raw buf => exact execDescriptorFetch_answers r raw buf s
  | svcDatagram srcIp srcPort d => exact execSvcDatagram_answers srcIp srcPort d s
  | _ => exact ⟨_, rfl⟩

/-! ### What every command keeps -/

/-- The life-cycle commands that change the state, and the fetch of a descriptor, which may carry one of them. -/
def movesLife : Instr → Bool
  | .lcProvision _ | .lcTakeOwnership _ | .lcReturn _ | .lcScrap _ | .descriptorFetch _ _ _ => true
  | _ => false

/-- Each row of the table keeps what `Tidy` names, by its own frame lemma. -/
theorem exec_tidy {i : Instr} {s t : State} (hrow : movesLife i = false) (h : exec i s = .next t) : Tidy s t := by
  cases i with
  | lcProvision | lcTakeOwnership | lcReturn | lcScrap | descriptorFetch => exact Bool.noConfusion (hrow : true = false)
  | registerWrite => exact execRegisterWrite_tidy _ _ _ _ h
  | readClearField => exact execReadClearField_tidy _ _ _ h
  | read64bitLowWord => exact execRead64bitLowWord_tidy _ _ _ h
  | write64bitHighWord => exact execWrite64bitHighWord_tidy _ _ _ _ h
  | syncCycleBoundary => exact execSyncCycleBoundary_tidy _ h
  | syncRelease => exact execSyncRelease_tidy _ h
  | cyclicRelease => exact execCyclicRelease_tidy _ _ h
  | backgroundRelease => exact execBackgroundRelease_tidy _ _ h
  | pendingReleaseStart => exact execPendingReleaseStart_tidy _ h
  | snapshot => exact execSnapshot_tidy _ h
  | snapshotComplete => exact execSnapshotComplete_tidy _ _ h
  | commit => exact execCommit_tidy _ _ h
  | budgetOverrun => exact execBudgetOverrun_tidy _ _ h
  | hostImageWriteApply => exact execHostImageWriteApply_tidy _ h
  | forceChangeApply => exact execForceChangeApply_tidy _ h
  | rungNop => exact execRungNop_tidy _ _ _ h
  | rungRng => exact execRungRng_tidy _ _ _ h
  | rungEnd => exact execRungEnd_tidy _ _ _ h
  | rungLd => exact execRungLd_tidy _ _ _ h
  | rungAnd => exact execRungAnd_tidy _ _ _ h
  | rungOr => exact execRungOr_tidy _ _ _ h
  | rungXor => exact execRungXor_tidy _ _ _ h
  | rungAndb => exact execRungAndb_tidy _ _ _ h
  | rungOrb => exact execRungOrb_tidy _ _ _ h
  | rungXorb => exact execRungXorb_tidy _ _ _ h
  | rungNot => exact execRungNot_tidy _ _ _ h
  | rungDup => exact execRungDup_tidy _ _ _ h
  | rungPop => exact execRungPop_tidy _ _ _ h
  | rungOut => exact execRungOut_tidy _ _ _ h
  | rungSet => exact execRungSet_tidy _ _ _ h
  | rungRst => exact execRungRst_tidy _ _ _ h
  | rungRedge => exact execRungRedge_tidy _ _ _ h
  | rungFedge => exact execRungFedge_tidy _ _ _ h
  | rungTon => exact execRungTon_tidy _ _ _ h
  | rungTof => exact execRungTof_tidy _ _ _ h
  | rungTp => exact execRungTp_tidy _ _ _ h
  | rungCtu => exact execRungCtu_tidy _ _ _ h
  | rungCtd => exact execRungCtd_tidy _ _ _ h
  | rungTcres => exact execRungTcres_tidy _ _ _ h
  | rungSkz => exact execRungSkz_tidy _ _ _ h
  | rungSknz => exact execRungSknz_tidy _ _ _ h
  | ctlStart => exact execCtlStart_tidy _ _ h
  | runBegin => exact execRunBegin_tidy _ h
  | ctlStop => exact execCtlStop_tidy _ _ h
  | stopBegin => exact execStopBegin_tidy _ h
  | ctlHalt => exact execCtlHalt_tidy _ _ h
  | ctlClearHalt => exact execCtlClearHalt_tidy _ _ h
  | ctlWarmRestart => exact execCtlWarmRestart_tidy _ _ h
  | warmRestartDone => exact execWarmRestartDone_tidy _ h
  | ctlTrigger => exact execCtlTrigger_tidy _ _ h
  | hostEventRelease => exact execHostEventRelease_tidy _ h
  | pairHalt => exact execPairHalt_tidy _ _ _ h
  | graftOpen => exact execGraftOpen_tidy _ _ h
  | graftLoad => exact execGraftLoad_tidy _ _ h
  | graftCheck => exact execGraftCheck_tidy _ _ _ h
  | graftCommit => exact execGraftCommit_tidy _ _ h
  | graftAbort => exact execGraftAbort_tidy _ _ h
  | graftConfirm => exact execGraftConfirm_tidy _ _ h
  | graftRevert => exact execGraftRevert_tidy _ _ h
  | codeGraftApply => exact execCodeGraftApply_tidy _ h
  | graftSwitchStart => exact execGraftSwitchStart_tidy _ h
  | graftSwitchEnd => exact execGraftSwitchEnd_tidy _ _ h
  | graftNoGap => exact execGraftNoGap_tidy _ h
  | confirmWindowEnd => exact execConfirmWindowEnd_tidy _ h
  | trellisTick => exact execTrellisTick_tidy _ h
  | edgeIssue => exact execEdgeIssue_tidy _ h
  | pulseEnd => exact execPulseEnd_tidy _ _ h
  | encoderEdge => exact execEncoderEdge_tidy _ _ _ h
  | sampleTimeout => exact execSampleTimeout_tidy _ _ h
  | coastLimit => exact execCoastLimit_tidy _ _ h
  | fastInputEdge => exact execFastInputEdge_tidy _ _ _ _ h
  | trimSourceApply => exact execTrimSourceApply_tidy _ h
  | trlEntryWrite => exact execTrlEntryWrite_tidy _ _ h
  | entryBatchApply => exact execEntryBatchApply_tidy _ h
  | trlEntryRead => exact execTrlEntryRead_tidy _ _ h
  | trlAxisSet => exact execTrlAxisSet_tidy _ _ h
  | axisSetApply => exact execAxisSetApply_tidy _ h
  | trlTrimSet => exact execTrlTrimSet_tidy _ _ h
  | trimSetApply => exact execTrimSetApply_tidy _ h
  | trlAxisRearm => exact execTrlAxisRearm_tidy _ _ h
  | axisRearmApply => exact execAxisRearmApply_tidy _ h
  | driveFrameReceive => exact execDriveFrameReceive_tidy _ _ _ h
  | rxCutoff => exact execRxCutoff_tidy _ h
  | plantFrameReceive => exact execPlantFrameReceive_tidy _ _ _ h
  | txGather => exact execTxGather_tidy _ h
  | txWindowOpen => exact execTxWindowOpen_tidy _ h
  | statusGather => exact execStatusGather_tidy _ h
  | plantWindowOpen => exact execPlantWindowOpen_tidy _ h
  | collectHeadSend => exact execCollectHeadSend_tidy _ _ h
  | driveSyncSend => exact execDriveSyncSend_tidy _ h
  | announceSend => exact execAnnounceSend_tidy _ h
  | pdelayReqReceive => exact execPdelayReqReceive_tidy _ _ _ _ h
  | driveAnnounceReceive => exact execDriveAnnounceReceive_tidy _ _ h
  | plantSyncReceive => exact execPlantSyncReceive_tidy _ _ _ _ _ h
  | plantAnnounceReceive => exact execPlantAnnounceReceive_tidy _ _ _ h
  | plantSyncTimeout => exact execPlantSyncTimeout_tidy _ h
  | driveCycleStart => exact execDriveCycleStart_tidy _ h
  | driveCycleStop => exact execDriveCycleStop_tidy _ h
  | driveCycleResume => exact execDriveCycleResume_tidy _ h
  | portLinkChange => exact execPortLinkChange_tidy _ _ _ _ h
  | frerRecoveryReset => exact execFrerRecoveryReset_tidy _ _ h
  | netMailbox => exact execNetMailbox_tidy _ _ h
  | mailboxRetry => exact execMailboxRetry_tidy _ _ h
  | mbxRspReceive => exact execMbxRspReceive_tidy _ _ _ h
  | netTplRead => exact execNetTplRead_tidy _ _ h
  | netPtpRead => exact execNetPtpRead_tidy _ _ h
  | netMcastRead => exact execNetMcastRead_tidy _ _ h
  | nicTxDescriptor => exact execNicTxDescriptor_tidy _ _ _ _ h
  | nicRxBufferEntry => exact execNicRxBufferEntry_tidy _ _ _ h
  | helloSend => exact execHelloSend_tidy _ h
  | helloReceive => exact execHelloReceive_tidy _ _ h
  | pairWaitExpiry => exact execPairWaitExpiry_tidy _ h
  | heartbeatSend => exact execHeartbeatSend_tidy _ h
  | heartbeatReceive => exact execHeartbeatReceive_tidy _ _ _ _ h
  | pathLossTimeout => exact execPathLossTimeout_tidy _ _ h
  | peerFailureTimeout => exact execPeerFailureTimeout_tidy _ h
  | hedgeLaneChange => exact execHedgeLaneChange_tidy _ _ _ h
  | hedgeFrameReceive => exact execHedgeFrameReceive_tidy _ _ _ h
  | hedgeRepeat => exact execHedgeRepeat_tidy _ _ h
  | hedgeAckTimeout => exact execHedgeAckTimeout_tidy _ _ h
  | snapshotMessageReceive => exact execSnapshotMessageReceive_tidy _ _ h
  | snapshotTimeout => exact execSnapshotTimeout_tidy _ _ _ h
  | mirrorCmdReceive => exact execMirrorCmdReceive_tidy _ _ _ _ h
  | digestReceive => exact execDigestReceive_tidy _ _ h
  | digestTimeout => exact execDigestTimeout_tidy _ _ _ h
  | unfitReceive => exact execUnfitReceive_tidy _ _ h
  | stateMessageReceive => exact execStateMessageReceive_tidy _ _ h
  | transferQuiescentPoint => exact execTransferQuiescentPoint_tidy _ h
  | transferTimeout => exact execTransferTimeout_tidy _ h
  | transferComplete => exact execTransferComplete_tidy _ h
  | takeoverBoundary => exact execTakeoverBoundary_tidy _ h
  | epochRecordWrite => exact execEpochRecordWrite_tidy _ h
  | redHandover => exact execRedHandover_tidy _ _ h
  | handoverReceive => exact execHandoverReceive_tidy _ _ _ _ _ h
  | handoverBoundary => exact execHandoverBoundary_tidy _ h
  | handoverOutputRelease => exact execHandoverOutputRelease_tidy _ h
  | redResync => exact execRedResync_tidy _ _ h
  | redPark => exact execRedPark_tidy _ _ h
  | redRead => exact execRedRead_tidy _ _ h
  | evAdd => exact execEvAdd_tidy _ _ _ h
  | evSub => exact execEvSub_tidy _ _ _ h
  | evAddv => exact execEvAddv_tidy _ _ _ h
  | evSubv => exact execEvSubv_tidy _ _ _ h
  | evNeg => exact execEvNeg_tidy _ _ _ h
  | evAnd => exact execEvAnd_tidy _ _ _ h
  | evOr => exact execEvOr_tidy _ _ _ h
  | evXor => exact execEvXor_tidy _ _ _ h
  | evAndn => exact execEvAndn_tidy _ _ _ h
  | evNot => exact execEvNot_tidy _ _ _ h
  | evShl => exact execEvShl_tidy _ _ _ h
  | evShr => exact execEvShr_tidy _ _ _ h
  | evSar => exact execEvSar_tidy _ _ _ h
  | evRol => exact execEvRol_tidy _ _ _ h
  | evRor => exact execEvRor_tidy _ _ _ h
  | evClz => exact execEvClz_tidy _ _ _ h
  | evCtz => exact execEvCtz_tidy _ _ _ h
  | evPopc => exact execEvPopc_tidy _ _ _ h
  | evMin => exact execEvMin_tidy _ _ _ h
  | evMax => exact execEvMax_tidy _ _ _ h
  | evMinu => exact execEvMinu_tidy _ _ _ h
  | evMaxu => exact execEvMaxu_tidy _ _ _ h
  | evMul => exact execEvMul_tidy _ _ _ h
  | evMulh => exact execEvMulh_tidy _ _ _ h
  | evMulhu => exact execEvMulhu_tidy _ _ _ h
  | evMulv => exact execEvMulv_tidy _ _ _ h
  | evDiv => exact execEvDiv_tidy _ _ _ h
  | evDivu => exact execEvDivu_tidy _ _ _ h
  | evRem => exact execEvRem_tidy _ _ _ h
  | evRemu => exact execEvRemu_tidy _ _ _ h
  | evMfpr => exact execEvMfpr_tidy _ _ _ h
  | evMtpr => exact execEvMtpr_tidy _ _ _ h
  | evAddi => exact execEvAddi_tidy _ _ _ h
  | evAndi => exact execEvAndi_tidy _ _ _ h
  | evOri => exact execEvOri_tidy _ _ _ h
  | evXori => exact execEvXori_tidy _ _ _ h
  | evShi => exact execEvShi_tidy _ _ _ h
  | evLui => exact execEvLui_tidy _ _ _ h
  | evMuli => exact execEvMuli_tidy _ _ _ h
  | evBfx => exact execEvBfx_tidy _ _ _ h
  | evBfxs => exact execEvBfxs_tidy _ _ _ h
  | evBfi => exact execEvBfi_tidy _ _ _ h
  | evPerm => exact execEvPerm_tidy _ _ _ h
  | evCmpeq => exact execEvCmpeq_tidy _ _ _ h
  | evCmpne => exact execEvCmpne_tidy _ _ _ h
  | evCmplt => exact execEvCmplt_tidy _ _ _ h
  | evCmpge => exact execEvCmpge_tidy _ _ _ h
  | evCmpltu => exact execEvCmpltu_tidy _ _ _ h
  | evCmpgeu => exact execEvCmpgeu_tidy _ _ _ h
  | evCmptst => exact execEvCmptst_tidy _ _ _ h
  | evCmpieq => exact execEvCmpieq_tidy _ _ _ h
  | evCmpine => exact execEvCmpine_tidy _ _ _ h
  | evCmpilt => exact execEvCmpilt_tidy _ _ _ h
  | evCmpiltu => exact execEvCmpiltu_tidy _ _ _ h
  | evPand => exact execEvPand_tidy _ _ _ h
  | evPor => exact execEvPor_tidy _ _ _ h
  | evPxor => exact execEvPxor_tidy _ _ _ h
  | evPmov => exact execEvPmov_tidy _ _ _ h
  | evIbld => exact execEvIbld_tidy _ _ _ h
  | evIbldn => exact execEvIbldn_tidy _ _ _ h
  | evIband => exact execEvIband_tidy _ _ _ h
  | evIbor => exact execEvIbor_tidy _ _ _ h
  | evIbst => exact execEvIbst_tidy _ _ _ h
  | evIbstn => exact execEvIbstn_tidy _ _ _ h
  | evIbs1 => exact execEvIbs1_tidy _ _ _ h
  | evIbs0 => exact execEvIbs0_tidy _ _ _ h
  | evLdb => exact execEvLdb_tidy _ _ _ h
  | evLdbu => exact execEvLdbu_tidy _ _ _ h
  | evLdh => exact execEvLdh_tidy _ _ _ h
  | evLdhu => exact execEvLdhu_tidy _ _ _ h
  | evLdw => exact execEvLdw_tidy _ _ _ h
  | evLdd => exact execEvLdd_tidy _ _ _ h
  | evStb => exact execEvStb_tidy _ _ _ h
  | evSth => exact execEvSth_tidy _ _ _ h
  | evStw => exact execEvStw_tidy _ _ _ h
  | evStd => exact execEvStd_tidy _ _ _ h
  | evLdsw => exact execEvLdsw_tidy _ _ _ h
  | evStsw => exact execEvStsw_tidy _ _ _ h
  | evDsadj => exact execEvDsadj_tidy _ _ _ h
  | evAmoswap => exact execEvAmoswap_tidy _ _ _ h
  | evAmoadd => exact execEvAmoadd_tidy _ _ _ h
  | evBr => exact execEvBr_tidy _ _ _ h
  | evCall => exact execEvCall_tidy _ _ _ h
  | evRet => exact execEvRet_tidy _ _ _ h
  | evJr => exact execEvJr_tidy _ _ _ h
  | evCallr => exact execEvCallr_tidy _ _ _ h
  | evRep => exact execEvRep_tidy _ _ _ h
  | evBreak => exact execEvBreak_tidy _ _ _ h
  | evMfsr => exact execEvMfsr_tidy _ _ _ h
  | evMtsr => exact execEvMtsr_tidy _ _ _ h
  | evEret => exact execEvEret_tidy _ _ _ h
  | evEretn => exact execEvEretn_tidy _ _ _ h
  | evNop => exact execEvNop_tidy _ _ _ h
  | evMfence => exact execEvMfence_tidy _ _ _ h
  | evFp32Fadd => exact execEvFp32Fadd_tidy _ _ _ h
  | evFp32Fsub => exact execEvFp32Fsub_tidy _ _ _ h
  | evFp32Fmul => exact execEvFp32Fmul_tidy _ _ _ h
  | evFp32Fdiv => exact execEvFp32Fdiv_tidy _ _ _ h
  | evFp32Fsqrt => exact execEvFp32Fsqrt_tidy _ _ _ h
  | evFp32Fmin => exact execEvFp32Fmin_tidy _ _ _ h
  | evFp32Fmax => exact execEvFp32Fmax_tidy _ _ _ h
  | evFp32Fabs => exact execEvFp32Fabs_tidy _ _ _ h
  | evFp32Fneg => exact execEvFp32Fneg_tidy _ _ _ h
  | evFp64Fadd => exact execEvFp64Fadd_tidy _ _ _ h
  | evFp64Fsub => exact execEvFp64Fsub_tidy _ _ _ h
  | evFp64Fmul => exact execEvFp64Fmul_tidy _ _ _ h
  | evFp64Fdiv => exact execEvFp64Fdiv_tidy _ _ _ h
  | evFp64Fsqrt => exact execEvFp64Fsqrt_tidy _ _ _ h
  | evFp64Fmin => exact execEvFp64Fmin_tidy _ _ _ h
  | evFp64Fmax => exact execEvFp64Fmax_tidy _ _ _ h
  | evFp64Fabs => exact execEvFp64Fabs_tidy _ _ _ h
  | evFp64Fneg => exact execEvFp64Fneg_tidy _ _ _ h
  | evFeqs => exact execEvFeqs_tidy _ _ _ h
  | evFlts => exact execEvFlts_tidy _ _ _ h
  | evFles => exact execEvFles_tidy _ _ _ h
  | evFuns => exact execEvFuns_tidy _ _ _ h
  | evFeqd => exact execEvFeqd_tidy _ _ _ h
  | evFltd => exact execEvFltd_tidy _ _ _ h
  | evFled => exact execEvFled_tidy _ _ _ h
  | evFund => exact execEvFund_tidy _ _ _ h
  | evSfw => exact execEvSfw_tidy _ _ _ h
  | evSfwu => exact execEvSfwu_tidy _ _ _ h
  | evWfs => exact execEvWfs_tidy _ _ _ h
  | evWufs => exact execEvWufs_tidy _ _ _ h
  | evWfsr => exact execEvWfsr_tidy _ _ _ h
  | evDfw => exact execEvDfw_tidy _ _ _ h
  | evDfwu => exact execEvDfwu_tidy _ _ _ h
  | evWfd => exact execEvWfd_tidy _ _ _ h
  | evWufd => exact execEvWufd_tidy _ _ _ h
  | evWfdr => exact execEvWfdr_tidy _ _ _ h
  | evDfs => exact execEvDfs_tidy _ _ _ h
  | evSfd => exact execEvSfd_tidy _ _ _ h
  | evEscapeServiceInstruction => exact execEvEscapeServiceInstruction_tidy _ _ _ h
  | evReservedEncoding => exact execEvReservedEncoding_tidy _ _ _ h
  | interruptTaken => exact execInterruptTaken_tidy _ _ h
  | sysLaneWait => exact execSysLaneWait_tidy _ _ _ h
  | sysTimerCounterRead => exact execSysTimerCounterRead_tidy _ _ _ h
  | rollCallCheckIn => exact execRollCallCheckIn_tidy _ _ _ h
  | sysApplicationEvent => exact execSysApplicationEvent_tidy _ _ _ h
  | sysApplicationMetric => exact execSysApplicationMetric_tidy _ _ _ h
  | fieldSample => exact execFieldSample_tidy _ h
  | fieldInputRecordWrite => exact execFieldInputRecordWrite_tidy _ _ h
  | inputLevelChange => exact execInputLevelChange_tidy _ _ _ _ h
  | debounceAccept => exact execDebounceAccept_tidy _ _ h
  | openWireDetect => exact execOpenWireDetect_tidy _ _ h
  | openWireClear => exact execOpenWireClear_tidy _ _ h
  | overloadDetect => exact execOverloadDetect_tidy _ _ h
  | thermalShutdown => exact execThermalShutdown_tidy _ _ h
  | overloadRetry => exact execOverloadRetry_tidy _ _ h
  | shortDetect => exact execShortDetect_tidy _ _ h
  | openLoadDetect => exact execOpenLoadDetect_tidy _ _ h
  | extHighDetect => exact execExtHighDetect_tidy _ _ h
  | fieldOutputRefresh => exact execFieldOutputRefresh_tidy _ h
  | islandOutputFrameReceive => exact execIslandOutputFrameReceive_tidy _ _ h
  | fieldLinkSilence => exact execFieldLinkSilence_tidy _ h
  | fieldSafeTimeout => exact execFieldSafeTimeout_tidy _ _ h
  | groupSupplyMeasure => exact execGroupSupplyMeasure_tidy _ _ _ _ _ h
  | fioClearLatch => exact execFioClearLatch_tidy _ _ h
  | clearLatchApply => exact execClearLatchApply_tidy _ h
  | fioRelease => exact execFioRelease_tidy _ _ h
  | groupReleaseApply => exact execGroupReleaseApply_tidy _ h
  | fioRead => exact execFioRead_tidy _ _ h
  | loopOutputRefresh => exact execLoopOutputRefresh_tidy _ _ h
  | loopFrameReceive => exact execLoopFrameReceive_tidy _ _ _ h
  | complianceDetect => exact execComplianceDetect_tidy _ _ h
  | complianceClear => exact execComplianceClear_tidy _ _ h
  | readbackDevDetect => exact execReadbackDevDetect_tidy _ _ h
  | readbackDevClear => exact execReadbackDevClear_tidy _ _ h
  | miswireDetect => exact execMiswireDetect_tidy _ _ h
  | miswireClear => exact execMiswireClear_tidy _ _ h
  | loopReadbackConversion => exact execLoopReadbackConversion_tidy _ _ _ _ _ h
  | loopLinkSilence => exact execLoopLinkSilence_tidy _ _ h
  | loopSafeTimeout => exact execLoopSafeTimeout_tidy _ _ h
  | loopReadbackSilence => exact execLoopReadbackSilence_tidy _ _ h
  | loopPowerAppear => exact execLoopPowerAppear_tidy _ _ h
  | hartRequestReceive => exact execHartRequestReceive_tidy _ _ _ h
  | hartReplyTimeout => exact execHartReplyTimeout_tidy _ _ h
  | lptHartFetch => exact execLptHartFetch_tidy _ _ h
  | lptHartReply => exact execLptHartReply_tidy _ _ h
  | trimBegin => exact execTrimBegin_tidy _ _ h
  | trimPoint => exact execTrimPoint_tidy _ _ h
  | trimApply => exact execTrimApply_tidy _ _ h
  | trimCancel => exact execTrimCancel_tidy _ _ h
  | trimIdleTimeout => exact execTrimIdleTimeout_tidy _ _ h
  | lptRead => exact execLptRead_tidy _ _ h
  | ringEnable => exact execRingEnable_tidy _ _ _ h
  | ringZeroingDone => exact execRingZeroingDone_tidy _ _ h
  | ringDisable => exact execRingDisable_tidy _ _ _ h
  | ringReset => exact execRingReset_tidy _ _ _ h
  | sqTailDoorbell => exact execSqTailDoorbell_tidy _ _ _ h
  | cqHeadDoorbell => exact execCqHeadDoorbell_tidy _ _ _ h
  | interruptCoalesceExpiry => exact execInterruptCoalesceExpiry_tidy _ _ h
  | pcieHotReset => exact execPcieHotReset_tidy _ h
  | perstNAssert => exact execPerstNAssert_tidy _ h
  | functionLevelReset => exact execFunctionLevelReset_tidy _ h
  | pcieLinkDown => exact execPcieLinkDown_tidy _ h
  | d3hotEntry => exact execD3hotEntry_tidy _ h
  | ringNop => exact execRingNop_tidy _ _ h
  | fence => exact execFence_tidy _ _ h
  | fenceTimeout => exact execFenceTimeout_tidy _ h
  | publishCopy => exact execPublishCopy_tidy _ _ _ h
  | mirrorSend => exact execMirrorSend_tidy _ _ h
  | retainRestore => exact execRetainRestore_tidy _ _ h
  | jrnlRead => exact execJrnlRead_tidy _ _ h
  | imgRead => exact execImgRead_tidy _ _ h
  | imgWrite => exact execImgWrite_tidy _ _ h
  | forceWrite => exact execForceWrite_tidy _ _ h
  | forceClear => exact execForceClear_tidy _ _ h
  | forceRead => exact execForceRead_tidy _ _ h
  | cfgBegin => exact execCfgBegin_tidy _ _ h
  | cfgPut => exact execCfgPut_tidy _ _ h
  | cfgCommit => exact execCfgCommit_tidy _ _ h
  | cfgApply => exact execCfgApply_tidy _ h
  | txnNoGap => exact execTxnNoGap_tidy _ h
  | cfgAbort => exact execCfgAbort_tidy _ _ h
  | cfgConfirm => exact execCfgConfirm_tidy _ _ h
  | cfgConfirmWindowEnd => exact execCfgConfirmWindowEnd_tidy _ _ h
  | txnIdle => exact execTxnIdle_tidy _ _ h
  | cfgRead => exact execCfgRead_tidy _ _ h
  | svcDatagram => exact execSvcDatagram_tidy _ _ _ _ h
  | svcArpIcmp => exact execSvcArpIcmp_tidy _ _ h
  | svcSessionTimeout => exact execSvcSessionTimeout_tidy _ h
  | powerUp => exact execPowerUp_tidy _ h
  | resetNAssert => exact execResetNAssert_tidy _ h
  | romInitDone => exact execRomInitDone_tidy _ _ _ _ _ _ h
  | bootStart => exact execBootStart_tidy _ _ h
  | bootRetry => exact execBootRetry_tidy _ _ h
  | stagingWindowWrite => exact execStagingWindowWrite_tidy _ _ _ h
  | verifyComplete => exact execVerifyComplete_tidy _ _ _ h
  | componentStarted => exact execComponentStarted_tidy _ _ _ h
  | componentStartTimeout => exact execComponentStartTimeout_tidy _ _ h
  | fwReset => exact execFwReset_tidy _ _ h
  | fwRead => exact execFwRead_tidy _ _ h
  | secChallenge => exact execSecChallenge_tidy _ _ h
  | challengeExpiry => exact execChallengeExpiry_tidy _ _ h
  | secResponse => exact execSecResponse_tidy _ _ h
  | grantExpiry => exact execGrantExpiry_tidy _ _ h
  | crLockoutEnd => exact execCrLockoutEnd_tidy _ h
  | secKeyLoad => exact execSecKeyLoad_tidy _ _ h
  | secKeyWrap => exact execSecKeyWrap_tidy _ _ h
  | secKeyUnload => exact execSecKeyUnload_tidy _ _ h
  | secAttest => exact execSecAttest_tidy _ _ h
  | lcLock => exact execLcLock_tidy _ _ h
  | lcUnlock => exact execLcUnlock_tidy _ _ h
  | lcRaiseSvn => exact execLcRaiseSvn_tidy _ _ h
  | lcRevokeVkey => exact execLcRevokeVkey_tidy _ _ h
  | secDebug => exact execSecDebug_tidy _ _ h
  | rbgReseed => exact execRbgReseed_tidy _ h
  | rbgHealthFail => exact execRbgHealthFail_tidy _ h
  | jtagBoundaryScan => exact execJtagBoundaryScan_tidy _ _ h
  | jtagDebugAccess => exact execJtagDebugAccess_tidy _ _ h
  | traceRecordWrite => exact execTraceRecordWrite_tidy _ _ h
  | rollCallEvaluation => exact execRollCallEvaluation_tidy _ _ h
  | watchdogServe => exact execWatchdogServe_tidy _ _ h
  | watchdogCloseExpiry => exact execWatchdogCloseExpiry_tidy _ h
  | uncorrectableError => exact execUncorrectableError_tidy _ _ _ _ h
  | referenceClockLoss => exact execReferenceClockLoss_tidy _ h
  | referenceClockValid => exact execReferenceClockValid_tidy _ h
  | pwrState => exact execPwrState_tidy _ _ h
  | wakePerstN => exact execWakePerstN_tidy _ h
  | wakeSequenceDone => exact execWakeSequenceDone_tidy _ _ _ h
  | pwrRead => exact execPwrRead_tidy _ _ h
  | vinThresholdCross => exact execVinThresholdCross_tidy _ _ h
  | sagStageLeave => exact execSagStageLeave_tidy _ _ h
  | vinPowerOnReset => exact execVinPowerOnReset_tidy _ h
  | nvsRead => exact execNvsRead_tidy _ _ h
  | nvsWrite => exact execNvsWrite_tidy _ _ h
  | nvPageWriteStart => exact execNvPageWriteStart_tidy _ h
  | nvPageWriteDone => exact execNvPageWriteDone_tidy _ _ h
  | nvsLock => exact execNvsLock_tidy _ _ h
  | unlockRead => exact execUnlockRead_tidy _ _ h
  | unlockWrite => exact execUnlockWrite_tidy _ _ h
  | setReadPw => exact execSetReadPw_tidy _ _ h
  | setWritePw => exact execSetWritePw_tidy _ _ h
  | rtcSecondTick => exact execRtcSecondTick_tidy _ h
  | rtcTimeRegisterRead => exact execRtcTimeRegisterRead_tidy _ _ h
  | rtcFreezeExpiry => exact execRtcFreezeExpiry_tidy _ _ h
  | rtcStagingWrite => exact execRtcStagingWrite_tidy _ _ _ h
  | rtcSecWrite => exact execRtcSecWrite_tidy _ _ h
  | rtcCommit => exact execRtcCommit_tidy _ h
  | rtcBackupLoss => exact execRtcBackupLoss_tidy _ h
  | rtcRead => exact execRtcRead_tidy _ _ h
  | rtcSet => exact execRtcSet_tidy _ _ h
  | rtcAlarm => exact execRtcAlarm_tidy _ _ h
  | consolidationInterval => exact execConsolidationInterval_tidy _ h
  | consolidationStart => exact execConsolidationStart_tidy _ h
  | consolidationDone => exact execConsolidationDone_tidy _ h
  | recRead => exact execRecRead_tidy _ _ h
  | recClear => exact execRecClear_tidy _ _ h
  | recConsolidate => exact execRecConsolidate_tidy _ _ h
  | rungIllegalWord => exact execRungIllegalWord_tidy _ _ _ h
  | correctableError => exact execCorrectableError_tidy _ h
  | holdupSenseCrossing => exact execHoldupSenseCrossing_tidy _ _ h
  | pcieLinkUp => exact execPcieLinkUp_tidy _ _ _ h
  | pcieConfigWrite => exact execPcieConfigWrite_tidy _ _ _ _ h
  | gateControlTransition => exact execGateControlTransition_tidy _ _ _ h

theorem Moved.lifeKept {d : Desc} {s t : State} (h : Moved d s t) : LifeKept s t := h.imp_right And.right

/-- A command keeps what `Tidy` names, or all of it but a life-cycle code that it moves along a row of R389. -/
theorem exec_lifeKept {i : Instr} {s t : State} (h : exec i s = .next t) : LifeKept s t := by
  cases hrow : movesLife i with
  | false => exact .inl (exec_tidy hrow h)
  | true =>
    match i, hrow with
    | .lcProvision _, _ => exact (execLcProvision_moved _ _ h).lifeKept
    | .lcTakeOwnership _, _ => exact (execLcTakeOwnership_moved _ _ h).lifeKept
    | .lcReturn _, _ => exact (execLcReturn_moved _ _ h).lifeKept
    | .lcScrap _, _ => exact (execLcScrap_moved _ _ h).lifeKept
    | .descriptorFetch _ _ _, _ => exact execDescriptorFetch_life _ _ _ _ h

theorem LifeKept.pending {s t : State} (h : LifeKept s t) : t.pending = s.pending := by
  rcases h with htidy | ⟨l, -, htidy⟩
  · exact htidy.1
  · exact htidy.1

theorem LifeKept.lifeStep {s t : State} (h : LifeKept s t) : LifeStep s t := by
  rcases h with ⟨-, hlife, -⟩ | ⟨l, hmove, -, hlife, -⟩
  · exact .inl hlife
  · exact .inr (hlife ▸ hmove)

theorem Tidy.canonical {s t : State} (h : Tidy s t) (hs : Canonical s) : Canonical t := by
  obtain ⟨-, -, hregs, hdata, hcode, hlive, hnv, hstaging⟩ := h
  obtain ⟨sregs, sdata, scode, slive, snv, sstaging⟩ := hs
  exact ⟨hregs sregs, hdata sdata, hcode scode, hlive slive, hnv snv, hstaging sstaging⟩

theorem LifeKept.canonical {s t : State} (h : LifeKept s t) (hs : Canonical s) : Canonical t := by
  rcases h with htidy | ⟨l, -, htidy⟩
  · exact htidy.canonical hs
  · exact htidy.canonical (s := { s with sec.life := l }) hs

theorem lifeMoves_legal {a b : Nat} (h : lifeMoves a b = true) : b ≤ 4 := by
  simp only [lifeMoves, Bool.or_eq_true, Bool.and_eq_true, beq_iff_eq] at h
  omega

theorem LifeStep.legal {s t : State} (h : LifeStep s t) (hs : LifeLegal s) : LifeLegal t := by
  rcases h with hsame | hmove
  · exact (show t.sec.life ≤ 4 from hsame ▸ hs)
  · exact lifeMoves_legal hmove

/-- A step is the command at the front of the queue, or idling. -/
theorem step_lifeKept {s t : State} (h : step s = .next t) : ∃ queue, LifeKept { s with pending := queue } t := by
  unfold step at h
  split at h
  case h_1 => exact ⟨s.pending, .inl (idle_tidy s h)⟩
  case h_2 c rest _ => exact ⟨rest, exec_lifeKept h⟩

end Sys2Proof.Machine
end

section

namespace Sys2Proof.Machine

/-- Settles O20: each row ends in a next state, and its frame lemma keeps the queue. -/
theorem everyCommandAnswersAndLeavesTheQueue : Obligations.EveryCommandAnswersAndLeavesTheQueue := by
  intro i s
  obtain ⟨t, hnext⟩ := exec_answers i s
  exact ⟨t, hnext, (exec_lifeKept hnext).pending⟩

/-- Settles O22: taking the front command off the queue touches no memory, and the command keeps all of them canonical. -/
theorem stepKeepsTheFormsAndALegalLifeCycle : Obligations.StepKeepsTheFormsAndALegalLifeCycle := by
  intro s t ⟨hcanonical, hlegal⟩ hstep
  obtain ⟨queue, hkept⟩ := step_lifeKept hstep
  exact ⟨hkept.canonical hcanonical, hkept.lifeStep.legal hlegal⟩

/-- Settles O23: the step law of the life cycle, and the frame of every row that carries no move of it. -/
theorem lifeCycleMovesOnlyByItsRows : Obligations.LifeCycleMovesOnlyByItsRows := by
  refine ⟨?step, ?others⟩
  case step =>
    intro s t _ hstep
    obtain ⟨queue, hkept⟩ := step_lifeKept hstep
    exact hkept.lifeStep
  case others =>
    intro i s t hprovision htake hreturn hscrap hfetch hexec
    have hrow : movesLife i = false := by
      unfold movesLife
      split
      case h_1 d => exact absurd rfl (hprovision d)
      case h_2 d => exact absurd rfl (htake d)
      case h_3 d => exact absurd rfl (hreturn d)
      case h_4 d => exact absurd rfl (hscrap d)
      case h_5 r raw buf => exact absurd rfl (hfetch r raw buf)
      case h_6 => rfl
    exact (exec_tidy hrow hexec).2.1

end Sys2Proof.Machine
end

section
/-! PROOFS. What a row of a cycle core answers when its word belongs to it and its guard holds: it moves on, stands where it
jumped, or takes the trap of its effect. -/

namespace Sys2Proof.Machine

open Claims

variable {c : Fin 8} {w : Word} {s s' : State} {mine : Bool} {act : EvAct}

/-! ### The core after a row -/

/-- What a change of a core is made of, is what it makes of the core as it stands. -/
theorem setCore_congr {c : Nat} {f g : Core → Core} {s : State} (h : f (core s c) = g (core s c)) :
    setCore c f s = setCore c g s := by
  simp only [setCore, upd]
  rw [show f (lookD s.cores c {}) = g (lookD s.cores c {}) from h]

theorem evNext_eq_evAfter (c : Fin 8) (s : State) :
    evNext c (setCore c (fun k => { k with passBreak := false }) s) = evAfter c s := by
  rw [evNext, setCtx_eq, core_setCore, setCore_setCore, evAfter]
  exact setCore_congr rfl

theorem passBreak_setCtx (c : Fin 8) (x : Ctx) (s : State) :
    setCore c (fun k => { k with passBreak := false }) (setCtx c x s) = evAt c x s := by
  rw [setCtx_eq, setCore_setCore]
  rfl

/-! ### Rows that go on to the next instruction -/

theorem evRow_completes (hgo : EvGo s c w) (hmine : mine = true)
    (hact : act ⟨c, w, (core s c).ctx, iteration (core s c).ctx⟩ s = (s', none)) :
    evRow mine c w act s = evAfter c s' := by
  rw [evRow, if_pos hmine, evRun_of_effect_completes hgo hact, evNext_eq_evAfter]

theorem evRow_setCtx_completes {x : Ctx} (hgo : EvGo s c w) (hmine : mine = true)
    (hact : act ⟨c, w, (core s c).ctx, iteration (core s c).ctx⟩ s = (setCtx c x s', none)) :
    evRow mine c w act s = evWith c x s' := by
  rw [evRow, if_pos hmine, evRun_of_effect_completes hgo hact, evNext_setCtx]

theorem evRow_traps {code : Nat} {word : Word} (hgo : EvGo s c w) (hmine : mine = true)
    (hact : act ⟨c, w, (core s c).ctx, iteration (core s c).ctx⟩ s = (s', some (code, word))) :
    evRow mine c w act s = evTrap c code word false s' := by
  obtain ⟨-, hstep, hdecode, hguard, -⟩ := hgo
  rw [evRow, if_pos hmine, evRun_of_effect_traps hstep hdecode hguard hact]

/-! ### Rows that set the PC themselves -/

theorem evJump_completes (hgo : EvGo s c w) (hmine : mine = true)
    (hact : act ⟨c, w, (core s c).ctx, iteration (core s c).ctx⟩ s = (s', none)) :
    evJump mine c w false act s = setCore c (fun k => { k with passBreak := false }) s' := by
  rw [evJump, if_pos hmine, evRun_of_effect_completes hgo hact, id_eq]

theorem evJump_traps {code : Nat} {word : Word} (hgo : EvGo s c w) (hmine : mine = true)
    (hact : act ⟨c, w, (core s c).ctx, iteration (core s c).ctx⟩ s = (s', some (code, word))) :
    evJump mine c w false act s = evTrap c code word false s' := by
  obtain ⟨-, hstep, hdecode, hguard, -⟩ := hgo
  rw [evJump, if_pos hmine, evRun_of_effect_traps hstep hdecode hguard hact]

/-! ### Rows of one major opcode -/

theorem isOp_of_go {op : Nat} (hgo : EvGo s c w) (hop : evOp w = op) : isOp op c w s = true := by
  simp [isOp, hgo.1, hop]

theorem isFn_of_go {op fn : Nat} (hgo : EvGo s c w) (hop : evOp w = op) (hfn : evFn w = fn) : isFn op fn c w s = true :=
  isFn_of_issues hgo.1 hop hfn

theorem opRow_completes {op : Nat} (f : Word → Ctx → Ctx) (hgo : EvGo s c w) (hop : evOp w = op) :
    opRow op c w f s = .next (evWith c (f w (core s c).ctx) s) := by
  rw [opRow, evRow_evPure_completes f hgo (isOp_of_go hgo hop)]

theorem cmpRow_completes {fn : Nat} (f : Word → Word → Bool) (hgo : EvGo s c w) (hop : evOp w = 0x0B) (hfn : evFn w = fn) :
    cmpRow fn c w f s = .next (evWith c (setCmp w (f (gReg (core s c).ctx (evRa w)) (gReg (core s c).ctx (evRb w)))
      (core s c).ctx) s) := by
  rw [cmpRow, evRow_evPure_completes _ hgo (isFn_of_go hgo hop hfn)]

theorem predRow_completes {pfn : Nat} (f : Bool → Bool → Bool) (hgo : EvGo s c w) (hop : evOp w = 0x10) (hpfn : evPfn w = pfn) :
    predRow pfn c w f s = .next (evWith c (setP (evPd w) (f (predA w (core s c).ctx) (predB w (core s c).ctx))
      (core s c).ctx) s) := by
  rw [predRow, evRow_evPure_completes _ hgo (by simp [isOp_of_go hgo hop, hpfn])]

theorem fpRow_completes {op fn : Nat} (f : Word → Ctx → Ctx) (hgo : EvGo s c w) (hop : evOp w = op) (hfn : evFn w = fn) :
    fpRow op fn c w f s = .next (evWith c (f w (core s c).ctx) s) := by
  rw [fpRow, evRow_evPure_completes f hgo (isFn_of_go hgo hop hfn)]

end Sys2Proof.Machine
end

section
/-! PROOFS. The integer operations, comparisons and predicate operations against the words of R250 to R258. -/

namespace Sys2Proof.Machine

open Claims

variable (a b : Word)

/-! ### Overflow, order and products in the statements' spelling -/

theorem minS_eq : (if a.slt b then a else b) = if a.toInt ≤ b.toInt then a else b := by
  rw [BitVec.slt]
  rcases lt_trichotomy a.toInt b.toInt with hlt | heq | hgt
  · rw [if_pos (by simpa using hlt), if_pos hlt.le]
  · rw [BitVec.eq_of_toInt_eq heq, ite_self, ite_self]
  · rw [if_neg (by simpa using hgt.le), if_neg (by omega)]

theorem maxS_eq : (if a.slt b then b else a) = if a.toInt ≤ b.toInt then b else a := by
  rw [BitVec.slt]
  rcases lt_trichotomy a.toInt b.toInt with hlt | heq | hgt
  · rw [if_pos (by simpa using hlt), if_pos hlt.le]
  · rw [BitVec.eq_of_toInt_eq heq, ite_self, ite_self]
  · rw [if_neg (by simpa using hgt.le), if_neg (by omega)]

theorem minU_eq : (if a < b then a else b) = if a.toNat ≤ b.toNat then a else b := by
  rcases lt_trichotomy a.toNat b.toNat with hlt | heq | hgt
  · rw [if_pos (BitVec.lt_def.mpr hlt), if_pos hlt.le]
  · rw [BitVec.eq_of_toNat_eq heq, ite_self, ite_self]
  · rw [if_neg (by simpa [BitVec.lt_def] using hgt.le), if_neg (by omega)]

theorem maxU_eq : (if a < b then b else a) = if a.toNat ≤ b.toNat then b else a := by
  rcases lt_trichotomy a.toNat b.toNat with hlt | heq | hgt
  · rw [if_pos (BitVec.lt_def.mpr hlt), if_pos hlt.le]
  · rw [BitVec.eq_of_toNat_eq heq, ite_self, ite_self]
  · rw [if_neg (by simpa [BitVec.lt_def] using hgt.le), if_neg (by omega)]

/-! ### Division with its edges (R251) -/

theorem msb_eq_decide_neg : a.msb = decide (a.toInt < 0) := BitVec.msb_eq_toInt

theorem divS_eq : divS a b = if b = 0 then (if 0 ≤ a.toInt then 0x7FFFFFFF else 0x80000000)
    else if a = 0x80000000 ∧ b = 0xFFFFFFFF then 0x80000000 else BitVec.ofInt 32 (a.toInt.tdiv b.toInt) := by
  unfold divS
  by_cases hb : b = 0
  · simp only [if_pos hb, msb_eq_decide_neg, decide_eq_true_eq]
    by_cases ha : a.toInt < 0
    · rw [if_pos ha, if_neg (by omega)]
    · rw [if_neg ha, if_pos (by omega)]
  · rw [if_neg hb, if_neg hb]
    by_cases hedge : a = 0x80000000 ∧ b = 0xFFFFFFFF
    · rw [if_pos hedge, hedge.1, hedge.2]; decide
    · rw [if_neg hedge]

theorem remS_eq : remS a b = if b = 0 then a
    else if a = 0x80000000 ∧ b = 0xFFFFFFFF then 0 else BitVec.ofInt 32 (a.toInt.tmod b.toInt) := by
  unfold remS
  by_cases hedge : a = 0x80000000 ∧ b = 0xFFFFFFFF
  · rw [hedge.1, hedge.2]; decide
  · rw [if_neg hedge]

theorem divRow_ends {c : Fin 8} {w : Word} {s : State} {fn : Nat} (signed : Bool) (f : Word → Word → Word) (hgo : EvGo s c w)
    (hop : evOp w = 0x00) (hfn : evFn w = fn) :
    let x := (core s c).ctx
    let a := gReg x (evRa w)
    let b := gReg x (evRb w)
    let y := divFlags signed a b (setG (evRd w) (f a b) x)
    divRow fn c w signed f s = .next (if b = 0 ∧ x.stat.getLsbD 8 = true then evTrap c 0x0F w false (setCtx c y s) else evWith c y s) := by
  intro x a b y
  rw [divRow]
  by_cases htrap : b = 0 ∧ x.stat.getLsbD 8 = true
  · rw [if_pos htrap, evRow_traps (s' := setCtx c y s) hgo (isFn_of_go hgo hop hfn)]
    exact congrArg (Prod.mk _) (if_pos htrap)
  · rw [if_neg htrap, evRow_setCtx_completes (x := y) (s' := s) hgo (isFn_of_go hgo hop hfn)]
    exact congrArg (Prod.mk _) (if_neg htrap)

/-! ### Bit counts (R250) -/

theorem toNat_pos_of_ne_zero {a : Word} (ha : a ≠ 0) : a.toNat ≠ 0 := fun h => ha (BitVec.eq_of_toNat_eq h)

theorem log2_lt_32 {a : Word} (ha : a ≠ 0) : Nat.log2 a.toNat < 32 :=
  (Nat.log2_lt (toNat_pos_of_ne_zero ha)).mpr a.isLt

/-- The bits above the highest 1 bit are 0, and that bit is 1. -/
theorem clzW_spec : clzW a ≤ 32 ∧ (∀ i < clzW a, a.getLsbD (31 - i) = false) ∧
    (clzW a < 32 → a.getLsbD (31 - clzW a) = true) := by
  unfold clzW
  by_cases ha : a = 0
  · subst ha
    simp
  · rw [if_neg ha]
    have hlog := log2_lt_32 ha
    refine ⟨by omega, fun i hi => ?_, fun _ => ?_⟩
    · exact Nat.testBit_lt_two_pow ((Nat.log2_lt (toNat_pos_of_ne_zero ha)).mp (by omega))
    · rw [show 31 - (31 - Nat.log2 a.toNat) = Nat.log2 a.toNat by omega]
      exact Nat.testBit_log2 (toNat_pos_of_ne_zero ha)

/-- The lowest 1 bit that the search finds, or none of the 32. -/
theorem ctzW_spec : ctzW a ≤ 32 ∧ (∀ i < ctzW a, a.getLsbD i = false) ∧ (ctzW a < 32 → a.getLsbD (ctzW a) = true) := by
  unfold ctzW
  cases hfind : (List.range 32).find? a.getLsbD with
  | none =>
    rw [List.find?_range_eq_none] at hfind
    exact ⟨le_rfl, fun i hi => by simpa using hfind i hi, fun h => absurd h (by simp)⟩
  | some k =>
    rw [List.find?_range_eq_some] at hfind
    obtain ⟨hbit, hmem, hbelow⟩ := hfind
    have hlt : k < 32 := List.mem_range.mp hmem
    exact ⟨hlt.le, fun i hi => by simpa using hbelow i hi, fun _ => hbit⟩

/-- Keeping the elements that satisfy a test counts them. -/
theorem length_filter_eq_sum {α : Type} (p : α → Bool) (l : List α) :
    (l.filter p).length = (l.map (fun i => if p i then 1 else 0)).sum := by
  induction l with
  | nil => rfl
  | cons i l ih =>
    rw [List.filter_cons, List.map_cons, List.sum_cons, ← ih]
    split
    · rw [List.length_cons, Nat.add_comm]
    · rw [Nat.zero_add]

theorem popcW_eq_sum : popcW a = ((List.range 32).map (fun i => if a.getLsbD i then 1 else 0)).sum :=
  length_filter_eq_sum _ _

/-! ### Comparisons (R257) -/

variable {w : Word} (r : Bool) (x : Ctx)

theorem setCmp_of_mode_0 (hmode : evMode w = 0) : setCmp w r x = setP (evPd w) r x := by simp [setCmp, hmode]
theorem setCmp_of_mode_1 (hmode : evMode w = 1) : setCmp w r x = setP (evPd w) (pReg x (evPd w) && r) x := by
  simp [setCmp, hmode]
theorem setCmp_of_mode_2 (hmode : evMode w = 2) : setCmp w r x = setP (evPd w) (pReg x (evPd w) || r) x := by
  simp [setCmp, hmode]

/-- CMODE in one expression: 3 is illegal and never reaches this. -/
theorem setCmp_eq (w : Word) : setCmp w r x = setP (evPd w)
    (if evMode w = 1 then pReg x (evPd w) && r else if evMode w = 2 then pReg x (evPd w) || r else r) x := by
  unfold setCmp
  split
  case h_1 hmode => rw [if_pos hmode]
  case h_2 hmode => rw [if_neg (by omega), if_pos hmode]
  case h_3 h1 h2 => rw [if_neg h1, if_neg h2]

/-- A row sets its predicate to a comparison as each CMODE directs. -/
abbrev SetsByMode (c : Fin 8) (w : Word) (s : State) (i : Instr) (r : Bool) : Prop :=
  let x := (core s c).ctx
  (bits w.toNat 17 2 = 0 → exec i s = .next (evWith c (setP (evPd w) r x) s)) ∧
  (bits w.toNat 17 2 = 1 → exec i s = .next (evWith c (setP (evPd w) (pReg x (evPd w) && r) x) s)) ∧
  (bits w.toNat 17 2 = 2 → exec i s = .next (evWith c (setP (evPd w) (pReg x (evPd w) || r) x) s))

theorem setsByMode {c : Fin 8} {s : State} {i : Instr} {r : Bool}
    (h : exec i s = .next (evWith c (setCmp w r (core s c).ctx) s)) : SetsByMode c w s i r :=
  ⟨fun hmode => by rw [h, setCmp_of_mode_0 _ _ hmode], fun hmode => by rw [h, setCmp_of_mode_1 _ _ hmode],
    fun hmode => by rw [h, setCmp_of_mode_2 _ _ hmode]⟩

theorem cmpRow_sets {c : Fin 8} {s : State} {fn : Nat} {i : Instr} {f : Word → Word → Bool} (hrow : exec i s = cmpRow fn c w f s)
    (hgo : EvGo s c w) (hop : evOp w = 0x0B) (hfn : evFn w = fn) :
    SetsByMode c w s i (f (gReg (core s c).ctx (evRa w)) (gReg (core s c).ctx (evRb w))) :=
  setsByMode (hrow.trans (cmpRow_completes f hgo hop hfn))

theorem cmpiRow_sets {c : Fin 8} {s : State} {op : Nat} {i : Instr} {f : Word → Word → Bool} (hrow : exec i s = cmpiRow op c w f s)
    (hgo : EvGo s c w) (hop : evOp w = op) : SetsByMode c w s i (f (gReg (core s c).ctx (evRa w)) (evSimm w)) :=
  setsByMode (hrow.trans (opRow_completes _ hgo hop))

section
variable (c : Fin 8) (w : Word) (s : State)

theorem exec_evCmpeq : exec (.evCmpeq c w) s = cmpRow 0x00 c w (fun a b => a = b) s := rfl
theorem exec_evCmpne : exec (.evCmpne c w) s = cmpRow 0x01 c w (fun a b => a ≠ b) s := rfl
theorem exec_evCmplt : exec (.evCmplt c w) s = cmpRow 0x02 c w (fun a b => a.slt b) s := rfl
theorem exec_evCmpge : exec (.evCmpge c w) s = cmpRow 0x03 c w (fun a b => !a.slt b) s := rfl
theorem exec_evCmpltu : exec (.evCmpltu c w) s = cmpRow 0x04 c w (fun a b => a.ult b) s := rfl
theorem exec_evCmpgeu : exec (.evCmpgeu c w) s = cmpRow 0x05 c w (fun a b => !a.ult b) s := rfl
theorem exec_evCmptst : exec (.evCmptst c w) s = cmpRow 0x06 c w (fun a b => a &&& b ≠ 0) s := rfl
theorem exec_evCmpieq : exec (.evCmpieq c w) s = cmpiRow 0x0C c w (fun a b => a = b) s := rfl
theorem exec_evCmpine : exec (.evCmpine c w) s = cmpiRow 0x0D c w (fun a b => a ≠ b) s := rfl
theorem exec_evCmpilt : exec (.evCmpilt c w) s = cmpiRow 0x0E c w (fun a b => a.slt b) s := rfl
theorem exec_evCmpiltu : exec (.evCmpiltu c w) s = cmpiRow 0x0F c w (fun a b => a.ult b) s := rfl
theorem exec_evPand : exec (.evPand c w) s = predRow 0 c w (· && ·) s := rfl
theorem exec_evPor : exec (.evPor c w) s = predRow 1 c w (· || ·) s := rfl
theorem exec_evPxor : exec (.evPxor c w) s = predRow 2 c w (· ^^ ·) s := rfl
theorem exec_evPmov : exec (.evPmov c w) s = predRow 3 c w (fun a _ => a) s := rfl

end

/-- At or above is not below. -/
theorem not_slt_eq : (!a.slt b) = decide (b.toInt ≤ a.toInt) := by
  simp only [BitVec.slt, ← decide_not, not_lt]

theorem not_ult_eq : (!a.ult b) = decide (b.toNat ≤ a.toNat) := by
  simp only [BitVec.ult, ← decide_not, not_lt]

theorem pReg_setP_0 (v : Bool) (x : Ctx) : pReg (setP 0 v x) 0 = true := rfl

/-! ### Shifts by an immediate (R254) -/

theorem bits_lt (v lo n : Nat) : bits v lo n < 2 ^ n := Nat.mod_lt _ (by positivity)

theorem shiRow_completes {c : Fin 8} {s : State} {kind : Nat} (hgo : EvGo s c w) (hop : evOp w = 0x05)
    (hkind : bits w.toNat 9 3 = kind) (hassigned : kind ≤ 4) :
    exec (.evShi c w) s = .next (evWith c (setG (evRd w)
      (shiW kind (gReg (core s c).ctx (evRa w)) (bits w.toNat 0 5)) (core s c).ctx) s) := by
  have hres : evReserved w = false := by
    simp only [evReserved, hop]
    exact decide_eq_false (by omega)
  change execEvShi c w s = _
  rw [execEvShi, evRow_evPure_completes _ hgo (by rw [isOp_of_go hgo hop, hres]; rfl), imm, hkind]

theorem shiW_shl {n : Nat} (hn : n < 32) : shiW 0 a n = a <<< n := if_pos hn
theorem shiW_shr {n : Nat} (hn : n < 32) : shiW 1 a n = a >>> n := if_pos hn
theorem shiW_sar {n : Nat} (hn : n < 32) : shiW 2 a n = a.sshiftRight n := by
  rw [show shiW 2 a n = a.sshiftRight (min n 31) from rfl, Nat.min_eq_left (by omega)]
theorem shiW_rol {n : Nat} (hn : n < 32) : shiW 3 a n = a.rotateLeft n := by
  rw [show shiW 3 a n = a.rotateLeft (n % 32) from rfl, Nat.mod_eq_of_lt hn]
theorem shiW_ror {n : Nat} (hn : n < 32) : shiW 4 a n = a.rotateRight n := by
  rw [show shiW 4 a n = a.rotateRight (n % 32) from rfl, Nat.mod_eq_of_lt hn]

end Sys2Proof.Machine
end

section

namespace Sys2Proof.Machine

open Claims

/-- Settles O3: the highest 1 bit is at the logarithm, the lowest is the first that a search finds, and a filter counts. -/
theorem countsAreTheBitsOfTheirNames : Obligations.CountsAreTheBitsOfTheirNames := fun a =>
  ⟨clzW_spec a, ctzW_spec a, popcW_eq_sum a, rfl, rfl⟩

/-- Settles O4: a division row ends in DIVZERO or moves on, and its result has the edges of R251. -/
theorem divisionHasItsEdgeResults : Obligations.DivisionHasItsEdgeResults := by
  intro c w s hgo hop
  dsimp only
  refine ⟨fun hfn => ?div, fun hfn => ?divu, fun hfn => ?rem, fun hfn => ?remu⟩
  case div => rw [← divS_eq]; exact divRow_ends true divS hgo hop hfn
  case divu => exact divRow_ends false divU hgo hop hfn
  case rem => rw [← remS_eq]; exact divRow_ends true remS hgo hop hfn
  case remu => exact divRow_ends false remU hgo hop hfn

/-- Settles O1: each row is one of `aluRow`, whose context is the statement's, up to the order tests and MTPR's width. -/
theorem integerArithmeticWritesItsResult : Obligations.IntegerArithmeticWritesItsResult := by
  intro c w s hgo hop
  dsimp only
  refine ⟨fun hfn => ?add, fun hfn => ?sub, fun hfn => ?addv, fun hfn => ?subv, fun hfn => ?neg, fun hfn => ?and,
    fun hfn => ?or, fun hfn => ?xor, fun hfn => ?andn, fun hfn => ?not, fun hfn => ?clz, fun hfn => ?ctz, fun hfn => ?popc,
    fun hfn => ?min, fun hfn => ?max, fun hfn => ?minu, fun hfn => ?maxu, fun hfn => ?mul, fun hfn => ?mulh,
    fun hfn => ?mulhu, fun hfn => ?mulv, fun hfn => ?mfpr, fun hfn => ?mtpr⟩
  case min => rw [← minS_eq]; exact aluRow_completes _ hgo hop hfn
  case max => rw [← maxS_eq]; exact aluRow_completes _ hgo hop hfn
  case minu => rw [← minU_eq]; exact aluRow_completes _ hgo hop hfn
  case maxu => rw [← maxU_eq]; exact aluRow_completes _ hgo hop hfn
  all_goals exact aluRow_completes _ hgo hop hfn

/-- Settles O5: each row is one of `opRow`, and an immediate shift has an amount below 32. -/
theorem immediateAndFieldRowsWriteTheirResult : Obligations.ImmediateAndFieldRowsWriteTheirResult := by
  intro c w s hgo
  dsimp only
  have hamount : bits w.toNat 0 5 < 32 := bits_lt _ _ _
  refine ⟨fun hop => ?addi, fun hop => ?andi, fun hop => ?ori, fun hop => ?xori, fun hop hkind => ?shl, fun hop hkind => ?shr,
    fun hop hkind => ?sar, fun hop hkind => ?rol, fun hop hkind => ?ror, fun hop => ?lui, fun hop => ?muli, fun hop => ?bfx,
    fun hop => ?bfxs, fun hop => ?bfi, fun hop => ?perm⟩
  case shl => rw [shiRow_completes hgo hop hkind (by decide), shiW_shl _ hamount]
  case shr => rw [shiRow_completes hgo hop hkind (by decide), shiW_shr _ hamount]
  case sar => rw [shiRow_completes hgo hop hkind (by decide), shiW_sar _ hamount]
  case rol => rw [shiRow_completes hgo hop hkind (by decide), shiW_rol _ hamount]
  case ror => rw [shiRow_completes hgo hop hkind (by decide), shiW_ror _ hamount]
  all_goals exact opRow_completes _ hgo hop

/-- Settles O6: the comparison rows write PD through `setCmp`, the predicate rows through `setP`. -/
theorem comparisonsWriteTheirPredicate : Obligations.ComparisonsWriteTheirPredicate := by
  intro c w s hgo
  dsimp only
  refine ⟨fun hop hfn => ?eq, fun hop hfn => ?ne, fun hop hfn => ?lt, fun hop hfn => ?ge, fun hop hfn => ?ltu,
    fun hop hfn => ?geu, fun hop hfn => ?tst, fun hop => ?ieq, fun hop => ?ine, fun hop => ?ilt, fun hop => ?iltu,
    fun hop hpfn => ?and, fun hop hpfn => ?or, fun hop hpfn => ?xor, fun hop hpfn => ?mov, fun v => pReg_setP_0 v _⟩
  case ge => rw [← not_slt_eq]; exact (cmpRow_sets (exec_evCmpge c w s) hgo hop hfn :)
  case geu => rw [← not_ult_eq]; exact (cmpRow_sets (exec_evCmpgeu c w s) hgo hop hfn :)
  case eq => exact (cmpRow_sets (exec_evCmpeq c w s) hgo hop hfn :)
  case ne => exact (cmpRow_sets (exec_evCmpne c w s) hgo hop hfn :)
  case lt => exact (cmpRow_sets (exec_evCmplt c w s) hgo hop hfn :)
  case ltu => exact (cmpRow_sets (exec_evCmpltu c w s) hgo hop hfn :)
  case tst => exact (cmpRow_sets (exec_evCmptst c w s) hgo hop hfn :)
  case ieq => exact (cmpiRow_sets (exec_evCmpieq c w s) hgo hop :)
  case ine => exact (cmpiRow_sets (exec_evCmpine c w s) hgo hop :)
  case ilt => exact (cmpiRow_sets (exec_evCmpilt c w s) hgo hop :)
  case iltu => exact (cmpiRow_sets (exec_evCmpiltu c w s) hgo hop :)
  case and => exact (exec_evPand c w s).trans (predRow_completes _ hgo hop hpfn)
  case or => exact (exec_evPor c w s).trans (predRow_completes _ hgo hop hpfn)
  case xor => exact (exec_evPxor c w s).trans (predRow_completes _ hgo hop hpfn)
  case mov => exact (exec_evPmov c w s).trans (predRow_completes _ hgo hop hpfn)

end Sys2Proof.Machine
end

section
/-! PROOFS. The floating-point rows against R265 to R268. -/

namespace Sys2Proof.Machine

open Claims

variable {c : Fin 8} {w : Word} {s : State} {fn : Nat}

/-! ### The sign bit (R266) -/

theorem ofNat_fmag_f32 (v : Word) : BitVec.ofNat 32 (fmag f32 v.toNat) = v &&& 0x7FFFFFFF := by
  apply BitVec.eq_of_toNat_eq
  have hmask : v.toNat &&& 0x7FFFFFFF = v.toNat % 2 ^ 31 := Nat.and_two_pow_sub_one_eq_mod _ 31
  have hmag : fmag f32 v.toNat = v.toNat % 2 ^ 31 := by simp [fmag, bits, f32]
  rw [BitVec.toNat_ofNat, BitVec.toNat_and, hmag]
  exact (Nat.mod_eq_of_lt (by omega)).trans hmask.symm

theorem ofNat_fneg_f32 (v : Word) : BitVec.ofNat 32 (fneg f32 v.toNat) = v ^^^ 0x80000000 := by
  apply BitVec.eq_of_toNat_eq
  rw [BitVec.toNat_ofNat, BitVec.toNat_xor]
  exact Nat.mod_eq_of_lt (Nat.xor_lt_two_pow v.isLt (by decide))

theorem fmag_f64 (v : Nat) : fmag f64 v = v % 2 ^ 63 := by simp [fmag, bits, f64]

/-! ### Flags and predicates of a comparison (R267) -/

/-- A comparison of RA and RB into PD, with OV where its flags say so. -/
theorem fpCmp_eq (f : Fmt) (r ov : Bool) (op : Fmt → Nat → Nat → Bool × Nat) (x : Ctx)
    (h : op f (fOp f x (evRa w)) (fOp f x (evRb w)) = (r, if ov then 1 else 0)) :
    fpCmp f op w x =
      (let y := setP (evPd w) (if evMode w = 1 then pReg x (evPd w) && r else if evMode w = 2 then pReg x (evPd w) || r else r) x
       { y with stat := y.stat ||| (if ov then 1 else 0) }) := by
  rw [fpCmp, h, setCmp_eq, setFlags]
  cases ov <;> rfl

theorem fcmpBits_quiet (f : Fmt) (r : Int → Int → Bool) (a b : Nat) :
    fcmpBits f true r a b = (!(isNan f a || isNan f b) && r (fnum f a) (fnum f b), if isSnan f a || isSnan f b then 1 else 0) := by
  simp [fcmpBits]

theorem isNan_of_isSnan {f : Fmt} {a b : Nat} (h : (isSnan f a || isSnan f b) = true) : (isNan f a || isNan f b) = true := by
  simp only [isSnan, Bool.or_eq_true, Bool.and_eq_true] at h ⊢
  exact h.imp And.left And.left

theorem fcmpBits_signalling (f : Fmt) (r : Int → Int → Bool) (a b : Nat) :
    fcmpBits f false r a b = (!(isNan f a || isNan f b) && r (fnum f a) (fnum f b), if isNan f a || isNan f b then 1 else 0) := by
  have hor : (isSnan f a || isSnan f b) = true ∨ (isNan f a || isNan f b) = true ∧ (!false) = true ↔
      (isNan f a || isNan f b) = true :=
    ⟨fun h => h.elim isNan_of_isSnan And.left, fun h => .inr ⟨h, rfl⟩⟩
  simp only [fcmpBits, hor]

theorem funBits_eq (f : Fmt) (a b : Nat) :
    funBits f a b = (isNan f a || isNan f b, if isSnan f a || isSnan f b then 1 else 0) := by
  simp [funBits]

/-- A row of FCMP, with its comparison `r` and whether it sets OV. -/
theorem fcmpRow_completes (f : Fmt) (op : Fmt → Nat → Nat → Bool × Nat) (r ov : Bool) (hgo : EvGo s c w)
    (hop : evOp w = 0x28) (hfn : evFn w = fn)
    (h : op f (fOp f (core s c).ctx (evRa w)) (fOp f (core s c).ctx (evRb w)) = (r, if ov then 1 else 0)) :
    fpRow 0x28 fn c w (fpCmp f op) s = .next (evWith c
      (let x := (core s c).ctx
       let y := setP (evPd w) (if evMode w = 1 then pReg x (evPd w) && r else if evMode w = 2 then pReg x (evPd w) || r else r) x
       { y with stat := y.stat ||| (if ov then 1 else 0) }) s) := by
  rw [fpRow_completes _ hgo hop hfn, fpCmp_eq f r ov op _ h]

end Sys2Proof.Machine
end

section

namespace Sys2Proof.Machine

open Claims

/-- Settles O7: every row is one of `fpRow`, and FABS and FNEG mask or flip the sign bit of the bits as they stand. -/
theorem floatingPointRowsWriteTheirResult : Obligations.FloatingPointRowsWriteTheirResult := by
  intro c w s hgo
  dsimp only
  refine ⟨fun hop hfn => ?fadd, fun hop hfn => ?fsub, fun hop hfn => ?fmul, fun hop hfn => ?fdiv, fun hop hfn => ?fsqrt,
    fun hop hfn => ?fmin, fun hop hfn => ?fmax, fun hop hfn => ?fabs, fun hop hfn => ?fneg, fun hop hfn => ?dadd,
    fun hop hfn => ?dsub, fun hop hfn => ?dmul, fun hop hfn => ?ddiv, fun hop hfn => ?dsqrt, fun hop hfn => ?dmin,
    fun hop hfn => ?dmax, fun hop hfn => ?dabs, fun hop hfn => ?dneg, fun hop hfn => ?sfw, fun hop hfn => ?sfwu,
    fun hop hfn => ?wfs, fun hop hfn => ?wufs, fun hop hfn => ?wfsr, fun hop hfn => ?dfw, fun hop hfn => ?dfwu,
    fun hop hfn => ?wfd, fun hop hfn => ?wufd, fun hop hfn => ?wfdr, fun hop hfn => ?dfs, fun hop hfn => ?sfd⟩
  case fabs => rw [← ofNat_fmag_f32]; exact fpRow_completes (fpBits f32 (fmag f32)) hgo hop hfn
  case fneg => rw [← ofNat_fneg_f32]; exact fpRow_completes (fpBits f32 (fneg f32)) hgo hop hfn
  case dabs => rw [← fmag_f64]; exact fpRow_completes (fpBits f64 (fmag f64)) hgo hop hfn
  all_goals exact fpRow_completes _ hgo hop hfn

/-- Settles O8: each row is one of `fpCmp`, quiet or signalling. -/
theorem floatingPointComparisonsWriteTheirPredicate : Obligations.FloatingPointComparisonsWriteTheirPredicate := by
  intro c w s hgo hop
  dsimp only
  refine ⟨fun hfn => ?feqs, fun hfn => ?flts, fun hfn => ?fles, fun hfn => ?funs, fun hfn => ?feqd, fun hfn => ?fltd,
    fun hfn => ?fled, fun hfn => ?fund⟩
  case feqs => exact fcmpRow_completes f32 _ _ _ hgo hop hfn (fcmpBits_quiet ..)
  case flts => exact fcmpRow_completes f32 _ _ _ hgo hop hfn (fcmpBits_signalling ..)
  case fles => exact fcmpRow_completes f32 _ _ _ hgo hop hfn (fcmpBits_signalling ..)
  case funs => exact fcmpRow_completes f32 _ _ _ hgo hop hfn (funBits_eq ..)
  case feqd => exact fcmpRow_completes f64 _ _ _ hgo hop hfn (fcmpBits_quiet ..)
  case fltd => exact fcmpRow_completes f64 _ _ _ hgo hop hfn (fcmpBits_signalling ..)
  case fled => exact fcmpRow_completes f64 _ _ _ hgo hop hfn (fcmpBits_signalling ..)
  case fund => exact fcmpRow_completes f64 _ _ _ hgo hop hfn (funBits_eq ..)

end Sys2Proof.Machine
end

section
/-! PROOFS. Image bits, loads, stores and atomics against the data map (R225 to R228, R259 to R262): the effect of each kind of
row where its access is allowed, and its trap where it is refused. -/

namespace Sys2Proof.Machine

open Claims

variable {c : Fin 8} {w : Word} {s : State}

/-! ### Image bits (R259) -/

theorem isMode_of_go {op kfn : Nat} (hgo : EvGo s c w) (hop : evOp w = op) (hkfn : evMode w = kfn) :
    (isOp op c w s && decide (evMode w = kfn)) = true := by
  simp [isOp_of_go hgo hop, hkfn]

theorem ibitRow_completes {op kfn t : Nat} (f : Bool → Bool → Bool) (hgo : EvGo s c w) (hop : evOp w = op)
    (hkfn : evMode w = kfn) (hplace : bitPlace s c (bitOf (core s c).ctx w) false = .ok t) :
    bitRow op kfn c w (ibit f) s = .next (evWith c (setP (evPd w)
      (f (pReg (core s c).ctx (evPd w)) (rdBit (run s t).view (bitOf (core s c).ctx w))) (core s c).ctx) s) := by
  have hact : ibit f ⟨c, w, (core s c).ctx, iteration (core s c).ctx⟩ s = (setCtx c (setP (evPd w)
      (f (pReg (core s c).ctx (evPd w)) (rdBit (run s t).view (bitOf (core s c).ctx w))) (core s c).ctx) s, none) := by
    have hbit : bitPlace s c (bitAddr ⟨c, w, (core s c).ctx, iteration (core s c).ctx⟩) false = .ok t := hplace
    simp only [ibit, hbit]
    rfl
  rw [bitRow, evRow_setCtx_completes hgo (isMode_of_go hgo hop hkfn) hact]

/-- What a bit of the view becomes under an IBSET word. -/
def withBit (t a : Nat) (v : Option Bool) (s : State) : State :=
  match v with
  | some v => setRun t (fun r => { r with view := wrBit r.view a v }) s
  | none => s

theorem ibsetRow_completes {kfn t : Nat} {v : Option Bool} (f : Bool → Option Bool) (hgo : EvGo s c w) (hop : evOp w = 0x13)
    (hkfn : evMode w = kfn) (hplace : bitPlace s c (bitOf (core s c).ctx w) true = .ok t)
    (hv : f (pReg (core s c).ctx (evPd w)) = v) :
    bitRow 0x13 kfn c w (ibset f) s = .next (evAfter c (withBit t (bitOf (core s c).ctx w) v s)) := by
  have hact : ibset f ⟨c, w, (core s c).ctx, iteration (core s c).ctx⟩ s =
      (withBit t (bitOf (core s c).ctx w) v s, none) := by
    have hbit : bitPlace s c (bitAddr ⟨c, w, (core s c).ctx, iteration (core s c).ctx⟩) true = .ok t := hplace
    simp only [ibset, hbit, hv]
    cases v <;> rfl
  rw [bitRow, evRow_completes hgo (isMode_of_go hgo hop hkfn) hact]

/-! ### Loads and stores of the data map (R260, R234) -/

theorem loadRow_completes {op n : Nat} {p : Place} (f : Nat → Ctx → Ctx) (hgo : EvGo s c w) (hop : evOp w = op)
    (hplace : place s c (core s c).ctx (addrOf (core s c).ctx w n) n false false = .ok p) :
    memRow op c w (loadBytes n f) s =
      .next (evWith c (f (loadAt s c p (addrOf (core s c).ctx w n).toNat n).2 (core s c).ctx)
        (loadAt s c p (addrOf (core s c).ctx w n).toNat n).1) := by
  have hact : loadBytes n f ⟨c, w, (core s c).ctx, iteration (core s c).ctx⟩ s =
      (setCtx c (f (loadAt s c p (addrOf (core s c).ctx w n).toNat n).2 (core s c).ctx)
        (loadAt s c p (addrOf (core s c).ctx w n).toNat n).1, none) := by
    have hmem : place s c (core s c).ctx (memAddr ⟨c, w, (core s c).ctx, iteration (core s c).ctx⟩ n) n false false = .ok p := hplace
    simp only [loadBytes, hmem]
    rfl
  rw [memRow, evRow_setCtx_completes hgo (isOp_of_go hgo hop) hact]

theorem loadRow_traps {op n : Nat} {t : Trap} (f : Nat → Ctx → Ctx) (hgo : EvGo s c w) (hop : evOp w = op)
    (hplace : place s c (core s c).ctx (addrOf (core s c).ctx w n) n false false = .error t) :
    memRow op c w (loadBytes n f) s = .next (evTrap c t.1 t.2 false s) := by
  have hact : loadBytes n f ⟨c, w, (core s c).ctx, iteration (core s c).ctx⟩ s = (s, some (t.1, t.2)) := by
    have hmem : place s c (core s c).ctx (memAddr ⟨c, w, (core s c).ctx, iteration (core s c).ctx⟩ n) n false false = .error t := hplace
    simp only [loadBytes, hmem]
  rw [memRow, evRow_traps hgo (isOp_of_go hgo hop) hact]

theorem storeRow_completes {op n : Nat} {p : Place} (v : Ctx → Nat) (hgo : EvGo s c w) (hop : evOp w = op)
    (hplace : place s c (core s c).ctx (addrOf (core s c).ctx w n) n true false = .ok p) :
    memRow op c w (storeBytes n v) s =
      .next (evAfter c (storeAt c p (addrOf (core s c).ctx w n).toNat n (v (core s c).ctx % 2 ^ (8 * n)) s)) := by
  have hact : storeBytes n v ⟨c, w, (core s c).ctx, iteration (core s c).ctx⟩ s =
      (storeAt c p (addrOf (core s c).ctx w n).toNat n (v (core s c).ctx % 2 ^ (8 * n)) s, none) := by
    have hmem : place s c (core s c).ctx (memAddr ⟨c, w, (core s c).ctx, iteration (core s c).ctx⟩ n) n true false = .ok p := hplace
    simp only [storeBytes, hmem]
    rfl
  rw [memRow, evRow_completes hgo (isOp_of_go hgo hop) hact]

theorem storeRow_traps {op n : Nat} {t : Trap} (v : Ctx → Nat) (hgo : EvGo s c w) (hop : evOp w = op)
    (hplace : place s c (core s c).ctx (addrOf (core s c).ctx w n) n true false = .error t) :
    memRow op c w (storeBytes n v) s = .next (evTrap c t.1 t.2 false s) := by
  have hact : storeBytes n v ⟨c, w, (core s c).ctx, iteration (core s c).ctx⟩ s = (s, some (t.1, t.2)) := by
    have hmem : place s c (core s c).ctx (memAddr ⟨c, w, (core s c).ctx, iteration (core s c).ctx⟩ n) n true false = .error t := hplace
    simp only [storeBytes, hmem]
  rw [memRow, evRow_traps hgo (isOp_of_go hgo hop) hact]

/-! ### The data stack (R261) -/

theorem stackPlace_ok {p : Place} {store : Bool}
    (hplace : place s c (core s c).ctx (slotOf (core s c).ctx w) 4 store false = .ok p)
    (hslice : offStack (core s c).ctx (slotOf (core s c).ctx w) = false) :
    stackPlace s ⟨c, w, (core s c).ctx, iteration (core s c).ctx⟩ store = .ok p := by
  have hslot : place s c (core s c).ctx (stackAddr ⟨c, w, (core s c).ctx, iteration (core s c).ctx⟩) 4 store false = .ok p := hplace
  have hoff : offStack (core s c).ctx (stackAddr ⟨c, w, (core s c).ctx, iteration (core s c).ctx⟩) = false := hslice
  simp [stackPlace, hslot, hoff]

theorem loadStack_completes {p : Place} (hgo : EvGo s c w) (hop : evOp w = 0x20)
    (hplace : place s c (core s c).ctx (slotOf (core s c).ctx w) 4 false false = .ok p)
    (hslice : offStack (core s c).ctx (slotOf (core s c).ctx w) = false) :
    memRow 0x20 c w loadStack s = .next (evWith c (intoU w (loadAt s c p (slotOf (core s c).ctx w).toNat 4).2 (core s c).ctx)
      (loadAt s c p (slotOf (core s c).ctx w).toNat 4).1) := by
  have hact : loadStack ⟨c, w, (core s c).ctx, iteration (core s c).ctx⟩ s =
      (setCtx c (intoU w (loadAt s c p (slotOf (core s c).ctx w).toNat 4).2 (core s c).ctx)
        (loadAt s c p (slotOf (core s c).ctx w).toNat 4).1, none) := by
    simp only [loadStack, stackPlace_ok hplace hslice]
    rfl
  rw [memRow, evRow_setCtx_completes hgo (isOp_of_go hgo hop) hact]

theorem storeStack_completes {p : Place} (hgo : EvGo s c w) (hop : evOp w = 0x21)
    (hplace : place s c (core s c).ctx (slotOf (core s c).ctx w) 4 true false = .ok p)
    (hslice : offStack (core s c).ctx (slotOf (core s c).ctx w) = false) :
    memRow 0x21 c w storeStack s =
      .next (evAfter c (storeAt c p (slotOf (core s c).ctx w).toNat 4 (gReg (core s c).ctx (evRd w)).toNat s)) := by
  have hact : storeStack ⟨c, w, (core s c).ctx, iteration (core s c).ctx⟩ s =
      (storeAt c p (slotOf (core s c).ctx w).toNat 4 (gReg (core s c).ctx (evRd w)).toNat s, none) := by
    simp only [storeStack, stackPlace_ok hplace hslice]
    rfl
  rw [memRow, evRow_completes hgo (isOp_of_go hgo hop) hact]

/-- A new DS that the mode permits (R232). -/
theorem moveDs_of_permitted {c i : Nat} {w v : Word} {x : Ctx} {s : State} (h : x.mode = .runtime ∨ (x.dsLo ≤ v ∧ v ≤ x.dsHi)) :
    moveDs v ⟨c, w, x, i⟩ s = (setCtx c { x with ds := v } s, none) := by
  rw [moveDs, if_neg]
  rintro ⟨htask, hout⟩
  rcases h with hruntime | ⟨hlo, hhi⟩
  · exact absurd (htask.symm.trans hruntime) (by decide)
  · rcases hout with hbelow | habove
    · exact absurd hlo (BitVec.not_le.mpr hbelow)
    · exact absurd hhi (BitVec.not_le.mpr habove)

/-! ### Atomics (R262) -/

/-- The address of an atomic in the present iteration. -/
abbrev atomOf (x : Ctx) (w : Word) : Word := gReg x (evRa w) + BitVec.ofNat 32 (4 * iteration x)

theorem amoRow_completes {fn : Nat} {p : Place} (f : Word → Word → Word) (hgo : EvGo s c w) (hop : evOp w = 0x1E)
    (hfn : evFn w = fn) (hplace : place s c (core s c).ctx (atomOf (core s c).ctx w) 4 true true = .ok p) :
    let x := (core s c).ctx
    let old := BitVec.ofNat 32 (loadAt s c p (atomOf x w).toNat 4).2
    amoRow fn c w (atomic f) s = .next (evWith c (setG (evRd w) old x)
      (storeAt c p (atomOf x w).toNat 4 (f old (gReg x (evRb w))).toNat s)) := by
  intro x old
  have hact : atomic f ⟨c, w, x, iteration x⟩ s = (setCtx c (setG (evRd w) old x)
      (storeAt c p (atomOf x w).toNat 4 (f old (gReg x (evRb w))).toNat s), none) := by
    simp only [atomic, x, hplace]
    rfl
  rw [amoRow, evRow_setCtx_completes hgo (isFn_of_go hgo hop hfn) hact]

theorem amoRow_traps {fn : Nat} {t : Trap} (f : Word → Word → Word) (hgo : EvGo s c w) (hop : evOp w = 0x1E)
    (hfn : evFn w = fn) (hplace : place s c (core s c).ctx (atomOf (core s c).ctx w) 4 true true = .error t) :
    amoRow fn c w (atomic f) s = .next (evTrap c t.1 t.2 false s) := by
  have hact : atomic f ⟨c, w, (core s c).ctx, iteration (core s c).ctx⟩ s = (s, some (t.1, t.2)) := by
    simp only [atomic, hplace]
  rw [amoRow, evRow_traps hgo (isFn_of_go hgo hop hfn) hact]

/-! ### The judgement of the data map (R226, R227, R234) -/

section
variable {n c : Nat} {x : Ctx} {a : Word} {store atomic : Bool}

theorem place_fenced (hlo : 0xE0000000 ≤ a.toNat) (hhi : a.toNat < 0xF0000000) :
    place s c x a n store atomic = .error (6, a) := by
  simp [place, fenced, hlo, hhi]

theorem fenced_eq_false (h : ¬(0xE0000000 ≤ a.toNat ∧ a.toNat < 0xF0000000)) : fenced a.toNat = false :=
  decide_eq_false h

theorem place_misaligned (hfence : ¬(0xE0000000 ≤ a.toNat ∧ a.toNat < 0xF0000000)) (halign : a.toNat % n ≠ 0) :
    place s c x a n store atomic = .error (9, a) := by
  simp [place, fenced_eq_false hfence, halign]

/-- Past FENCE and MISALIGNED the map judges the address by the mode, and an atomic only reaches data SRAM and the pool. -/
theorem place_unmapped (hfence : ¬(0xE0000000 ≤ a.toNat ∧ a.toNat < 0xF0000000)) (halign : a.toNat % n = 0)
    (hhole : (0x20000 ≤ a.toNat ∧ a.toNat < 0x10000000) ∨ (0x10800000 ≤ a.toNat ∧ a.toNat < 0x20000000) ∨
      (0x20100000 ≤ a.toNat ∧ a.toNat < 0x30000000) ∨ (0x30100000 ≤ a.toNat ∧ a.toNat < 0xC0000000) ∨
      (0xC0200000 ≤ a.toNat ∧ a.toNat < 0xD0000000) ∨ (0xD0001000 ≤ a.toNat ∧ a.toNat < 0xE0000000) ∨ 0xF0000000 ≤ a.toNat) :
    place s c x a n store atomic = .error (if x.mode = .task then 7 else 8, a) := by
  have hsram : ¬(0x10000000 ≤ a.toNat ∧ a.toNat < 0x10400000) := by omega
  have hpool : ¬(0x10400000 ≤ a.toNat ∧ a.toNat < 0x10800000) := by omega
  have hlocal : ¬ a.toNat < 0x20000 := by omega
  have hview : ¬(0x20000000 ≤ a.toNat ∧ a.toNat < 0x20100000) := by omega
  have hbank0 : ¬(0x30000000 ≤ a.toNat ∧ a.toNat < 0x30010000) := by omega
  have hbanks : ¬(0x30010000 ≤ a.toNat ∧ a.toNat < 0x30100000) := by omega
  have htable : ¬(0xC0000000 ≤ a.toNat ∧ a.toNat < 0xC0200000) := by omega
  have hcontrol : ¬(0xD0000000 ≤ a.toNat ∧ a.toNat < 0xD0001000) := by omega
  simp only [place, fenced_eq_false hfence, halign, hsram, hpool, hlocal, hview, hbank0, hbanks, htable, hcontrol, if_false,
    Bool.false_eq_true, ne_eq, not_true_eq_false, decide_eq_true_eq, ite_self]

/-- What belongs to the runtime is refused to task code. -/
theorem place_runtimeOnly (hfence : ¬(0xE0000000 ≤ a.toNat ∧ a.toNat < 0xF0000000)) (halign : a.toNat % n = 0)
    (htask : x.mode = .task) (hmap : (0x10400000 ≤ a.toNat ∧ a.toNat < 0x10800000) ∨ (0x30000000 ≤ a.toNat ∧ a.toNat < 0x30010000) ∨
      (0xC0000000 ≤ a.toNat ∧ a.toNat < 0xC0200000) ∨ (0xD0000000 ≤ a.toNat ∧ a.toNat < 0xD0001000)) :
    place s c x a n store atomic = .error (7, a) := by
  have hsram : ¬(0x10000000 ≤ a.toNat ∧ a.toNat < 0x10400000) := by omega
  have hlocal : ¬ a.toNat < 0x20000 := by omega
  have hview : ¬(0x20000000 ≤ a.toNat ∧ a.toNat < 0x20100000) := by omega
  have hbanks : ¬(0x30010000 ≤ a.toNat ∧ a.toNat < 0x30100000) := by omega
  simp only [place, fenced_eq_false hfence, halign, hsram, hlocal, hview, hbanks, htask, if_false, if_true, decide_true, true_or,
    Bool.false_eq_true, ne_eq, not_true_eq_false, ite_self]

/-- The timer and counter tables are read-only in RUNTIME mode too. -/
theorem place_tableStore (hfence : ¬(0xE0000000 ≤ a.toNat ∧ a.toNat < 0xF0000000)) (halign : a.toNat % n = 0)
    (hlo : 0xC0000000 ≤ a.toNat) (hhi : a.toNat < 0xC0200000) : place s c x a n true false = .error (7, a) := by
  have hsram : ¬(0x10000000 ≤ a.toNat ∧ a.toNat < 0x10400000) := by omega
  have hpool : ¬(0x10400000 ≤ a.toNat ∧ a.toNat < 0x10800000) := by omega
  have hlocal : ¬ a.toNat < 0x20000 := by omega
  have hview : ¬(0x20000000 ≤ a.toNat ∧ a.toNat < 0x20100000) := by omega
  have hbank0 : ¬(0x30000000 ≤ a.toNat ∧ a.toNat < 0x30010000) := by omega
  have hbanks : ¬(0x30010000 ≤ a.toNat ∧ a.toNat < 0x30100000) := by omega
  have htable : 0xC0000000 ≤ a.toNat ∧ a.toNat < 0xC0200000 := ⟨hlo, hhi⟩
  simp only [place, fenced_eq_false hfence, halign, hsram, hpool, hlocal, hview, hbank0, hbanks, htable, if_false, if_true, or_true,
    Bool.false_eq_true, ne_eq, not_true_eq_false, and_self]

/-- Task code reaches its slice of local memory only (R232). -/
theorem place_offSlice (hfence : ¬(0xE0000000 ≤ a.toNat ∧ a.toNat < 0xF0000000)) (halign : a.toNat % n = 0)
    (htask : x.mode = .task) (hlocal : a.toNat < 0x20000) (hout : a.toNat < x.dsLo.toNat ∨ x.dsHi.toNat < a.toNat + n) :
    place s c x a n store false = .error (0x0C, a) := by
  have hsram : ¬(0x10000000 ≤ a.toNat ∧ a.toNat < 0x10400000) := by omega
  have hpool : ¬(0x10400000 ≤ a.toNat ∧ a.toNat < 0x10800000) := by omega
  simp only [place, fenced_eq_false hfence, halign, hsram, hpool, hlocal, htask, hout, if_false, if_true, decide_true,
    Bool.false_eq_true, ne_eq, not_true_eq_false, and_self]

end

end Sys2Proof.Machine
end

section

namespace Sys2Proof.Machine

open Claims

/-- Settles O9: the four reads go through `ibit` and the four writes through `ibset`. -/
theorem imageBitRowsReadAndWriteTheView : Obligations.ImageBitRowsReadAndWriteTheView := by
  intro c w s hgo
  dsimp only
  refine ⟨fun hop hkfn t hplace => ?ld, fun hop hkfn t hplace => ?ldn, fun hop hkfn t hplace => ?and, fun hop hkfn t hplace => ?or,
    fun hop hkfn t hplace => ?st, fun hop hkfn t hplace => ?stn, fun hop hkfn hp t hplace => ?s1, fun hop hkfn hp t hplace => ?s1off,
    fun hop hkfn hp t hplace => ?s0, fun hop hkfn hp t hplace => ?s0off⟩
  case ld => exact ibitRow_completes _ hgo hop hkfn hplace
  case ldn => exact ibitRow_completes _ hgo hop hkfn hplace
  case and => exact ibitRow_completes _ hgo hop hkfn hplace
  case or => exact ibitRow_completes _ hgo hop hkfn hplace
  case st => exact ibsetRow_completes _ hgo hop hkfn hplace rfl
  case stn => exact ibsetRow_completes _ hgo hop hkfn hplace rfl
  case s1 => exact ibsetRow_completes (v := some true) _ hgo hop hkfn hplace (congrArg (fun p => if p then some true else none) hp)
  case s1off => exact ibsetRow_completes (v := none) _ hgo hop hkfn hplace (congrArg (fun p => if p then some true else none) hp)
  case s0 => exact ibsetRow_completes (v := some false) _ hgo hop hkfn hplace (congrArg (fun p => if p then some false else none) hp)
  case s0off => exact ibsetRow_completes (v := none) _ hgo hop hkfn hplace (congrArg (fun p => if p then some false else none) hp)

/-- Settles O10: every load reads where the data map places it and puts the value into the context. -/
theorem loadsPutTheirBytesIntoTheRegister : Obligations.LoadsPutTheirBytesIntoTheRegister := by
  intro c w s hgo
  dsimp only
  refine ⟨fun hop p hplace => ?ldb, fun hop p hplace => ?ldbu, fun hop p hplace => ?ldh, fun hop p hplace => ?ldhu,
    fun hop p hplace => ?ldw, fun hop p hplace => ?ldd, fun hop p hplace hslice => ?ldsw⟩
  case ldsw => exact loadStack_completes hgo hop hplace hslice
  all_goals exact loadRow_completes _ hgo hop hplace

/-- Settles O11: every store writes where the data map places it; DSADJ and the atomics leave a context too. -/
theorem storesPutTheRegisterAtTheAddress : Obligations.StoresPutTheRegisterAtTheAddress := by
  intro c w s hgo
  dsimp only
  refine ⟨fun hop p hplace => ?stb, fun hop p hplace => ?sth, fun hop p hplace => ?stw, fun hop p hplace => ?std,
    fun hop p hplace hslice => ?stsw, fun hop hfn p hplace => ?swap, fun hop hfn p hplace => ?add, fun hop hds => ?dsadj⟩
  case stb => exact storeRow_completes _ hgo hop hplace
  case sth => exact storeRow_completes _ hgo hop hplace
  case stw => exact storeRow_completes _ hgo hop hplace
  case std => exact storeRow_completes _ hgo hop hplace
  case stsw => exact storeStack_completes hgo hop hplace hslice
  case swap => exact amoRow_completes _ hgo hop hfn hplace
  case add => exact amoRow_completes _ hgo hop hfn hplace
  case dsadj => exact congrArg Host.Outcome.next (evRow_setCtx_completes hgo (isOp_of_go hgo hop) (moveDs_of_permitted hds))

/-- Settles O28: the judgement of the data map in the order of R234, and each row's trap where it refuses. -/
theorem memoryFaultsTrapWithTheAddress : Obligations.MemoryFaultsTrapWithTheAddress := by
  intro c w s
  dsimp only
  refine ⟨fun a n store atomic => ⟨?fence, ?misaligned, ?unmapped, ?runtimeOnly, ?table, ?slice⟩, fun hgo t =>
    ⟨fun hop hplace => ?ldb, fun hop hplace => ?ldbu, fun hop hplace => ?ldh, fun hop hplace => ?ldhu, fun hop hplace => ?ldw,
      fun hop hplace => ?ldd, fun hop hplace => ?stb, fun hop hplace => ?sth, fun hop hplace => ?stw, fun hop hplace => ?std,
      fun hop hfn hplace => ?swap, fun hop hfn hplace => ?add⟩⟩
  case fence => exact fun hlo hhi => place_fenced hlo hhi
  case misaligned => exact fun hfence halign => place_misaligned hfence halign
  case unmapped => exact fun ⟨hfence, halign⟩ hhole => place_unmapped hfence halign hhole
  case runtimeOnly => exact fun ⟨hfence, halign⟩ htask hplace => place_runtimeOnly hfence halign htask hplace
  case table =>
    rintro ⟨hfence, halign⟩ - rfl rfl hlo hhi
    exact place_tableStore hfence halign hlo hhi
  case slice =>
    rintro ⟨hfence, halign⟩ htask rfl hlocal hout
    exact place_offSlice hfence halign htask hlocal hout
  case ldb | ldbu | ldh | ldhu | ldw | ldd => exact loadRow_traps _ hgo hop hplace
  case stb | sth | stw | std => exact storeRow_traps _ hgo hop hplace
  case swap | add => exact amoRow_traps _ hgo hop hfn hplace

end Sys2Proof.Machine
end

section
/-! PROOFS. Control transfer, system instructions, traps, services and interrupts (R222, R233, R235 to R242, R263, R264). -/

namespace Sys2Proof.Machine

open Claims

variable {c : Fin 8} {w : Word} {s : State}

/-! ### Transfers of control (R263, R233) -/

theorem jumpTo_of_fetchable {c i : Nat} {w a : Word} {x : Ctx} {s : State} (htarget : badTarget s c x a = false) :
    jumpTo a ⟨c, w, x, i⟩ s = (traceNote c 2 0 a.toNat (setCtx c { x with pc := a } s), none) := by
  simp [jumpTo, htarget]

theorem callTo_of_fetchable {c i : Nat} {w a : Word} {x : Ctx} {s : State} (hroom : x.mode = .runtime ∨ x.rs < x.rsHi)
    (htarget : badTarget s c x a = false) :
    callTo a ⟨c, w, x, i⟩ s = (traceNote c 2 0 a.toNat (setCore c (fun k => { k with
      rstack := put x.rs (x.pc + 4) k.rstack, ctx := { x with pc := a, rs := x.rs + 1 } }) s), none) := by
  have hfits : ¬(x.mode = .task ∧ x.rs ≥ x.rsHi) := by
    rintro ⟨htask, hfull⟩
    rcases hroom with hruntime | hroom
    · exact absurd (htask.symm.trans hruntime) (by decide)
    · omega
  rw [callTo, if_neg hfits, if_neg (by rw [htarget]; decide)]

/-- Going to a target with the return stack as it is. -/
theorem evWent_of_setCtx {y : Ctx} {a : Word} : setCore c (fun k => { k with passBreak := false })
    (traceNote c 2 0 a.toNat (setCtx c { y with pc := a } s)) = evWent c y (core s c).rstack a s := by
  rw [evWent, setCtx_eq, setCore_congr (c := c.val) (s := s)
    (f := fun k => { k with ctx := { y with pc := a } }) (g := fun k => { k with rstack := (core s c).rstack, ctx := { y with pc := a } }) rfl]

theorem jumpRow_completes {mine : Bool} {a : Word} {act : EvAct} (hgo : EvGo s c w) (hmine : mine = true)
    (hact : act ⟨c, w, (core s c).ctx, iteration (core s c).ctx⟩ s = jumpTo a ⟨c, w, (core s c).ctx, iteration (core s c).ctx⟩ s)
    (htarget : badTarget s c (core s c).ctx a = false) :
    evJump mine c w false act s = evWent c (core s c).ctx (core s c).rstack a s := by
  rw [evJump_completes hgo hmine (hact.trans (jumpTo_of_fetchable htarget)), evWent_of_setCtx]

theorem callRow_completes {mine : Bool} {a : Word} {act : EvAct} (hgo : EvGo s c w) (hmine : mine = true)
    (hact : act ⟨c, w, (core s c).ctx, iteration (core s c).ctx⟩ s = callTo a ⟨c, w, (core s c).ctx, iteration (core s c).ctx⟩ s)
    (hroom : (core s c).ctx.mode = .runtime ∨ (core s c).ctx.rs < (core s c).ctx.rsHi)
    (htarget : badTarget s c { (core s c).ctx with rs := (core s c).ctx.rs + 1 } a = false) :
    evJump mine c w false act s = evWent c { (core s c).ctx with rs := (core s c).ctx.rs + 1 }
      (put (core s c).ctx.rs ((core s c).ctx.pc + 4) (core s c).rstack) a s := by
  rw [evJump_completes hgo hmine (hact.trans (callTo_of_fetchable hroom htarget)), evWent]
  congr 2

/-- The address on top of the return stack. -/
abbrev poppedOf (s : State) (c : Nat) : Word := lookD (core s c).rstack ((core s c).ctx.rs - 1) 0

theorem ret_goes {i : Nat} {w : Word} {c : Nat} {s : State}
    (hframes : (core s c).ctx.mode = .runtime ∨ (core s c).ctx.rsLo + 1 < (core s c).ctx.rs)
    (htarget : badTarget s c { (core s c).ctx with rs := (core s c).ctx.rs - 1 } (poppedOf s c) = false) :
    ret ⟨c, w, (core s c).ctx, i⟩ s = (traceNote c 2 0 (poppedOf s c).toNat
      (setCtx c { (core s c).ctx with rs := (core s c).ctx.rs - 1, pc := poppedOf s c } s), none) := by
  have hruntime : ∀ {p : Prop}, (core s c).ctx.mode = .task → p → (core s c).ctx.rsLo + 1 < (core s c).ctx.rs := fun htask _ =>
    hframes.resolve_left (fun h => absurd (htask.symm.trans h) (by decide))
  unfold ret
  dsimp only
  rw [if_neg (fun h => by have := hruntime h.1 h.2; omega), if_neg (fun h => by have := hruntime h.1 h.2; omega)]
  exact jumpTo_of_fetchable htarget

theorem ret_returns {i : Nat} {w : Word} {c : Nat} {s : State} (htask : (core s c).ctx.mode = .task)
    (hlast : (core s c).ctx.rs = (core s c).ctx.rsLo + 1) :
    ret ⟨c, w, (core s c).ctx, i⟩ s = (taskReturn c (core s c).ctx s, none) := by
  unfold ret
  dsimp only
  rw [if_neg (fun h => by have := h.2; omega), if_pos ⟨htask, hlast⟩]

/-! ### System instructions (R222, R240, R264) -/

/-- A row with decode traps of its own, none of which applies, whose effect leaves a context that stands. -/
theorem evRun_stays {form : Option Trap} {priv : Bool} {skip : State → State} {act : EvAct} {x : Ctx} (hgo : EvGo s c w)
    (hform : form = none) (hpriv : priv = false)
    (hact : act ⟨c, w, (core s c).ctx, iteration (core s c).ctx⟩ s = (setCtx c x s, none)) :
    evRun c w form priv skip act id s = evAt c x s := by
  rw [hform, hpriv, evRun_of_effect_completes hgo hact, id_eq, passBreak_setCtx]

/-- The same for a row that goes on to the next instruction. -/
theorem evRun_goesOn {form : Option Trap} {priv : Bool} {skip : State → State} {act : EvAct} {s' : State} (hgo : EvGo s c w)
    (hform : form = none) (hpriv : priv = false)
    (hact : act ⟨c, w, (core s c).ctx, iteration (core s c).ctx⟩ s = (s', none)) :
    evRun c w form priv skip act (evNext c) s = evAfter c s' := by
  rw [hform, hpriv, evRun_of_effect_completes hgo hact, evNext_eq_evAfter]

theorem evAfter_setCtx (c : Fin 8) (x : Ctx) (s : State) : evAfter c (setCtx c x s) = evWith c x s := by
  rw [← evNext_eq_evAfter, evNext_setCtx]

/-- Moving on from a core with its context unchanged. -/
theorem evAfter_setCore {f : Core → Core} (h : (f (core s c)).ctx = (core s c).ctx) :
    evAfter c (setCore c f s) = evWith c (core s c).ctx (setCore c f s) := by
  refine setCore_congr ?_
  rw [core_setCore, h]

/-- A repeat count and a prefixed word that REP takes (R240). -/
theorem repForm_eq_none (hword : evNoRepeat (prefixed s (core s c).ctx) = false)
    (hpage : (core s c).ctx.pc.toNat / 4096 = ((core s c).ctx.pc.toNat + 4) / 4096)
    (hlo : 1 ≤ repCount w (core s c).ctx) (hhi : repCount w (core s c).ctx ≤ 65536) : repForm s c w = none := by
  rw [repForm, if_neg]
  rintro (h | h | h | h)
  · rw [hword] at h; exact absurd h (by decide)
  · exact h hpage
  · omega
  · omega

theorem rep_completes (hgo : EvGo s c w) (hop : evOp w = 0x25) (hword : evNoRepeat (prefixed s (core s c).ctx) = false)
    (hpage : (core s c).ctx.pc.toNat / 4096 = ((core s c).ctx.pc.toNat + 4) / 4096)
    (hlo : 1 ≤ repCount w (core s c).ctx) (hhi : repCount w (core s c).ctx ≤ 65536) :
    execEvRep c w s = .next (evAt c { (core s c).ctx with
      rc := BitVec.ofNat 32 (repCount w (core s c).ctx), repCount := repCount w (core s c).ctx, rep := true,
      pc := (core s c).ctx.pc + 4 } s) := by
  rw [execEvRep, if_pos (isOp_of_go hgo hop), evRun_stays hgo (repForm_eq_none hword hpage hlo hhi) rfl rfl]

/-- MFSR of a special register that the mode may read, which reads `v`. -/
theorem mfsr_reads {v : Word} (hgo : EvGo s c w) (hop : evOp w = 0x2B) (hfn : evFn w = 0)
    (hmay : (core s c).ctx.mode = .runtime ∨ evRa w < 9 ∨ 12 < evRa w)
    (hsr : srRead s ⟨c, w, (core s c).ctx, iteration (core s c).ctx⟩ = v) :
    exec (.evMfsr c w) s = .next (evWith c (setG (evRd w) v (core s c).ctx) s) := by
  have hpriv : decide ((core s c).ctx.mode = .task ∧ 9 ≤ evRa w ∧ evRa w ≤ 12) = false := by
    refine decide_eq_false ?_
    rintro ⟨htask, hlo, hhi⟩
    rcases hmay with hruntime | hbelow | habove
    · exact absurd (htask.symm.trans hruntime) (by decide)
    · omega
    · omega
  change execEvMfsr c w s = _
  rw [execEvMfsr, if_pos (isFn_of_go hgo hop hfn), evRun_goesOn hgo rfl hpriv rfl, evAfter_setCtx, hsr]

/-- MTSR of a special register that the mode may write. -/
theorem mtsr_writes {s' : State} (hgo : EvGo s c w) (hop : evOp w = 0x2B) (hfn : evFn w = 1)
    (hmay : evRd w = 1 ∨ evRd w = 8 ∨ ((core s c).ctx.mode = .runtime ∧ evRd w ≠ 0 ∧ evRd w ≠ 13))
    (hact : srWrite (gReg (core s c).ctx (evRa w)) ⟨c, w, (core s c).ctx, iteration (core s c).ctx⟩ s = (s', none)) :
    exec (.evMtsr c w) s = .next (evAfter c s') := by
  have hform : mtsrForm s c w = none := by
    rw [mtsrForm, if_neg]
    rintro ⟨-, hnumber⟩
    omega
  have hpriv : decide ((core s c).ctx.mode = .task ∧ evRd w ≠ 1 ∧ evRd w ≠ 8) = false := by
    refine decide_eq_false ?_
    rintro ⟨htask, h1, h8⟩
    obtain ⟨hruntime, -⟩ := (hmay.resolve_left h1).resolve_left h8
    exact absurd (htask.symm.trans hruntime) (by decide)
  change execEvMtsr c w s = _
  rw [execEvMtsr, if_pos (isFn_of_go hgo hop hfn),
    evRun_goesOn (act := fun e s => srWrite (gReg e.x (evRa e.w)) e s) hgo hform hpriv hact]

/-- MTSR of a register of the context. -/
theorem mtsr_writes_ctx {x : Ctx} (hgo : EvGo s c w) (hop : evOp w = 0x2B) (hfn : evFn w = 1)
    (hmay : evRd w = 1 ∨ evRd w = 8 ∨ ((core s c).ctx.mode = .runtime ∧ evRd w ≠ 0 ∧ evRd w ≠ 13))
    (hact : srWrite (gReg (core s c).ctx (evRa w)) ⟨c, w, (core s c).ctx, iteration (core s c).ctx⟩ s = (setCtx c x s, none)) :
    exec (.evMtsr c w) s = .next (evWith c x s) := by
  rw [mtsr_writes hgo hop hfn hmay hact, evAfter_setCtx]

theorem eretn_eq (x : Ctx) : eretn x = if (eret x).rep then
    (if 1 < x.rc.toNat then { eret x with rc := x.rc - 1 } else { eret x with pc := x.epc + 4, rc := 0, rep := false })
    else { eret x with pc := x.epc + 4 } := by
  unfold eretn
  cases hrep : (eret x).rep <;> simp only [hrep] <;> rfl

theorem xretRow_completes {fn : Nat} (f : Ctx → Ctx) (hgo : EvGo s c w) (hop : evOp w = 0x2C) (hfn : evFn w = fn)
    (hruntime : (core s c).ctx.mode = .runtime) : xretRow fn c w f s = .next (evAt c (f (core s c).ctx) s) := by
  have hpriv : decide ((core s c).ctx.mode = .task) = false := decide_eq_false (by rw [hruntime]; decide)
  rw [xretRow, evJump, if_pos (isFn_of_go hgo hop hfn), evRun_stays hgo rfl hpriv rfl]

end Sys2Proof.Machine
end

section

namespace Sys2Proof.Machine

open Claims

/-- Settles O13: jumps and calls go to their target, and a task's last RET is the task return. -/
theorem branchesCallsAndReturnsTransferControl : Obligations.BranchesCallsAndReturnsTransferControl := by
  intro c w s hgo
  dsimp only
  refine ⟨fun hop htarget => ?br, fun hop hroom htarget => ?call, fun hop hfn htarget => ?jr, fun hop hfn hroom htarget => ?callr,
    fun hop hfn hframes htarget => ?ret, fun hop hfn htask hlast t ht => ?taskReturn⟩
  case br => exact congrArg Host.Outcome.next (jumpRow_completes hgo (isOp_of_go hgo hop) rfl htarget)
  case call => exact congrArg Host.Outcome.next (callRow_completes hgo (isOp_of_go hgo hop) rfl hroom htarget)
  case jr => exact congrArg Host.Outcome.next (jumpRow_completes hgo (isFn_of_go hgo hop hfn) rfl htarget)
  case callr => exact congrArg Host.Outcome.next (callRow_completes hgo (isFn_of_go hgo hop hfn) rfl hroom htarget)
  case ret =>
    refine congrArg Host.Outcome.next ((evJump_completes hgo (isFn_of_go hgo hop hfn) (ret_goes hframes htarget)).trans ?_)
    exact evWent_of_setCtx (y := { (core s c).ctx with rs := (core s c).ctx.rs - 1 })
  case taskReturn =>
    refine congrArg Host.Outcome.next ((evJump_completes hgo (isFn_of_go hgo hop hfn) (ret_returns htask hlast)).trans ?_)
    rw [taskReturn, ht]

/-- Settles O14: each system row meets no decode trap of its own and leaves the context of its rule. -/
theorem systemInstructionsActOnTheirRegisters : Obligations.SystemInstructionsActOnTheirRegisters := by
  intro c w s hgo
  dsimp only
  refine ⟨fun hop hword hpage hlo hhi => ?rep, fun hop hfn hmay => ?mfsr, fun hop hfn => ?mtsr, fun hop hfn hruntime => ?eret,
    fun hop hfn hruntime => ?eretn, fun hop hfn => ?nop, fun hop hfn => ?mfence⟩
  case rep => exact rep_completes hgo hop hword hpage hlo hhi
  case mfsr =>
    refine ⟨fun hn => ?getPc, fun hn => ?getDs, fun hn => ?getDsLo, fun hn => ?getDsHi, fun hn => ?getRs, fun hn => ?getRsLo,
      fun hn => ?getRsHi, fun hn => ?getRc, fun hn => ?getStat, fun hn => ?getCause, fun hn => ?getCauseWord, fun hn => ?getEpc,
      fun hn => ?getVbase, fun hn => ?getCoreId⟩
    all_goals exact mfsr_reads hgo hop hfn hmay (by simp only [srRead, hn])
  case mtsr =>
    refine ⟨fun hn hds => ?setDs, fun hn => ?setStat, fun hruntime => ⟨fun hn => ?setDsLo, fun hn => ?setDsHi, fun hn => ?setRs,
      fun hn => ?setRsLo, fun hn => ?setRsHi, fun hn => ?setRc, fun hn => ?setCause, fun hn => ?setCauseWord, fun hn => ?setEpc,
      fun hn => ?setVbase⟩⟩
    case setDs => exact mtsr_writes_ctx hgo hop hfn (.inl hn) (by simp only [srWrite, hn]; exact moveDs_of_permitted hds)
    case setStat => exact mtsr_writes_ctx hgo hop hfn (.inr (.inl hn)) (by simp only [srWrite, hn])
    case setVbase =>
      rw [mtsr_writes hgo hop hfn (.inr (.inr ⟨hruntime, by omega, by omega⟩))
        (s' := setCore c (fun k => { k with vbase := gReg (core s c).ctx (evRa w) &&& 0xFFFFF800 }) s) (by simp only [srWrite, hn]),
        evAfter_setCore rfl]
    all_goals exact mtsr_writes_ctx hgo hop hfn (.inr (.inr ⟨hruntime, by omega, by omega⟩)) (by simp only [srWrite, hn])
  case eret => exact xretRow_completes eret hgo hop hfn hruntime
  case eretn =>
    have hback := xretRow_completes eretn hgo hop hfn hruntime
    rw [eretn_eq] at hback
    exact hback
  case nop => exact congrArg Host.Outcome.next (evRow_completes hgo (isFn_of_go hgo hop hfn) rfl)
  case mfence => exact congrArg Host.Outcome.next (evRow_completes hgo (isFn_of_go hgo hop hfn) rfl)

end Sys2Proof.Machine
end

section
/-! PROOFS. The entry of a trap, the runtime's services and the entry of an interrupt (R235 to R239). -/

namespace Sys2Proof.Machine

open Claims

variable {c : Fin 8} {w : Word} {s : State}

/-! ### A trap's entry and its frame (R235, R236) -/

/-- A trace record touches no core, no memory, no task and no image. -/
theorem traceNote_frame (c kind arg addr : Nat) (s : State) :
    (traceNote c kind arg addr s).cores = s.cores ∧ (traceNote c kind arg addr s).mem = s.mem ∧
      (traceNote c kind arg addr s).seq = s.seq ∧ (traceNote c kind arg addr s).img = s.img := by
  unfold traceNote
  dsimp only
  split
  · split <;> exact ⟨rfl, rfl, rfl, rfl⟩
  · exact ⟨rfl, rfl, rfl, rfl⟩

theorem noteImageTrap_frame (code : Nat) (s : State) :
    (noteImageTrap code s).cores = s.cores ∧ (noteImageTrap code s).mem = s.mem ∧
      (noteImageTrap code s).seq = s.seq ∧ (noteImageTrap code s).img = s.img := by
  unfold noteImageTrap
  split <;> exact ⟨rfl, rfl, rfl, rfl⟩

theorem core_of_cores {s t : State} (h : t.cores = s.cores) (c : Nat) : core t c = core s c := by rw [core, core, h]

/-- Taking a trap changes the context of its core, and what a trace record or CORE_RANGE shows. -/
theorem takeTrap_frame (c code : Nat) (word : Word) (s : State) :
    (takeTrap c code word s).cores = (setCtx c (trapped code word (core s c).vbase (core s c).ctx) s).cores ∧
      (takeTrap c code word s).mem = s.mem ∧ (takeTrap c code word s).seq = s.seq ∧ (takeTrap c code word s).img = s.img := by
  have hnote := traceNote_frame c 3 code (core s c).ctx.pc.toNat (setCtx c (trapped code word (core s c).vbase (core s c).ctx) s)
  have himage := noteImageTrap_frame code
    (traceNote c 3 code (core s c).ctx.pc.toNat (setCtx c (trapped code word (core s c).vbase (core s c).ctx) s))
  obtain ⟨hcores, hmem, hseq, himg⟩ := hnote
  obtain ⟨hcores', hmem', hseq', himg'⟩ := himage
  exact ⟨hcores'.trans hcores, hmem'.trans hmem, hseq'.trans hseq, himg'.trans himg⟩

theorem core_takeTrap (c code : Nat) (word : Word) (s : State) : core (takeTrap c code word s) c =
    { core s c with ctx := trapped code word (core s c).vbase (core s c).ctx } := by
  obtain ⟨hcores, -⟩ := takeTrap_frame c code word s
  rw [core_of_cores hcores, setCtx_eq, core_setCore]

theorem core_setCore_of_ne {c d : Nat} (h : d ≠ c) (f : Core → Core) {s : State} (hcores : SMap.wf s.cores = true) :
    core (setCore c f s) d = core s d := by
  simp only [core, setCore, upd, lookD, look_put_of_ne h _ hcores]

theorem trapped_cause_toNat {code : Nat} (hcode : code < 18) (word vbase : Word) (x : Ctx) :
    (trapped code word vbase x).cause.toNat =
      (if x.mode = .runtime then 0x80000000 else 0) + (if x.rep then 0x40000000 else 0) + code := by
  have hlt : (if x.mode = .runtime then 2 ^ 31 else 0) + (if x.rep then 2 ^ 30 else 0) + code < 2 ^ 32 := by
    split_ifs <;> omega
  exact (BitVec.toNat_ofNat ..).trans (Nat.mod_eq_of_lt hlt)

theorem trapped_pc_toNat {code : Nat} (hcode : code < 18) (word : Word) {vbase : Word} (hvbase : vbase.toNat < 2 ^ 32 - 2048) (x : Ctx) :
    (trapped code word vbase x).pc.toNat = vbase.toNat + 64 * code := by
  exact (BitVec.toNat_ofNat ..).trans (Nat.mod_eq_of_lt (by omega))

/-! ### Services to task code (R237) -/

/-- A SYS of task code that names the row's own service is served from the state behind the trap. -/
theorem sysRow_serves {n : Nat} {t : Fin 32} (service : Nat → Ctx → State → Option State) (hgo : EvGo s c w) (hop : evOp w = 0x2A)
    (hcode : sysCode w = n) (htask : (core s c).ctx.mode = .task) (ht : (core s c).task = some t) :
    sysRow n c w service s = .next ((service t (core (takeTrap c 0x10 w s) c).ctx (takeTrap c 0x10 w s)).getD
      (unresolved c 0x10 (takeTrap c 0x10 w s))) := by
  have hmine : isSys n c w s = true := by simp [isSys, isOp_of_go hgo hop, hcode]
  obtain ⟨-, hstep, hdecode, hguard, -⟩ := hgo
  have hmode : (core s c).ctx.mode ≠ .runtime := by rw [htask]; decide
  simp only [sysRow, hmine, afterStep_of_not_stepping hstep, hdecode, hguard, ht, hcode, hmode, if_false, Bool.not_true,
    Bool.false_eq_true, ne_eq, not_true_eq_false]

section
variable (c : Fin 8) (w : Word) (s : State)

theorem exec_sysLaneWait : exec (.sysLaneWait c w) s = sysRow 0x0001 c w (fun t x s =>
    if (run s t).lanesLeft = 0 then some (served c.val s)
    else some (setCore c.val (fun k => { k with laneWait := true, ctx := { x with pc := x.epc, masked := false } }) s)) s := rfl
theorem exec_sysTimerCounterRead : exec (.sysTimerCounterRead c w) s = sysRow 0x0010 c w (fun t x s =>
    (entryAsked t x s).map fun b => setCtx c.val (eretn ((List.range 4).foldl
      (fun y k => setG (4 + k) (BitVec.ofNat 32 (leAt b (4 * k) 4)) y) x)) s) s := rfl
theorem exec_rollCallCheckIn : exec (.rollCallCheckIn c w) s =
    sysRow 0x0020 c w (fun t _ s => some (served c.val (checkIn t s))) s := rfl
theorem exec_sysApplicationEvent : exec (.sysApplicationEvent c w) s =
    sysRow 0x0030 c w (fun _ x s => some (served c.val (appEvent x s))) s := rfl
theorem exec_sysApplicationMetric : exec (.sysApplicationMetric c w) s =
    sysRow 0x0031 c w (fun _ x s => some (served c.val (appMetric x s))) s := rfl

end

theorem served_eq (c : Nat) (s : State) : served c s = setCore c (fun k => { k with ctx := eretn k.ctx }) s := setCore_congr rfl

/-! ### The entry of an interrupt (R238) -/

/-- The lowest raised line of a core's four. -/
theorem lowestLine_eq_some {k : Core} {line : Nat} (hbelow : ∀ j < line, k.lines.getLsbD j = false)
    (hraised : k.lines.getLsbD line = true) : lowestLine k = some line := by
  rw [lowestLine, List.find?_range_eq_some]
  refine ⟨hraised, List.mem_range.mpr ?_, fun j hj => by simp [hbelow j hj]⟩
  by_contra hout
  rw [BitVec.getLsbD_of_ge _ _ (by omega)] at hraised
  exact absurd hraised (by decide)

/-- An interrupt that the core takes, by its line. -/
theorem interruptTaken_eq {line : Nat} (hpower : power s = 0) (hmasked : (core s c).ctx.masked = false)
    (hhalted : (core s c).halted = false) (hstopped : (core s c).stopped = false)
    (hbelow : ∀ j < line, (core s c).lines.getLsbD j = false) (hraised : (core s c).lines.getLsbD line = true) :
    exec (.interruptTaken c) s = .next (match some line with
      | some 0 => abortCore c (takeLine c 0 s)
      | some 1 => saveCore c (takeLine c 1 s)
      | some 2 => laneDone c (takeLine c 2 s)
      | some l => setCtx c (eret (core (takeLine c l s) c).ctx) (takeLine c l s)
      | none => s) := by
  have hopen : ¬(power s ≠ 0 ∨ (core s c).ctx.masked = true ∨ (core s c).halted = true ∨ (core s c).stopped = true) := by
    simp [hpower, hmasked, hhalted, hstopped]
  change execInterruptTaken c s = _
  simp only [execInterruptTaken, if_neg hopen, lowestLine_eq_some hbelow hraised] <;> rfl

end Sys2Proof.Machine
end

section

namespace Sys2Proof.Machine

open Claims

/-- Settles O16: the entry changes one context, and BREAK's effect is its own trap. -/
theorem trapsSaveTheContextAndVector : Obligations.TrapsSaveTheContextAndVector := by
  refine ⟨fun c code word s hcode hvbase hcores => ?entry, fun c w s hgo hop => ?breakTrap⟩
  case entry =>
    obtain ⟨hother, hmem, hseq, himg⟩ := takeTrap_frame c code word s
    dsimp only
    rw [core_takeTrap]
    exact ⟨rfl, trapped_cause_toNat hcode .., rfl, rfl, rfl, rfl, trapped_pc_toNat hcode _ hvbase _, rfl, rfl, rfl, rfl, rfl,
      rfl, rfl, hmem, rfl, hseq, himg, fun d hd => (core_of_cores hother d).trans (core_setCore_of_ne hd _ hcores)⟩
  case breakTrap => exact congrArg Host.Outcome.next (evJump_traps hgo (isOp_of_go hgo hop) rfl)

/-- Settles O17: each service is that of its own row, served behind the trap of the SYS. -/
theorem runtimeServicesAnswerTaskCode : Obligations.RuntimeServicesAnswerTaskCode := by
  intro c w s t hgo hop htask ht
  dsimp only
  refine ⟨fun hcode => ?laneWait, fun hcode b hentry => ?read, fun hcode => ?checkIn, fun hcode => ?event, fun hcode => ?metric⟩
  case laneWait =>
    rw [exec_sysLaneWait, sysRow_serves _ hgo hop hcode htask ht]
    split
    · rw [Option.getD_some, served_eq]
    · rw [Option.getD_some]
  case read =>
    rw [exec_sysTimerCounterRead, sysRow_serves _ hgo hop hcode htask ht, hentry, Option.map_some, Option.getD_some, setCtx_eq]
  case checkIn =>
    rw [exec_rollCallCheckIn, sysRow_serves _ hgo hop hcode htask ht, Option.getD_some, served_eq]
    rfl
  case event =>
    rw [exec_sysApplicationEvent, sysRow_serves _ hgo hop hcode htask ht, Option.getD_some, served_eq]
    rfl
  case metric =>
    rw [exec_sysApplicationMetric, sysRow_serves _ hgo hop hcode htask ht, Option.getD_some, served_eq]
    rfl

/-- Settles O18: the lowest raised line is taken by its entry, and each line has its own service. -/
theorem interruptsEnterByTheirLine : Obligations.InterruptsEnterByTheirLine := by
  intro c s k hpower hmasked hhalted hstopped line hbelow hraised
  have htaken := interruptTaken_eq hpower hmasked hhalted hstopped hbelow hraised
  refine ⟨?abort, ?preempt, ?laneDone, ?peer⟩
  case abort => rintro rfl; exact htaken
  case preempt => rintro rfl; exact htaken
  case laneDone => rintro rfl; exact htaken
  case peer =>
    rintro rfl
    exact htaken.trans (congrArg Host.Outcome.next (setCore_congr rfl))

end Sys2Proof.Machine
end

section
/-! PROOFS. Register fields by their access type (R11), the common checks of a command (R346), and idling. -/

namespace Sys2Proof.Machine

open Reg Claims

/-! ### Fields of a canonical bank (R11) -/

section
variable {f g : Field} {s : State} {v : Nat}

/-- A field that hardware sets reads back, cut to its width. -/
theorem fget_fput (hregs : SMap.wf s.regs = true) : fget (fput f v s) f = v % 2 ^ f.width := by
  unfold fget fput bput
  dsimp only
  split
  case isTrue hreset => rw [look_del_self _ hregs, Option.getD_none, hreset]
  case isFalse => rw [look_put_self, Option.getD_some]

theorem fget_fput_of_ne (hregs : SMap.wf s.regs = true) (hplace : keyOf g ≠ keyOf f) : fget (fput f v s) g = fget s g := by
  unfold fget fput
  dsimp only
  rw [look_bput_ne hregs hplace]

theorem writeField_rw (hrow : ownRow f = false) (hacc : f.acc = .rw) (w : Nat) : writeField f w s = fput f w s := by
  simp only [writeField, hrow, hacc, Bool.false_eq_true, if_false]

theorem writeField_w1c (hrow : ownRow f = false) (hacc : f.acc = .w1c) (w : Nat) :
    writeField f w s = fput f (fget s f - (fget s f &&& w)) s := by
  simp only [writeField, hrow, hacc, Bool.false_eq_true, if_false]

theorem writeField_w1s (hrow : ownRow f = false) (hacc : f.acc = .w1s) (w : Nat) :
    writeField f w s = fput f (fget s f ||| w) s := by
  simp only [writeField, hrow, hacc, Bool.false_eq_true, if_false]

theorem writeField_readOnly (hrow : ownRow f = false) (hacc : f.acc = .ro ∨ f.acc = .rc ∨ f.acc = .wo) (w : Nat) :
    writeField f w s = s := by
  rcases hacc with hacc | hacc | hacc <;> simp only [writeField, hrow, hacc, Bool.false_eq_true, if_false]

end

/-! ### The first refusal of a command (R346) -/

/-- The reasons of a malformed descriptor are those of R321 from DESC_RING on. -/
theorem malformedReason_range {k : Card} {d : Desc} {r : Nat} (h : malformedReason k d = some r) : 0x0103 ≤ r ∧ r ≤ 0x0107 := by
  unfold malformedReason at h
  split_ifs at h
  all_goals simp only [Option.some.injEq] at h
  all_goals omega

/-- A malformed descriptor has the first rank of R346, so no other check overrules it. -/
theorem firstRefusal_malformed {r : Nat} (hr : 0x0103 ≤ r ∧ r ≤ 0x0107) (own : Option (Nat × Nat)) :
    firstRefusal (0x02, r) own = (0x02, r) := by
  have hrank : refusalRank (0x02, r) = 0 := if_pos ⟨by omega, by omega⟩
  unfold firstRefusal
  cases own with
  | none => rfl
  | some q => simp [hrank]

theorem refusalOf_malformed {k : Card} {d : Desc} {r : Nat} (h : malformedReason k d = some r)
    (own : State → Option (Nat × Nat)) (s : State) : refusalOf k d own s = some (0x02, r) := by
  have hgate : gate k d s = some (0x02, r) := by simp only [gate, h]
  simp only [refusalOf, hgate, firstRefusal_malformed (malformedReason_range h)]

section
variable {k : Card} {d : Desc} {own : State → Option (Nat × Nat)} {effect : State → State} {s : State}

theorem command_of_unrefused (h : Unrefused k d own s) : command k d own effect s = effect (openSlot d s) := by
  obtain ⟨hown, hbuffer⟩ := h
  simp only [command, hown, hbuffer, Bool.false_eq_true, if_false]

theorem command_of_refused {st rs : Nat} (h : refusalOf k d own (openSlot d s) = some (st, rs)) :
    command k d own effect s = refuse k.op d st rs (openSlot d s) := by
  simp only [command, h]

/-- Opening a slot writes no journal entry and lets no FENCE wait. -/
theorem openSlot_cmd (d : Desc) (s : State) : (openSlot d s).cmd = s.cmd := by
  unfold openSlot
  split <;> rfl

theorem openSlot_fences (d : Desc) (s : State) : (openSlot d s).hif.fences = s.hif.fences := by
  unfold openSlot
  split <;> rfl

/-- Where no FENCE waits, the newest entry of the journal is the refusal's. -/
theorem refuse_newest {op st rs : Nat} (h : s.hif.fences = []) : ∃ e, (refuse op d st rs s).cmd.jrnl.head? = some e ∧
    e = { jcommand s 0x0002 op d with status := st, reason := rs } := by
  refine ⟨_, ?_, rfl⟩
  rw [refuse_jrnl op d st rs s h]
  rfl

end

/-! ### Idling (log entries 2 and 98) -/

theorem idle_of_nothing_waiting {s : State} (hservice : s.cmd.svcWait = []) (hsnap : standby s = true ∨ s.red.queued = []) :
    idle s = .next (carryPower s) := by
  have hturn : svcTurn s = .next s := by rw [svcTurn, hservice]; rfl
  have hdrain : (if standby s then s else drain s) = s := by
    rcases hsnap with hstandby | hqueue
    · rw [if_pos hstandby]
    · rw [drain, hqueue]
      exact ite_self s
  simp only [idle, hturn, hdrain]

theorem carryPower_of_no_job {s : State} (h : s.sup.powerJob = none) : carryPower s = s := by
  simp only [carryPower, h]

end Sys2Proof.Machine
end

section

namespace Sys2Proof.Machine

open Reg Claims

/-- Settles O24: a write of the bank reads back at its own key and at no other, and each access type is a write of it or none. -/
theorem fieldsReadBackByTheirAccessType : Obligations.FieldsReadBackByTheirAccessType := by
  intro f s hregs
  refine ⟨fun v => fget_fput hregs, fun g v hplace => fget_fput_of_ne hregs hplace, fun hrow w => ⟨?rw, ?w1c, ?w1s, ?readOnly⟩, ?rc, ?notRc⟩
  case rw => exact fun hacc => by rw [writeField_rw hrow hacc, fget_fput hregs]
  case w1c => exact fun hacc => by rw [writeField_w1c hrow hacc, fget_fput hregs]
  case w1s => exact fun hacc => by rw [writeField_w1s hrow hacc, fget_fput hregs]
  case readOnly => exact fun hacc => writeField_readOnly hrow hacc w
  case rc => exact fun hacc => by rw [clearRead, if_pos hacc, fget_fput hregs]
  case notRc => exact fun hacc => if_neg hacc

/-- Settles O33: the branches of `command`, the journal after `refuse`, and what completions and the journal leave alone. -/
theorem refusedCommandsAreJournalledAndChangeNothingElse : Obligations.RefusedCommandsAreJournalledAndChangeNothingElse := by
  intro k d own effect s
  refine ⟨fun hclear => command_of_unrefused hclear, fun r hmalformed => ?malformed, fun st rs hrefused => ⟨?refused, ?journal, ?frame⟩⟩
  case malformed => exact command_of_refused (refusalOf_malformed hmalformed own _)
  case refused => exact command_of_refused hrefused
  case journal =>
    intro hfences
    obtain ⟨e, hnewest, rfl⟩ := refuse_newest (op := k.op) (d := d) (st := st) (rs := rs) (s := openSlot d s)
      ((openSlot_fences d s).trans hfences)
    refine ⟨_, hnewest, rfl, rfl, rfl, rfl, rfl, ?_⟩
    change nextJseq (openSlot d s) = nextJseq s
    rw [nextJseq, nextJseq, openSlot_cmd]
  case frame =>
    obtain ⟨⟨hnow, himg, hseq, hprog, htrl, hnet, hred, hcores, hlanes, hfio, hlpt⟩,
      hsec, -, hnv, -, hrtc, hboot, hcode, hdeferred, htxns, -⟩ := (openSlot_outside d s).trans (refuse_outside k.op d st rs _)
    exact ⟨hcores, hlanes, himg, hprog, hseq, hnet, hred, hfio, hlpt, hsec, hnv, hboot, hrtc, htrl, hcode, hdeferred, htxns, hnow⟩

/-- Settles O19: `step` looks at the queue, and `idle` at what waits beside it. -/
theorem stepRunsTheFrontCommand : Obligations.StepRunsTheFrontCommand := by
  refine ⟨fun c rest s hqueue => ?front, fun s hqueue hservice hsnap => ?idle⟩
  case front => simp only [step, hqueue]
  case idle =>
    have hstep : step s = .next (carryPower s) := by
      simp only [step, hqueue, idle_of_nothing_waiting hservice hsnap]
    exact ⟨hstep, fun hjob => by rw [hstep, carryPower_of_no_job hjob]⟩

/-- Settles O21, by evaluating the few cells that the reset state lists. -/
theorem resetIsWellKept : Obligations.ResetIsWellKept :=
  ⟨⟨by decide, by decide, by decide, by decide, by decide, by decide⟩, by change _ ≤ _; decide⟩

end Sys2Proof.Machine
end

section
/-! PROOFS. Cold resets, the loss of the reference clock and of VIN: what they clear and what they keep (R12, R425, R427). -/

namespace Sys2Proof.Machine

open Reg Claims

/-! ### What lasts through every reset -/

/-- Fuses, the bytes of the NV store and the queue are as before. -/
abbrev Lasts (s t : State) : Prop :=
  (t.sec.life = s.sec.life ∧ t.sec.ownerKey = s.sec.ownerKey ∧ t.sec.revoked = s.sec.revoked ∧ t.sec.minSvn = s.sec.minSvn ∧
    t.pending = s.pending) ∧ t.nv.mem = s.nv.mem

theorem Lasts.refl (s : State) : Lasts s s := ⟨⟨rfl, rfl, rfl, rfl, rfl⟩, rfl⟩

theorem Lasts.trans {s t u : State} (h : Lasts s t) (k : Lasts t u) : Lasts s u := by
  obtain ⟨⟨hlife, howner, hrevoked, hsvn, hqueue⟩, hnv⟩ := h
  obtain ⟨⟨klife, kowner, krevoked, ksvn, kqueue⟩, knv⟩ := k
  exact ⟨⟨klife.trans hlife, kowner.trans howner, krevoked.trans hrevoked, ksvn.trans hsvn, kqueue.trans hqueue⟩, knv.trans hnv⟩

/-- Banks 1–15 of a canonical memory read as before, and the memory stays canonical. -/
abbrev KeepsBanks (s t : State) : Prop := Mem.wf s.mem.data = true → Mem.wf t.mem.data = true ∧
  ∀ a, 0x30010000 ≤ a → a < 0x30100000 → rd t.mem.data a = rd s.mem.data a

theorem KeepsBanks.trans {s t u : State} (h : KeepsBanks s t) (k : KeepsBanks t u) : KeepsBanks s u := fun hwf =>
  have ht := h hwf
  have hu := k ht.1
  ⟨hu.1, fun a hlo hhi => (hu.2 a hlo hhi).trans (ht.2 a hlo hhi)⟩

theorem keepsBanks_of_mem {s t : State} (h : t.mem = s.mem) : KeepsBanks s t := fun hwf => ⟨h ▸ hwf, fun _ _ _ => by rw [h]⟩

/-! ### The explicit safe command touches the field side only -/

/-- Two states that agree in memories, security, NV store and queue. -/
abbrev FieldSide (s t : State) : Prop := t.mem = s.mem ∧ t.sec = s.sec ∧ t.nv = s.nv ∧ t.pending = s.pending

theorem FieldSide.refl (s : State) : FieldSide s s := ⟨rfl, rfl, rfl, rfl⟩

theorem FieldSide.trans {s t u : State} (h : FieldSide s t) (k : FieldSide t u) : FieldSide s u :=
  ⟨k.1.trans h.1, k.2.1.trans h.2.1, k.2.2.1.trans h.2.2.1, k.2.2.2.trans h.2.2.2⟩

theorem forEach_fieldSide {α : Type} (l : List α) {f : α → State → State} (hf : ∀ x s, FieldSide s (f x s)) (s : State) :
    FieldSide s (forEach l s f) := by
  induction l generalizing s with
  | nil => exact FieldSide.refl s
  | cons x l ih => exact (hf x s).trans (ih (f x s))

theorem setLevel_fieldSide (n : Nat) (v : Bool) (s : State) : FieldSide s (setLevel n v s) := by
  unfold setLevel
  dsimp only
  split <;> split <;> exact ⟨rfl, rfl, rfl, rfl⟩

theorem chanSafe_fieldSide (n : Nat) (s : State) : FieldSide s (chanSafe n s) := by
  unfold chanSafe
  split
  · exact (setLevel_fieldSide n _ s).trans ⟨rfl, rfl, rfl, rfl⟩
  · exact FieldSide.refl s

theorem edgeSafe_fieldSide (n : Nat) (s : State) : FieldSide s (edgeSafe n s) := by
  unfold edgeSafe
  split <;> exact ⟨rfl, rfl, rfl, rfl⟩

theorem islandSafe_fieldSide (s : State) : FieldSide s (islandSafe s) := by
  unfold islandSafe
  have hsent : FieldSide s (emit .fieldSafe { s with fio.explicitSafe := true, fio.outFrame := none, fio.outNext := false }) :=
    ⟨rfl, rfl, rfl, rfl⟩
  exact hsent.trans (forEach_fieldSide _ chanSafe_fieldSide _)

theorem explicitSafe_fieldSide (s : State) : FieldSide s (explicitSafe s) := by
  unfold explicitSafe
  have hisland : FieldSide s (islandSafe { s with trl.pulses := [], trl.edges := [] }) :=
    FieldSide.trans (t := { s with trl.pulses := [], trl.edges := [] }) ⟨rfl, rfl, rfl, rfl⟩ (islandSafe_fieldSide _)
  exact hisland.trans (forEach_fieldSide _ edgeSafe_fieldSide _)

theorem islandDown_fieldSide (s : State) : FieldSide s (islandDown s) := by
  unfold islandDown
  have hchan : ∀ n s, FieldSide s (setChan n (fun c => { c with opened := false, active := 0 }) (setLevel n false s)) := fun n s =>
    (setLevel_fieldSide n false s).trans ⟨rfl, rfl, rfl, rfl⟩
  have hsafe := explicitSafe_fieldSide s
  dsimp only
  generalize explicitSafe s = u at hsafe ⊢
  have hdown : FieldSide s { u with fio.powerUp := true, fio.silent := false, fio.timeouts := [], fio.safeLatched := 0, fio.word := 0, fio.inFrame := none } :=
    hsafe.trans ⟨rfl, rfl, rfl, rfl⟩
  exact (hdown.trans (forEach_fieldSide (List.range 32) hchan _)).trans ⟨rfl, rfl, rfl, rfl⟩

theorem safeFirst_fieldSide (kind : Nat) (s : State) : FieldSide s (safeFirst kind s) := by
  unfold safeFirst
  split
  · exact FieldSide.refl s
  · exact islandDown_fieldSide s

theorem FieldSide.lasts {s t : State} (h : FieldSide s t) : Lasts s t := by
  obtain ⟨-, hsec, hnv, hqueue⟩ := h
  rw [Lasts, hsec, hnv, hqueue]
  exact Lasts.refl s

/-! ### What a reset wipes -/

theorem wiped_lasts (kind : Nat) (s : State) : Lasts s (wiped kind s) := Lasts.refl s

theorem wiped_banks {kind : Nat} (hkind : kind ≠ 1) (s : State) : KeepsBanks s (wiped kind s) := by
  have hdata : (wiped kind s).mem.data = s.mem.data.filter (fun c => 0x30000000 ≤ c.1 ∧ c.1 < 0x30100000) := if_neg hkind
  intro hwf
  have hkeys : SMap.wf s.mem.data = true := ((Bool.and_eq_true _ _).mp hwf).1
  rw [hdata]
  refine ⟨mem_filter_wf _ _ hwf, fun a hlo hhi => ?_⟩
  rw [rd, rd, look_filter_in (fun v => by simpa using ⟨by omega, hhi⟩) hkeys]

/-- A register field that no reset keeps is at its reset value in a wiped state. -/
theorem look_wiped {kind k : Nat} (s : State) (h : keptField kind k = false) : look (wiped kind s).regs k = none :=
  look_filter_out (fun _ => h) _

theorem releasePins_frame (s n : State) : (releasePins s n).regs = n.regs ∧ (releasePins s n).mem = n.mem ∧
    (releasePins s n).sec = n.sec ∧ (releasePins s n).nv = n.nv ∧ (releasePins s n).pending = n.pending := by
  unfold releasePins
  dsimp only
  split <;> split <;> exact ⟨rfl, rfl, rfl, rfl, rfl⟩

/-! ### The first entries after a reset -/

/-- The keys below those of the watchdog and the NV controller. -/
abbrev Below (k : Nat) : Prop := k < 8 * 0x7000

theorem noteConflict_frame (id : RecId) (s : State) : KeepsRegs Below s (noteConflict id s) ∧
    (noteConflict id s).mem = s.mem ∧ (noteConflict id s).sec = s.sec ∧ (noteConflict id s).nv = s.nv ∧
    (noteConflict id s).pending = s.pending := by
  unfold noteConflict
  split
  · refine ⟨?_, rfl, rfl, rfl, rfl⟩
    exact (keepsRegs_fput (by decide) _ _).trans ((keepsRegs_fput (by decide) _ _).trans (keepsRegs_fput (by decide) _ _))
  · exact ⟨KeepsRegs.refl _ _, rfl, rfl, rfl, rfl⟩

/-- The record's start count and the journal's START entry, on a state that a reset has wiped. -/
def started (kind n : Nat) (s : State) : State :=
  { s with cmd.startCount := n, cmd.nextJ := 1 }
    |> fput SYS_RESET_CAUSE_KIND kind
    |> noteConflict .jrnlStart
    |> jnote 0x0040 (if isWatchdog kind then 1 else 0) 0
    |> writeRecord .jrnlStart (le 4 n) none

theorem coldReset_eq (kind : Nat) (s : State) :
    coldReset kind s = started kind (nextStart kind s) (releasePins s (wiped kind (safeFirst kind s))) := rfl

theorem started_lasts (kind n : Nat) (s : State) : Lasts s (started kind n s) := by
  obtain ⟨-, -, hsec, hnv, hqueue⟩ := noteConflict_frame .jrnlStart (fput SYS_RESET_CAUSE_KIND kind { s with cmd.startCount := n, cmd.nextJ := 1 })
  have hlasts : Lasts s (noteConflict .jrnlStart (fput SYS_RESET_CAUSE_KIND kind { s with cmd.startCount := n, cmd.nextJ := 1 })) := by
    rw [Lasts, hsec, hnv, hqueue]
    exact Lasts.refl s
  exact hlasts.trans (Lasts.refl _)

theorem started_banks (kind n : Nat) (s : State) : KeepsBanks s (started kind n s) := by
  have hnote := noteConflict_frame .jrnlStart (fput SYS_RESET_CAUSE_KIND kind { s with cmd.startCount := n, cmd.nextJ := 1 })
  have hbefore := keepsBanks_of_mem (s := s) hnote.2.1
  refine hbefore.trans fun hwf => ⟨?_, fun a hlo _ => jadd_banks _ _ hwf a hlo⟩
  have htidy := jnote_tidy 0x0040 (if isWatchdog kind then 1 else 0) 0
    (noteConflict .jrnlStart (fput SYS_RESET_CAUSE_KIND kind { s with cmd.startCount := n, cmd.nextJ := 1 }))
  exact htidy.2.2.2.1 hwf

/-- SYS_RESET_CAUSE.KIND is written, and no other register below the watchdog's. -/
theorem started_regs {kind n : Nat} (s : State) : ∃ t, KeepsRegs Below t (started kind n s) ∧ t.regs = (fput SYS_RESET_CAUSE_KIND kind s).regs := by
  obtain ⟨hregs, -⟩ := noteConflict_frame .jrnlStart (fput SYS_RESET_CAUSE_KIND kind { s with cmd.startCount := n, cmd.nextJ := 1 })
  exact ⟨_, hregs.trans (keepsRegs_eq rfl), rfl⟩

/-! ### The statements' clauses -/

/-- Every field below the watchdog's block but the kind of the reset, VARIANT and SIDE is at its reset value. -/
abbrev Cleared (t : State) : Prop := ∀ f : Field, f.off < 0x6FF8 → f.lsb < 64 → keyOf f ≠ 8 * 0x000C →
  keyOf f ≠ 0 → keyOf f ≠ 8 * 0x4000 + 3 → fget t f = f.reset

theorem keptField_below {kind k : Nat} (hk : k < 8 * 0x7000) (h0 : k ≠ 0) (hside : k ≠ 8 * 0x4000 + 3) :
    keptField kind k = false := by
  unfold keptField
  refine decide_eq_false ?_
  rintro (h | h | h | ⟨-, h⟩ | ⟨-, h⟩) <;> omega

/-- Cause and cleared registers, for a state whose registers are those of a wiped one with the kind written. -/
theorem cleared_of_kind {kind : Nat} {s w t u : State} (hkind : kind < 16) (hw : w.regs = (wiped kind s).regs)
    (hwf : SMap.wf w.regs = true) (hu : u.regs = (fput SYS_RESET_CAUSE_KIND kind w).regs) (ht : KeepsRegs Below u t) :
    fget t SYS_RESET_CAUSE_KIND = kind ∧ Cleared t := by
  have huwf : SMap.wf u.regs = true := by rw [hu]; exact bput_canonical _ _ _ hwf
  obtain ⟨-, hlook⟩ := ht huwf
  have hget : ∀ f : Field, Below (keyOf f) → fget t f = fget (fput SYS_RESET_CAUSE_KIND kind w) f := fun f hf => by
    rw [fget, fget, hlook _ hf, hu]
  refine ⟨?_, fun f hoff hlsb hcause h0 hside => ?_⟩
  · rw [hget _ (by decide), fget_fput_self hwf hkind]
  · have hbelow : Below (keyOf f) := by show 8 * f.off + f.lsb < _; omega
    rw [hget _ hbelow, fget_fput_of_ne hwf hcause, fget, hw, look_wiped _ (keptField_below hbelow h0 hside), Option.getD_none]

theorem coldReset_clears {kind : Nat} (hkind : kind < 16) {s : State} (hregs : SMap.wf s.regs = true) :
    fget (coldReset kind s) SYS_RESET_CAUSE_KIND = kind ∧ Cleared (coldReset kind s) := by
  obtain ⟨hpins, -⟩ := releasePins_frame s (wiped kind (safeFirst kind s))
  have hwf : SMap.wf (releasePins s (wiped kind (safeFirst kind s))).regs = true := by
    rw [hpins]
    exact filter_wf _ _ ((safeFirst_tidy kind s).2.2.1 hregs)
  obtain ⟨u, ht, hu⟩ := started_regs (kind := kind) (n := nextStart kind s) (releasePins s (wiped kind (safeFirst kind s)))
  exact cleared_of_kind hkind hpins hwf hu ht

theorem releasePins_lasts (s n : State) : Lasts n (releasePins s n) := by
  obtain ⟨-, -, hsec, hnv, hqueue⟩ := releasePins_frame s n
  rw [Lasts, hsec, hnv, hqueue]
  exact Lasts.refl n

theorem coldReset_lasts (kind : Nat) (s : State) : Lasts s (coldReset kind s) :=
  (safeFirst_fieldSide kind s).lasts.trans
    ((wiped_lasts kind _).trans ((releasePins_lasts s _).trans (started_lasts kind (nextStart kind s) _)))

theorem coldReset_banks {kind : Nat} (hkind : kind ≠ 1) (s : State) : KeepsBanks s (coldReset kind s) :=
  (keepsBanks_of_mem (safeFirst_fieldSide kind s).1).trans ((wiped_banks hkind _).trans
    ((keepsBanks_of_mem (releasePins_frame s _).2.1).trans (started_banks kind (nextStart kind s) _)))

/-! ### VIN below its reset threshold -/

/-- Registers, security and queue are as before. -/
abbrev NvOnly (s t : State) : Prop := t.regs = s.regs ∧ t.sec = s.sec ∧ t.pending = s.pending

theorem foldl_nvOnly {α : Type} (g : State → α → State) (hg : ∀ s x, NvOnly s (g s x)) (l : List α) (s : State) :
    NvOnly s (l.foldl g s) := by
  induction l generalizing s with
  | nil => exact ⟨rfl, rfl, rfl⟩
  | cons x l ih =>
    obtain ⟨hregs, hsec, hqueue⟩ := ih (g s x)
    obtain ⟨gregs, gsec, gqueue⟩ := hg s x
    exact ⟨hregs.trans gregs, hsec.trans gsec, hqueue.trans gqueue⟩

/-- One byte of a page from `a` on, spoilt. -/
def spoilAt (a : Nat) (s : State) (p : Byte × Nat) : State :=
  let x := a / 128 * 128 + (a + p.2) % 128
  { s with nv.mem := wr s.nv.mem x (spoiltByte (s.free + p.2) (rd s.nv.mem x) p.1) }

/-- A page whose write lost its power changes the NV store alone. -/
theorem spoilPage_nvOnly (w : PageData) (s : State) : NvOnly s (spoilPage w s) := by
  have hspoil : ∀ (a : Nat) (data : List Byte), NvOnly s (data.zipIdx.foldl (spoilAt a) s) := fun a data =>
    foldl_nvOnly (spoilAt a) (fun _ _ => ⟨rfl, rfl, rfl⟩) _ s
  cases w with
  | bytes a data => exact hspoil a data
  | consol a data => exact hspoil a data
  | emergency a data => exact hspoil a data
  | record id toB seq data => exact ⟨rfl, rfl, rfl⟩

/-- The state that VIN_POWER_ON_RESET leaves, from the state whose page write has been spoilt. -/
theorem vinPowerOnReset_frame (s : State) : ∃ u w, NvOnly s u ∧ w.regs = (wiped 1 u).regs ∧ w.sec = (wiped 1 u).sec ∧
    w.pending = u.pending ∧ w.rtc.onVbat = true ∧ exec .vinPowerOnReset s = .next (fput SYS_RESET_CAUSE_KIND 1 w) := by
  have hspoilt : ∃ u, NvOnly s u ∧ exec .vinPowerOnReset s =
      .next (fput SYS_RESET_CAUSE_KIND 1 { releasePins u (wiped 1 u) with rtc.onVbat := true }) := by
    show ∃ u, _ ∧ execVinPowerOnReset s = _
    unfold execVinPowerOnReset
    cases s.nv.writing with
    | none => exact ⟨s, ⟨rfl, rfl, rfl⟩, rfl⟩
    | some p => exact ⟨_, spoilPage_nvOnly p.1.what { s with nv.writing := none }, rfl⟩
  obtain ⟨u, hu, hexec⟩ := hspoilt
  obtain ⟨hregs, -, hsec, -, hqueue⟩ := releasePins_frame u (wiped 1 u)
  exact ⟨u, { releasePins u (wiped 1 u) with rtc.onVbat := true }, hu, hregs, hsec, hqueue, rfl, hexec⟩

/-! ### The loss of the reference clock -/

theorem loop_setLoop_of_ne {x y : Nat} (h : y ≠ x) (f : Loop → Loop) {s : State} (hwf : SMap.wf s.lpt = true) :
    loop (setLoop x f s) y = loop s y := by
  unfold loop setLoop upd lookD
  rw [look_put_of_ne h _ hwf]

theorem loopTarget_setLoop_of_ne {x y : Nat} (h : y ≠ x) (f : Loop → Loop) {s : State} (hwf : SMap.wf s.lpt = true) :
    loopTarget (setLoop x f s) y = loopTarget s y := by
  have hloop := loop_setLoop_of_ne h f hwf
  unfold loopTarget loopPowerUp
  rw [hloop]
  rfl

/-- Loop `x` holds its target, which becomes its word. -/
def holdLoop (x : Nat) (s : State) : State :=
  setLoop x (fun l => { l with word := (loopTarget s x).1, frame := none, trim := none }) s

/-- Both loops hold the target that they had. -/
theorem clockReset_loops {s : State} (hwf : SMap.wf s.lpt = true) : (loop (clockReset s) 0).word = (loopTarget s 0).1 ∧
    (loop (clockReset s) 1).word = (loopTarget s 1).1 := by
  have hwf0 : SMap.wf (holdLoop 0 s).lpt = true := by simp [holdLoop, setLoop, upd, hwf]
  constructor
  · calc (loop (holdLoop 1 (holdLoop 0 s)) 0).word = (loop (holdLoop 0 s) 0).word := by rw [holdLoop, loop_setLoop_of_ne (by decide) _ hwf0]
      _ = (loopTarget s 0).1 := by simp only [holdLoop, loop_setLoop]
  · calc (loop (holdLoop 1 (holdLoop 0 s)) 1).word = (loopTarget (holdLoop 0 s) 1).1 := by simp only [holdLoop, loop_setLoop]
      _ = (loopTarget s 1).1 := by rw [holdLoop, loopTarget_setLoop_of_ne (by decide) _ hwf]

theorem clockReset_banks (s : State) : KeepsBanks s (clockReset s) := by
  exact (wiped_banks (kind := 5) (by decide) (holdLoop 1 (holdLoop 0 s))).trans (keepsBanks_of_mem (releasePins_frame (holdLoop 1 (holdLoop 0 s)) (wiped 5 (holdLoop 1 (holdLoop 0 s)))).2.1)

theorem clockReset_lasts (s : State) : Lasts s (clockReset s) := by
  exact (wiped_lasts 5 (holdLoop 1 (holdLoop 0 s))).trans (releasePins_lasts _ _)

/-- Without a register of the field block's, a state of the controller is at reset. -/
theorem clockReset_ctl (s : State) : ctl (clockReset s) = 0 := by
  have hlook : look (clockReset s).regs (keyOf CTL_STATE_STATE) = none := look_filter_out (fun _ => (by decide : (keptField 5 (keyOf CTL_STATE_STATE) || decide
    (8 * 0x5000 ≤ keyOf CTL_STATE_STATE ∧ keyOf CTL_STATE_STATE < 8 * 0x6000)) = false)) _
  rw [ctl, fget, hlook]
  rfl

end Sys2Proof.Machine
end

section

namespace Sys2Proof.Machine

open Reg Claims

/-- Settles O29: a cold reset wipes the registers and counts the start behind that; the other two rows wipe by the same function. -/
theorem resetsClearTheRegistersAndKeepWhatTheRulesName : Obligations.ResetsClearTheRegistersAndKeepWhatTheRulesName := by
  unfold Obligations.ResetsClearTheRegistersAndKeepWhatTheRulesName
  intro s hregs hmem hlpt cleared fuses banks cold
  have hcold : ∀ (i : Instr) (kind : Nat) (t : State), kind < 16 → exec i s = .next t → t.regs = (coldReset kind s).regs →
      t.mem = (coldReset kind s).mem → t.sec = (coldReset kind s).sec → t.nv = (coldReset kind s).nv →
      t.pending = (coldReset kind s).pending → cold i kind := by
    intro i kind t hkind hexec tregs tmem tsec tnv tqueue
    obtain ⟨hcause, hclear⟩ := coldReset_clears hkind hregs
    obtain ⟨hfuses, hnv⟩ := coldReset_lasts kind s
    refine ⟨t, hexec, ?_, ?_, ?_, ?_, fun h1 => ?_⟩
    · rw [fget, tregs]
      exact hcause
    · intro f hoff hlsb hkey h0 hside
      rw [fget, tregs]
      exact hclear f hoff hlsb hkey h0 hside
    · show _ ∧ _
      rw [tsec, tqueue]
      exact hfuses
    · rw [tnv]
      exact hnv
    · intro a hlo hhi
      rw [tmem]
      exact (coldReset_banks h1 s hmem).2 a hlo hhi
  refine ⟨?powerUp, fun hclock hvbat => ?resetN, fun hclock => ?clockValid, fun hclock hvbat => ?clockLoss, ?vin⟩
  case powerUp => exact hcold _ 1 _ (by decide) rfl rfl rfl rfl rfl rfl
  case resetN =>
    refine hcold _ 2 (coldReset 2 s) (by decide) ?_ rfl rfl rfl rfl rfl
    show execResetNAssert s = _
    rw [execResetNAssert, if_neg (by simp [hclock, hvbat])]
  case clockValid =>
    refine hcold _ 5 (coldReset 5 s) (by decide) ?_ rfl rfl rfl rfl rfl
    show execReferenceClockValid s = _
    rw [execReferenceClockValid, if_pos hclock]
  case clockLoss =>
    obtain ⟨hfuses, hnv⟩ := clockReset_lasts s
    obtain ⟨hloop0, hloop1⟩ := clockReset_loops hlpt
    refine ⟨clockReset s, ?_, rfl, rfl, hfuses, (clockReset_banks s hmem).2, hnv, rfl, clockReset_ctl s, hloop0, hloop1⟩
    show execReferenceClockLoss s = _
    rw [execReferenceClockLoss, if_neg (by simp [hclock, hvbat])]
  case vin =>
    obtain ⟨u, w, ⟨uregs, usec, uqueue⟩, wregs, wsec, wqueue, wvbat, hexec⟩ := vinPowerOnReset_frame s
    have hwf : SMap.wf w.regs = true := by
      rw [wregs]
      exact filter_wf _ _ (uregs ▸ hregs)
    obtain ⟨hcause, hclear⟩ := cleared_of_kind (kind := 1) (by decide) wregs hwf rfl (KeepsRegs.refl _ (fput SYS_RESET_CAUSE_KIND 1 w))
    refine ⟨_, hexec, wvbat, hcause, hclear, ?_⟩
    show w.sec.life = _ ∧ w.sec.ownerKey = _ ∧ w.sec.revoked = _ ∧ w.sec.minSvn = _ ∧ w.pending = _
    rw [wsec, wqueue, uqueue, ← usec]
    exact ⟨rfl, rfl, rfl, rfl, rfl⟩

end Sys2Proof.Machine
end

section
/-! PROOFS. The rung lanes: one word, and what its checks and its action give (R51–R61). -/

namespace Sys2Proof.Machine

open Reg Claims

theorem rungEnv_lane {s : State} {l : Nat} {e : RungEnv} (h : rungEnv s l = some e) : e.l = l := by
  unfold rungEnv at h
  dsimp only at h
  split at h
  · cases h
  · split at h
    · obtain ⟨d, -, hd⟩ := Option.map_eq_some_iff.mp h
      rw [← hd]
    · cases h

/-- The lane after a word: its stack is set, then its index moves. -/
theorem nextWord_setStack (e : RungEnv) (n : Nat) (st : List Bool) (s : State) :
    nextWord e n (setStack e st s) = rungWent e st n s := by
  unfold nextWord setStack rungWent
  rw [setLane_setLane]

/-! ### The checks of a word, in order -/

section
variable {op need grow : Nat} {l : Fin 4} {w : Word} {s : State} {e : RungEnv}
variable {act : RungEnv → List Bool → State → Except Nat (List Bool × Nat × State)}

/-- At its word, a row goes through the stack checks to its action. -/
theorem rungRow_of_atWord (hat : AtWord s l w e op) : rungRow op need grow l w act s =
    if (lane s l).ctx.stack.length < need then laneFault e 2 s
    else if (lane s l).ctx.stack.length + grow > 32 then laneFault e 1 s
    else match act e (lane s l).ctx.stack s with
      | .ok (stack, n, s1) => nextWord e n (setStack e stack s1)
      | .error cause => laneFault e cause s := by
  obtain ⟨henv, hop, hform, hindex⟩ := hat
  have hword : ¬(rungOp w ≠ op ∨ (!rungWellFormed w) = true ∨ (lane s l).ctx.index ≥ netEnd e.net) := by
    rw [hform]
    rintro (h | h | h)
    · exact h hop
    · cases h
    · omega
  unfold rungRow
  rw [henv]
  exact if_neg hword

theorem rungRow_completes {st : List Bool} {n : Nat} {s1 : State} (hneed : need ≤ (lane s l).ctx.stack.length)
    (hgrow : (lane s l).ctx.stack.length + grow ≤ 32) (hact : act e (lane s l).ctx.stack s = .ok (st, n, s1))
    (hat : AtWord s l w e op) :
    (.next (rungRow op need grow l w act s) : Host.Outcome State Fault Refusal) = .next (rungWent e st n s1) := by
  rw [rungRow_of_atWord hat, if_neg (by omega), if_neg (by omega), hact]
  exact congrArg _ (nextWord_setStack e n st s1)

theorem rungRow_faults {cause : Nat} (hneed : need ≤ (lane s l).ctx.stack.length)
    (hgrow : (lane s l).ctx.stack.length + grow ≤ 32) (hact : act e (lane s l).ctx.stack s = .error cause)
    (hat : AtWord s l w e op) :
    (.next (rungRow op need grow l w act s) : Host.Outcome State Fault Refusal) = .next (laneFault e cause s) := by
  rw [rungRow_of_atWord hat, if_neg (by omega), if_neg (by omega), hact]

theorem rungRow_lacks (hneed : (lane s l).ctx.stack.length < need) (hat : AtWord s l w e op) :
    (.next (rungRow op need grow l w act s) : Host.Outcome State Fault Refusal) = .next (laneFault e 2 s) := by
  rw [rungRow_of_atWord hat, if_pos hneed]

theorem rungRow_overflows (hneed : need ≤ (lane s l).ctx.stack.length) (hgrow : 32 < (lane s l).ctx.stack.length + grow)
    (hat : AtWord s l w e op) :
    (.next (rungRow op need grow l w act s) : Host.Outcome State Fault Refusal) = .next (laneFault e 1 s) := by
  rw [rungRow_of_atWord hat, if_neg (by omega), if_pos hgrow]

end

/-! ### The actions -/

section
variable {w : Word} {e : RungEnv} {st : List Bool} {s : State}

theorem readWord_ok (f : Bool → List Bool → List Bool) (h : bitReadable e.d (rungAddr w) = true) :
    readWord w f e st s = .ok (f (laneBit s e.l e.t (rungAddr w) ^^ rungN w) st, 1, cacheRead e.l e.t (rungAddr w) s) := if_pos h

theorem readWord_error (f : Bool → List Bool → List Bool) (h : bitReadable e.d (rungAddr w) = false) :
    readWord w f e st s = .error 4 := if_neg (by simp [h])

theorem writeWord_ok {f : Bool → Option Bool} {v : Bool} (hf : f (top st) = some v) (h : bitWritable e.d (rungAddr w) = true) :
    writeWord w f e st s = .ok (st, 1, laneWrite e.l e.t (rungAddr w) v s) := by
  rw [writeWord, if_pos h, hf]

theorem writeWord_leaves {f : Bool → Option Bool} (hf : f (top st) = none) (h : bitWritable e.d (rungAddr w) = true) :
    writeWord w f e st s = .ok (st, 1, s) := by
  rw [writeWord, if_pos h, hf]

theorem writeWord_error (f : Bool → Option Bool) (h : bitWritable e.d (rungAddr w) = false) : writeWord w f e st s = .error 4 :=
  if_neg (by simp [h])

theorem edgeWord_ok (f : Bool → Bool → Bool) (h : bitWritable e.d (rungAddr w) = true) : edgeWord w f e st s =
    .ok (f (top st) (laneBit s e.l e.t (rungAddr w)) :: st.drop 1, 1,
      laneWrite e.l e.t (rungAddr w) (top st) (cacheRead e.l e.t (rungAddr w) s)) := if_pos h

theorem edgeWord_error (f : Bool → Bool → Bool) (h : bitWritable e.d (rungAddr w) = false) : edgeWord w f e st s = .error 4 :=
  if_neg (by simp [h])

theorem skipWord_ok (take : Bool → Bool) (hcount : 1 ≤ rungLow w)
    (htarget : (lane s e.l).ctx.index + 1 + rungLow w ≤ netEnd e.net - 1) :
    skipWord w take e st s = .ok (st, if take (top st) then 1 + rungLow w else 1, s) :=
  if_neg (by omega)

theorem skipWord_error (take : Bool → Bool)
    (h : rungLow w = 0 ∨ netEnd e.net - 1 < (lane s e.l).ctx.index + 1 + rungLow w) : skipWord w take e st s = .error 5 :=
  if_pos (by omega)

theorem timerWord_ok (k : TimerKind) {c : TcDecl} (h : assigned s.prog.cur.timers e.t (rungLow w) = some c) :
    timerWord k w e st s =
      let x := timerEval k c (snapTime s e.t) (top st) (lookD s.img.timers (rungLow w) {})
      .ok (x.q :: st.drop 1, 1, { s with img.timers := put (rungLow w) x s.img.timers }) := by
  rw [timerWord, h]

theorem timerWord_error (k : TimerKind) (h : assigned s.prog.cur.timers e.t (rungLow w) = none) :
    timerWord k w e st s = .error 4 := by
  rw [timerWord, h]

theorem counterWord_ok (up : Bool) {c : TcDecl} (h : assigned s.prog.cur.counters e.t (rungLow w) = some c) :
    counterWord up w e st s =
      let x := counterEval up (top st) (lookD s.img.counters (rungLow w) {})
      let q : Bool := if up then x.cv.toInt ≥ c.preset.toInt else x.cv.toInt ≤ 0
      .ok (q :: st.drop 1, 1, { s with img.counters := put (rungLow w) x s.img.counters }) := by
  rw [counterWord, h]

theorem counterWord_error (up : Bool) (h : assigned s.prog.cur.counters e.t (rungLow w) = none) :
    counterWord up w e st s = .error 4 := by
  rw [counterWord, h]

theorem resetWord_ok (h : (assigned (if rungK w then s.prog.cur.counters else s.prog.cur.timers) e.t (rungLow w)).isSome = true) :
    resetWord w e st s = .ok (st, 1,
      if top st = false then s
      else if rungK w then { s with img.counters := upd (rungLow w) {} (fun x => { x with cv := 0 }) s.img.counters }
      else { s with img.timers := upd (rungLow w) {} (fun x => { x with et := 0, rem := 0, q := false }) s.img.timers }) := by
  obtain ⟨c, hc⟩ := Option.isSome_iff_exists.mp h
  unfold resetWord
  dsimp only
  rw [hc]
  cases top st <;> rfl

theorem resetWord_error (h : assigned (if rungK w then s.prog.cur.counters else s.prog.cur.timers) e.t (rungLow w) = none) :
    resetWord w e st s = .error 4 := by
  unfold resetWord
  dsimp only
  rw [h]

end

/-! ### END and the illegal word -/

theorem rungEnd_completes {s : State} {l : Fin 4} {w : Word} {e : RungEnv} (hat : AtWord s l w e 0x02) :
    exec (.rungEnd l w) s = .next (laneEnd e s) := by
  obtain ⟨henv, hop, hform, hindex⟩ := hat
  show execRungEnd l w s = _
  rw [execRungEnd, henv]
  exact congrArg _ (if_pos ⟨hop, hform, hindex⟩)

theorem rungIllegalWord_faults {s : State} {l : Fin 4} {w : Word} {e : RungEnv} (henv : rungEnv s l = some e)
    (h : rungWellFormed w = false ∨ netEnd e.net ≤ (lane s l).ctx.index) :
    exec (.rungIllegalWord l w) s = .next (laneFault e 3 s) := by
  show execRungIllegalWord l w s = _
  rw [execRungIllegalWord, henv]
  exact congrArg _ (if_pos (h.imp_left fun hform => by simp [hform]))

/-! ### The evaluation of TON (R55) -/

theorem timerRule_ton (pt units : Nat) (input : Bool) (x : Timer) :
    let y := timerRule .ton pt units input x
    y.q = (input && decide (pt ≤ y.et)) ∧ (input = false ∨ x.input = false → y.et = 0 ∧ y.rem = 0) ∧
    (input = true → x.input = true → y.et = min pt (x.et + units) ∧ y.rem = x.rem) := by
  cases input with
  | false => exact ⟨rfl, fun _ => ⟨rfl, rfl⟩, nofun⟩
  | true =>
    cases hin : x.input with
    | false => simp [timerRule, hin, zeroEt]
    | true => simp [timerRule, hin, addEt]

theorem timerEval_ton (c : TcDecl) (snap : Nat) (input : Bool) (x : Timer) :
    let y := timerEval .ton c snap input x
    let since := (match x.last with | some t => snap - t | none => 0) + x.rem
    y.last = some snap ∧ y.input = input ∧ y.q = (input && decide (c.preset.toNat ≤ y.et)) ∧
    (input = false ∨ x.input = false → y.et = 0 ∧ y.rem = 0) ∧
    (input = true → x.input = true → y.et = min c.preset.toNat (x.et + since / baseNs c) ∧ y.rem = since % baseNs c) := by
  intro y since
  exact ⟨rfl, rfl, timerRule_ton c.preset.toNat (since / baseNs c) input { x with rem := since % baseNs c }⟩

end Sys2Proof.Machine
end

section

namespace Sys2Proof.Machine

open Reg Claims

/-- Settles O36: at its word, with the entries and the room that it needs, a row takes its action. -/
theorem rungLogicWordsActOnStackAndBits : Obligations.RungLogicWordsActOnStackAndBits := by
  unfold Obligations.RungLogicWordsActOnStackAndBits
  intro l w s e henv st a v m shifts cached reads edges writes leaves
  refine ⟨fun h32 => ⟨?nop, ?rng⟩, fun hroom hbit => ?ld, fun t rest hst h32 => ?one, fun x y rest hst h32 => ?two⟩
  case nop => exact rungRow_completes (Nat.zero_le _) h32 rfl
  case rng => exact rungRow_completes (Nat.zero_le _) h32 rfl
  case ld => exact rungRow_completes (Nat.zero_le _) hroom (readWord_ok _ hbit)
  case one =>
    have hneed : 1 ≤ (lane s l).ctx.stack.length := by
      rw [show (lane s l).ctx.stack = t :: rest from hst]
      exact Nat.le_add_left _ _
    have htop : top (lane s l).ctx.stack = t := by rw [show (lane s l).ctx.stack = t :: rest from hst]; rfl
    have hdrop : (lane s l).ctx.stack.drop 1 = rest := by rw [show (lane s l).ctx.stack = t :: rest from hst]; rfl
    subst htop hdrop
    refine ⟨fun hbit => ?and, fun hbit => ?or, fun hbit => ?xor, ?not, fun hroom => ?dup, ?pop, fun hbit => ?out,
      fun hset => ⟨fun hbit => ?set, fun hbit => ?rst⟩, fun hset => ⟨fun hbit => ?setLeaves, fun hbit => ?rstLeaves⟩,
      fun hbit => ?redge, fun hbit => ?fedge⟩
    case and => exact rungRow_completes hneed h32 (readWord_ok _ hbit)
    case or => exact rungRow_completes hneed h32 (readWord_ok _ hbit)
    case xor => exact rungRow_completes hneed h32 (readWord_ok _ hbit)
    case not => exact rungRow_completes hneed h32 rfl
    case dup =>
      refine rungRow_completes hneed hroom ?_
      rw [← hst]
      rfl
    case pop => exact rungRow_completes hneed h32 rfl
    case out => exact rungRow_completes hneed h32 (writeWord_ok rfl hbit)
    case set => exact rungRow_completes hneed h32 (writeWord_ok (if_pos hset) hbit)
    case rst => exact rungRow_completes hneed h32 (writeWord_ok (if_pos hset) hbit)
    case setLeaves => exact rungRow_completes hneed h32 (writeWord_leaves (by simp [hset]) hbit)
    case rstLeaves => exact rungRow_completes hneed h32 (writeWord_leaves (by simp [hset]) hbit)
    case redge => exact rungRow_completes hneed h32 (edgeWord_ok _ hbit)
    case fedge => exact rungRow_completes hneed h32 (edgeWord_ok _ hbit)
  case two =>
    have hneed : 2 ≤ (lane s l).ctx.stack.length := by
      rw [show (lane s l).ctx.stack = x :: y :: rest from hst]
      exact Nat.le_add_left _ _
    have hword : ∀ f e, stackWord (binaryWord f) e (lane s l).ctx.stack s = .ok (f y x :: rest, 1, s) := fun f e => by
      rw [show (lane s l).ctx.stack = x :: y :: rest from hst]
      rfl
    exact ⟨rungRow_completes hneed h32 (hword _ e), rungRow_completes hneed h32 (hword _ e), rungRow_completes hneed h32 (hword _ e)⟩

/-- Settles O37: the checks of a word come in their order, before its action. -/
theorem rungTimersCountersSkipsAndEnd : Obligations.RungTimersCountersSkipsAndEnd := by
  unfold Obligations.RungTimersCountersSkipsAndEnd
  intro l w s e henv st j
  have hlane := rungEnv_lane henv
  refine ⟨fun t rest hst h32 => ?acts, ?finish, rungIllegalWord_faults henv, fun hfull => ⟨?ld, ?dup⟩, ?rest⟩
  case acts =>
    intro timers counts skips
    have hneed : 1 ≤ (lane s l).ctx.stack.length := by
      rw [show (lane s l).ctx.stack = t :: rest from hst]
      exact Nat.le_add_left _ _
    have htop : top (lane s l).ctx.stack = t := by rw [show (lane s l).ctx.stack = t :: rest from hst]; rfl
    have hdrop : (lane s l).ctx.stack.drop 1 = rest := by rw [show (lane s l).ctx.stack = t :: rest from hst]; rfl
    subst htop hdrop
    refine ⟨fun hat c hc => ?ton, fun hat c hc => ?tof, fun hat c hc => ?tp, fun hat c hc => ?ctu, fun hat c hc => ?ctd,
      fun hat hc => ?tcres, fun hat hcount htarget => ?skz, fun hat hcount htarget => ?sknz⟩
    case ton => exact rungRow_completes hneed h32 (timerWord_ok .ton hc) hat
    case tof => exact rungRow_completes hneed h32 (timerWord_ok .tof hc) hat
    case tp => exact rungRow_completes hneed h32 (timerWord_ok .tp hc) hat
    case ctu => exact rungRow_completes hneed h32 (counterWord_ok true hc) hat
    case ctd => exact rungRow_completes hneed h32 (counterWord_ok false hc) hat
    case tcres => exact rungRow_completes hneed h32 (resetWord_ok hc) hat
    case skz => exact rungRow_completes hneed h32 (skipWord_ok _ hcount (hlane ▸ htarget)) hat
    case sknz => exact rungRow_completes hneed h32 (skipWord_ok _ hcount (hlane ▸ htarget)) hat
  case finish =>
    intro hat done
    refine ⟨fun n rest hrest => ?_, fun hrest => ?_⟩ <;> rw [rungEnd_completes hat, laneEnd, hrest]
  case ld => exact rungRow_overflows (Nat.zero_le _) (hfull.symm ▸ Nat.lt_succ_self 32)
  case dup => exact rungRow_overflows (hfull.symm ▸ by decide) (hfull.symm ▸ Nat.lt_succ_self 32)
  case rest =>
    intro lacks
    iterate 22 refine ⟨rungRow_lacks, ?_⟩
    refine ⟨timerEval_ton, fun hneed h32 => ?_⟩
    intro faults
    refine ⟨fun hbit => ⟨fun hroom => ?_, ?_, ?_, ?_⟩, fun hbit => ⟨?_, ?_, ?_, ?_, ?_⟩, fun hc => ⟨?_, ?_, ?_, fun hk => ?_⟩,
      fun hc => ⟨?_, ?_, fun hk => ?_⟩, fun hskip => ⟨?_, ?_⟩⟩
    · exact rungRow_faults (Nat.zero_le _) hroom (readWord_error _ hbit)
    iterate 3 exact rungRow_faults hneed h32 (readWord_error _ hbit)
    iterate 3 exact rungRow_faults hneed h32 (writeWord_error _ hbit)
    iterate 2 exact rungRow_faults hneed h32 (edgeWord_error _ hbit)
    iterate 3 exact rungRow_faults hneed h32 (timerWord_error _ hc)
    · exact rungRow_faults hneed h32 (resetWord_error (by rw [hk]; exact hc))
    iterate 2 exact rungRow_faults hneed h32 (counterWord_error _ hc)
    · exact rungRow_faults hneed h32 (resetWord_error (by rw [if_pos hk]; exact hc))
    iterate 2 exact rungRow_faults hneed h32 (skipWord_error _ (hlane ▸ hskip))

end Sys2Proof.Machine
end

section
/-! PROOFS. Tasks and the controller: releases, the image unit's requests, and commands with a later effect (R324, R497). -/

namespace Sys2Proof.Machine

open Reg Claims

/-! ### Commands at their boundary -/

section
variable {p : DefAct → Bool} {x : Deferred} {s : State} {cond : Deferred → State → Option Nat}
variable {effect : Deferred → State → State × Nat}

theorem deferredRow_of_turn (h : nextDeferred p s = some x) : deferredRow p cond effect s = applyDeferred x (cond x) (effect x) s := by
  rw [deferredRow, h]

theorem againReason_of_not_hold {own : Option Nat} (h : power s ≠ 2) : againReason s own = own := if_neg fun hp => h hp.1

/-- What is judged again at the boundary is the row's own condition. -/
theorem judgedAgain_of_takes (own : Option Nat) (h : Takes p x s) :
    ¬((!x.job.mirrored) = true ∧ standby (turnOf x s) = true) ∧
      (if x.job.mirrored = true then own else againReason (turnOf x s) own) = own := by
  rcases h.2 with hmirrored | ⟨hactive, hpower⟩
  · exact ⟨by simp [hmirrored], if_pos hmirrored⟩
  · exact ⟨by simp [hactive], by rw [againReason_of_not_hold hpower, ite_self]⟩

theorem deferredRow_takes (h : Takes p x s) (hcond : cond x (turnOf x s) = none) :
    deferredRow p cond effect s = ended x.job 0 0 (effect x (turnOf x s)).2 (effect x (turnOf x s)).1 := by
  obtain ⟨hactive, hagain⟩ := judgedAgain_of_takes (cond x (turnOf x s)) h
  rw [deferredRow_of_turn h.1, applyDeferred]
  refine (if_neg hactive).trans ?_
  split
  next reason hreason => cases hreason.symm.trans (hagain.trans hcond)
  next => rfl

theorem deferredRow_aborts {reason : Nat} (h : Takes p x s) (hcond : cond x (turnOf x s) = some reason) :
    deferredRow p cond effect s = ended x.job 0x0A reason 0 (turnOf x s) := by
  obtain ⟨hactive, hagain⟩ := judgedAgain_of_takes (cond x (turnOf x s)) h
  rw [deferredRow_of_turn h.1, applyDeferred]
  refine (if_neg hactive).trans ?_
  split
  next reason' hreason =>
    cases hreason.symm.trans (hagain.trans hcond)
    rfl
  next hnone => cases hnone.symm.trans (hagain.trans hcond)

end

/-! ### Commands with checks of their own -/

/-- A command that the common checks pass is refused by its own checks only. -/
theorem unrefused_of_own {k : Card} {d : Desc} {own : State → Option (Nat × Nat)} {s : State}
    (h : Unrefused k d (fun _ => none) s) (hown : own (openSlot d s) = none) : Unrefused k d own s := by
  obtain ⟨hcommon, hbuffer⟩ := h
  refine ⟨?_, hbuffer⟩
  unfold refusalOf at hcommon ⊢
  split at hcommon
  · cases hcommon
  · rw [hown, ite_self]

/-! ### CYCLIC releases -/

theorem cyclicFrom_spec (d : TaskDef) (n : Nat) : n ≤ cyclicFrom d n ∧ cyclicFrom d n < n + max 1 d.period ∧
    (d.phase < max 1 d.period → cyclicFrom d n % max 1 d.period = d.phase) := by
  show n ≤ n + (d.phase + max 1 d.period - n % max 1 d.period) % max 1 d.period ∧
    n + (d.phase + max 1 d.period - n % max 1 d.period) % max 1 d.period < _ ∧ (_ → (n + _) % _ = _)
  generalize hk : max 1 d.period = k
  have hpos : 0 < k := by omega
  have hmod : n % k < k := Nat.mod_lt n hpos
  refine ⟨Nat.le_add_right _ _, Nat.add_lt_add_left (Nat.mod_lt _ hpos) n, fun hphase => ?_⟩
  have hsum : n + (d.phase + k - n % k) = d.phase + k * (n / k + 1) := by
    have hdiv := Nat.div_add_mod n k
    rw [Nat.mul_add]
    omega
  rw [Nat.add_mod_mod, hsum, Nat.add_mul_mod_self_left, Nat.mod_eq_of_lt hphase]

end Sys2Proof.Machine
end

section

namespace Sys2Proof.Machine

open Reg Claims

/-- Settles O34: each row's guard holds, and what it then does is the model's own function. -/
theorem tasksAreReleasedStartedAndCommitted : Obligations.TasksAreReleasedStartedAndCommitted := by
  refine ⟨fun s hrel => ⟨fun t ht => ?sync, fun t d hd hkind => ?cyclic⟩, fun t due s hdue hctl hactive => ?background,
    fun t s hnext => ?pending, fun q rest s hqueue => ⟨fun t d hkind hd => ?snapshot, fun t inst d hkind hd => ?commit⟩,
    fun t d s hd hphase => ?complete, fun t s hphase hbudget => ?overrun, fun t d s hd hctl hactive => ⟨?busy, ?free⟩⟩
  case sync =>
    show execSyncRelease s = _
    rw [execSyncRelease, ht]
    exact congrArg _ (if_pos hrel)
  case cyclic =>
    obtain ⟨hfrom, hbelow, hmod⟩ := cyclicFrom_spec d (dueFrom s t)
    refine ⟨cyclicFrom d (dueFrom s t), ?_, hfrom, hbelow, hmod⟩
    show execCyclicRelease t s = _
    rw [execCyclicRelease, hd]
    exact congrArg _ (if_pos ⟨hkind, hrel⟩)
  case background =>
    show execBackgroundRelease t s = _
    rw [execBackgroundRelease, hdue]
    exact congrArg _ (if_pos ⟨hctl, by simp [hactive]⟩)
  case pending =>
    show execPendingReleaseStart s = _
    rw [execPendingReleaseStart, hnext]
    rfl
  case snapshot =>
    show execSnapshot s = _
    obtain ⟨kind, rank, at_⟩ := q
    subst hkind
    rw [execSnapshot, headRequest, hqueue]
    show Host.Outcome.next (match taskDef s t with | some d => _ | none => _) = _
    rw [hd]
  case commit =>
    show execCommit t s = _
    obtain ⟨kind, rank, at_⟩ := q
    subst hkind
    rw [execCommit, headRequest, hqueue]
    show Host.Outcome.next (if t.val = t.val then (match taskDef s t with | some d => _ | none => _) else _) = _
    rw [if_pos rfl, hd]
  case complete =>
    show execSnapshotComplete t s = _
    rw [execSnapshotComplete, hd]
    exact congrArg _ (if_pos hphase)
  case overrun =>
    show execBudgetOverrun t s = _
    rw [execBudgetOverrun, if_pos ⟨hphase, hbudget⟩]
    rfl
  case busy =>
    intro hbusy
    have hgoes : ¬(ctl s ≠ 3 ∨ standby s = true) := by simp [hctl, hactive]
    unfold release
    rw [hd]
    dsimp only
    rw [if_neg hgoes, if_pos (by simpa using hbusy)]
  case free =>
    intro hidle hfree
    have hgoes : ¬(ctl s ≠ 3 ∨ standby s = true) := by simp [hctl, hactive]
    unfold release
    rw [hd]
    dsimp only
    rw [if_neg hgoes, if_neg (by simp [hidle, hfree])]
    simp only [Bool.or_eq_true]
    rfl

/-- Settles O35: a command that nothing refuses takes its effect, and a deferred one at its turn. -/
theorem imageAndForceCommandsComplete : Obligations.ImageAndForceCommandsComplete := by
  refine ⟨fun d s => ?commands, fun x s => ?turns⟩
  case commands =>
    intro u later
    refine ⟨fun h => ?imgRead, fun h => ?forceRead, fun cs h hcs => ?restore, fun h => ?imgWrite, fun h => ?forceWrite,
      fun h => ?forceClear⟩
    case imgRead => exact congrArg _ (command_of_unrefused h)
    case forceRead => exact congrArg _ (command_of_unrefused h)
    case restore =>
      show execRetainRestore d s = _
      rw [execRetainRestore, command_of_unrefused h, hcs]
    case imgWrite => exact congrArg _ (command_of_unrefused h)
    case forceWrite => exact congrArg _ (command_of_unrefused h)
    case forceClear => exact congrArg _ (command_of_unrefused h)
  case turns =>
    intro u
    refine ⟨fun cs h hcs => ?write, fun h => ?force⟩
    case write =>
      show execHostImageWriteApply s = _
      rw [execHostImageWriteApply, deferredRow_takes h rfl, hcs]
      rfl
    case force => exact congrArg _ (deferredRow_takes h rfl)

theorem startAgain_of_ready {s : State} (hctl : ctl s = 2) (hwarm : s.seq.warm = none) (hservice : serviceOpen s = false)
    (hpower : power s = 0) : startAgain s = none := by
  simp [startAgain, restarting, hctl, hwarm, hservice, hpower]

theorem startAgain_of_not_stop {s : State} (h : ctl s ≠ 2) : startAgain s = some 0x0010 := if_pos (.inl h)

/-- Settles O38: the commands are accepted, kept or effective at once, and at the boundary judged again. -/
theorem controllerCommandsChangeTheState : Obligations.ControllerCommandsChangeTheState := by
  refine ⟨fun d s => ?commands, fun x s => ?turns, fun cause t s hpair htakeover hcause => ?pairHalt,
    fun job s hwarm hswitch => ?warmDone⟩
  case commands =>
    intro u idle
    have hrunning : ∀ {v : State}, idle v → restarting v = false := fun {v} hv => by rw [restarting, show v.seq.warm = none from hv]; rfl
    refine ⟨fun h => ?start, fun h => ?stop, fun h => ?trigger, fun h hctl hidle => ?halt, fun h hctl hidle => ?clear,
      fun h hctl hidle => ?warm⟩
    case start => exact congrArg _ (command_of_unrefused h)
    case stop => exact congrArg _ (command_of_unrefused h)
    case trigger => exact congrArg _ (command_of_unrefused h)
    case halt =>
      intro a job
      have hown : firstOf [(restarting u, 0x08, 0), (decide (ctl u ≠ 3), 0x01, 0x0010)] = none := by
        simp [firstOf, hrunning hidle, hctl]
      have hhalt : exec (.ctlHalt d) s = .next (haltEffect d u) := congrArg _ (command_of_unrefused (unrefused_of_own h hown))
      refine ⟨fun hswitch => hhalt.trans (congrArg _ (if_neg ?_)), fun hswitch => hhalt.trans (congrArg _ (if_pos ?_))⟩
      · show ¬a.prog.switchAt.isSome = true
        simp [hswitch]
      · exact Option.isSome_iff_ne_none.mpr hswitch
    case clear =>
      have hown : firstOf [(restarting u, 0x08, 0), (decide (ctl u ≠ 4), 0x01, 0x0010)] = none := by
        simp [firstOf, hrunning hidle, hctl]
      exact congrArg _ (command_of_unrefused (unrefused_of_own h hown))
    case warm =>
      have hown : firstOf [(restarting u, 0x08, 0), (decide (ctl u ≠ 2 ∧ ctl u ≠ 4), 0x01, 0x0010)] = none := by
        rcases hctl with hctl | hctl <;> simp [firstOf, hrunning hidle, hctl]
      exact congrArg _ (command_of_unrefused (unrefused_of_own h hown))
  case turns =>
    intro u
    refine ⟨fun z h hact => ⟨fun hctl hwarm hservice hpower => ?begin, fun r hr => ?startAborts, startAgain_of_not_stop⟩,
      fun h hswitch => ⟨fun hctl => ?stops, fun hctl => ?stopAborts⟩,
      fun t h hact => ⟨fun hctl hhost => ?releases, fun hctl => ?stopped, fun hctl hhost => ?unfit⟩⟩
    case begin =>
      show execRunBegin s = _
      rw [execRunBegin, deferredRow_takes h (startAgain_of_ready hctl hwarm hservice hpower), hact]
    case startAborts => exact congrArg _ (deferredRow_aborts h hr)
    case stops =>
      show execStopBegin s = _
      rw [execStopBegin, hswitch, if_neg (by decide), deferredRow_takes h (if_neg (not_not_intro hctl))]
    case stopAborts =>
      show execStopBegin s = _
      rw [execStopBegin, hswitch, if_neg (by decide), deferredRow_aborts h (if_pos hctl)]
    case releases =>
      show execHostEventRelease s = _
      rw [execHostEventRelease, deferredRow_takes h ?_, hact]
      · rfl
      · rw [hact]
        exact (if_neg (not_not_intro hctl)).trans (if_neg (by simpa [triggerTask] using hhost))
    case stopped => exact congrArg _ (deferredRow_aborts h (if_pos hctl))
    case unfit =>
      refine congrArg _ (deferredRow_aborts h ?_)
      rw [hact]
      exact (if_neg (not_not_intro hctl)).trans (if_pos (by simpa [triggerTask] using hhost))
  case pairHalt =>
    show execPairHalt cause t s = _
    rw [execPairHalt, if_pos]
    exact ⟨hpair, by simp [htakeover], by simpa [unitCause] using hcause⟩
  case warmDone =>
    show execWarmRestartDone s = _
    rw [execWarmRestartDone, hwarm]
    exact congrArg _ (if_neg (by simp [hswitch]))

end Sys2Proof.Machine
end

section
/-! PROOFS. Graft commands, the switch of a Graft and the end of its confirm window (R91–R110). -/

namespace Sys2Proof.Machine

open Reg Claims

/-- A generation that cannot be returned to fails the automatic revert (R105). -/
theorem autoRevert_fails {s : State}
    (h : s.prog.kept.isNone = true ∨ notReversible s = true ∨ (guardRefusal s none (graftGuards (keptKind s))).isSome = true) :
    autoRevert s = autoFailed (BitVec.ofNat 64 (fget s CTL_GRAFT_ID_ID)) s := if_pos h

theorem confirmWindowEnd_reverts {s : State} {t : Nat} (ht : s.prog.confirmUntil = some t) (hstate : graftState s = 4) :
    exec .confirmWindowEnd s = .next (autoRevert (advance t s)) := by
  show execConfirmWindowEnd s = _
  rw [execConfirmWindowEnd, ht]
  exact congrArg _ (if_pos hstate)

/-- A commit goes on at its apply point. -/
theorem codeGraftApply_applies {s : State} {c : GraftCommit} (hc : s.prog.commit = some c) (hkind : (commitPlan s c).1 = 0)
    (hgap : c.sel = 2 → gapNow (toBoundary c.cycle s) (affected (toBoundary c.cycle s)) 0 = true ∧ (toBoundary c.cycle s).now ≤ c.gapUntil) :
    exec .codeGraftApply s = .next (applyCode c (toBoundary c.cycle s)) := by
  show execCodeGraftApply s = _
  rw [execCodeGraftApply, hc]
  refine congrArg _ ((if_neg (not_not_intro hkind)).trans (if_neg ?_))
  rintro ⟨hsel, hbad⟩
  obtain ⟨hnow, huntil⟩ := hgap hsel
  rcases hbad with hbad | hbad
  · simp [hnow] at hbad
  · omega

theorem graftSwitchStart_starts {s : State} {c : GraftCommit} (hc : s.prog.commit = some c) (hkind : (commitPlan s c).1 ≠ 0)
    (hidle : s.prog.switchAt = none)
    (hnow : gapNow (toBoundary c.cycle s) (affected (toBoundary c.cycle s)) (switchTime (commitPlan s c).1 (commitPlan s c).2.2) = true)
    (huntil : (toBoundary c.cycle s).now ≤ c.gapUntil) :
    exec .graftSwitchStart s = .next (startSwitch c (commitPlan s c).1 (toBoundary c.cycle s)) := by
  show execGraftSwitchStart s = _
  rw [execGraftSwitchStart, hc]
  refine congrArg _ (if_neg ?_)
  rintro (h | h | h | h)
  · exact hkind h
  · simp [hidle] at h
  · rw [Bool.not_eq_true'] at h
    exact Bool.noConfusion (hnow.symm.trans h)
  · exact absurd huntil (Nat.not_le_of_gt h)

end Sys2Proof.Machine
end

section

namespace Sys2Proof.Machine

open Reg Claims

/-- Settles O39: each command that nothing refuses takes its effect on the state with its slot. -/
theorem graftCommandsOpenLoadCheckAndCommit : Obligations.GraftCommandsOpenLoadCheckAndCommit := by
  intro d s u mirrored
  refine ⟨fun h => ?opens, fun h => ?loads, fun p h hpair => ?checks, fun p h hpair => ?pairChecks, fun h => ?aborts, fun h => ?confirms,
    fun h => ?commits, fun h => ?reverts⟩
  case opens => exact congrArg _ (command_of_unrefused h)
  case loads => exact congrArg _ (command_of_unrefused h)
  case checks =>
    have hcheck : exec (.graftCheck d p) s = .next (graftCheckEffect d p u) := congrArg _ (command_of_unrefused h)
    exact hcheck.trans (congrArg _ (if_neg hpair))
  case pairChecks =>
    have hcheck : exec (.graftCheck d p) s = .next (graftCheckEffect d p u) := congrArg _ (command_of_unrefused h)
    exact hcheck.trans (congrArg _ (if_pos hpair))
  case aborts => exact congrArg _ (command_of_unrefused h)
  case confirms => exact congrArg _ (command_of_unrefused h)
  case commits => exact congrArg _ (command_of_unrefused h)
  case reverts => exact congrArg _ (command_of_unrefused h)

/-- Settles O40: a commit goes on at its apply point, where its guards are judged again, and a window ends in a revert. -/
theorem graftSwitchesAndConfirmWindowsEnd : Obligations.GraftSwitchesAndConfirmWindowsEnd := by
  refine ⟨fun c s hc => ?switches, fun t s ht hstate => ?windows⟩
  case switches =>
    intro u kind gap
    refine ⟨fun p ms hplan hkind hgap => ?code, fun hkind hidle hgap => ⟨fun hguard => ?starts, fun st rs hguard => ?refused⟩,
      fun i hi => ⟨?ends, ?fault⟩, fun hsel hidle hfound => ?noGap⟩
    case code =>
      intro v
      have happly := codeGraftApply_applies hc hkind hgap
      refine ⟨fun st rs hguard => happly.trans (congrArg _ ?_), fun hguard => happly.trans (congrArg _ ?_)⟩ <;>
        rw [applyCode, hplan, hguard]
    case starts =>
      rw [graftSwitchStart_starts hc hkind hidle hgap.1 hgap.2, startSwitch, hguard]
    case refused =>
      rw [graftSwitchStart_starts hc hkind hidle hgap.1 hgap.2, startSwitch, hguard]
    case ends =>
      show execGraftSwitchEnd false s = _
      rw [execGraftSwitchEnd, hc, hi]
      rfl
    case fault =>
      show execGraftSwitchEnd true s = _
      rw [execGraftSwitchEnd, hc, hi]
      rfl
    case noGap =>
      show execGraftNoGap s = _
      rw [execGraftNoGap, hc]
      exact congrArg _ (if_pos ⟨hsel, by simp [hidle], by simp [hfound]⟩)
  case windows =>
    intro u ident
    have hreverts := confirmWindowEnd_reverts ht hstate
    refine ⟨fun hkept => ?none, fun hfixed => ?fixed, fun k g hkept hguard => ?guarded, fun k hkept hback hguard => ?back⟩
    case none => exact hreverts.trans (congrArg _ (autoRevert_fails (.inl (Option.isNone_iff_eq_none.mpr hkept))))
    case fixed => exact hreverts.trans (congrArg _ (autoRevert_fails (.inr (.inl hfixed))))
    case guarded => exact hreverts.trans (congrArg _ (autoRevert_fails (.inr (.inr (by rw [hguard]; rfl)))))
    case back =>
      refine hreverts.trans (congrArg _ ?_)
      have hgoes : ¬(u.prog.kept.isNone = true ∨ notReversible u = true ∨ (guardRefusal u none (graftGuards (keptKind u))).isSome = true) := by
        simp [hkept, hback, hguard]
      refine (if_neg hgoes).trans ?_
      rw [hkept]
      rfl

end Sys2Proof.Machine
end

section
/-! PROOFS. Trellis: the tick, the events of edges, encoders, samples and captures, and the commands (R111–R141). -/

namespace Sys2Proof.Machine

open Reg Claims

/-! ### Ticks -/

theorem lt_tickAt_add_tick (s : State) (t : Nat) : t < tickAt s (t + 40) := by
  unfold tickAt
  have := Nat.mod_lt (devTime s (t + 40)) (by decide : 40 > 0)
  omega

/-- A tick behind moment 0 stands at a multiple of 2.5 ns of device time. -/
theorem devTime_tickAt {s : State} {t : Nat} (h : 0 < tickAt s t) : devTime s (tickAt s t) % 40 = 0 := by
  unfold tickAt devTime at *
  omega

/-- The tick that TRELLIS_TICK handles lies behind the last one. -/
theorem nextTick_spec (s : State) : s.trl.lastTick < max (tickAt s (s.trl.lastTick + 40)) (tickAt s s.now) ∧
    devTime s (max (tickAt s (s.trl.lastTick + 40)) (tickAt s s.now)) % 40 = 0 := by
  have hbehind := lt_tickAt_add_tick s s.trl.lastTick
  refine ⟨lt_of_lt_of_le hbehind (le_max_left _ _), ?_⟩
  rcases le_total (tickAt s (s.trl.lastTick + 40)) (tickAt s s.now) with hle | hle
  · rw [max_eq_right hle]
    exact devTime_tickAt (by omega)
  · rw [max_eq_left hle]
    exact devTime_tickAt (by omega)

/-! ### Events -/

theorem edgeIssue_issues {s : State} {e : Edge} {rest : List Edge} (h : s.trl.edges = e :: rest) :
    exec .edgeIssue s = .next (issueEdge e (advance e.time { s with trl.edges := rest })) := by
  show execEdgeIssue s = _
  rw [execEdgeIssue, h]

theorem encoderEdge_taken {e : Fin 4} {k : EncEdge} {s : State} (henabled : fbit s (FIO_ENC_CFG_ENABLE e) = true)
    (hpower : s.fio.powerUp = false)
    (hab : k ≠ .z → groupBad s (fget s (FIO_ENC_CFG_A_CH e) / 8) = false ∧ groupBad s (fget s (FIO_ENC_CFG_B_CH e) / 8) = false)
    (hz : k = .z → fbit s (FIO_ENC_CFG_Z_EN e) = true ∧ groupBad s (fget s (FIO_ENC_CFG_Z_CH e) / 8) = false)
    (hcarry : levelsCarry s e k = true) :
    ¬((!fbit s (FIO_ENC_CFG_ENABLE e)) = true ∨ s.fio.powerUp = true ∨ encoderBlind s e k = true ∨
      (k = .z ∧ (!fbit s (FIO_ENC_CFG_Z_EN e)) = true) ∨ (!levelsCarry s e k) = true) := by
  have hsees : encoderBlind s e k = false := by
    unfold encoderBlind
    split
    next h => exact (hz h).2
    next h => rw [(hab h).1, (hab h).2]; rfl
  rintro (h | h | h | ⟨hkind, h⟩ | h)
  · simp [henabled] at h
  · simp [hpower] at h
  · simp [hsees] at h
  · simp [(hz hkind).1] at h
  · simp [hcarry] at h

/-- The capture units judge an edge in ascending order, and what they fire is due together. -/
theorem captureAll_eq (ch stamp : Nat) (rising : Bool) (s : State) : captureAll ch stamp rising s =
    let v := (List.range 16).foldl (fun (acc : State × List Fire) c => if takesEdge acc.1 c ch rising
      then ((captureEdge c stamp rising acc.1).1, acc.2 ++ (captureEdge c stamp rising acc.1).2) else acc) (s, [])
    fireAll v.2 v.1 := by
  unfold captureAll
  generalize List.range 16 = units
  rfl

end Sys2Proof.Machine
end

section

namespace Sys2Proof.Machine

open Reg Claims

/-- Settles O41: each row's guard holds, and what it then does is written out. -/
theorem trellisEventsActAtTheirTimes : Obligations.TrellisEventsActAtTheirTimes := by
  refine ⟨fun s => ⟨rfl, nextTick_spec s⟩, fun fs s hnew => if_neg hnew, fun e rest s hedges => ⟨fun hsafe => ?held, fun hctl hfree => ?driven⟩,
    fun ch t s ht => ?pulse, fun e k s henabled hpower hab hz hcarry => ?encoder, fun k s henabled hsource => ⟨fun t hstate ht => ?timeout, fun hstate => ?coast⟩,
    fun ch rising at_ s hmode hgroup hpower hlevel hat => ?capture, fun x s hx => ?trim⟩
  case held => rw [edgeIssue_issues hedges, issueEdge, if_pos hsafe]
  case driven =>
    exact (edgeIssue_issues hedges).trans (congrArg Host.Outcome.next (if_neg fun hstays =>
      hstays.elim (fun hstopped => hstopped hctl) (ne_true_of_eq_false hfree)))
  case pulse =>
    show execPulseEnd ch s = _
    rw [execPulseEnd, ht]
    simp only [Bool.not_eq_true']
  case encoder =>
    show execEncoderEdge e k s = _
    rw [execEncoderEdge, if_neg (encoderEdge_taken henabled hpower hab hz hcarry)]
  case timeout =>
    show execSampleTimeout k s = _
    rw [execSampleTimeout, ht]
    exact congrArg _ (if_pos ⟨henabled, hsource, hstate⟩)
  case coast => exact congrArg _ (if_pos ⟨henabled, hsource, hstate⟩)
  case capture =>
    show execFastInputEdge ch rising at_ s = _
    rw [execFastInputEdge, if_neg (by simp [hmode, hgroup, hpower, hlevel, hat])]
    exact congrArg Host.Outcome.next (captureAll_eq ch _ rising _)
  case trim =>
    show execTrimSourceApply s = _
    rw [execTrimSourceApply, hx]
    rfl

/-- Settles O42: a command that nothing refuses takes its effect, and a deferred one at its turn. -/
theorem trellisCommandsComplete : Obligations.TrellisCommandsComplete := by
  refine ⟨fun d s => ?commands, fun x s => ?turns⟩
  case commands =>
    intro u
    refine ⟨fun h => ?entries, fun h => ?axis, fun h => ?trim, fun h => ?rearm, fun h hsome hmany hfit => ?read⟩
    case entries => exact congrArg _ (command_of_unrefused h)
    case axis => exact congrArg _ (command_of_unrefused h)
    case trim => exact congrArg _ (command_of_unrefused h)
    case rearm => exact congrArg _ (command_of_unrefused h)
    case read =>
      have hown : firstOf [(decide (paramN d 34 2 = 0 ∨ paramN d 34 2 > 256 ∨ paramN d 32 2 + paramN d 34 2 > 4096), 0x02, 0x0111)] = none := by
        rw [decide_eq_false (by omega)]
        rfl
      exact congrArg _ (command_of_unrefused (unrefused_of_own h hown))
  case turns =>
    intro u d k records
    refine ⟨fun h => ?batch, fun h => ?axis, fun h => ?trim, fun h => ⟨fun hsource hstate => ?rearms, fun hstate => ?aborts⟩⟩
    case batch => exact congrArg _ (deferredRow_takes h rfl)
    case axis => exact congrArg _ (deferredRow_takes h rfl)
    case trim => exact congrArg _ (deferredRow_takes h rfl)
    case rearms => exact congrArg _ (deferredRow_takes h (if_pos (decide_eq_true ⟨hsource, hstate⟩)))
    case aborts => exact congrArg _ (deferredRow_aborts h (if_neg (by simpa [rearmable] using fun _ => hstate)))

end Sys2Proof.Machine
end

section
/-! PROOFS. The line network: gathering and windows, gates and links, time synchronisation and the drive cycle (R144–R165). -/

namespace Sys2Proof.Machine

open Reg Claims

/-! ### Windows -/

theorem txWindowOpen_opens {s : State} (h : cycleRuns s = true ∨ s.red.handover ≠ none) :
    exec .txWindowOpen s = .next (txWindow (max s.net.sentCycle (cycleNow s)) s) :=
  congrArg _ (if_pos (h.imp_right Option.isSome_iff_ne_none.mpr))

theorem statusGather_gathers {s : State} (hcycle : cycleRuns s = true) (hlen : fget s NET_PLANT_WIN_PLANT_LEN ≠ 0) :
    ¬((!cycleRuns s) = true ∨ fget s NET_PLANT_WIN_PLANT_LEN = 0) := by
  simp [hcycle, hlen]

theorem net_ite_raise (c : Prop) [Decidable c] (f : Field) (s : State) : (if c then raise f s else s).net = s.net := by
  split <;> rfl

theorem statusFrames_idle {n : Nat} {s : State} (h : talks s = false ∨ ctl s < 2 ∨ dueTx s kStatus n = []) : statusFrames n s = s := by
  unfold statusFrames
  refine if_pos ?_
  rcases h with h | h | h
  · exact .inl (by simp [h])
  · exact .inr (.inl h)
  · exact .inr (.inr (by rw [h]; rfl))

theorem statusFrames_leave {n : Nat} {s : State} (htalks : talks s = true) (hctl : 2 ≤ ctl s) (hdue : dueTx s kStatus n ≠ []) :
    statusFrames n s =
      let s1 := if s.net.statusCycle ≤ n ∨ s.net.statusEnd > s.now then raise NET_EVENTS_TX_LATE s else s
      let s2 := if s.net.statusCycle = n + 1 then advance s.net.statusEnd s1 else s1
      forEach (dueTx s2 kStatus n) s2 fun (i, t) s => if s.now < plantEnd s n then sendTemplate n i t s else s := by
  unfold statusFrames
  refine (if_neg ?_).trans (by dsimp only; rw [net_ite_raise])
  rintro (h | h | h)
  · simp [htalks] at h
  · omega
  · exact hdue (List.isEmpty_iff.mp h)

/-- The state at TX_OPEN: a handover that this boundary ends is done, and class 7 is open on the drive ports. -/
def txOpened (n : Nat) (s : State) : State :=
  let u := advance (boundary s n + fget s NET_TX_OPEN_NS * 16) { s with net.sentCycle := n + 1 }
  openSeven [0, 1] (match handoverIn u n with
    | some x => handoverDone x u
    | none => u)

theorem txWindow_idle {n : Nat} {s : State} (h : standby (txOpened n s) = true ∨ cycleRuns (txOpened n s) = false ∨
    ctl (txOpened n s) < 2 ∨ dueTx (txOpened n s) kSetpoint n = []) : txWindow n s = txOpened n s := by
  unfold txWindow
  refine if_pos ?_
  rcases h with h | h | h | h
  · exact .inl h
  · exact .inr (.inl ((Bool.not_eq_true' _).mpr h))
  · exact .inr (.inr (.inl h))
  · exact .inr (.inr (.inr (List.isEmpty_iff.mpr h)))

theorem txWindow_leave {n : Nat} {s : State} (hactive : standby (txOpened n s) = false) (hruns : cycleRuns (txOpened n s) = true)
    (hctl : 2 ≤ ctl (txOpened n s)) (hdue : dueTx (txOpened n s) kSetpoint n ≠ []) : txWindow n s =
      let v := txOpened n s
      let s1 := if v.net.gatherCycle ≤ n ∨ v.net.gatherEnd > v.now then raise NET_EVENTS_TX_LATE v else v
      let s2 := if v.net.gatherCycle = n + 1 then advance v.net.gatherEnd s1 else s1
      forEach (dueTx s2 kSetpoint n) s2 fun (i, t) s =>
        if s.now < boundary s n + txClose s ((portsOf t.port).headD 0) then sendTemplate n i t s else s := by
  unfold txWindow
  refine (if_neg ?_).trans (by dsimp only; rw [net_ite_raise] <;> rfl)
  rintro (h | h | h | h)
  · exact Bool.noConfusion (hactive.symm.trans h)
  · exact Bool.noConfusion (hruns.symm.trans ((Bool.not_eq_true' _).mp h))
  · exact absurd h (Nat.not_lt.mpr hctl)
  · exact hdue (List.isEmpty_iff.mp h)

/-! ### Links -/

theorem portLinkChange_of_svc (up verified : Bool) (s : State) : exec (.portLinkChange 4 up verified) s =
    .next (if fbit s NET_STATUS_SVC_LINK = (up && fbit s (NET_PORT_CFG_ENABLE 4)) then s
      else raise NET_EVENTS_LINK_CHANGE (fput NET_STATUS_SVC_LINK (if up && fbit s (NET_PORT_CFG_ENABLE 4) then 1 else 0) s)) := by
  show execPortLinkChange 4 up verified s = _
  simp only [execPortLinkChange, if_true]
  simp

theorem portLinkChange_of_ring {p : Fin 5} (hp : p.val < 4) (up verified : Bool) (s : State) :
    let now := up && fbit s (NET_PORT_CFG_ENABLE p) && (power s = 0 || power s = 1)
    exec (.portLinkChange p up verified) s = .next (if linkUp s p = now then s else portLink p now verified s) := by
  have hsvc : ¬p = 4 := fun h => absurd hp (by rw [h]; decide)
  show execPortLinkChange p up verified s = _
  simp [execPortLinkChange, hsvc]

/-! ### gPTP -/

theorem plantAnnounceReceive_takes {p : Fin 2} {a : Announce} {s : State} (henabled : fbit s NET_PTP_CFG_PLANT_EN = true)
    (hruns : ptpRuns s = true) (hlink : linkUp s (p.val + 2) = true) (hdomain : a.domain = fget s NET_PTP_CFG_PLT_DOMAIN) :
    let u := bumpWrap (NET_PORT_RX_FRAMES_COUNT (p.val + 2)) 1 (advance a.at_ s)
    let now := fget u NET_STATUS_PLANT_PORT
    let v := takeMaster a.gm u
    exec (.plantAnnounceReceive p a) s = .next (
      if now = p.val + 1 ∨ now = 0 ∨ u.net.ptp.rank.elim true (fun r => decide (a.rank < r)) = true then
        fput NET_STATUS_PLANT_PORT (p.val + 1) { v with
          net.ptp.rank := some a.rank
          net.ptp.lastAnnounce := some a.at_
          net.ptp.lastSync := if now ≠ p.val + 1 then some a.at_ else v.net.ptp.lastSync
          net.ptp.synced := v.net.ptp.synced && !decide (now ≠ p.val + 1) }
      else u) := by
  show execPlantAnnounceReceive p a s = _
  rw [execPlantAnnounceReceive, if_neg (by simp [hlink])]
  exact congrArg _ (if_pos ⟨henabled, hruns, hdomain⟩)

end Sys2Proof.Machine
end

section

namespace Sys2Proof.Machine

open Reg Claims

/-- Settles O43: the windows open at their instants, and each branch of a row is one clause. -/
theorem framesAreGatheredAndLeaveInTheirWindows : Obligations.FramesAreGatheredAndLeaveInTheirWindows := by
  refine ⟨fun s hcycle => ?gather, fun s hopen => ?window, fun s hcycle hlen => ?plant, fun p at_ s => rfl, fun t x s hx => ?head,
    fun up verified s => ?svcLink, fun p up verified s hp => ?ringLink⟩
  case gather =>
    intro n u
    show execTxGather s = _
    rw [execTxGather, if_neg (by simp [hcycle]), Nat.add_assoc]
    rfl
  case window =>
    intro n u v noted ready
    have hopens := txWindowOpen_opens hopen
    exact ⟨fun hidle => hopens.trans (congrArg _ (txWindow_idle hidle)), fun hactive hruns hctl hdue =>
      hopens.trans (congrArg _ (txWindow_leave hactive hruns hctl hdue))⟩
  case plant =>
    intro early n g m ends u v noted ready
    have hopen := statusGather_gathers hcycle hlen
    refine ⟨?_, fun htalks hctl hdue => ?_, fun hidle => ?_⟩
    · show execStatusGather s = _
      rw [execStatusGather, if_neg hopen, Nat.add_assoc]
      rfl
    · show execPlantWindowOpen s = _
      rw [execPlantWindowOpen, if_neg hopen]
      exact congrArg _ (statusFrames_leave htalks hctl hdue)
    · show execPlantWindowOpen s = _
      rw [execPlantWindowOpen, if_neg hopen]
      exact congrArg _ (statusFrames_idle hidle)
  case head =>
    intro k n
    show execCollectHeadSend t s = _
    rw [execCollectHeadSend, hx]
  case svcLink =>
    intro now
    rw [portLinkChange_of_svc]
    exact ⟨fun h => congrArg _ (if_pos h), fun h => congrArg _ (if_neg h)⟩
  case ringLink =>
    intro now changed down
    rw [portLinkChange_of_ring hp up verified s]
    refine ⟨fun h => congrArg _ (if_pos h), fun hdown hup => ?ups, fun hup hdown => ?downs⟩
    case ups =>
      intro u
      have hchange : ¬linkUp s p = now := by rw [hdown, hup]; decide
      have hlink : portLink p now verified s = if fbit u (NET_PORT_CFG_PREEMPT_EN p) then
          if verified then fputBit NET_STATUS_PREEMPT p true u
          else raise NET_EVENTS_PREEMPT_FAIL (fputBit NET_STATUS_PREEMPT p false u)
        else fputBit NET_STATUS_PREEMPT p false u := if_pos hup
      rw [if_neg hchange, hlink]
      exact ⟨fun h => congrArg _ (if_pos h), fun h => congrArg _ (if_neg (by simp [h]))⟩
    case downs =>
      have hchange : ¬linkUp s p = now := by rw [hdown, hup]; decide
      have hlink : portLink p now verified s =
          (if p.val < 2 then driveLinksLost (if fget down NET_STATUS_PLANT_PORT + 1 = p ∧ p.val ≥ 2 then
            fput NET_STATUS_PLANT_PORT 0 { down with net.ptp.rank := none } else down)
          else if fget down NET_STATUS_PLANT_PORT + 1 = p ∧ p.val ≥ 2 then
            fput NET_STATUS_PLANT_PORT 0 { down with net.ptp.rank := none } else down) := if_neg (by simp [hdown])
      rw [if_neg hchange, hlink]
      refine ⟨fun hdrive => ?_, fun hplant hslave => ?_, fun hplant hslave => ?_⟩
      · rw [if_pos hdrive, if_neg (by omega)]
      · rw [if_neg (by omega), if_pos ⟨hslave, hplant⟩]
      · rw [if_neg (by omega), if_neg (fun h => hslave h.1)]

/-- Settles O44: messages leave at their intervals, and a message received takes effect where its row says. -/
theorem timeSyncAndTheDriveCycleFollowTheirMessages : Obligations.TimeSyncAndTheDriveCycleFollowTheirMessages := by
  refine ⟨fun p s => rfl, fun s htalks hruns => ?sends, fun p seq source at_ s hruns hlink => ?pdelay,
    fun p gm plantTime at_ s henabled hruns hlink => ⟨fun hslave => ?sync, fun hother => ?syncOther, fun a => ?announce⟩,
    fun t s => ?timeouts, fun t s => ⟨fun ht hpower => ?starts, fun ht => ?stops, fun ht hrun hpower => ?resumes⟩⟩
  case sends =>
    refine ⟨fun t ht => ?_, fun ht => ?_, fun ht => ?_, fun t ht => ?_⟩
    · show execDriveSyncSend s = _
      rw [execDriveSyncSend, if_pos ⟨htalks, hruns⟩, ht]
    · show execDriveSyncSend s = _
      rw [execDriveSyncSend, if_pos ⟨htalks, hruns⟩, ht]
    · show execAnnounceSend s = _
      rw [execAnnounceSend, if_pos ⟨htalks, hruns⟩, ht]
    · show execAnnounceSend s = _
      rw [execAnnounceSend, if_pos ⟨htalks, hruns⟩, ht]
  case pdelay =>
    intro u back domain stamp
    have hopen : ¬((!ptpRuns s) = true ∨ (!linkUp s p) = true) := by simp [hruns, hlink]
    have hdomain : domain = if p.val < 2 then fget u NET_PTP_CFG_DRV_DOMAIN else fget u NET_PTP_CFG_PLT_DOMAIN := apply_ite (fget u) _ _ _
    rw [show exec (.pdelayReqReceive p ⟨seq, source⟩ at_) s = execPdelayReqReceive p ⟨seq, source⟩ at_ s from rfl,
      execPdelayReqReceive, if_neg hopen, hdomain]
    refine ⟨fun hserves => congrArg Host.Outcome.next (if_neg ?_), fun hplant hdisabled =>
      congrArg Host.Outcome.next (if_pos ⟨hplant, by simp [hdisabled]⟩)⟩
    rintro ⟨hplant, hdisabled⟩
    rcases hserves with hdrive | henabled
    · omega
    · simp [henabled] at hdisabled
  case sync =>
    show execPlantSyncReceive p gm plantTime at_ s = _
    rw [execPlantSyncReceive, if_neg (by simp [hlink])]
    exact congrArg _ (if_pos ⟨henabled, hruns, hslave⟩)
  case syncOther =>
    show execPlantSyncReceive p gm plantTime at_ s = _
    rw [execPlantSyncReceive, if_neg (by simp [hlink])]
    exact congrArg _ (if_neg fun h => hother h.2.2)
  case announce =>
    intro u v
    have htakes := plantAnnounceReceive_takes (a := a) henabled hruns hlink
    refine ⟨fun hdomain hslave => ?_, fun hdomain hother hbetter => ?_, fun r hdomain hsome hother hrank hworse => ?_, fun hdomain => ?_⟩
    · rw [htakes hdomain, if_pos (.inl hslave), if_neg (not_not_intro hslave), decide_eq_false (not_not_intro hslave), Bool.not_false,
        Bool.and_true]
    · rw [htakes hdomain, if_pos ?_, if_pos hother, decide_eq_true hother, Bool.not_true, Bool.and_false]
      refine .inr (hbetter.imp_right fun hrank => ?_)
      cases hr : u.net.ptp.rank with
      | none => rfl
      | some r => exact decide_eq_true (hrank r hr)
    · rw [htakes hdomain, if_neg]
      rintro (h | h | h)
      · exact hother h
      · exact hsome h
      · rw [hrank] at h
        exact hworse (of_decide_eq_true h)
    · show execPlantAnnounceReceive p a s = _
      rw [execPlantAnnounceReceive, if_neg (by simp [hlink])]
      exact congrArg _ (if_neg fun h => hdomain h.2.2)
  case timeouts =>
    intro u
    refine ⟨fun h => ?_, fun h => ?_, fun h => ?_⟩
    · show execPlantSyncTimeout s = _
      rw [execPlantSyncTimeout, h]
      rfl
    · show execPlantSyncTimeout s = _
      rw [execPlantSyncTimeout, h]
      rfl
    · show execPlantSyncTimeout s = _
      rw [execPlantSyncTimeout, h]
  case starts =>
    show execDriveCycleStart s = _
    rw [execDriveCycleStart, ht]
    exact congrArg _ (if_pos hpower)
  case stops =>
    show execDriveCycleStop s = _
    rw [execDriveCycleStop, ht]
  case resumes =>
    show execDriveCycleResume s = _
    rw [execDriveCycleResume, ht]
    exact congrArg _ (if_pos ⟨hrun, hpower⟩)

end Sys2Proof.Machine
end

section
/-! PROOFS. Received frames: the rows of R172, R177 and R498. -/

namespace Sys2Proof.Machine

open Reg Claims

/-! ### A frame at a port -/

section
variable {p : Nat} {f : RxFrame} {flany : State → State} {s : State}

theorem receive_down (hlink : linkUp s p = false) : receive p f flany s = s := if_pos (by simp [hlink])

theorem receive_error (hlink : linkUp s p = true) (hfcs : f.fcsOk = false) :
    receive p f flany s = bump (NET_PORT_RX_ERR_COUNT p) 1 (advance f.at_ s) := by
  rw [receive, if_neg (by simp [hlink])]
  exact if_pos (by simp [hfcs])

theorem receive_nic (hlink : linkUp s p = true) (hfcs : f.fcsOk = true) (hflany : isFlany (advance f.at_ s) f = false) :
    receive p f flany s = nicReceive p f (bumpWrap (NET_PORT_RX_FRAMES_COUNT p) 1 (advance f.at_ s)) := by
  rw [receive, if_neg (by simp [hlink])]
  exact (if_neg (by simp [hfcs])).trans (if_neg (by simp [hflany]))

theorem receive_flany (hlink : linkUp s p = true) (hfcs : f.fcsOk = true) (hflany : isFlany (advance f.at_ s) f = true) :
    receive p f flany s = flany (advance f.at_ s) := by
  rw [receive, if_neg (by simp [hlink])]
  exact (if_neg (by simp [hfcs])).trans (if_pos hflany)

end

/-! ### Frames on drive ports -/

section
variable {p : Nat} {f : RxFrame} {s : State}

theorem flanyDrive_badHeader (h : headerBad f = true) :
    flanyDrive p f s = raise NET_EVENTS_HDR_ERR (bump (NET_PORT_FORM_ERR_HDR_ERR p) 1 s) := if_pos h

theorem flanyDrive_otherPair (h : headerBad f = false) (hpair : fPairId f ≠ fget s NET_PAIR_ID_PAIR_ID) :
    flanyDrive p f s = bump (NET_PORT_FORM_ERR_UNMATCHED p) 1 s := by
  rw [flanyDrive, if_neg (by simp [h])]
  exact if_pos hpair

theorem foreignSetpoint_of_other (h : fKind f ≠ kSetpoint) : foreignSetpoint f s = s := if_neg fun hs => h hs.1

/-- A frame of this pair that is no SETPOINT and of no higher epoch takes its own row, and nothing is reported behind it. -/
theorem flanyDrive_row (h : headerBad f = false) (hpair : fPairId f = fget s NET_PAIR_ID_PAIR_ID) (hkind : fKind f ≠ kSetpoint)
    (hepoch : fEpoch f ≤ epoch s) : flanyDrive p f s = match matchTpl s p f with
      | some (i, t) => judgeDrive p i t f s
      | none =>
        if fKind f ≠ 4 then bump (NET_PORT_FORM_ERR_UNMATCHED p) 1 s
        else if fEpoch f > epoch s then bump (NET_PORT_MISC_ERR_EPOCH_HIGH p) 1 s
        else mailboxResponse f (bumpWrap (NET_PORT_RX_FRAMES_COUNT p) 1 s) := by
  rw [flanyDrive, if_neg (by simp [h]), if_neg (not_not_intro hpair)]
  refine (if_neg (by simp [hepoch])).trans ?_
  rw [foreignSetpoint_of_other hkind] <;> rfl

theorem judgeDrive_fits {i : Nat} {t : Template} (hsize : sizeBad t f = false) (hepoch : fEpoch f ≤ epoch s) :
    judgeDrive p i t f s =
      let n := cycleAt s f.at_
      if fCycle f < n then bump (NET_PORT_SEQ_ERR_STALE p) 1 s
      else if fCycle f > n ∨ beforeGrid s f.at_ then bump (NET_PORT_MISC_ERR_FUTURE p) 1 s
      else if eliminated s i t f then secondCopy p i t n f s
      else if (tplRun s i).seen = n + 1 then bump (NET_PORT_SEQ_ERR_DUP p) 1 s
      else if !onTime s f n then
        log 4 .late i p (setTpl i (fun r => { r with late := r.late + 1 }) (raise NET_EVENTS_LATE (bump (NET_PORT_LATE_COUNT p) 1 s)))
      else writeTemplate i t n (fData f) (takeCopy p i t f (bumpWrap (NET_PORT_RX_FRAMES_COUNT p) 1 s)) := by
  unfold judgeDrive
  dsimp only
  rw [if_neg (by simp [hsize]), if_neg (Nat.not_lt.mpr hepoch)]

end

/-- A COLLECT frame that fits its template comes to the rows of its cycle. -/
theorem driveFrameReceive_collect {p : Fin 2} {i : Nat} {t : Template} {f : RxFrame} {s : State} (h : CollectArrives s p i t f) :
    exec (.driveFrameReceive p f) s = .next (judgeDrive p i t f (advance f.at_ s)) ∧
      sizeBad t f = false ∧ fEpoch f ≤ epoch (advance f.at_ s) := by
  obtain ⟨hlink, hfcs, hflany, hheader, hkind, hpair, hmatch, hsize, hepoch⟩ := h
  have hother : fKind f ≠ kSetpoint := by rw [hkind]; decide
  refine ⟨?_, hsize, hepoch⟩
  show execDriveFrameReceive p f s = _
  rw [execDriveFrameReceive, receive_flany hlink hfcs hflany, flanyDrive_row hheader hpair hother hepoch, hmatch]

/-- A fragment of a mailbox response that fits its rows comes to its transaction. -/
theorem mbxRspReceive_responds {p : Fin 2} {f : RxFrame} {s : State} (hlink : linkUp s p = true) (hfcs : f.fcsOk = true)
    (hflany : isFlany (advance f.at_ s) f = true) (hheader : headerBad f = false) (hkind : fKind f = 4)
    (hpair : fPairId f = fget (advance f.at_ s) NET_PAIR_ID_PAIR_ID) (hmatch : matchTpl (advance f.at_ s) p f = none)
    (hepoch : fEpoch f ≤ epoch (advance f.at_ s)) : exec (.mbxRspReceive p f) s =
      .next (mailboxResponse f (bumpWrap (NET_PORT_RX_FRAMES_COUNT p) 1 (advance f.at_ s))) := by
  show execMbxRspReceive p f s = _
  have hother : fKind f ≠ kSetpoint := by rw [hkind]; decide
  rw [execMbxRspReceive, if_pos hkind, receive_flany hlink hfcs hflany, flanyDrive_row hheader hpair hother hepoch, hmatch]
  dsimp only
  rw [if_neg (not_not_intro hkind), if_neg (Nat.not_lt.mpr hepoch)]

/-- The transaction that a fragment of a response names. -/
def asked (f : RxFrame) (m : Mailbox) : Bool :=
  m.sent.isSome ∧ m.dest = fSender f ∧ m.txn.toNat = beAt (fData f) 2 2 ∧ m.service = beAt (fData f) 4 1

theorem mailboxResponse_unasked {f : RxFrame} {s : State} (h : s.net.mailbox.find? (asked f) = none) : mailboxResponse f s = s := by
  unfold asked at h
  unfold mailboxResponse
  dsimp only
  rw [h]

/-- A fragment in its order joins those before it, and the last one ends the transaction. -/
theorem mailboxResponse_joins {f : RxFrame} {m : Mailbox} {s : State} (h : s.net.mailbox.find? (asked f) = some m)
    (hlength : 8 ≤ (fData f).length) (haddr : beAt (fData f) 0 2 = fget s NET_FLANY_CFG_CTRL_ADDR)
    (horder : beAt (fData f) 6 2 = m.response.length ∨ beAt (fData f) 6 2 = 0) : mailboxResponse f s =
      let all := ((if beAt (fData f) 6 2 = 0 then [] else m.response) ++ (fData f).drop 8).take 4096
      if fMore f then { s with net.mailbox := s.net.mailbox.map (fun x => if x = m then { x with response := all } else x) }
      else mailboxEnd m 0 (beAt (fData f) 5 1) (all.take m.job.d.bufLen) s := by
  unfold asked at h
  unfold mailboxResponse
  dsimp only
  rw [h]
  refine if_neg ?_
  rintro (hshort | hother | ⟨hgap, hbegun⟩)
  · exact absurd hlength (Nat.not_le.mpr hshort)
  · exact hother haddr
  · exact horder.elim hgap hbegun

/-! ### Frames on plant ports -/

/-- A PLANT_DATA frame of this pair comes to the rows of the coordinator. -/
theorem plantFrameReceive_judged {p : Fin 2} {f : RxFrame} {s : State} (hlink : linkUp s (p.val + 2) = true) (hfcs : f.fcsOk = true)
    (hflany : isFlany (advance f.at_ s) f = true) (hheader : headerBad f = false) (hkind : fKind f = kPlantData)
    (hpair : fPairId f = fget (advance f.at_ s) NET_PAIR_ID_PAIR_ID) :
    exec (.plantFrameReceive p f) s = .next (judgePlant (p.val + 2) f (advance f.at_ s)) := by
  have h7 : fKind f = 7 := hkind
  show execPlantFrameReceive p f s = _
  rw [execPlantFrameReceive, receive_flany hlink hfcs hflany, flanyPlant, if_neg (by simp [hheader]), if_neg (not_not_intro hpair),
    if_neg (by omega)]
  dsimp only
  rw [if_neg (by omega), if_neg (by omega)]

theorem judgePlant_otherSender {p : Nat} {f : RxFrame} {s : State} (h : fSender f ≠ fget s NET_PAIR_ID_COORD_ADDR) :
    judgePlant p f s = bump (NET_PORT_FORM_ERR_UNMATCHED p) 1 s := if_pos h

/-- A PLANT_DATA frame that fits its template is older than its coordinator's epoch, or is taken. -/
theorem judgePlant_fits {p i : Nat} {t : Template} {f : RxFrame} {s : State} (hkind : fKind f = kPlantData)
    (hsender : fSender f = fget s NET_PAIR_ID_COORD_ADDR) (hmatch : matchTpl s p f = some (i, t)) (hsize : sizeBad t f = false) :
    judgePlant p f s =
      if fEpoch f < s.net.coordEpoch then bump (NET_PORT_SEQ_ERR_STALE p) 1 s
      else
        let v := bumpWrap (NET_PORT_RX_FRAMES_COUNT p) 1 { s with net.coordEpoch := fEpoch f }
        if eliminated v i t f then secondCopy p i t (cycleAt v f.at_) f { s with net.coordEpoch := fEpoch f }
        else writeTemplate i t (cycleAt v f.at_) (fData f) (takeCopy p i t f v) := by
  have hsample : decide (fKind f = 6) = false := decide_eq_false (by rw [hkind]; decide)
  unfold judgePlant
  dsimp only
  rw [if_neg (not_not_intro hsender), hmatch, hsample, if_neg (by simp), if_neg (by simp [hsize])]

end Sys2Proof.Machine
end

section

namespace Sys2Proof.Machine

open Reg Claims

/-- Settles O45: the rows are judged in their order, and each clause names the one that decides. -/
theorem receivedFramesAreJudgedRowByRow : Obligations.ReceivedFramesAreJudgedRowByRow := by
  refine ⟨fun p f s hlink => congrArg _ (receive_down hlink), fun p f s hlink => ?drive, fun p i t f s harrives => ?collect,
    fun p f s => ⟨fun hkind => ?mbxDrive, fun hkind => ?mbxOther, ?mbx⟩, fun p f s hlink hfcs hflany hheader hkind hpair => ?plant,
    fun p i t n f s hfirst => if_neg hfirst, fun s => ⟨rfl, fun hcycle => ?cutoff⟩, fun t s hhistory => ?recovery,
    fun dest m s hm => ?retry, fun d s => ?commands⟩
  case drive =>
    refine ⟨fun hfcs => ?_, fun hfcs hflany => ?_, fun hfcs hflany hheader => ?_, fun hfcs hflany hheader hpair => ?_⟩
    · exact congrArg _ (receive_error hlink hfcs)
    · exact congrArg _ (receive_nic hlink hfcs hflany)
    · exact congrArg _ ((receive_flany hlink hfcs hflany).trans (flanyDrive_badHeader hheader))
    · exact congrArg _ ((receive_flany hlink hfcs hflany).trans (flanyDrive_otherPair hheader hpair))
  case collect =>
    intro u n early
    obtain ⟨hexec, hsize, hepoch⟩ := driveFrameReceive_collect harrives
    rw [hexec, judgeDrive_fits hsize hepoch]
    dsimp only
    refine ⟨fun hstale => congrArg _ (if_pos hstale), fun hcycle hearly => ?_, fun hcycle hearly => ⟨fun hcopy => ?_, fun hfresh hseen => ?_,
      fun hfresh hseen => ⟨fun hlate => ?_, fun htime => ?_⟩⟩⟩
    · rw [if_neg (Nat.not_lt.mpr hcycle), if_pos hearly]
    all_goals rw [if_neg (Nat.not_lt.mpr (Nat.le_of_eq hcycle.symm)), if_neg hearly]
    · rw [if_pos hcopy]
    all_goals rw [if_neg (ne_true_of_eq_false hfresh)]
    · rw [if_pos hseen]
    all_goals rw [if_neg hseen]
    · exact congrArg _ (if_pos (congrArg not hlate))
    · exact congrArg _ (if_neg (ne_true_of_eq_false (congrArg not htime)))
  case mbxDrive => exact congrArg _ (if_pos hkind)
  case mbxOther => exact congrArg _ (if_neg hkind)
  case mbx =>
    intro hlink hfcs hflany hheader hkind hpair hmatch hepoch v h asked
    rw [mbxRspReceive_responds hlink hfcs hflany hheader hkind hpair hmatch hepoch]
    refine ⟨fun hnone => congrArg _ (mailboxResponse_unasked hnone), fun m hm hlength haddr horder => ?_⟩
    intro all
    have hjoins := mailboxResponse_joins hm hlength haddr horder
    exact ⟨fun hmore => congrArg _ (hjoins.trans (if_pos hmore)),
      fun hlast => congrArg _ (hjoins.trans (if_neg (ne_true_of_eq_false hlast)))⟩
  case plant =>
    intro u
    rw [plantFrameReceive_judged hlink hfcs hflany hheader hkind hpair]
    refine ⟨fun hsender => congrArg _ (judgePlant_otherSender hsender), fun i t hsender hmatch hsize => ?_⟩
    rw [judgePlant_fits hkind hsender hmatch hsize]
    refine ⟨fun hold => congrArg _ (if_pos hold), fun hnew => ?_⟩
    intro v
    rw [if_neg (Nat.not_lt.mpr hnew)]
    exact ⟨fun hfresh => congrArg _ (if_neg (ne_true_of_eq_false hfresh)), fun hcopy => congrArg _ (if_pos hcopy)⟩
  case cutoff =>
    show execRxCutoff s = _
    rw [execRxCutoff, if_neg (by simp [hcycle])]
  case recovery =>
    show execFrerRecoveryReset t s = _
    rw [execFrerRecoveryReset, if_neg (by simpa using hhistory)]
  case retry =>
    intro u
    have hretry : exec (.mailboxRetry dest) s = .next (if m.tries < 2 then
        let again := { m with tries := m.tries + 1, sent := some u.now, response := [] }
        mailboxSend again { u with net.mailbox := u.net.mailbox.map (fun x => if x = m then again else x) }
      else mailboxEnd m 0x06 0 [] u) := by
      show execMailboxRetry dest s = _
      rw [execMailboxRetry, hm]
    exact ⟨fun hfew => hretry.trans (congrArg _ (if_pos hfew)), fun hmany => hretry.trans (congrArg _ (if_neg (Nat.not_lt.mpr hmany)))⟩
  case commands =>
    intro u
    refine ⟨fun h => ?_, fun h hfirst hsome => ?_, fun h => ?_, fun h hroom => ?_⟩
    · exact congrArg _ (command_of_unrefused h)
    · have hown : firstOf [(decide (paramN d 32 2 > 255 ∨ paramN d 34 2 = 0), 0x02, 0x0111)] = none := by
        rw [decide_eq_false (by omega)]
        rfl
      exact congrArg _ (command_of_unrefused (unrefused_of_own h hown))
    · exact congrArg _ (command_of_unrefused h)
    · have hown : firstOf [(decide (d.bufLen < 776), 0x02, 0x0111)] = none := by
        rw [decide_eq_false (by omega)]
        rfl
      exact congrArg _ (command_of_unrefused (unrefused_of_own h hown))

end Sys2Proof.Machine
end

section
/-! PROOFS. The pair: pairing, heartbeats, Hedge, shadows, transfers, takeover and handover (chapter 07). -/

namespace Sys2Proof.Machine

open Reg Claims

/-! ### HELLO -/

theorem helloReceive_judged {hello : Hello} {s : State} (h : fbit s RED_CFG_PAIR_EN = true) :
    exec (.helloReceive hello) s = .next (
      let u := fput RED_COMPAT_PEER_FMT hello.fmt { s with red.peer := some hello }
      if hello.pairId ≠ fget u NET_PAIR_ID_PAIR_ID ∨ hello.side = fget u RED_STATUS_SIDE then
        if seeks u then fput RED_STATUS_INCOMPAT 1 u else u
      else
        let v := seeEpoch hello.epoch u
        if !seeks v then v
        else if !formatsFit v hello then fput RED_STATUS_UNFIT_REASON 11 (fput RED_STATUS_INCOMPAT 1 v)
        else greet (fput RED_STATUS_INCOMPAT 0 { v with red.helloIn := some hello })) := by
  show execHelloReceive hello s = _
  rw [execHelloReceive, if_neg (by simp [h])]

theorem greet_meets {hello : Hello} {s : State} (hin : s.red.helloIn = some hello) (hout : s.red.helloOut = true)
    (hcode : hello.code ∈ [0, 1, 6]) (hmay : mayPair s = true) :
    greet s = if (mayAgree s).2 = true then meetPeer hello (mayAgree s).1 else (mayAgree s).1 := by
  rw [greet, hin]
  exact if_pos ⟨hout, hcode, hmay⟩

theorem greet_unsent {hello : Hello} {s : State} (hin : s.red.helloIn = some hello) (hout : s.red.helloOut = false) : greet s = s := by
  rw [greet, hin]
  exact if_neg fun h => ne_true_of_eq_false hout h.1

/-! ### Hedge lanes -/

/-- The field of a lane. -/
def laneField (lane : Fin 2) : Field := if lane = 0 then RED_STATUS_LANE0 else RED_STATUS_LANE1

theorem hedgeLaneChange_eq (lane : Fin 2) (up : Bool) (s : State) : exec (.hedgeLaneChange lane up) s = .next (
    let on := up && decide (power s < 2)
    let s1 := fput (laneField lane) (if on then 1 else 0) s
    if on ∨ !fbit s (laneField lane) then s1
    else
      let s2 := raise RED_EVENTS_LANE_DOWN s1
      if !hedgeUp s2 ∧ (pair s2 = 4 ∨ pair s2 = 5) then unfitNow 8 s2 else s2) := by
  match lane with
  | 0 => rfl
  | 1 => rfl

/-! ### Transfers -/

theorem transferLimit_of_instant {x : Xfer} (h : x.instant ≠ none ∨ x.qualified = none) : transferLimit x = x.started + secs 10 := by
  unfold transferLimit
  split
  next q hqualified hinstant => exact (h.elim (fun hi => hi hinstant) (fun hq => nomatch hqualified.symm.trans hq)).elim
  next => rfl

theorem transferQuiescentPoint_steps {x : Xfer} {s : State} (hx : s.red.xfer = some x) (hpair : pair s = 2) (hopen : x.instant = none) :
    exec .transferQuiescentPoint s = .next (transferStep x s) := by
  show execTransferQuiescentPoint s = _
  rw [execTransferQuiescentPoint, hx]
  exact congrArg _ (if_pos ⟨hpair, Option.isNone_iff_eq_none.mpr hopen⟩)

theorem transferStep_first {x : Xfer} {s : State} (h : x.sent = none) : transferStep x s =
    if x.zero then sendRound x 1 (allItems s ++ tableItems s) s else sendZero x s := by
  rw [transferStep, h]

theorem transferStep_dirty {x : Xfer} {s : State} {data live : Mem} (h : x.sent = some (data, live)) : transferStep x s =
    if x.qualified.isNone ∧ (dirtyItems s data live).length > 16384 then
      if x.round ≥ 16 then unfitNow 12 s else sendRound x (x.round + 1) (dirtyItems s data live ++ tableItems s) s
    else
      let y : Xfer := { x with qualified := some (x.qualified.getD s.now) }
      if quiescent s 32000 then
        mirrorWaiting (sendRound { y with instant := some s.now } (x.round + 1) (dirtyItems s data live ++ tableItems s) s)
      else { s with red.xfer := some y } := by
  rw [transferStep, h]

theorem takingOver_of_none {s : State} (h : s.red.takeover = none) : takingOver s = false := by
  simp [takingOver, h]

/-- A joiner keeps what it must take until its final round is installed. -/
theorem enqueueJoiner_waits {x : Queued} {s : State} (h : s.red.xfer.any (·.complete) = false) :
    enqueueJoiner x s = { s with red.queued := s.red.queued ++ [x] } := if_neg (ne_true_of_eq_false h)

/-! ### Digests -/

theorem digestTimeout_found {t : Fin 32} {inst : Nat} {m : Digest} {s : State}
    (h : pair s = 4 ∧ s.red.ownDigests.find? (fun m => m.task = t ∧ m.inst = inst) = some m ∨
      pair s = 5 ∧ s.red.takeover = none ∧ s.red.peerDigests.find? (fun m => m.task = t ∧ m.inst = inst) = some m) :
    (if pair s = 4 then s.red.ownDigests else if pair s = 5 ∧ !takingOver s then s.red.peerDigests else []).find?
      (fun m => m.task = t ∧ m.inst = inst) = some m := by
  rcases h with ⟨hpair, hfound⟩ | ⟨hpair, hidle, hfound⟩
  · rw [if_pos hpair]
    exact hfound
  · rw [if_neg (by omega), if_pos ⟨hpair, by rw [takingOver_of_none hidle]; rfl⟩]
    exact hfound

end Sys2Proof.Machine
end

section

namespace Sys2Proof.Machine

open Reg Claims

/-- Settles O46: each row's guard holds, and what it then does is written out. -/
theorem pairsMeetBeatAndDetectLoss : Obligations.PairsMeetBeatAndDetectLoss := by
  refine ⟨fun s hseeks => ?helloSend, fun hello s => ?helloReceive, fun hello s hin => ⟨greet_meets hin, greet_unsent hin⟩,
    fun s => ?pairWait, fun s hbeats => congrArg _ (if_pos hbeats), fun b at_ k s => ?heartbeat, fun t s => ?silence,
    fun lane s => ?lanes, fun raw at_ s => ?frame, fun seq x s hx => ?unacked⟩
  case helloSend =>
    intro u v m
    have hsends : exec .helloSend s = .next (if hedgeUp v then greet (emit (.hedge m (hedgeFrame 2 false 0 v.red.rxSeq (epoch v) 0 0
        (hedgePayload m))) { v with red.helloOut := true }) else v) := congrArg _ (if_pos hseeks)
    exact ⟨fun hup => hsends.trans (congrArg _ (if_pos hup)), fun hdown => hsends.trans (congrArg _ (if_neg (ne_true_of_eq_false hdown)))⟩
  case helloReceive =>
    intro u foreign v w
    refine ⟨fun hoff => congrArg _ (if_pos (congrArg not hoff)), fun hon hforeign hseeks => ?_, fun hon hown hseeks => ?_⟩
    · rw [helloReceive_judged hon]
      exact congrArg _ ((if_pos hforeign).trans (if_pos hseeks))
    · have hown : exec (.helloReceive hello) s = .next (if !formatsFit v hello then fput RED_STATUS_UNFIT_REASON 11 (fput RED_STATUS_INCOMPAT 1 v)
          else greet w) := by
        rw [helloReceive_judged hon]
        exact congrArg _ ((if_neg hown).trans (if_neg (ne_true_of_eq_false (congrArg not hseeks))))
      exact ⟨fun hfit => hown.trans (congrArg _ (if_pos (congrArg not hfit))),
        fun hfit => hown.trans (congrArg _ (if_neg (ne_true_of_eq_false (congrArg not hfit))))⟩
  case pairWait =>
    intro u hpair henabled hpaired hparked hheld
    exact congrArg _ (if_pos ⟨hpair, henabled, congrArg not hpaired, congrArg not hparked, congrArg not hheld⟩)
  case heartbeat =>
    intro counted foreign a o heard u w
    exact ⟨fun h => congrArg _ (if_pos h), fun h => congrArg _ (if_pos h), fun h => congrArg _ (if_neg h), fun h => congrArg _ (if_neg h)⟩
  case silence =>
    refine ⟨fun hlast hup => ?_, fun hlast hup => ?_, fun hheard hlost hbeats => ?_⟩
    · show execPathLossTimeout false s = _
      rw [execPathLossTimeout, if_neg (by decide), hlast]
      exact congrArg _ (if_pos hup)
    · show execPathLossTimeout true s = _
      rw [execPathLossTimeout, if_pos rfl, hlast]
      exact congrArg _ (if_pos hup)
    · exact congrArg _ (if_pos ⟨hheard.imp Option.isSome_iff_ne_none.mpr Option.isSome_iff_ne_none.mpr, congrArg not hlost, hbeats⟩)
  case lanes =>
    intro f u
    refine ⟨fun hpower => ?_, fun up hdown => ?_⟩
    · rw [hedgeLaneChange_eq, Bool.true_and, decide_eq_true hpower]
      rfl
    · have hoff : (up && decide (power s < 2)) = false := by
        rcases hdown with h | h
        · rw [h, Bool.false_and]
        · rw [decide_eq_false (Nat.not_lt.mpr h), Bool.and_false]
      rw [hedgeLaneChange_eq, hoff]
      refine ⟨fun hwas => ?_, fun hwas hup => ?_, fun hwas hnone hpair => ?_⟩
      · exact congrArg _ (if_pos (.inr (congrArg not hwas)))
      all_goals
        have hchanged : ¬(false = true ∨ (!fbit s (laneField lane)) = true) := by
          rw [show fbit s (laneField lane) = true from hwas]
          decide
      · exact congrArg _ ((if_neg hchanged).trans (if_neg fun h => ne_true_of_eq_false (congrArg not hup) h.1))
      · exact congrArg _ ((if_neg hchanged).trans (if_pos ⟨congrArg not hnone, hpair⟩))
  case frame =>
    intro u v w
    refine ⟨fun hbad => congrArg _ (if_pos hbad), fun hgood htype => ?_, fun hgood htype => ?_⟩
    · exact congrArg _ ((if_neg (ne_true_of_eq_false hgood)).trans (if_pos htype))
    · exact congrArg _ ((if_neg (ne_true_of_eq_false hgood)).trans (if_neg (Nat.not_le.mpr htype)))
  case unacked =>
    intro u
    constructor
    · show execHedgeRepeat seq s = _
      rw [execHedgeRepeat, hx]
    · show execHedgeAckTimeout seq s = _
      rw [execHedgeAckTimeout, hx]

/-- Settles O47: mirror traffic is accepted in its codes, and a transfer goes on by its rounds. -/
theorem shadowsFollowTheirActiveAndTransfersRun : Obligations.ShadowsFollowTheirActiveAndTransfersRun := by
  refine ⟨fun m s => ?snapshot, fun t at_ s hpair hidle => ?snapshotTimeout, fun m s htwin htaking => ?digest,
    fun t inst m s hfound => ?digestTimeout, fun reason s => ?unfit, fun x s hx => ?transfer, fun items s hpair hxfer => ?state,
    fun op d cycle s hpair hidle => ?mirror, fun op d cycle s hpair hopen => ?joins⟩
  case snapshot =>
    intro u v waits
    refine ⟨fun hpair hidle => ?_, fun hpair hopen => ?_, fun h3 h5 => ?_⟩
    · exact congrArg _ (if_pos ⟨hpair, Option.isNone_iff_eq_none.mpr hidle⟩)
    · have hnot : ¬(pair s = 5 ∧ s.red.takeover.isNone = true) := by omega
      exact congrArg _ ((if_neg hnot).trans ((if_pos hpair).trans (enqueueJoiner_waits (x := .snap m) (s := u) hopen)))
    · exact congrArg _ ((if_neg fun h => h5 h.1).trans (if_neg h3))
  case snapshotTimeout =>
    refine ⟨fun hold => ?_, fun x hx hnew => ?_⟩
    · refine congrArg _ (if_pos ⟨hpair, Option.isNone_iff_eq_none.mpr hidle, ?_⟩)
      cases hx : look s.red.mirrored t with
      | none => rfl
      | some x => simp [hold x hx]
    · refine congrArg _ (if_neg fun h => ?_)
      obtain ⟨-, -, hmissing⟩ := h
      simp [hx, hnew] at hmissing
  case digest => exact congrArg _ (if_pos ⟨htwin, congrArg not htaking⟩)
  case digestTimeout =>
    show execDigestTimeout t inst s = _
    rw [execDigestTimeout]
    dsimp only
    rw [digestTimeout_found hfound]
  case unfit =>
    refine ⟨fun htaking => congrArg _ (if_pos htaking), fun htaking hcrossed => ?_, fun htaking hcrossed hpair => ?_,
      fun htaking hcrossed hpair => ?_⟩
    all_goals refine congrArg _ ((if_neg (ne_true_of_eq_false htaking)).trans ?_)
    · exact if_pos hcrossed
    · exact (if_neg (ne_true_of_eq_false hcrossed)).trans (if_pos hpair)
    · exact (if_neg (ne_true_of_eq_false hcrossed)).trans ((if_neg (by omega)).trans (if_pos hpair))
  case transfer =>
    refine ⟨fun hpair hopen hsent hzero => ?_, fun hpair hopen hsent hzero => ?_, fun data live hpair hopen hsent => ?_,
      fun hpair => ⟨?_, transferLimit_of_instant, fun q hopen hqualified => ?_⟩, fun hpair hinstant => ?_, ?_⟩
    · rw [transferQuiescentPoint_steps hx hpair hopen, transferStep_first hsent]
      exact congrArg _ (if_neg (ne_true_of_eq_false hzero))
    · rw [transferQuiescentPoint_steps hx hpair hopen, transferStep_first hsent]
      exact congrArg _ (if_pos hzero)
    · intro dirty y
      rw [transferQuiescentPoint_steps hx hpair hopen, transferStep_dirty hsent]
      refine ⟨fun hfirst hmany hround => ?_, fun hfirst hmany hround => ?_, fun hlast => ?_⟩
      · exact congrArg _ ((if_pos ⟨Option.isNone_iff_eq_none.mpr hfirst, hmany⟩).trans (if_neg (Nat.not_le.mpr hround)))
      · exact congrArg _ ((if_pos ⟨Option.isNone_iff_eq_none.mpr hfirst, hmany⟩).trans (if_pos hround))
      · refine congrArg _ (if_neg fun h => ?_)
        obtain ⟨hfirst, hmany⟩ := h
        exact hlast.elim (fun hq => hq (Option.isNone_iff_eq_none.mp hfirst)) (Nat.not_le.mpr hmany)
    · show execTransferTimeout s = _
      rw [execTransferTimeout, hx]
      exact congrArg _ (if_pos hpair)
    · rw [transferLimit, hqualified, hopen]
    · show execTransferComplete s = _
      rw [execTransferComplete, hx]
      exact congrArg _ (if_pos ⟨hpair, Option.isSome_iff_ne_none.mpr hinstant⟩)
    · intro v hpair
      show execTransferComplete s = _
      rw [execTransferComplete, hx]
      exact congrArg _ ((if_neg (by omega)).trans (if_pos hpair))
  case state =>
    have hstays : ¬(pair s = 1 ∧ fbit s RED_CFG_PAIR_EN = true ∧ fbit s RED_STATUS_PARKED = true ∧ mayPair s = true ∧
        s.red.peer.any (formatsFit s) = true) := by omega
    show execStateMessageReceive items s = _
    rw [execStateMessageReceive, if_neg hstays]
    exact congrArg _ (if_pos ⟨hpair, Option.isSome_iff_ne_none.mpr hxfer⟩)
  case mirror =>
    have hcode : pair s = 5 ∧ s.red.takeover.isNone = true := ⟨hpair, Option.isNone_iff_eq_none.mpr hidle⟩
    exact ⟨fun hlate => congrArg _ ((if_pos hcode).trans (if_pos hlate)),
      fun hlate => congrArg _ ((if_pos hcode).trans (if_neg (ne_true_of_eq_false hlate)))⟩
  case joins =>
    have hnot : ¬(pair s = 5 ∧ s.red.takeover.isNone = true) := by omega
    exact congrArg _ ((if_neg hnot).trans ((if_pos hpair).trans (enqueueJoiner_waits hopen)))

/-- Settles O48: the active role moves at a boundary, and the commands that ask for it are judged before. -/
theorem takeoverAndHandoverMoveTheActiveRole : Obligations.TakeoverAndHandoverMoveTheActiveRole := by
  refine ⟨fun t s hpair ht => ?takeover, fun s hidle hsent hactive => ?faulty, fun h s => ?receive, fun x s hx => ?boundary, fun d s => ?commands⟩
  case takeover =>
    show execTakeoverBoundary s = _
    rw [execTakeoverBoundary, ht]
    exact congrArg _ (if_pos hpair)
  case faulty =>
    show execTakeoverBoundary s = _
    rw [execTakeoverBoundary, hidle]
    exact congrArg _ (if_pos ⟨hsent, congrArg not hactive⟩)
  case receive =>
    refine ⟨fun hpair hidle hfit a b => ?_, fun hunfit a b => ?_, fun x status reason hx hsource => ⟨?_, fun jb hjob => ?_⟩⟩
    · exact congrArg _ (if_pos ⟨hpair, Option.isNone_iff_eq_none.mpr hidle, hfit⟩)
    · refine congrArg _ (if_neg fun hready => ?_)
      obtain ⟨hpair, hidle, hfit⟩ := hready
      rcases hunfit with h | h | h
      · exact h hpair
      · exact h (Option.isNone_iff_eq_none.mp hidle)
      · exact ne_true_of_eq_false h hfit
    · show execHandoverReceive .acceptance h status reason s = _
      rw [execHandoverReceive, hx, Option.map_some, if_pos hsource]
    · show execHandoverReceive .refusal h status reason s = _
      rw [execHandoverReceive, hx]
      dsimp only
      rw [hjob]
  case boundary =>
    intro u
    refine ⟨fun t ht => ?_, fun hidle => ?_⟩
    · show execHandoverOutputRelease s = _
      rw [execHandoverOutputRelease, hx]
      dsimp only
      rw [ht]
    · have hopen : ¬x.outputsAt.isSome = true := by rw [hidle]; decide
      rw [show exec .handoverBoundary s = execHandoverBoundary s from rfl, execHandoverBoundary, hx]
      dsimp only
      rw [if_neg hopen]
      refine ⟨fun jb haccepted hjob => ?_, fun jb r haccepted hsource hpair hagain hjob => ?_, fun haccepted hsource hpair hagain => ?_,
        fun haccepted hsource hpair => ?_⟩
      · rw [if_pos ((Bool.not_eq_true' _).mpr haccepted), hjob]
      all_goals rw [if_neg (ne_true_of_eq_false ((Bool.not_eq_false' _).mpr haccepted))]
      · rw [if_pos ⟨hsource, hpair⟩, hagain, hjob]
      · rw [if_pos ⟨hsource, hpair⟩, hagain]
        rfl
      · rw [if_neg (by omega), if_pos ⟨(Bool.not_eq_true' _).mpr hsource, hpair⟩]
  case commands =>
    intro u n a b v
    refine ⟨fun h => ?_, fun h henabled hpair hpeer hjob => ?_, fun h hlow hhigh => ?_, fun h => ?_⟩
    · exact congrArg _ (command_of_unrefused h)
    · have hown : firstOf [(decide ((!fbit u RED_CFG_PAIR_EN) = true ∨ (pair u ≠ 1 ∧ pair u ≠ 6) ∨ u.red.peer.isNone = true), 0x01, 0x0004),
          (u.red.resyncJob.isSome, 0x08, 0)] = none := by
        have hseeks : ¬((!fbit u RED_CFG_PAIR_EN) = true ∨ (pair u ≠ 1 ∧ pair u ≠ 6) ∨ u.red.peer.isNone = true) := by
          rw [henabled, Option.isNone_iff_eq_none]
          rintro (h | h | h)
          · cases h
          · omega
          · exact hpeer h
        rw [decide_eq_false hseeks, hjob]
        rfl
      exact congrArg _ (command_of_unrefused (unrefused_of_own h hown))
    · have hown : firstOf [(decide (pair u < 2 ∨ pair u > 5), 0x01, 0x0004)] = none := by
        rw [decide_eq_false (by omega)]
        rfl
      exact congrArg _ (command_of_unrefused (unrefused_of_own h hown))
    · exact congrArg _ (command_of_unrefused h)

end Sys2Proof.Machine
end

section
/-! PROOFS. Field channels and loop transmitters. -/

namespace Sys2Proof.Machine

open Reg Claims

/-! ### Field channels -/

/-- An output stage whose command is 1 is on (R274). -/
theorem stageOn_of_level {s : State} {n : Nat} (hmode : chMode s n = 2 ∨ chMode s n = 5)
    (hlevel : (fget s FIO_OUTPUT_LEVEL).testBit n = true) : stageOn s n = true := decide_eq_true ⟨hmode, hlevel⟩

/-- A fault other than EXT_HIGH is flagged, counted and reported. -/
theorem setFault_of_ne {n bit : Nat} {f : Field} {s : State} (hbit : bit ≠ 5) : setFault n bit f s = flagged n bit f s := if_neg hbit

/-- The stage of a channel whose condition opens its switch, before the gang follows. -/
def openedStage (n bit : Nat) (f : Field) (s : State) : State :=
  setChan n (fun c => { c with opened := true, openedAt := s.now }) (flagged n bit f s)

theorem openSwitch_eq {n bit : Nat} {f : Field} {s : State} (hbit : bit ≠ 5) :
    openSwitch n bit f s = redriveGang n (
      if fbit s (FIO_CH_CFG_OVL_LATCH (leadOf s n)) then
        forEach (gangOf s (leadOf s n)) (openedStage n bit f s) fun m u => fput (FIO_CH_STAT_LATCHED m) 1 u
      else openedStage n bit f s) := by
  simp only [openSwitch, openedStage, setFault_of_ne hbit]

/-- A group's SAFE_TIMEOUT counts while the island is silent, has a time, and the group is not safe yet (R286). -/
theorem fieldSafeTimeout_idle {g : Fin 4} {t : Nat} {s : State} (ht : look s.fio.timeouts g = some t)
    (h : t = 0xFFFF ∨ s.fio.safeLatched.getLsbD g = true) : exec (.fieldSafeTimeout g) s = .next s := by
  show execFieldSafeTimeout g s = _
  rw [execFieldSafeTimeout, lookD, ht]
  refine congrArg _ (if_neg ?_)
  rintro ⟨-, htime, hfree⟩
  rcases h with h | h
  · exact htime h
  · rw [h] at hfree
    exact absurd hfree (by decide)

/-! ### Commands whose own checks leave a trace -/

section
variable {k : Card} {d : Desc} {own : State → Option (Nat × Nat)} {s : State}

/-- What nothing refuses passes the common checks, and its own. -/
theorem gate_of_unrefused (h : Unrefused k d own s) : gate k d (openSlot d s) = none ∧ own (openSlot d s) = none := by
  obtain ⟨hchecks, hbuffer⟩ := h
  unfold refusalOf at hchecks
  split at hchecks
  case h_1 => cases hchecks
  case h_2 hgate => exact ⟨hgate, by rwa [hbuffer] at hchecks⟩

/-- A row whose further checks pass too is not refused. -/
theorem unrefused_with {more : State → Option (Nat × Nat)} (h : Unrefused k d own s) (hmore : more (openSlot d s) = none) :
    Unrefused k d more s := by
  obtain ⟨hgate, -⟩ := gate_of_unrefused h
  refine ⟨?_, h.2⟩
  rw [refusalOf, hgate]
  exact (congrArg (ite _ none) hmore).trans (ite_self _)

theorem judged_of_unrefusedBefore {note : Nat × Nat → State → State} {effect : State → State} (h : UnrefusedBefore k d own s) :
    judged k d own note effect s = effect (openSlot d s) := by
  obtain ⟨hbefore, hchecks, hbuffer⟩ := h
  rw [judged, hbefore]
  exact command_of_unrefused ⟨hchecks, hbuffer⟩

theorem unrefusedBefore_of_own (h : UnrefusedBefore k d (fun _ => none) s) (hown : own s = none) : UnrefusedBefore k d own s := by
  obtain ⟨hbefore, hchecks, hbuffer⟩ := h
  refine ⟨?_, by simpa only [hown] using hchecks, hbuffer⟩
  unfold refusalOf at hbefore ⊢
  split at hbefore
  · cases hbefore
  · rw [hown, ite_self]

end

/-! ### Loop transmitters -/

theorem loop_openSlot (d : Desc) (s : State) (x : Nat) : loop (openSlot d s) x = loop s x := by
  unfold openSlot
  split <;> rfl

/-- A parsed request carries the token and the time that it was given. -/
theorem hartParse_token {bs : List Byte} {token : Half} {at_ : Nat} {r : HartReq} (h : hartParse bs token at_ = some r) :
    r.token = token ∧ r.at_ = at_ := by
  simp only [hartParse, Option.ite_none_right_eq_some, Option.some.injEq] at h
  obtain ⟨-, rfl⟩ := h
  exact ⟨rfl, rfl⟩

/-- An accepted request carries the transmitter's next token and the time at which it came. -/
theorem hartAccepts_token {s : State} {x : Nat} {f : HartFrame} {r : HartReq} (h : hartAccepts s x f = some r) :
    r.token = (loop s x).nextToken ∧ r.at_ = s.now := by
  obtain ⟨-, hfiltered⟩ := Option.ite_none_right_eq_some.mp h
  exact hartParse_token (Option.filter_eq_some_iff.mp hfiltered).1

/-- A step of the trim whose own conditions are met takes its effect. -/
theorem trimStep_takes {d : Desc} {bad : State → Bool} {effect : State → State} {s : State} (h : Unrefused trimCard d (fun _ => none) s)
    (hx : param d 32 ≤ 1) (hstep : param d 33 ≤ 3) (hbad : bad (openSlot d s) = false) :
    trimStep d bad (fun _ => none) effect s = effect (openSlot d s) := by
  refine command_of_unrefused (unrefused_of_own h ?_)
  rw [hbad, Bool.and_false, decide_eq_false (by omega)]
  rfl

end Sys2Proof.Machine
end

section
namespace Sys2Proof.Machine

open Reg Claims

/-- Settles O49: a sample takes every channel, and a fault acts on the stage that has it and on its gang. -/
theorem fieldInputsAndFaultsAreTaken : Obligations.FieldInputsAndFaultsAreTaken := by
  refine ⟨fun s hon hidle hup => ?sample, fun f s hf => ?record, fun ch level at_ s => ?level, fun ch s hin => ⟨fun hfilter hnew => ?debounce, fun hdet => ?wire⟩,
    fun ch s => ?cleared, fun ch s hmode => ?faults, fun ch s hopen hlatch hcmd => ?retry⟩
  case sample =>
    intro n u
    have hframe : ¬(u.fio.inFrame.isSome = true ∨ u.fio.powerUp = true) := by
      show ¬(s.fio.inFrame.isSome = true ∨ s.fio.powerUp = true)
      rw [hidle, hup]
      decide
    show execFieldSample s = _
    rw [execFieldSample, if_neg (ne_true_of_eq_false hon)]
    dsimp only
    rw [if_neg hframe, if_neg (show ¬u.fio.powerUp = true from ne_true_of_eq_false hup)]
  case record =>
    constructor
    · show execFieldInputRecordWrite true s = _
      rw [execFieldInputRecordWrite, hf]
      rfl
    · show execFieldInputRecordWrite false s = _
      rw [execFieldInputRecordWrite, hf]
      rfl
  case level =>
    intro v u
    refine ⟨fun hterminal => ⟨fun hin hfilter => ?_, fun hout => ?_⟩, fun hterminal => congrArg _ (if_pos hterminal)⟩
    · exact congrArg _ ((if_neg (ne_true_of_eq_false hterminal)).trans (if_pos ⟨hin, hfilter⟩))
    · refine congrArg _ ((if_neg (ne_true_of_eq_false hterminal)).trans (if_neg ?_))
      rintro ⟨hin, hfilter⟩
      exact hout.elim (fun h => ne_true_of_eq_false h hin) (fun h => h hfilter)
  case debounce => exact congrArg _ (if_pos ⟨hin, hfilter, hnew⟩)
  case wire =>
    exact (congrArg Host.Outcome.next (if_pos ⟨hin, hdet⟩)).trans (by rw [setFault_of_ne (by decide)])
  case cleared => rfl
  case faults =>
    intro l opened latched
    refine ⟨fun hlevel => ?_, fun hlevel => ?_⟩
    · have hon : stageOn s ch = true := stageOn_of_level hmode hlevel
      have hover : exec (.overloadDetect ch) s = .next (openSwitch ch 3 (FIO_CH_STAT_OVERLOAD ch) s) := congrArg _ (if_pos hon)
      have hthermal : exec (.thermalShutdown ch) s = .next (openSwitch ch 4 (FIO_CH_STAT_THERMAL ch) s) := congrArg _ (if_pos hon)
      have hshort : exec (.shortDetect ch) s = .next (setChan ch (fun c => { c with term := some false }) (setFault ch 6 (FIO_CH_STAT_SHORT ch) s)) :=
        congrArg _ (if_pos hon)
      have hload : exec (.openLoadDetect ch) s = .next (setFault ch 2 (FIO_CH_STAT_OPEN_LOAD ch) s) := congrArg _ (if_pos hon)
      rw [hover, hthermal, hshort, hload, setFault_of_ne (by decide), setFault_of_ne (by decide),
        openSwitch_eq (by decide), openSwitch_eq (by decide)]
      refine ⟨rfl, rfl, fun hlatch => ⟨?_, ?_⟩, fun hlatch => ⟨?_, ?_⟩⟩
      · rw [if_pos hlatch]
        rfl
      · rw [if_pos hlatch]
        rfl
      · rw [if_neg (ne_true_of_eq_false hlatch)]
        rfl
      · rw [if_neg (ne_true_of_eq_false hlatch)]
        rfl
    · exact congrArg _ (if_pos ⟨hmode, congrArg not hlevel⟩)
  case retry => exact congrArg _ (if_pos ⟨hopen, congrArg not hlatch, hcmd⟩)

/-- Settles O50: frames, silence and the commands of the field act on the island. -/
theorem fieldOutputsFollowTheirFramesAndGoSafe : Obligations.FieldOutputsFollowTheirFramesAndGoSafe := by
  refine ⟨fun s hidle hup hon => ?refresh, fun w s hframe hup => ?receive, fun s hloud hup => ?silence, fun g t s hsilent ht => ?safe,
    fun a b c d s => ?supply, fun d s => ?commands, fun x s => ?apply⟩
  case refresh => exact congrArg _ (if_neg (by simp [hidle, hup, hon]))
  case receive =>
    intro u follow
    constructor
    · show execIslandOutputFrameReceive true s = _
      rw [execIslandOutputFrameReceive, hframe]
      dsimp only
      rw [if_neg (by decide : ¬(!true) = true), if_neg (show ¬u.fio.powerUp = true from ne_true_of_eq_false hup)]
    · show execIslandOutputFrameReceive false s = _
      rw [execIslandOutputFrameReceive, hframe]
      rfl
  case silence => exact congrArg _ (if_neg (by simp [hloud, hup]))
  case safe =>
    intro u v
    refine ⟨fun htime hfree => ?_, fieldSafeTimeout_idle ht⟩
    show execFieldSafeTimeout g s = _
    rw [execFieldSafeTimeout, lookD, ht]
    exact congrArg _ (if_pos ⟨hsilent, htime, congrArg not hfree⟩)
  case supply =>
    intro t
    show execGroupSupplyMeasure a b c d s = _
    rw [execGroupSupplyMeasure]
    cases hm : s.fio.measAt <;> simp only [t, hm] <;> rfl
  case commands =>
    intro u
    refine ⟨fun h => congrArg _ (command_of_unrefused h), fun h hrun hgroups => ?_, fun h => congrArg _ (command_of_unrefused h)⟩
    have hown : firstOf [(decide (ctl u ≠ 3), 0x01, 0x0010), (decide (param d 32 > 15), 0x02, 0x0111)] = none := by
      rw [decide_eq_false (not_not_intro hrun), decide_eq_false (by omega)]
      rfl
    exact congrArg _ (command_of_unrefused (unrefused_of_own h hown))
  case apply =>
    intro u groups v
    refine ⟨fun h => congrArg _ (deferredRow_takes h rfl), fun h hrun => ?_, fun h hrun => ?_⟩
    · exact congrArg _ (deferredRow_takes h (if_neg (not_not_intro hrun)))
    · exact congrArg _ (deferredRow_aborts h (if_pos hrun))

/-- Settles O51: a transmitter follows its link, its faults and its requests, and the trim goes step by step. -/
theorem loopsFollowTheirFramesFaultsAndTrims : Obligations.LoopsFollowTheirFramesFaultsAndTrims := by
  refine ⟨fun x s hidle hup hon => ?refresh, fun x w s hframe hpower hup => ?receive, fun x s => ?link, fun x s => ?faults, fun x f s => ?hart,
    fun x r s hreq => ?busy, fun x t s ht => ?idle, fun d s => ?commands⟩
  case refresh => exact congrArg _ (if_neg (by simp [hidle, hup, hon]))
  case receive =>
    have hlive : ¬((!(loop s x).powered) = true ∨ (loop s x).powerUp = true) := by rw [hpower, hup]; decide
    constructor
    · show execLoopFrameReceive x true s = _
      rw [execLoopFrameReceive, hframe]
      exact congrArg _ (if_neg hlive)
    · show execLoopFrameReceive x false s = _
      rw [execLoopFrameReceive, hframe]
      exact congrArg _ (if_neg hlive)
  case link =>
    intro l timeout held at_ conv
    refine ⟨fun hloud hpower hup => ?_, fun hpower hup htime hfirst => ?_, fun hlink => congrArg _ (if_pos hlink), fun hpower hup hon na mv => ⟨?_, ?_⟩⟩
    · have hsounds : ¬(l.silent = true ∨ (!l.powered) = true ∨ l.powerUp = true) := by rw [hloud, hpower, hup]; decide
      exact congrArg _ (if_neg hsounds)
    · exact congrArg _ (if_pos ⟨hpower, congrArg not hup, htime, congrArg not hfirst⟩)
    all_goals
      have hlive : ¬((!(loop s x).powered) = true ∨ (loop s x).powerUp = true ∨ logicOff s = true) := by
        rw [show (loop s x).powered = true from hpower, show (loop s x).powerUp = false from hup, hon]
        decide
    · exact congrArg _ (if_neg hlive)
    · exact congrArg _ (if_neg hlive)
  case faults =>
    refine ⟨rfl, fun t ht => ?_, rfl, fun hpower => ⟨congrArg _ (if_pos hpower), congrArg _ (if_pos hpower)⟩, fun t ht hcompares hstood => ?_, ?power⟩
    · show execReadbackDevClear x s = _
      rw [execReadbackDevClear, ht]
    · show execReadbackDevDetect x s = _
      rw [execReadbackDevDetect, ht]
      exact congrArg _ (if_pos ⟨hcompares, hstood⟩)
    case power =>
      intro u w v failed
      refine ⟨fun hboot => congrArg _ (if_neg hboot), fun hboot hfail => ?_, fun hboot hload => ?_⟩
      · exact congrArg _ ((if_pos hboot).trans (if_pos hfail))
      · refine congrArg _ ((if_pos hboot).trans ((if_neg (ne_true_of_eq_false hload)).trans ?_))
        simp only [Bool.not_eq_true']
        rfl
  case hart =>
    intro u
    refine ⟨fun r hr => ?_, fun hnone => ?_⟩
    · obtain ⟨htoken, htime⟩ := hartAccepts_token hr
      refine ⟨htoken, htime, fun hactive => ?_, fun hstandby => ?_⟩
      · show execHartRequestReceive x f s = _
        rw [execHartRequestReceive]
        dsimp only
        rw [hr]
        exact congrArg _ (if_neg (ne_true_of_eq_false hactive))
      · show execHartRequestReceive x f s = _
        rw [execHartRequestReceive]
        dsimp only
        rw [hr]
        exact congrArg _ (if_pos hstandby)
    · show execHartRequestReceive x f s = _
      rw [execHartRequestReceive]
      dsimp only
      rw [hnone]
  case busy =>
    show execHartReplyTimeout x s = _
    rw [execHartReplyTimeout, hreq]
  case idle =>
    show execTrimIdleTimeout x s = _
    rw [execTrimIdleTimeout, ht]
  case commands =>
    intro u x na begun
    refine ⟨fun h => congrArg _ (command_of_unrefused h), fun h htime => ?reply, fun h hx => ⟨fun hstep hidle hwired => ?start, fun t hstep ht hstage => ?point,
      fun t hstep ht => ?cancel⟩, fun t h hx hstep ht hstage hrange => ?store, fun h hx => ?read⟩
    case reply =>
      have hown : (tokenCheck d u).or (if (loop u x).req.any (fun r => u.now > r.at_ + msec 200) then some (0x06, 0) else none) = none := by
        rw [(gate_of_unrefused h).2, htime]
        rfl
      exact congrArg _ (command_of_unrefused (unrefused_with h hown))
    case start =>
      have hbad : ((trimOf_ u d).isSome || (loop u x).miswire) = false := by rw [trimOf_, hidle, hwired]; rfl
      exact congrArg _ ((if_pos hstep).trans (trimStep_takes h hx (by omega) hbad))
    case point =>
      have hbad : (!(trimOf_ u d).any (fun t => t.stage = 1 ∨ t.stage = 2)) = false := by
        rw [trimOf_, ht, Option.any_some, decide_eq_true hstage]
        rfl
      exact congrArg _ ((if_pos hstep).trans (trimStep_takes h hx (by omega) hbad))
    case cancel =>
      have hbad : decide (param d 33 = 3 ∧ (trimOf_ u d).isNone = true) = false := decide_eq_false (by rw [trimOf_, ht]; simp)
      exact congrArg _ ((if_pos (by omega)).trans (trimStep_takes h hx (by omega) hbad))
    case store =>
      have hown : firstOf [(decide (param d 32 ≤ 1) && !(trimOf_ s d).any (fun t => t.stage = 3), 0x01, 0x0015),
          (decide (param d 32 > 1), 0x02, 0x0111), (!(trimOf_ s d).any trimInRange, 0x05, 0x0214)] = none := by
        rw [trimOf_, ht, Option.any_some, Option.any_some, decide_eq_true hstage, hrange, decide_eq_false (show ¬param d 32 > 1 by omega), Bool.not_true, Bool.and_false]
        rfl
      intro a
      have hkept : trimOf_ u d = some t := (congrArg Loop.trim (loop_openSlot d s (param d 32))).trans ht
      refine congrArg _ ((if_pos hstep).trans ((judged_of_unrefusedBefore (unrefusedBefore_of_own h hown)).trans ?_))
      dsimp only
      rw [hkept]
    case read =>
      have hown : firstOf [(decide (param d 32 > 1), 0x02, 0x0111)] = none := by
        rw [decide_eq_false (by omega)]
        rfl
      exact congrArg _ (command_of_unrefused (unrefused_of_own h hown))

end Sys2Proof.Machine
end

section
/-! PROOFS. Register words and the rings of the host interface (chapters 00 and 12). -/

namespace Sys2Proof.Machine

open Reg Claims

/-! ### Register words (R11, R13–R15) -/

section
variable {o n : Nat} {d : RegDef} {s : State}

theorem writeRegWord_plain {w : Word} (haligned : o % 4 = 0) (hrow : ¬ ownWord o) : writeRegWord o 4 w s = hostWrite o 4 w s := by
  obtain ⟨hcfg, hboot, htime⟩ : ¬(0x0500 ≤ o ∧ o < 0x0D00 ∧ o % 16 = 8) ∧ o ≠ 0xA004 ∧ ¬(0x7C00 ≤ o ∧ o ≤ 0x7C18) := by
    simpa only [ownWord, not_or] using hrow
  rw [writeRegWord, if_neg (by simp [haligned]), if_neg hcfg, if_neg hboot, if_neg htime]

theorem readRegWord_plain (htime : ¬(0x7C00 ≤ o ∧ o ≤ 0x7C18)) : readRegWord o 4 s = hostRead o 4 s :=
  if_neg fun ⟨_, _, hlow, hhigh⟩ => htime ⟨hlow, hhigh⟩

/-- A documented word that no rule holds goes to its register. -/
theorem hostWrite_located {w : Word} (haligned : o % 4 = 0) (hmsix : o < msixTableBase) (htrace : traceHeld s o = false)
    (hlength : lengthHeld s o = false) :
    hostWrite o 4 w s = match locate o with
      | some (d, n, false) => if d.wide then { s with loStage := put o w s.loStage } else writeReg d n w.toNat s
      | some (d, n, true) =>
        if baseHeld s (o - 4) then raise HIF_EVENTS_CFG_IGNORED { s with loStage := del (o - 4) s.loStage }
        else writeReg d n (w.toNat * 2 ^ 32 + ((look s.loStage (o - 4)).getD (Config.freeBits 32 s.free)).toNat)
          { s with free := s.free + 1, loStage := del (o - 4) s.loStage }
      | none => s := by
  rw [hostWrite, if_neg (by simp [haligned]), if_neg (by omega), htrace, hlength]
  rfl

/-- The high word of a 64-bit register applies both words together (R15). -/
theorem hostWrite_high {lo hi : Word} (haligned : o % 4 = 0) (hmsix : o + 4 < msixTableBase) (hloc : locate (o + 4) = some (d, n, true))
    (htrace : traceHeld s (o + 4) = false) (hlength : lengthHeld s (o + 4) = false) (hbase : baseHeld s o = false)
    (hlow : look s.loStage o = some lo) :
    hostWrite (o + 4) 4 hi s =
      writeReg d n (hi.toNat * 2 ^ 32 + lo.toNat) { s with free := s.free + 1, loStage := del o s.loStage } := by
  rw [hostWrite_located (by omega) hmsix htrace hlength, hloc]
  dsimp only
  rw [Nat.add_sub_cancel, if_neg (ne_true_of_eq_false hbase), hlow, Option.getD_some]

/-- A read of the low word of a register, or of the only one, clears what a read clears, and latches the high word (R15). -/
theorem hostRead_located (haligned : o % 4 = 0) (hloc : locate o = some (d, n, false)) :
    hostRead o 4 s =
      let u := (d.fields n).foldl (fun s f => clearRead f s) s
      emit (.read o (BitVec.ofNat 32 (regValue s d n)))
        (if d.wide then { u with hiLatch := put o (BitVec.ofNat 32 (regValue s d n / 2 ^ 32)) u.hiLatch } else u) := by
  rw [hostRead, if_neg (by simp [haligned]), hloc]

/-- A read of the high word returns what the read of the low word latched. -/
theorem hostRead_high {v : Word} (haligned : o % 4 = 0) (hloc : locate (o + 4) = some (d, n, true)) (hlatch : look s.hiLatch o = some v) :
    hostRead (o + 4) 4 s = emit (.read (o + 4) v) { s with hiLatch := del o s.hiLatch } := by
  rw [hostRead, if_neg (by omega), hloc]
  dsimp only
  rw [Nat.add_sub_cancel, hlatch]

end

end Sys2Proof.Machine
end

section
namespace Sys2Proof.Machine

open Reg Claims

/-- Settles O26: a word is the register that `locate` finds, and the two words of a wide one are written and read together. -/
theorem registerWordsReadAndWriteTheirFields : Obligations.RegisterWordsReadAndWriteTheirFields := by
  refine ⟨fun v s => ⟨fun o ho => ⟨?oddWrite, ?oddRead⟩, fun r => ?ring, rfl, rfl, fun i hlow hhigh => ?stage, fun i hi => ?time⟩,
    fun o width s => ⟨rfl, fun hbar => ?window⟩, fun o d n s ho hmsix hloc htrace hlength => ?located⟩
  case oddWrite => exact congrArg _ (if_pos (Or.inr ho))
  case oddRead =>
    show Host.Outcome.next (readRegWord o 4 s) = _
    rw [readRegWord, if_neg (fun h => ho h.2.1), hostRead, if_pos (Or.inr ho)]
  case ring =>
    show Host.Outcome.next (writeRegWord _ 4 v s) = _
    rw [writeRegWord, if_neg (by omega), if_pos (by omega), show (0x0508 + 16 * r.val - 0x0500) / 16 = r by omega]
  case stage =>
    show Host.Outcome.next (writeRegWord _ 4 v s) = execRtcStagingWrite _ v s
    rw [writeRegWord, if_neg (by omega), if_neg (by omega), if_neg (by omega), if_pos (by omega), execRtcStagingWrite, if_pos (by omega)]
  case time =>
    show Host.Outcome.next (readRegWord (0x7C00 + 4 * i) 4 s) = execRtcTimeRegisterRead (0x7C00 + 4 * i) s
    rw [readRegWord, if_pos (by omega), execRtcTimeRegisterRead, if_pos (by omega)]
  case window =>
    show Host.Outcome.next (readWindow o width s) = _
    rw [readWindow, Nat.min_eq_left (by simp only [Config.barSize]; omega)]
  case located =>
    intro v cleared
    refine ⟨fun hnarrow => ⟨fun hrow w => ?narrowWrite, fun htime => ?narrowRead⟩, fun hwide hhigh hrow hrow' htrace' hlength' hbase =>
      ⟨fun lo hi => ?wideWrite, ?wideRead⟩⟩
    case narrowWrite =>
      show Host.Outcome.next (writeRegWord o 4 w s) = _
      rw [writeRegWord_plain ho hrow, hostWrite_located ho (by omega) htrace hlength, hloc]
      exact congrArg _ (if_neg (ne_true_of_eq_false hnarrow))
    case narrowRead =>
      show Host.Outcome.next (readRegWord o 4 s) = _
      rw [readRegWord_plain htime, hostRead_located ho hloc]
      dsimp only
      rw [if_neg (ne_true_of_eq_false hnarrow)]
    case wideWrite =>
      refine ⟨{ s with loStage := put o lo s.loStage }, ?_, rfl, ?_⟩
      · show Host.Outcome.next (writeRegWord o 4 lo s) = _
        rw [writeRegWord_plain ho hrow, hostWrite_located ho (by omega) htrace hlength, hloc]
        exact congrArg _ (if_pos hwide)
      · show Host.Outcome.next (writeRegWord (o + 4) 4 hi { s with loStage := put o lo s.loStage }) = _
        rw [writeRegWord_plain (by omega) hrow', hostWrite_high (lo := lo) ho hmsix hhigh ?trace ?length ?base ?low]
        case trace => exact htrace'
        case length => exact hlength'
        case base => exact hbase
        case low => exact look_put_self o lo s.loStage
    case wideRead =>
      have htime : ¬(0x7C00 ≤ o ∧ o ≤ 0x7C18) := fun h => hrow (Or.inr (Or.inr h))
      have htime' : ¬(0x7C00 ≤ o + 4 ∧ o + 4 ≤ 0x7C18) := fun h => hrow' (Or.inr (Or.inr h))
      refine ⟨{ cleared with hiLatch := put o (BitVec.ofNat 32 (v / 2 ^ 32)) cleared.hiLatch }, ?_, rfl, ?_⟩
      · show Host.Outcome.next (readRegWord o 4 s) = _
        rw [readRegWord_plain htime, hostRead_located ho hloc]
        dsimp only
        rw [if_pos hwide]
      · show Host.Outcome.next (readRegWord (o + 4) 4 _) = _
        rw [readRegWord_plain htime', hostRead_high ho hhigh (look_put_self _ _ _)]

/-- Settles O32: an entry at the head of a ring is fetched when its ring is ready, and served as its kind says. -/
theorem ringEntriesAreFetchedAndServed : Obligations.RingEntriesAreFetchedAndServed := by
  refine ⟨fun r raw buf s hready hkind hfree => ?fetch, fun d s h => congrArg _ (command_of_unrefused h),
    fun d s h => congrArg _ (command_of_unrefused h), fun s x hx => ?timeout, fun r e s q rest t inst cycle p hqueue hcopy hp hkind => ?publication,
    fun e s r hring hready hpending => ?mirror, fun r raw frame s => ?nic⟩
  case fetch =>
    intro index taken
    have hserves : entryReady s r = true ∧ ringKind s r = 0 ∧ (!ringHolds s r) = true := ⟨hready, hkind, congrArg not hfree⟩
    have hfetch : exec (.descriptorFetch r (some raw) buf) s = runOpcode (leAt raw 0 2) (ringDesc r index raw buf) taken := if_pos hserves
    obtain ⟨t, hnext⟩ := exec_answers (.descriptorFetch r (some raw) buf) s
    exact ⟨⟨t, hnext, hfetch.symm.trans hnext⟩, if_pos hserves⟩
  case timeout =>
    show execFenceTimeout s = _
    rw [execFenceTimeout, hx]
  case publication =>
    show execPublishCopy r e s = _
    rw [execPublishCopy, hqueue]
    dsimp only
    rw [hcopy]
    dsimp only
    rw [if_neg (not_not_intro rfl), hp]
    exact congrArg _ (if_neg (not_not_intro hkind))
  case mirror =>
    show execMirrorSend e s = _
    rw [execMirrorSend, hring]
    exact congrArg _ (if_pos ⟨hready, by simpa using hpending⟩)
  case nic =>
    intro index takenNic hready hruns
    refine ⟨fun hkind hidle => ⟨?_, ?_⟩, fun hkind hfree hreserved haligned hlong => ?_⟩
    · exact congrArg _ (if_pos ⟨hkind, hready, hruns, List.isEmpty_iff.mpr hidle⟩)
    · exact congrArg _ (if_pos ⟨hkind, hready, hruns, List.isEmpty_iff.mpr hidle⟩)
    · show execNicRxBufferEntry r raw s = _
      rw [execNicRxBufferEntry, if_pos ⟨hkind, hready, hruns, Option.isNone_iff_eq_none.mpr hfree⟩]
      dsimp only
      rw [hreserved, if_neg (by decide), if_neg (by omega)]
      rfl

end Sys2Proof.Machine
end

section
/-! PROOFS. Configuration transactions, the NV store, the clock and the service port (chapters 13 and 17). -/

namespace Sys2Proof.Machine

open Reg Claims

/-! ### Transactions (R351–R353) -/

/-- The apply point of a commit, with the checks named. -/
theorem applyCommit_of_refusal {x : Txn} {s : State} {st rs : Nat}
    (h : (if x.structural then guardRefusal s (some x.ident) allGuards else none).or (configRefusal s x.items) = some (st, rs)) :
    applyCommit x s = commitRefused x st rs s := by
  rw [applyCommit, h]

theorem applyCommit_of_clean {x : Txn} {s : State}
    (h : (if x.structural then guardRefusal s (some x.ident) allGuards else none).or (configRefusal s x.items) = none) :
    applyCommit x s = applyItems x s := by
  rw [applyCommit, h]

/-- A transaction whose apply point has come and that no deferred command precedes applies or rolls back. -/
theorem cfgApply_due {x : Txn} {t : Nat} {s : State} (hx : nextApply s = some (x, t)) (hfirst : deferredBefore s x t = false) :
    exec .cfgApply s = .next (match x.rollback with
      | some auto => applyRollback x auto (advance t s)
      | none => applyCommit x (advance t s)) := by
  show execCfgApply s = _
  rw [execCfgApply, hx]
  exact congrArg _ (if_neg (ne_true_of_eq_false hfirst))

/-! ### The clock (R452–R455) -/

/-- No commit waits when no port that asks for one has staged a valid time. -/
theorem commitWaits_of_invalid {s : State}
    (h : ∀ p ∈ [s.rtc.fw, s.rtc.bar0], p.commit = true → ∀ x, p.staging = some x → validTime x = false) : commitWaits s = false := by
  refine List.any_eq_false.mpr fun p hp hwaits => ?_
  obtain ⟨hcommit, hstaged⟩ := Bool.and_eq_true_iff.mp hwaits
  cases hx : p.staging with
  | none => rw [hx] at hstaged; cases hstaged
  | some x =>
    rw [hx, Option.any_some, h p hp hcommit x hx] at hstaged
    cases hstaged

/-- A commit of BAR0 alone. -/
theorem rtcCommit_bar0 {r : RtcTime} {s : State} (hfw : s.rtc.fw.commit = false) (hjobs : s.rtc.fw.jobs = []) (hbar : s.rtc.bar0.commit = true)
    (hstaged : s.rtc.bar0.staging = some r) :
    exec .rtcCommit s = .next { commitTime r s with
      rtc.fw.commit := false, rtc.fw.staging := s.rtc.fw.staging, rtc.fw.jobs := [], rtc.bar0.commit := false, rtc.bar0.staging := none } := by
  show execRtcCommit s = _
  simp only [execRtcCommit, commitPort, hfw, hjobs, hbar, hstaged]
  rfl

/-! ### The service port (R362–R364) -/

section
variable {ip port : Nat} {raw : List Byte} {s : State}

theorem setSvcWait_self {l : List (Nat × Nat × List Byte)} (h : s.cmd.svcWait = l) : { s with cmd.svcWait := l } = s := by
  subst h
  rfl

/-- Of one request that waits, serving it is all that is done. -/
theorem svcDrain_one (hfree : s.cmd.svc = none) (hwait : s.cmd.svcWait = [(ip, port, raw)]) :
    svcDrain 1 s = svcServe ip port raw { s with cmd.svcWait := [] } := by
  rw [svcDrain, hfree, hwait]
  dsimp only
  cases svcServe ip port raw { s with cmd.svcWait := [] } <;> rfl

/-- With nothing waiting, a good request is served as it comes. -/
theorem svcTurn_alone (hfree : s.cmd.svc = none) (hwait : s.cmd.svcWait = []) :
    svcTurn { s with cmd.svcWait := s.cmd.svcWait ++ [(ip, port, raw)] } = svcServe ip port raw s := by
  rw [svcTurn, hwait]
  exact (svcDrain_one (s := { s with cmd.svcWait := [(ip, port, raw)] }) hfree rfl).trans (congrArg _ (setSvcWait_self hwait))

theorem svcDatagram_served {s0 : State} (hserves : svcServes (svcFrame s0) = true) (hheader : svcHeaderOk raw = true)
    (hfree : (svcFrame s0).cmd.svc = none) (hwait : (svcFrame s0).cmd.svcWait = []) :
    exec (.svcDatagram ip port ⟨raw, true⟩) s0 = svcServe ip port raw (svcFrame s0) := by
  show execSvcDatagram ip port ⟨raw, true⟩ s0 = _
  rw [execSvcDatagram]
  dsimp only
  rw [if_neg (by decide : ¬(!true) = true), if_pos ⟨hserves, hheader⟩, svcTurn_alone hfree hwait]

/-- A request for RTC_READ runs that command. -/
theorem svcRun_rtcRead {tagOk valid : Bool} (hop : beAt raw 32 2 = 0x0C01) :
    svcRun ip port raw tagOk valid s = exec (.rtcRead (svcRequest raw tagOk))
      { s with cmd.svc := some { ip, port, session := beAt raw 4 4, seq := beAt raw 8 4, valid } } := by
  rw [svcRun, hop]
  rfl

/-- RTC_READ answers a next state, as every command does. -/
theorem svcRun_rtcRead_next {tagOk valid : Bool} (hop : beAt raw 32 2 = 0x0C01) : ∃ t, svcRun ip port raw tagOk valid s = .next t ∧
    exec (.rtcRead (svcRequest raw tagOk))
      { s with cmd.svc := some { ip, port, session := beAt raw 4 4, seq := beAt raw 8 4, valid } } = .next t := by
  rw [svcRun_rtcRead hop]
  obtain ⟨t, hnext⟩ := exec_answers (.rtcRead (svcRequest raw tagOk))
    { s with cmd.svc := some { ip, port, session := beAt raw 4 4, seq := beAt raw 8 4, valid } }
  exact ⟨t, hnext, hnext⟩

section
variable {x : Session} (hx : namedSession s raw = some x) (htag : svcTagOk x.key raw = true)
include hx htag

theorem svcServe_older {q : Nat} (hq : x.lastSeq = some q) (hold : beAt raw 8 4 < q) : svcServe ip port raw s = .next s := by
  rw [svcServe, hx]
  dsimp only
  rw [htag, hq, if_neg (by decide), Option.any_some, if_pos (decide_eq_true hold)]

theorem svcServe_repeated (hq : x.lastSeq = some (beAt raw 8 4)) :
    svcServe ip port raw s = .next (svcOut (.svc ip port x.cached)
      { s with cmd.session := some { x with lastSeq := some (beAt raw 8 4), lastAt := s.now } }) := by
  rw [svcServe, hx]
  dsimp only
  rw [htag, hq, if_neg (by decide), Option.any_some, if_neg (by simp), if_pos rfl]

theorem svcServe_newer {q : Nat} (hq : x.lastSeq = some q) (hnew : q < beAt raw 8 4) :
    svcServe ip port raw s = svcRun ip port raw true true
      { s with cmd.session := some { x with lastSeq := some (beAt raw 8 4), lastAt := s.now } } := by
  have hother : ¬some q = some (beAt raw 8 4) := fun h => by injection h with h; omega
  rw [svcServe, hx]
  dsimp only
  rw [htag, hq, if_neg (by decide), Option.any_some, if_neg (by simp; omega), if_neg hother]

end

end

end Sys2Proof.Machine
end

section
namespace Sys2Proof.Machine

open Reg Claims

/-- Settles O52: the commands of a transaction, its apply point, and the ways in which it ends. -/
theorem transactionsOpenCollectApplyAndRollBack : Obligations.TransactionsOpenCollectApplyAndRollBack := by
  refine ⟨fun d s => ⟨fun h => congrArg _ (command_of_unrefused h), fun h => congrArg _ (command_of_unrefused h)⟩,
    fun d s h => congrArg _ (command_of_unrefused h), fun d x s => ?commit, fun x t s hx => ?point, fun x s hx => ?noGap,
    fun d x s => ?abort, fun x job auto s => ?rollback, fun d s h => congrArg _ (command_of_unrefused h), fun i x s hx => ⟨fun t ht hstate hactive => ?window, fun hopen => ?idle⟩⟩
  case commit =>
    intro k t u c at_ effect gap a y v h hx
    refine congrArg _ ((command_of_unrefused h).trans ?_)
    show startApply d u = _
    rw [startApply, hx]
  case point =>
    intro u judged
    refine ⟨fun hearlier => ?_, fun hfirst hforward hclean => ?_, fun r hfirst hforward hbad => ?_, fun auto hfirst hback => ?_⟩
    · show execCfgApply s = _
      rw [execCfgApply, hx]
      exact congrArg _ (if_pos hearlier)
    · rw [cfgApply_due hx hfirst, hforward]
      exact congrArg _ (applyCommit_of_clean hclean)
    · rw [cfgApply_due hx hfirst, hforward]
      exact congrArg _ (applyCommit_of_refusal hbad)
    · rw [cfgApply_due hx hfirst, hback]
      intro v
      refine ⟨fun hclean => ?_, fun r hbad => ?_⟩
      · show Host.Outcome.next (applyRollback x auto u) = _
        rw [applyRollback, show configRefusal _ x.undo = none from hclean]
      · show Host.Outcome.next (applyRollback x auto u) = _
        rw [applyRollback, show configRefusal _ x.undo = some r from hbad]
  case noGap =>
    intro u
    refine ⟨fun auto hback => ?_, fun hforward => ?_⟩
    · show execTxnNoGap s = _
      rw [execTxnNoGap, hx]
      dsimp only
      rw [hback]
    · show execTxnNoGap s = _
      rw [execTxnNoGap, hx]
      dsimp only
      rw [hforward]
  case abort =>
    intro t u a r y h hx
    refine ⟨fun hopen => ?_, fun hconfirming => ?_⟩
    · refine congrArg _ ((command_of_unrefused h).trans ?_)
      show abortTxn d u = _
      rw [abortTxn, hx]
      dsimp only
      rw [if_pos hopen, if_pos (Or.inl hopen)]
    · have hnot : ¬x.state = .open_ := by rw [hconfirming]; decide
      refine congrArg _ ((command_of_unrefused h).trans ?_)
      show abortTxn d u = _
      rw [abortTxn, hx]
      dsimp only
      rw [if_neg hnot]
      simp only [hnot, false_or]
      rfl
  case rollback =>
    intro back waiting at_
    refine ⟨fun hsel => ?_, fun hsel hnow => ?_, fun hsel hlater => ?_⟩
    all_goals rw [startRollback]
    · rw [if_pos hsel, if_pos hsel]
    · rw [if_neg hsel, if_neg hsel]
      exact if_pos hnow
    · rw [if_neg hsel, if_neg hsel]
      exact if_neg hlater
  case window =>
    show execCfgConfirmWindowEnd i s = _
    rw [execCfgConfirmWindowEnd, hx]
    dsimp only
    rw [ht]
    exact congrArg _ (if_pos ⟨hstate, congrArg not hactive⟩)
  case idle =>
    show execTxnIdle i s = _
    rw [execTxnIdle, hx]
    exact congrArg _ (if_pos hopen)

/-- Settles O53: the NV store, the passwords and the clock act as their commands and rows say. -/
theorem theNvStoreAndTheClockServeTheirCommands : Obligations.TheNvStoreAndTheClockServeTheirCommands := by
  refine ⟨fun d s => ?commands, fun d s h => ?unlock, fun w s hidle hreads hpower hnext => ?page, fun s hdue => ?epoch, fun s => ?tick,
    fun off v s hlow hhigh haligned => ?registers, fun r t s => ⟨fun h => ?fwFreeze, fun h => ?hostFreeze⟩,
    fun r s hfw hjobs hbar hstaged => ?commit, fun s => rfl⟩
  case commands =>
    intro u a v w c
    refine ⟨fun h => ⟨fun hidle => ?_, fun hbusy => ?_⟩, fun h => congrArg _ (judged_of_unrefusedBefore h), fun h hfree => ?_, fun h hvalid => ?_,
      fun h => congrArg _ (command_of_unrefused h)⟩
    · have hread : exec (.nvsRead d) s = .next (nvsReadEffect d u) := congrArg _ (command_of_unrefused h)
      rw [hread, nvsReadEffect]
      exact congrArg _ (if_neg (Option.not_isSome_iff_eq_none.mpr hidle))
    · have hread : exec (.nvsRead d) s = .next (nvsReadEffect d u) := congrArg _ (command_of_unrefused h)
      rw [hread, nvsReadEffect]
      exact congrArg _ (if_pos (Option.isSome_iff_ne_none.mpr hbusy))
    · refine congrArg _ ((command_of_unrefused h).trans ?_)
      dsimp only
      rw [hfree]
      rfl
    · have hchecks : rtcSetChecks d = none := by rw [rtcSetChecks, hvalid]; rfl
      show execRtcSet d s = _
      rw [execRtcSet, hchecks, if_neg (by simp)]
      exact congrArg _ (command_of_unrefused h)
  case unlock =>
    intro u a granted
    refine ⟨fun hop => ?_, fun hop => ?_, fun hop => ?_, fun hop => ?_, fun hop => ?_⟩
    · exact congrArg _ ((if_neg (by omega)).trans (judged_of_unrefusedBefore h))
    all_goals exact congrArg _ ((if_pos hop).trans (judged_of_unrefusedBefore h))
  case page =>
    intro u
    show execNvPageWriteStart s = _
    rw [execNvPageWriteStart, if_neg (by simp [hidle, hreads, hpower])]
    dsimp only
    rw [hnext]
  case epoch => exact congrArg _ (if_pos (Option.isSome_iff_ne_none.mpr hdue))
  case tick =>
    intro r tick u hcounts hports v
    have hticks : (s.rtc.counting && !commitWaits s) = true := by rw [hcounts, commitWaits_of_invalid hports]; rfl
    exact congrArg _ (if_pos hticks)
  case registers =>
    intro x i
    refine ⟨congrArg _ (if_pos ⟨hlow, hhigh, haligned⟩), fun hne => ?_, ?_⟩
    · have hi : i ≠ 0 := by simp only [i]; omega
      show execRtcStagingWrite off v s = _
      rw [execRtcStagingWrite, if_pos (by omega), writeTimeReg, decide_eq_false hi, Bool.or_false]
    · show execRtcSecWrite v s = _
      rw [execRtcSecWrite, writeTimeReg, decide_eq_true rfl, Bool.or_true]
  case fwFreeze =>
    show execRtcFreezeExpiry true s = _
    simp only [execRtcFreezeExpiry, h, if_true]
  case hostFreeze =>
    show execRtcFreezeExpiry false s = _
    simp only [execRtcFreezeExpiry, h, Bool.false_eq_true, if_false]
  case commit =>
    intro cleared
    rw [rtcCommit_bar0 hfw hjobs hbar hstaged]
    refine ⟨fun hvalid => ?_, fun hinvalid => ?_⟩
    · rw [commitTime, if_pos hvalid]
      exact ⟨_, rfl, rfl, rfl, rfl, rfl, rfl, rfl, rfl, rfl⟩
    · rw [commitTime, if_neg (ne_true_of_eq_false hinvalid)]
      rfl

/-- Settles O54: a request goes by its header, its session, its tag and its number. -/
theorem theServicePortAndTheJournalAnswer : Obligations.TheServicePortAndTheJournalAnswer := by
  refine ⟨fun s => rfl, fun ip port raw s => ⟨rfl, fun hbad => ?dropped⟩, fun ip port raw s0 => ?served, fun ip mac data s hserves => ?address,
    fun x s hx => ?ended, fun d s h => congrArg _ (command_of_unrefused h)⟩
  case dropped =>
    have hnot : ¬(svcServes (svcFrame s) = true ∧ svcHeaderOk raw = true) := by
      rintro ⟨hserves, hheader⟩
      exact hbad.elim (fun h => ne_true_of_eq_false h hserves) (fun h => ne_true_of_eq_false h hheader)
    show execSvcDatagram ip port ⟨raw, true⟩ s = _
    rw [execSvcDatagram]
    dsimp only
    rw [if_neg (by decide : ¬(!true) = true), if_neg hnot]
  case served =>
    intro s seq hserves hheader hfree hwait
    rw [svcDatagram_served hserves hheader hfree hwait]
    refine ⟨fun hnone hop => ?_, fun x hx htag => ?_⟩
    · rw [svcServe, show namedSession (svcFrame s0) raw = none from hnone]
      exact svcRun_rtcRead_next hop
    · intro u
      refine ⟨fun q hq hold => svcServe_older hx htag hq hold, fun hq => svcServe_repeated hx htag hq, fun q hq hnew hop => ?_⟩
      rw [svcServe_newer hx htag hq hnew]
      exact svcRun_rtcRead_next hop
  case address =>
    have hhere : svcServes s = true ∧ s.cmd.ip.toNat = s.cmd.ip.toNat := ⟨hserves, rfl⟩
    refine ⟨congrArg _ (if_pos hhere), congrArg _ (if_pos hhere), fun target htarget => ?_⟩
    have helse : ¬(svcServes s = true ∧ target = s.cmd.ip.toNat) := fun h => htarget h.2
    exact ⟨congrArg _ (if_neg helse), congrArg _ (if_neg helse)⟩
  case ended =>
    show execSvcSessionTimeout s = _
    rw [execSvcSessionTimeout, hx]

end Sys2Proof.Machine
end

section
/-! PROOFS. Boot and security (chapters 14 and 15). -/

namespace Sys2Proof.Machine

open Reg Claims

/-! ### Boot (R366–R381) -/

theorem seedGood_iff {flips : Nat} {checkOk : Bool} : seedGood flips checkOk = true ↔ flips ≤ 9830 ∧ checkOk = true := by
  rw [seedGood, Bool.and_eq_true, decide_eq_true_eq]

theorem poweredLoops_nil_iff {s : State} : poweredLoops s = [] ↔ (loop s 0).powered = false ∧ (loop s 1).powered = false := by
  cases h0 : (loop s 0).powered <;> cases h1 : (loop s 1).powered <;> simp [poweredLoops, h0, h1]

theorem poweredLoops_few_iff {s : State} :
    (poweredLoops s).length < 2 ↔ ¬((loop s 0).powered = true ∧ (loop s 1).powered = true) := by
  cases h0 : (loop s 0).powered <;> cases h1 : (loop s 1).powered <;> simp [poweredLoops, h0, h1]

/-- The registers of component `i` show its state and its start time. -/
def shownComponent (i st poweredAt : Nat) (s : State) : State :=
  fput (BOOT_COMP_STAT_START_MS i) (min 65535 ((s.now - poweredAt) / msec 1)) (fput (BOOT_COMP_STAT_STATE i) st s)

/-- The report of the component whose turn it is, within its bound. -/
theorem componentStarted_inTime {c : Fin 4} {ms : Nat} {s : State} (hboot : boot s = 3) (hturn : c.val = s.boot.started)
    (htime : msec ms ≤ startBound s s.boot.started) :
    let u := advance (s.boot.stepAt + msec ms) s
    exec (.componentStarted c ms) s = .next (
      let shown := shownComponent s.boot.started (if s.boot.started = 3 ∧ (poweredLoops u).length < 2 then 2 else 1) s.boot.poweredAt u
      let served := if s.boot.started = 0 then serviceStart shown else shown
      if s.boot.started ≥ 3 then bootRunning served else nextComponent (s.boot.started + 1) served) := by
  intro u
  show execComponentStarted c ms s = _
  rw [execComponentStarted, if_neg (by simp [hboot, hturn])]
  exact congrArg _ (if_neg (Nat.not_lt.mpr htime))

/-- The ROM goes on behind component `i`, at most the field island's. -/
theorem nextComponent_eq (i : Nat) (s : State) :
    nextComponent (i + 1) s =
      if i = 2 ∧ boot (beginComponent (i + 1) s) = 3 ∧ (loop (beginComponent (i + 1) s) 0).powered = false
          ∧ (loop (beginComponent (i + 1) s) 1).powered = false then
        bootRunning (fput (BOOT_COMP_STAT_STATE 3) 2 (beginComponent (i + 1) s))
      else beginComponent (i + 1) s := by
  simp only [nextComponent, poweredLoops_nil_iff, show i + 1 = 3 ↔ i = 2 by omega]

/-- A write of START alone. -/
theorem bootCtrl_start {w : Word} {s : State} (hstart : w.getLsbD 0 = true) (hretry : w.getLsbD 1 = false) :
    bootCtrl w s = if boot s = 1 then beginVerify s else ctrlIgnored s := by
  rw [bootCtrl, if_neg (ne_true_of_eq_false hretry), if_pos hstart]

/-- A write of RETRY alone. -/
theorem bootCtrl_retry {w : Word} {s : State} (hretry : w.getLsbD 1 = true) (hstart : w.getLsbD 0 = false) :
    bootCtrl w s = if boot s = 5 ∧ !s.boot.selfTestFailed ∧ sag s ≠ 3 then setBoot 1 s else ctrlIgnored s := by
  rw [bootCtrl, if_pos hretry, if_neg (ne_true_of_eq_false hstart)]

/-- ROM_INIT ends with the self-test, the training and the seed. -/
theorem romInitDone_powered {selfTest training checkOk : Bool} {flips ms : Nat} {s : State} (hboot : boot s = 0) (hpower : powered s = true) :
    exec (.romInitDone selfTest training flips checkOk ms) s = .next (
      let u := fput BOOT_TIME_INIT_MS (min (min ms 120) 1023) (advance (s.boot.poweredAt + msec (min ms 120)) s)
      let v := loadHoldup (readSeedbed flips checkOk u)
      if selfTest = true ∧ training = true ∧ (s.sec.life = 4 ∨ (flips ≤ 9830 ∧ checkOk = true)) then setBoot 1 v
      else failBoot 16 0 { v with boot.selfTestFailed := true }) := by
  show execRomInitDone selfTest training flips checkOk ms s = _
  rw [execRomInitDone, if_neg (by simp [hboot, hpower])]
  simp only [seedGood_iff]

/-! ### Key blobs (R397) -/

section
variable {d : Desc} {s : State}

/-- A well-formed blob of this unit, for a free slot, is refused only when its seal does not open. -/
theorem keyLoadChecks_of_wellFormed (hroot : debugRoot s = false) (hlen : d.buf.length = 100) (hhead : blobHead d.buf = true)
    (hbound : blobBound d.buf s.sec.life = true) (hslot : param d 32 ≤ 31) (hfree : look s.sec.slots (param d 32) = none) :
    keyLoadChecks d s = if (unwrap_ (islandKey s "WRAP" 256) d.buf).isSome then none else some (0x09, 0x0716) := by
  rw [keyLoadChecks, hroot, hlen, hhead, hbound, hfree, decide_eq_false (show ¬param d 32 > 31 by omega)]
  cases unwrap_ (islandKey s "WRAP" 256) d.buf <;> rfl

/-- A blob that a check of R397 refuses is noted, and the command ends with that refusal. -/
theorem secKeyLoad_refused {st rs : Nat} (hload : opflag d 4 = false) (hgate : gate (keyLoadCard false) d s = none)
    (hgate' : gate (keyLoadCard false) d (openSlot d (raise SEC_EVENTS_BLOB_REJECT s)) = none)
    (hbuffer : bufferLost (keyLoadCard false) d = false) (hbad : keyLoadChecks d s = some (st, rs)) :
    exec (.secKeyLoad d) s = .next (refuse 0x0A03 d st rs (openSlot d (raise SEC_EVENTS_BLOB_REJECT s))) := by
  have hrefusal : refusalOf (keyLoadCard false) d (keyLoadChecks d) s = some (st, rs) := by
    rw [refusalOf, hgate, hbuffer]
    exact hbad
  have hnote : blobNotes d s (st, rs) s = raise SEC_EVENTS_BLOB_REJECT s := if_pos hbad
  show execSecKeyLoad d s = _
  rw [execSecKeyLoad, if_neg (ne_true_of_eq_false hload), judged, hrefusal]
  dsimp only
  rw [hnote, command_of_refused (st := st) (rs := rs)]
  · rfl
  · rw [refusalOf, hgate', hbuffer]
    exact hbad

theorem secKeyLoad_good (hload : opflag d 4 = false) (hgate : gate (keyLoadCard false) d s = none)
    (hgate' : gate (keyLoadCard false) d (openSlot d s) = none) (hbuffer : bufferLost (keyLoadCard false) d = false)
    (hgood : keyLoadChecks d s = none) :
    exec (.secKeyLoad d) s = .next (immediate 0x0A03 d (loadSlot d) (fun _ => param d 32) (fun _ => []) (openSlot d s)) := by
  have hbefore : refusalOf (keyLoadCard false) d (keyLoadChecks d) s = none := by
    rw [refusalOf, hgate, hbuffer]
    exact hgood
  have hat : refusalOf (keyLoadCard false) d (fun _ => keyLoadChecks d s) (openSlot d s) = none := by
    rw [refusalOf, hgate', hbuffer]
    exact hgood
  exact congrArg Host.Outcome.next ((if_neg (ne_true_of_eq_false hload)).trans (judged_of_unrefusedBefore ⟨hbefore, hat, hbuffer⟩))

end

/-! ### Life cycle (R389) -/

/-- A life-cycle operation that nothing refuses takes its effect. -/
theorem lifeCommand_takes {d : Desc} {own : State → Option (Nat × Nat)} {effect : State → State} {s : State}
    (h : UnrefusedBefore (lifeCard (lifeOp d)) d (lifeChecks own d) s) : lifeCommand d own effect s = effect (openSlot d s) :=
  judged_of_unrefusedBefore h

end Sys2Proof.Machine
end

section
namespace Sys2Proof.Machine

open Reg Claims

/-- Settles O55: the boot goes from state to state as its events come, and ends in RUNNING or in FAILED. -/
theorem bootVerifiesLoadsAndFails : Obligations.BootVerifiesLoadsAndFails := by
  refine ⟨fun selfTest training checkOk flips ms s hboot hpower => ?init, fun w s => ?control, fun off data s => ?window,
    fun memOk ms s hboot => ?verify, fun c ms s hboot => ?start, fun d s => ?commands⟩
  case init =>
    intro u v
    rw [romInitDone_powered hboot hpower]
    refine ⟨fun htest htrain hseed => ?_, fun hbad => ?_⟩
    · dsimp only
      rw [if_pos ⟨htest, htrain, hseed⟩]
    · have hnot : ¬(selfTest = true ∧ training = true ∧ (s.sec.life = 4 ∨ (flips ≤ 9830 ∧ checkOk = true))) := by
        rintro ⟨htest, htrain, hseed⟩
        rcases hbad with h | h | ⟨hlife, h⟩
        · exact ne_true_of_eq_false h htest
        · exact ne_true_of_eq_false h htrain
        · rcases hseed with hscrapped | ⟨hflips, hcheck⟩
          · exact hlife hscrapped
          · exact h.elim (fun hmany => absurd hflips (by omega)) (fun hwrong => ne_true_of_eq_false hwrong hcheck)
      dsimp only
      rw [if_neg hnot]
  case control =>
    intro ignored
    refine ⟨fun hstart hretry hboot => ?_, fun hstart hretry hboot => ?_, fun hretry hstart hboot htest hsag => ?_, fun hretry hstart hbad => ?_⟩
    · exact congrArg Host.Outcome.next ((bootCtrl_start hstart hretry).trans (if_pos hboot))
    · exact congrArg Host.Outcome.next ((bootCtrl_start hstart hretry).trans (if_neg hboot))
    · exact congrArg Host.Outcome.next ((bootCtrl_retry hretry hstart).trans (if_pos ⟨hboot, congrArg not htest, hsag⟩))
    · refine congrArg Host.Outcome.next ((bootCtrl_retry hretry hstart).trans (if_neg ?_))
      rintro ⟨hboot, htest, hsag⟩
      rcases hbad with h | h | h
      · exact h hboot
      · rw [h] at htest
        cases htest
      · exact hsag h
  case window => exact ⟨fun hboot => congrArg Host.Outcome.next (if_pos hboot), fun hboot => congrArg Host.Outcome.next (if_neg hboot)⟩
  case verify =>
    intro took u
    have hends : exec (.verifyComplete memOk ms) s = .next (if !memOk then failBoot 12 (1 + Config.freeNat (fresh u).2 % 4) (fresh u).1
        else match verifyCause u with
          | some c => failBoot c (if c = 12 then wrongComponent u else 0) u
          | none => beginLoading u) := congrArg Host.Outcome.next (if_neg (not_not_intro hboot))
    rw [hends]
    refine ⟨fun hmem => congrArg Host.Outcome.next (if_pos (congrArg not hmem)), fun hmem => congrArg Host.Outcome.next ((if_neg ?_).trans ?_)⟩
    · rw [hmem]
      decide
    · cases verifyCause u <;> rfl
  case start =>
    intro i late u shown goOn
    have htimeout : ∀ load, ¬(load = true ∧ i = 2) → exec (.componentStartTimeout load) s = .next late := fun load hload =>
      congrArg Host.Outcome.next ((if_neg (not_not_intro hboot)).trans (if_neg hload))
    refine ⟨fun hother => congrArg Host.Outcome.next (if_pos (Or.inr hother)), fun hturn hlate => ?_, fun hturn htime hi => ?service,
      fun hturn htime hi => ?island, fun hturn htime hi => ?loop, htimeout false (by simp), fun hi => ?load⟩
    · have hrow : ¬(boot s ≠ 3 ∨ c.val ≠ s.boot.started) := by simp [hboot, hturn, i]
      exact congrArg Host.Outcome.next ((if_neg hrow).trans (if_pos hlate))
    case service =>
      rw [componentStarted_inTime hboot hturn htime]
      have h0 : s.boot.started = 0 := hi
      dsimp only
      rw [if_pos h0, if_neg (by omega), if_neg (by omega), nextComponent_eq]
      rfl
    case island =>
      rw [componentStarted_inTime hboot hturn htime]
      have h12 : s.boot.started = 1 ∨ s.boot.started = 2 := hi
      dsimp only
      rw [if_neg (show ¬s.boot.started = 0 by omega), if_neg (by omega), if_neg (by omega), nextComponent_eq]
      rfl
    case loop =>
      rw [componentStarted_inTime hboot hturn htime]
      have h3 : s.boot.started = 3 := hi
      have hstate : (if s.boot.started = 3 ∧ (poweredLoops u).length < 2 then 2 else 1)
          = if (loop u 0).powered = true ∧ (loop u 1).powered = true then 1 else 2 := by
        simp only [poweredLoops_few_iff, h3, true_and, ite_not]
      dsimp only
      rw [if_neg (show ¬s.boot.started = 0 by omega), if_pos (show s.boot.started ≥ 3 by omega), hstate]
      rfl
    case load => exact congrArg Host.Outcome.next ((if_neg (not_not_intro hboot)).trans (if_pos ⟨rfl, hi⟩))
  case commands =>
    intro u v
    refine ⟨fun h => congrArg Host.Outcome.next (command_of_unrefused h), fun h hoffset => ?_⟩
    have hown : firstOf [(decide (paramN d 32 4 > 1343), 0x02, 0x0111)] = none := by
      rw [decide_eq_false (by omega)]
      rfl
    exact congrArg Host.Outcome.next (command_of_unrefused (unrefused_of_own h hown))

/-- Settles O56: challenges, grants, key slots, attestation and the debug level act as commanded. -/
theorem securityCommandsGrantLoadAndAttest : Obligations.SecurityCommandsGrantLoadAndAttest := by
  refine ⟨fun d s => ?commands, fun d s hload hgates hbuffer hroot hlen hhead hbound hslot hfree => ?load, fun o c t s hfind => ?challenge,
    fun r t s hgrant => ?grant, fun t s hlock => ?lockout, fun s hok => congrArg Host.Outcome.next (if_pos hok), fun s => rfl⟩
  case commands =>
    intro u c blob
    refine ⟨fun h => congrArg Host.Outcome.next (command_of_unrefused h), fun h => congrArg Host.Outcome.next (judged_of_unrefusedBefore h),
      fun hwrap h => ?wrap, fun h => ⟨fun hslot => ?one, fun hall => ?all⟩, fun h => congrArg Host.Outcome.next (command_of_unrefused h),
      fun h => congrArg Host.Outcome.next (judged_of_unrefusedBefore h)⟩
    case wrap =>
      exact congrArg Host.Outcome.next ((if_neg (by simp [hwrap])).trans (command_of_unrefused h))
    all_goals
      have hown : firstOf [(decide (param d 32 > 31 ∧ param d 32 ≠ 0xFF), 0x02, 0x0111)] = none := by
        rw [decide_eq_false (by omega)]
        rfl
      have hunload : exec (.secKeyUnload d) s = .next (immediate 0x0A04 d
          (fun s => if param d 32 = 0xFF then emptySlots s else { s with sec.slots := del (param d 32) s.sec.slots })
          (fun _ => 0) (fun _ => []) u) := congrArg Host.Outcome.next (command_of_unrefused (unrefused_of_own h hown))
      rw [hunload]
    case one => simp only [show ¬param d 32 = 0xFF by omega, if_false]
    case all =>
      simp only [hall, if_true]
      rfl
  case load =>
    have hgate := hgates s (by simp)
    have hslotted := hgates (openSlot d s) (by simp)
    have hnoted := hgates (openSlot d (raise SEC_EVENTS_BLOB_REJECT s)) (by simp)
    have hchecks := keyLoadChecks_of_wellFormed hroot hlen hhead hbound hslot hfree
    by_cases hopens : (unwrap_ (islandKey s "WRAP" 256) d.buf).isSome = true
    · rw [if_pos hopens] at hchecks ⊢
      exact secKeyLoad_good hload hgate hslotted hbuffer hchecks
    · rw [if_neg hopens] at hchecks ⊢
      exact secKeyLoad_refused hload hgate hnoted hbuffer hchecks
  case challenge =>
    show execChallengeExpiry o s = _
    rw [execChallengeExpiry, hfind]
    rfl
  case grant =>
    show execGrantExpiry (.ring r) s = _
    simp only [execGrantExpiry, hgrant]
  case lockout =>
    show execCrLockoutEnd s = _
    rw [execCrLockoutEnd, hlock]

/-- Settles O57: an operation takes its effect when nothing refuses it, and its fuses verify or end it. -/
theorem lifeCycleOperationsProgramOrEndWithFuse : Obligations.LifeCycleOperationsProgramOrEndWithFuse := by
  intro d s own h u fused value key blobs v key2 iv
  refine ⟨fun hop hown => ?provision, fun hop hown => ?take, fun hop hown => ?_, fun hop hown => ?_, fun hop hown => ?_, fun hop hown => ?_,
    fun hop hown => ?_, fun hop hown => ?_⟩
  all_goals subst hown
  case provision => exact congrArg Host.Outcome.next ((if_neg (by omega)).trans (lifeCommand_takes h))
  all_goals exact congrArg Host.Outcome.next ((if_pos hop).trans (lifeCommand_takes h))

end Sys2Proof.Machine
end

section
/-! PROOFS. Debug, supervision and power (chapters 15, 16 and 18). -/

namespace Sys2Proof.Machine

open Reg Claims

/-! ### Debug (R406, R410) -/

theorem scanOpen_iff {s : State} : scanOpen s = true ↔ boot s = 0 ∨ boot s = 1 ∨ boot s = 5 := by
  rw [scanOpen, decide_eq_true_eq]

/-- Boundary scan where it acts. -/
theorem jtagBoundaryScan_open {i : ScanInstr} {s : State} (h : scanOpen s = true) :
    exec (.jtagBoundaryScan i) s = .next (match i with
      | .sample => emit (.jtag [Config.freeBits 8 s.free]) (fresh { attached s with sec.extest := false }).1
      | .preload cells => { attached s with sec.boundary := cells, sec.extest := false }
      | .extest => emit (.scan (attached s).sec.boundary) { attached s with sec.extest := true }) := by
  have hopen : ¬(!scanOpen s) = true := by rw [h]; decide
  show execJtagBoundaryScan i s = _
  rw [execJtagBoundaryScan]
  dsimp only
  rw [if_neg hopen]
  cases i <;> rfl

/-! ### The system watchdog (R418–R422) -/

/-- A serve before T_close, of a firmware that can serve. -/
theorem watchdogServe_inTime {at_ : Nat} {s : State} (hserves : servable s = true) (hfree : fbit s WDG_STATUS_FORCED = false)
    (htime : elapsedAt s (max s.now at_) < s.sup.tClose * 1600000) :
    exec (.watchdogServe at_) s = .next (timelyServe (advance at_ s)) := by
  have hlate : (!decide (elapsedAt s (max s.now at_) ≥ windowTime s.sup.tClose)) = true := by
    rw [decide_eq_false (show ¬elapsedAt s (max s.now at_) ≥ windowTime s.sup.tClose from Nat.not_le.mpr htime)]
    rfl
  show execWatchdogServe at_ s = _
  rw [execWatchdogServe, if_neg (by simp [hserves, hfree])]
  exact congrArg Host.Outcome.next (if_pos hlate)

/-! ### Power (R430–R432) -/

/-- With nothing waiting, a step is the next step of a power transition. -/
theorem step_carriesPower {s : State} (hqueue : s.pending = []) (hservice : s.cmd.svcWait = []) (hsnap : standby s = true ∨ s.red.queued = []) :
    step s = .next (carryPower s) := by
  simp only [step, hqueue, idle_of_nothing_waiting hservice hsnap]

section
variable {jb : Job} {t from_ : Nat} {s : State} (hjob : s.sup.powerJob = some (jb, t, from_))
include hjob

theorem carryPower_aborts {k : Nat} (hdeeper : from_ ≤ t) (hk : entryRefuser t s = some k) : carryPower s = abortEntry k s := by
  rw [carryPower, hjob]
  dsimp only
  rw [if_neg (by omega), hk]

theorem carryPower_moves (h : t < from_ ∨ entryRefuser t s = none) : carryPower s = moveOn jb t s := by
  have hnone : (if t < from_ then none else entryRefuser t s) = none := by
    split
    · rfl
    · exact h.resolve_left ‹_›
  rw [carryPower, hjob]
  dsimp only
  rw [hnone]

end

end Sys2Proof.Machine
end

section
namespace Sys2Proof.Machine

open Reg Claims

/-- Settles O58: debug accesses, trace, roll call, the watchdog and memory errors act on the module. -/
theorem debugAndSupervisionAct : Obligations.DebugAndSupervisionAct := by
  refine ⟨fun i s => ?scan, fun s => ?debug, fun e r s hring htrace hon => ?record, fun k w mask s hrun hforce => ?rollCall,
    fun at_ s hserves hfree htime => ?serve, fun s hcounts => ?expiry, fun mem off who s => ?error, fun s => rfl⟩
  case scan =>
    intro u off
    refine ⟨fun h0 h1 h5 => ?_, fun hstate => ?_⟩
    · have hclosed : (!scanOpen s) = true := by
        rw [Bool.not_eq_true', ← Bool.not_eq_true, scanOpen_iff]
        omega
      exact congrArg Host.Outcome.next (if_pos hclosed)
    · have hopen := scanOpen_iff.mpr hstate
      exact ⟨jtagBoundaryScan_open hopen, fun cells => jtagBoundaryScan_open hopen, jtagBoundaryScan_open hopen⟩
  case debug =>
    intro u level
    refine ⟨rfl, rfl, fun m a x hlevel hx => ?_, fun m a v => rfl, fun c hmay => ⟨?_, ?_, ?_⟩, fun c a hmay => ?_, fun c hmay => ?_⟩
    · show execJtagDebugAccess (.read m a) s = _
      rw [execJtagDebugAccess]
      dsimp only
      rw [if_neg hlevel, hx]
    · exact congrArg Host.Outcome.next (if_pos hmay)
    · exact congrArg Host.Outcome.next (if_pos hmay)
    · exact congrArg Host.Outcome.next (if_pos hmay)
    · exact congrArg Host.Outcome.next (if_pos hmay)
    · exact congrArg Host.Outcome.next (if_neg (ne_true_of_eq_false hmay))
  case record =>
    have hwrites : exec (.traceRecordWrite e) s = .next (if entryReady s r ∧ sag s < 2 then writeTrace r e s else dropTrace s) := by
      show execTraceRecordWrite e s = _
      rw [execTraceRecordWrite, hring]
      exact congrArg Host.Outcome.next (if_neg (by simp [htrace, hon]))
    rw [hwrites]
    refine ⟨fun hready hsag => congrArg Host.Outcome.next (if_pos ⟨hready, hsag⟩), fun hbad => congrArg Host.Outcome.next (if_neg ?_)⟩
    rintro ⟨hready, hsag⟩
    exact hbad.elim (fun h => ne_true_of_eq_false h hready) (fun h => by omega)
  case rollCall =>
    intro u n v x
    show execRollCallEvaluation k s = _
    rw [execRollCallEvaluation, if_neg (not_not_intro hrun)]
    dsimp only
    rw [hforce]
  case serve =>
    intro u
    rw [watchdogServe_inTime hserves hfree htime]
    refine ⟨fun hopen => congrArg Host.Outcome.next (if_pos hopen), fun hearly hcalm => ?_, fun hearly hwarned => ?_⟩
    · exact congrArg Host.Outcome.next ((if_neg (Nat.not_le.mpr hearly)).trans (if_neg (ne_true_of_eq_false hcalm)))
    · exact congrArg Host.Outcome.next ((if_neg (Nat.not_le.mpr hearly)).trans (if_pos hwarned))
  case expiry => exact congrArg Host.Outcome.next (if_neg (ne_true_of_eq_false hcounts))
  case error =>
    refine ⟨fun hmem hwho hboot => congrArg Host.Outcome.next (if_pos ⟨hmem, hwho, hboot⟩), fun hmem hwho hboot => ?_, fun hother => ?_⟩
    · exact congrArg Host.Outcome.next ((if_neg (by omega)).trans (if_pos ⟨hmem, hwho, hboot⟩))
    · have hrow : ∀ b, b ∈ [2, 3] → ¬(mem = 8 ∧ who = some .boot ∧ boot s = b) := by
        rintro b hb ⟨hmem, hwho, rfl⟩
        exact hother.elim (· hmem) (·.elim (· hwho) (· hb))
      exact congrArg Host.Outcome.next ((if_neg (hrow 2 (by decide))).trans (if_neg (hrow 3 (by decide))))

/-- Settles O59: a move goes from state to state, a wake and a sag act by their rules, and what waits for a page goes on as it ends. -/
theorem powerMovesWakesAndSagsByTheirRules : Obligations.PowerMovesWakesAndSagsByTheirRules := by
  refine ⟨fun d s h => ?state, fun jb t from_ s hqueue hservice hsnap hjob => ?move, fun d s h => congrArg Host.Outcome.next (command_of_unrefused h),
    fun s => ?wake, fun mv s hpower => ?sag, fun mv s => rfl, fun us w t s hwriting => ?page, fun c s hrunning hpages => ?consolidated⟩
  case state =>
    intro u t a v
    have heffect : exec (.pwrState d) s = .next (pwrStateEffect d u) := congrArg Host.Outcome.next (judged_of_unrefusedBefore h)
    rw [heffect]
    exact ⟨fun hsame => congrArg Host.Outcome.next (if_pos hsame), fun hother => congrArg Host.Outcome.next (if_neg hother)⟩
  case move =>
    rw [step_carriesPower hqueue hservice hsnap]
    refine ⟨fun k hdeeper hk => congrArg Host.Outcome.next (carryPower_aborts hjob hdeeper hk), fun hfree => ?_⟩
    rw [carryPower_moves hjob hfree]
    refine ⟨fun hway => congrArg Host.Outcome.next (if_pos hway), fun hthere hlast => ?_, fun hhold hdormant hdue hrunning hwriting hempty => ?_⟩
    · exact congrArg Host.Outcome.next ((if_neg (by omega)).trans (if_pos hlast))
    · refine congrArg Host.Outcome.next ((if_neg (by omega)).trans ((if_neg (by omega)).trans (if_pos ?_)))
      rw [hdue, hrunning, hwriting, hempty]
      decide
  case wake =>
    refine ⟨fun hdormant hasleep => ?_, fun hawake hentering => ?_, fun hawake hstays => ?_, fun t flips ok ht hdormant => ?_⟩
    · exact congrArg Host.Outcome.next (if_pos ⟨hdormant, Option.isNone_iff_eq_none.mpr hasleep⟩)
    · exact congrArg Host.Outcome.next ((if_neg fun h => hawake h.1).trans (if_pos hentering))
    · exact congrArg Host.Outcome.next ((if_neg fun h => hawake h.1).trans (if_neg (ne_true_of_eq_false hstays)))
    · show execWakeSequenceDone flips ok s = _
      rw [execWakeSequenceDone, ht]
      exact congrArg Host.Outcome.next (if_pos hdormant)
  case sag =>
    intro u fall k
    have hleave : ∀ h : 1 ≤ k, exec (.sagStageLeave mv) s = .next (if mv ≤ sagAbove k then u
        else nextConsolPage (interrupt 132 (raise PWR_EVENTS_SAG_LEAVE (fput PWR_STATUS_SAG (k - 1) u)))) := fun h =>
      congrArg Host.Outcome.next (if_neg fun hidle => hidle.elim hpower (by omega))
    refine ⟨congrArg Host.Outcome.next (if_neg hpower), fun h hlow => ?_, fun h hhigh => ?_⟩
    · rw [hleave h]
      exact congrArg Host.Outcome.next (if_pos hlow)
    · rw [hleave h]
      exact congrArg Host.Outcome.next (if_neg (Nat.not_le.mpr hhigh))
  case page =>
    refine ⟨fun a b hw => ?_, fun a b hw => ?_, fun id toB n b hw => ?_⟩
    all_goals
      show execNvPageWriteDone us s = _
      rw [execNvPageWriteDone, hwriting]
      dsimp only
    · rw [hw]
    · rcases hw with hw | hw <;> rw [hw]
    · rw [hw]
  case consolidated =>
    have hfinished : finishConsolidation s = endConsolidation c s := by
      rw [finishConsolidation, hrunning]
      exact if_pos hpages
    have hdone : s.recd.running.any (fun c => c.page ≥ 402) = true := by
      rw [hrunning, Option.any_some]
      exact decide_eq_true hpages
    exact congrArg Host.Outcome.next ((if_pos hdone).trans (congrArg carryOn hfinished))

end Sys2Proof.Machine
end
